-- ==== Sys2Proof/Word.lean ====
section
/-! DEFINITION. The byte of the addressed memories. -/

namespace Sys2Proof

/-- A byte of the backup SRAM, the path buffers or the retained store. -/
abbrev Byte := BitVec 8

end Sys2Proof
end

