-- ==== Sys2Proof/Syntax.lean ====
section
/-! DEFINITION. The syntax: one constructor of `Instr` per row of spec/opcode_table.json. A command names its subject by an index; a physical quantity that only the outside world knows
(a current, a temperature, the content of a frame) is an operand. -/

namespace Sys2Proof

/-- Packet kinds (chapter 2, Table 2.3); `reserved` is any code absent from the table (R38). -/
inductive Kind where
  | sample | setpoint | event | beacon | mode
  | readReq | readRsp | writeReq | writeRsp | storeReq | storeRsp | load | loadRsp | errorNote
  | reserved (code : Nat)
  deriving DecidableEq, Repr

/-- A Leust packet (chapter 2, Tables 2.1 and 2.2); the payload is its bytes. -/
structure Packet where
  kind   : Kind
  stream : Nat
  origin : Nat
  tag    : Nat := 0xFFFF
  seq    : Nat := 0
  conf   : Nat := 255
  stamp  : Nat := 0
  valid  : Bool := true
  stale  : Bool := false
  masked : Bool := false
  resync : Bool := false
  error  : Bool := false
  replay : Bool := false
  data   : List Nat := []
  deriving DecidableEq, Repr

/-- The further protection paths of a channel that fire in the cell clock cycle of a trip (R149): the limit time, the soft detector, the over-temperature comparator. -/
structure MorePaths where
  limit : Bool := false
  soft  : Bool := false
  heat  : Bool := false
  deriving DecidableEq, Repr

/-- Scope of a shed (R153). -/
inductive ShedScope where
  | cell (c : Fin 24)
  | stud (s : Fin 8)
  | module
  deriving DecidableEq, Repr

/-- A digital input: a field channel in function 0x5, or EVT_IN_A (0) or EVT_IN_B (1) (R204, R217). -/
inductive DinInput where
  | chan (ch : Fin 192)
  | evt (x : Fin 2)
  deriving DecidableEq, Repr

/-- What a comparator sees: a pin below the falling threshold, above the rising one, or between them (R203). -/
inductive PinBand where
  | low
  | high
  | inside
  deriving DecidableEq, Repr

/-- A transition on a frequency or encoder input, stamped in 10 ns of the cell clock: up or down, a pulse or gap shorter than MIN_W, or both phases in one cell clock (R223, R225). -/
inductive Edge where
  | up (t : Nat)
  | down (t : Nat)
  | glitch
  | both
  deriving DecidableEq, Repr

/-- A word of instance memory or of table memory of the loop engine (chapter 11). -/
inductive LoopWord where
  | inst (i : Fin 4096) (m : Fin 32)
  | table (w : Fin 65536)
  deriving DecidableEq, Repr

/-- What the sequences of the mode manager have published to the solver at a cycle start, and the state of the solver's output buffer:
MF08 running, the values UNLOAD commands for MF20 and MF22, the re-entry settings of MF01 to MF07, the discrete states of MF08, MF12, MF21 and MF23;
the previous result has not left; the assembly does not complete in time (R274, R277, R291, R297). -/
structure SolverPub where
  reverse  : Bool := false
  unload   : Option (Int × Int) := none
  reentry  : List Int := []
  discrete : List Nat := [0, 0, 0, 0]
  busy     : Bool := false
  late     : Bool := false
  deriving DecidableEq, Repr

/-- What the correlators of one tracking channel measured in an epoch (chapter 14, Table 14.9). -/
structure GnsMeas where
  chan    : Fin 384
  range   : Nat := 0
  phase   : Int := 0
  doppler : Int := 0
  cno     : Nat := 0
  codeLock    : Bool := false
  carrierLock : Bool := false
  half    : Bool := false
  slips   : Nat := 0
  jumps   : Nat := 0
  pilot   : Bool := false
  slot    : Int := 0
  deriving DecidableEq, Repr

/-- What the solver of the baseband finds in a PVT epoch (chapter 14, Tables 14.12a, 14.12b and 14.14): the solution, the signals that fail a check with its cause 1 to 6, the numbers of signals tested under causes 3 and 4, and the baseline. -/
structure GnsSolution where
  fix    : Fin 5 := 0
  svs    : Nat := 0
  sigs   : Nat := 0
  lat    : Int := 0
  lon    : Int := 0
  height : Int := 0
  vel    : List Int := [0, 0, 0]
  sigH   : Nat := 0
  sigV   : Nat := 0
  sigVel : Nat := 0
  pdop   : Nat := 0
  ofs    : Int := 0
  drift  : Int := 0
  sigOfs : Nat := 0
  failing : List (Fin 384 × Nat) := []
  tested3 : Nat := 0
  tested4 : Nat := 0
  hdgFixed : Bool := false
  hdgFloat : Bool := false
  azimuth : Nat := 0
  pitch   : Int := 0
  sigAz   : Nat := 0
  sigPitch : Nat := 0
  length  : Nat := 0
  hdgSvs  : Nat := 0
  deriving DecidableEq, Repr

/-- What the MODE_POLICY and MODE_FRONT sections of the image give the mode manager beside its registers (chapter 4): emergency-stop and operator-presence pairs, islands and field cells that each mode's path crosses
(an island as its number, a field cell as 16 plus its number), origins named for sources 1 to 3, kind and needs of each calibration run (bit 0 header or threshing, 1 operator action, 2 drives steering, 3 mass flow or tank, 4 threshing stopped),
parts that the actuator or feedback path of each solver variable crosses, the graphs other than 0 with the mode and action each belongs to (R260), the degraded and the road speed limit in 0.1 km/h,
the deceleration of a controlled stop in mm/s² and the remote supervisor's peer. -/
structure ModePolicy where
  estop      : List (Fin 48) := []
  presence   : List (Fin 48) := []
  paths      : List (List Nat) := []
  varPaths   : List (List Nat) := []
  graphs     : List (Nat × Nat × Nat) := []
  degSpeed   : Nat := 100
  roadSpeed  : Nat := 400
  origins    : List (List Nat) := []
  calKinds   : List Nat := []
  calNeeds   : List Nat := []
  decel      : Nat := 1500
  supervisor : Fin 16 := 0
  deriving DecidableEq, Repr

/-- What the sequences and graphs of the image tell the mode manager at a boundary (chapter 4): threshing engagement confirmed, threshing engaged, MF21 running, MF27 commanded above 0, a headland turn in progress; the running step of the HEADLAND and of the UNLOAD sequence ends. -/
structure ModeFacts where
  confirmed : Bool := false
  engaged   : Bool := false
  mf21      : Bool := false
  mf27      : Bool := false
  turn      : Bool := false
  turnNext  : Bool := false
  unloadNext : Bool := false
  deriving DecidableEq, Repr

/-- What the convoy solver finds in an epoch (chapter 15, Table 15.5): ambiguities fixed, common satellites, baseline and relative velocity east, north, up, 1σ horizontal, vertical and velocity, the partner's PVT excluded. -/
structure ConvoySol where
  fixed  : Bool := false
  common : Nat := 0
  base   : List Int := [0, 0, 0]
  vel    : List Int := [0, 0, 0]
  sigH   : Nat := 0
  sigV   : Nat := 0
  sigVel : Nat := 0
  spoof  : Bool := false
  deriving DecidableEq, Repr

/-- A CAN frame (chapter 18, Table 18.5): identifier, format bits, DLC and data. -/
structure CanFrame where
  id   : Nat
  ide  : Bool := false
  fdf  : Bool := false
  brs  : Bool := false
  rtr  : Bool := false
  esi  : Bool := false
  dlc  : Nat := 0
  data : List Nat := []
  deriving DecidableEq, Repr

/-- An Ethernet frame (chapter 19): addresses with octet 0 in bits 7:0, its 802.1Q tag as PCP and VID, and the octets from the EtherType on. -/
structure EthFrame where
  dst  : Nat
  src  : Nat
  tag  : Option (Nat × Nat) := none
  body : List Nat := []
  deriving DecidableEq, Repr

/-- A certificate of a fleet chain (R467): the bytes that its issuer signed, its P-384 public key of 97 bytes, the unit identifier and the serial number that it names, its validity in seconds of UTC from the epoch of module time, whether its algorithms are those of R466, and the issuer's signature. -/
structure FleetCert where
  signed : List Nat
  key    : List Nat
  unit   : List Nat
  serial : Nat := 0
  since  : Nat := 0
  expiry : Nat := 0
  p384   : Bool := true
  sig    : List Nat := []
  deriving DecidableEq, Repr

/-- A gPTP message of a peer (R460): a delay request, the end of a delay measurement with the mean link delay in ns and whether the peer is capable, or any other message. -/
inductive GptpMsg where
  | delayReq (seq : Nat)
  | delayDone (delay : Nat) (capable : Bool)
  | other
  deriving DecidableEq, Repr

/-- A register field at the value a section of the image gives it: register address, lowest bit and value (chapter 3: a section's content stands as register-equivalent fields). -/
structure FieldVal where
  addr  : Nat
  lo    : Nat
  val   : Nat
  deriving DecidableEq, Repr

/-- A recorded stream of the STORE section (R407): tiers T1 and T3, decimation N in T2 (0 not recorded), marked for replay; packets since its first one after a RESYNC. -/
structure StoreStream where
  stream : Nat
  t1     : Bool := false
  t2     : Nat := 0
  t3     : Bool := false
  replay : Bool := false
  count  : Nat := 0
  deriving DecidableEq, Repr

/-- Constants of the SOLVER_PROBLEM section, as binary64 patterns: MU, P_INIT, P_REF, and per measure the prior and the limits of each sensitivity (R284 to R291). -/
structure SolProblem where
  mu    : Nat := 0
  pInit : Nat := 0
  pRef  : Nat := 0
  prior : List (List Nat) := []
  sLo   : List (List Nat) := []
  sHi   : List (List Nat) := []
  deriving DecidableEq, Repr

/-- What a retained record holds: the words of registers, the standing update schedule (R516), or of the standing plan the derating of 32 channels (`k` below 6) or its summary (6; R566). -/
inductive RecSrc where
  | regs (addr words : Nat)
  | schedule
  | plan (k : Nat)
  deriving DecidableEq, Repr

/-- A record ring of the image (R135): its number, RECORD_ID and content, and whether the image marks it for shutdown (R120, R127). -/
structure RingRec where
  ring     : Nat
  id       : Nat
  src      : RecSrc
  shutdown : Bool := false
  deriving DecidableEq, Repr

/-- A section of an image: the fields of its table entry (Table 3.3; LENGTH is that of its bytes), its bytes, and its content (Table 3.2). Only a partition's bytes have a format in the spec;
what the bytes of another section say stands beside them as register-equivalent fields and as the lists below (log entry 129). -/
structure Section where
  type       : Nat
  target     : Nat
  span       : Nat := 1
  phase      : Nat := 3
  isDefault  : Bool := true
  partialOk  : Bool := false
  /-- FLAGS bits 7:2. -/
  flagsRest  : Nat := 0
  variant    : Nat := 0
  offset     : Nat := 0
  guard      : Nat := 0
  /-- Entry bytes 18 to 31. -/
  reserved   : List Nat := List.replicate 14 0
  digest     : List Nat := []
  bytes      : List Nat := []
  fields     : List FieldVal := []
  /-- FABRIC: stream routed from each source output (key origin × 64 + output), destination units of each stream, and the periodic streams with packets per second and packet size. -/
  routes     : List (Nat × Nat) := []
  dests      : List (Nat × Nat) := []
  periodic   : List (Nat × Nat × Nat) := []
  /-- SUPERVISOR: default of the island watchdog timeout in ms (R128). -/
  watchdog   : Nat := 100
  /-- SUPERVISOR: the record rings (R135; log entry 144). -/
  records    : List RingRec := []
  /-- CHANNELS: configured continuous current of each channel in mA, of a group at its lead (R142). -/
  currents   : List Nat := []
  policy     : Option ModePolicy := none
  problem    : Option SolProblem := none
  streams    : List StoreStream := []
  regions    : Option (List Nat) := none
  deriving DecidableEq, Repr

/-- LENGTH of a section. -/
def Section.length (x : Section) : Nat := x.bytes.length

/-- A signature block (Table 3.4), field by field; `reserved` is its bytes 325 to 511. -/
structure SigBlock where
  kind        : Nat
  format      : Nat := 1
  length      : Nat := 512
  keyId       : List Nat := []
  unitId      : List Nat := List.replicate 16 0
  publicKey   : List Nat := List.replicate 97 0
  endorsement : List Nat := List.replicate 96 0
  signature   : List Nat := []
  reserved    : List Nat := List.replicate 187 0
  deriving DecidableEq, Repr

/-- A Gliuryel image: the fields of its header (Table 3.1; SECTION_COUNT and SIG_COUNT are the numbers of its sections and blocks, `reserved` is bytes 112 to 255), its signature blocks and its sections. -/
structure Image where
  magic       : List Nat := [0x47, 0x4C, 0x49, 0x55, 0x52, 0x59, 0x45, 0x4C]
  major       : Nat := 1
  minor       : Nat := 0
  headerLen   : Nat := 256
  length      : Nat := 0
  version     : Nat := 0
  epoch       : Nat := 0
  part        : Nat := 0x0192
  hw          : Nat := 0x41
  grades      : Nat := 2
  retFmt      : Nat := 0
  minFmt      : Nat := 0
  bindFlags   : Nat := 0
  unitId      : List Nat := List.replicate 16 0
  buildTime   : Nat := 0
  tableOffset : Nat := 256
  sigArea     : Nat := 0
  composer    : Nat := 0
  loadBytes   : Nat := 0
  name        : List Nat := List.replicate 32 0
  reserved    : List Nat := List.replicate 144 0
  blocks      : List SigBlock := []
  sections    : List Section := []
  deriving DecidableEq, Repr

/-- A LOAD packet (Table 3.5): the tag it carries, its target, section index, byte offset, TOTAL, INSTANT and DATA. -/
structure LoadMsg where
  op       : Nat
  target   : Nat
  section_ : Nat := 0
  offset   : Nat := 0
  total    : Nat := 0
  instant  : Nat := 0
  data     : List Nat := []
  tag      : Nat := 0x8000
  deriving DecidableEq, Repr

/-- A service credential, its 256 bytes (Table 22.9), and the proof that comes with it, 96 bytes (R528). -/
structure Credential where
  bytes : List Nat
  proof : List Nat
  deriving DecidableEq, Repr

/-- The header of a service message (Table 22.7) and the path it comes on; `reserved` holds the reserved bytes of header and payload. A message of an unknown TYPE may come under any name. -/
structure WhdMsg where
  relay    : Bool := false
  version  : Nat := 1
  type     : Nat
  flags    : Nat := 0
  req      : Nat := 0
  length   : Nat := 0
  reserved : Nat := 0
  deriving DecidableEq, Repr

/-- An update-schedule payload of a fleet scheduler (Table 19.7). -/
structure FleetSched where
  peer    : Fin 16
  id      : Nat
  version : Nat := 0
  epoch   : Nat := 0
  digest  : Nat := 0
  instant : Nat := 0
  window  : Nat := 0
  deriving DecidableEq, Repr

/-- A revocation order, its 116 bytes (R513). -/
structure RevokeOrder where
  bytes : List Nat
  deriving DecidableEq, Repr

/-- A sample of a high-side switch (R559): V_stud − V_pin in µV, current in mA, how long the switch had been on in ns, and whether the channel was in current limit or its Geyser window open. -/
structure RonSample where
  uv      : Nat
  ma      : Nat
  onNs    : Nat
  limited : Bool := false
  window  : Bool := false
  deriving DecidableEq, Repr

/-- The commands of the block. -/
inductive Instr where
  /-- ISLAND_RESET_ASSERT (R22). A reset of one of islands 1 to 8 asserts; the island stops and its reload is queued while the other islands run on. -/
  | islandResetAssert (k : Fin 8) (cause : Fin 4)
  /-- ISLAND_LOST_DECLARE (R26). Island 0 declares an island lost within 2 ms of its reset or link failure, sets LOST and the DEGRADED condition. -/
  | islandLostDeclare (k : Fin 8)
  /-- ISLAND_RELOAD_COMPLETE (R22). The reload of a reset island completes; its LOST bit clears and its streams restart with RESYNC. -/
  | islandReloadComplete (k : Fin 8)
  /-- BEACON (R128). A BEACON packet arrives, feeding the island watchdog and the local copy of module time. -/
  | beacon (sender : Fin 9)
  /-- MTIME_CORRECTION (R30). A time correction from island 3 reaches island 0, which slews module time or schedules a single step. -/
  | mtimeCorrection (ofs : Int)
  /-- MTIME_STEP (R31). The announced step instant arrives and every island applies the step to its copy of module time. -/
  | mtimeStep
  /-- MTIME_HOLDOVER (R33). GNSS time is lost and module time enters HOLDOVER with a growing error bound. -/
  | mtimeHoldover
  /-- MTIME_FREE (R33). After 4 h of holdover module time becomes FREE. -/
  | mtimeFree
  /-- SUP_MTIME_LO_READ (R10). A read of SUP_MTIME_LO returns the low word and latches the high word of module time. -/
  | supMtimeLoRead
  /-- PACKET_FORWARD (R49). A fabric stage accepts a whole packet with a good link check and routes it onward. -/
  | packetForward (at_ dest : Fin 9) (p : Packet) (length : Nat) (check : BitVec 16) (lseq : Fin 256)
  /-- LINK_CHECK_FAIL (R47). A received copy fails its CRC and the sender resends the packet. -/
  | linkCheckFail (link : Fin 36) (lane : Fin 8) (up : Bool)
  /-- LINK_RETRAIN_DONE (R48). A reset link retrains with full credit and answers held packets with LINK_RESET. -/
  | linkRetrainDone (link : Fin 36)
  /-- LINK_RETRAIN_TIMEOUT (R48). A link not retrained within 1 ms has failed and the higher-numbered island is declared lost and reset. -/
  | linkRetrainTimeout (link : Fin 36)
  /-- CREDIT_RETURN (R50). A lane receiver empties a buffer and returns a credit, letting a waiting sender transmit. -/
  | creditReturn (link : Fin 36) (lane : Fin 8) (up : Bool)
  /-- READ_REQ (R605). A READ_REQ reaches its target, is checked and answered with READ_RSP or an error response. -/
  | readReq (p : Packet) (failing : List Nat)
  /-- WRITE_REQ (R40). A WRITE_REQ reaches its target, is checked word by word and is executed whole or refused whole. -/
  | writeReq (p : Packet) (failing : List Nat)
  /-- REGISTER_WRITE (R605). A permitted write to a register field that has no step of its own sets the value under its change class. -/
  | registerWrite (origin : Fin 65536) (addr value : BitVec 32)
  /-- RESPONSE_ARRIVAL (R56). A response reaches the source's router, is delivered and frees its tag, or is discarded as late. -/
  | responseArrival (p : Packet)
  /-- ERROR_NOTE_ARRIVAL (R57). An ERROR_NOTE reaches the origin of the packet it answers. -/
  | errorNoteArrival (dest : Fin 9) (p : Packet)
  /-- TAG_WAIT_LIMIT (R55). A source has waited LIMIT_MS for a tag; TAG_STARVED is set and an EVENT sent. -/
  | tagWaitLimit (source : Fin 65536)
  /-- RSP_TIMEOUT (R56). A tag's response timeout expires; the source receives TIMEOUT and the tag enters quarantine. -/
  | rspTimeout (tag : Fin 8192)
  /-- CLR_COUNTERS (R62). FAB_CTRL.CLR_COUNTERS clears the fabric error, late, tag-wait and link counters. -/
  | clrCounters
  /-- LOAD_DATA (R68). A LOAD DATA packet stages section bytes at a target. -/
  | loadData (m : LoadMsg)
  /-- LOAD_COMMIT (R69). A LOAD COMMIT is checked against completeness and hardware limits and armed for its INSTANT. -/
  | loadCommit (m : LoadMsg)
  /-- LOAD_ABORT (R69). A LOAD ABORT discards a target's staging at once. -/
  | loadAbort (m : LoadMsg)
  /-- LOAD_QUIESCE (R82). A LOAD QUIESCE stops a target's streams and fails its channels to their fail actions before answering. -/
  | loadQuiesce (m : LoadMsg)
  /-- LOAD_START (R81). A LOAD START starts a target's units at its INSTANT with streams restarting at SEQ 0. -/
  | loadStart (m : LoadMsg)
  /-- LOAD_RSP (R68). A LOAD_RSP returns to the loader, which advances or aborts the step. -/
  | loadRsp (m : LoadMsg) (code : Fin 256)
  /-- COMMIT_INSTANT (R69). The COMMIT INSTANT arrives and each armed target installs its staged section. -/
  | commitInstant
  /-- LOAD_ANSWER_DEADLINE (R70). At INSTANT minus 3 ms a missing answer makes the loader abort every target of the step. -/
  | loadAnswerDeadline
  /-- PR_START (R80). IMG_CTRL.PR_START checks the list and begins a partial reconfiguration. -/
  | prStart
  /-- PR_ABORT (R81). IMG_CTRL.PR_ABORT aborts a running partial reconfiguration before its INSTANT. -/
  | prAbort
  /-- PR_TIMEOUT (R81). A partial reconfiguration without its COMMIT answers within TIMEOUT_MS is aborted. -/
  | prTimeout
  /-- CELL_RELOAD_COMPLETE (R72). A cell's reload completes and the cell starts again. -/
  | cellReloadComplete (island : Fin 9) (cell : Fin 31)
  /-- MODE_REQUEST (R95). A MODE request packet arrives at the front end and is held for the next evaluation or discarded. -/
  | modeRequest (p : Packet)
  /-- MODE_REQ_SET (R94). A write of MODE_REQ_SET submits set requests from APPLICATION. -/
  | modeReqSet (v : BitVec 12)
  /-- MODE_REQ_CLR (R94). A write of MODE_REQ_CLR submits clear requests from APPLICATION. -/
  | modeReqClr (v : BitVec 12)
  /-- MODE_CONFIRM (R99). A write of MODE_CONFIRM submits confirmations from APPLICATION. -/
  | modeConfirm (v : BitVec 12)
  /-- MODE_EVALUATE (R96). At each 1 ms boundary the front end applies permitted requests and the DEGRADED condition to MODE_ACTIVE. -/
  | modeEvaluate (f : ModeFacts)
  /-- WAIT_EXPIRED (R87). A mode in WAITING for WAIT_S is withdrawn by a SYSTEM clear. -/
  | waitExpired (k : Fin 12)
  /-- CONFIRM_EXPIRED (R87). A mode in CONFIRM for CONFIRM_S is withdrawn by a SYSTEM clear. -/
  | confirmExpired (k : Fin 12)
  /-- SUPERVISION_LOST (R90). The DRIVERLESS heartbeat interval expires; a controlled stop begins and DRIVERLESS enters CONFIRM. -/
  | supervisionLost
  /-- JOG_LAPSE (R91). A jog repetition fails to arrive within 200 ms and the channel returns to its prior state. -/
  | jogLapse (ch : Fin 192)
  /-- STATIONARY (R88). Every ground-speed input has read below 0.1 m/s for 2 s and the machine becomes stationary. -/
  | stationary
  /-- STATIONARY_LOST (R112). The machine ceases to be stationary, stopping a running RUNON_S timer and restarting IGN_WAIT_S. -/
  | stationaryLost
  /-- MODE_CAL_ACCEPT (R101). MODE_CAL.ACCEPT applies the candidate results of the last calibration run. -/
  | modeCalAccept
  /-- LOGIC_BAT_FAIL (R120). LOGIC_BAT stays below THRESH for 50 µs; the logic switches to the reserve and the power-fail sequence begins. -/
  | logicBatFail (flushMs : Nat)
  /-- LOGIC_BAT_VALID (R109). LOGIC_BAT rises to THRESH plus 0.5 V and becomes valid. -/
  | logicBatValid
  /-- PF_ABORT (R121). LOGIC_BAT stays valid 10 ms before the commit point and the power-fail sequence aborts. -/
  | pfAbort
  /-- PF_COMMIT (R120). The ride-through ends at the commit point and the shutdown steps to BACKUP run. -/
  | pfCommit (flushMs lost dead : Nat) (exhausted : Bool)
  /-- BACKUP_EXIT (R122). LOGIC_BAT valid for 100 ms after BACKUP releases a supply-dip or power-on reset. -/
  | backupExit
  /-- MODULE_START (R115). A module-scope reset is released and the start of Table 5.5 runs. -/
  | moduleStart (ign : Bool) (startUs fullUs : Nat)
  /-- IGN_FALL (R112). IGN falls in RUN, starting IGN_WAIT_S or RUNON_S. -/
  | ignFall
  /-- IGN_RISE (R112). IGN rises, clearing SHUT_PENDING and stopping the shutdown timers. -/
  | ignRise
  /-- PWR_CTRL_STANDBY (R112). PWR_CTRL.REQ 1 requests STANDBY. -/
  | pwrCtrlStandby
  /-- PWR_CTRL_PARKED (R112). PWR_CTRL.REQ 2 requests PARKED. -/
  | pwrCtrlParked
  /-- PWR_CTRL_EXTEND (R112). PWR_CTRL.EXTEND restarts a running RUNON_S timer. -/
  | pwrCtrlExtend
  /-- IGN_WAIT_EXPIRED (R112). IGN_WAIT_S expires while not stationary and a controlled stop begins. -/
  | ignWaitExpired
  /-- RUNON_EXPIRED (R112). RUNON_S expires while stationary and the orderly shutdown runs. -/
  | runonExpired (flush : Option (Fin 61)) (dead : Nat)
  /-- FLUSH_LIMIT (R113). The store backlog is not written within 60 s; T3 then T2 are discarded and shutdown proceeds. -/
  | flushLimit (dead : Nat)
  /-- WAKE (R111). An enabled wake source takes the module from STANDBY or PARKED to RUN. -/
  | wake (src : Fin 9) (startUs fullUs : Nat)
  /-- PARK_MAX_EXPIRED (R112). PARK_MAX_H expires in PARKED and the module goes to STANDBY. -/
  | parkMaxExpired
  /-- PARK_BAT_LOW (R112). LOGIC_BAT below BAT_MIN for 60 s in PARKED sends the module to STANDBY. -/
  | parkBatLow
  /-- RESET_IN_ASSERT (R126). RESET_IN held low for 10 µs takes an external module reset. -/
  | resetInAssert (low : Nat)
  /-- RESET_IN_RELEASE (R126). RESET_IN rises and the start runs from its release. -/
  | resetInRelease (ign : Bool) (startUs fullUs : Nat)
  /-- SUP_RST_MODULE (R127). SUP_RST_CTRL.MODULE with the key writes shutdown records and resets the module. -/
  | supRstModule (key : BitVec 16)
  /-- SUP_RST_ISLAND (R125). SUP_RST_CTRL.ISLAND with the key resets the island named in SUP_RST_TARGET. -/
  | supRstIsland (key : BitVec 16)
  /-- SUP_RST_CELL (R125). SUP_RST_CTRL.CELL with the key resets the cell named in SUP_RST_TARGET. -/
  | supRstCell (key : BitVec 16)
  /-- ISLAND_WATCHDOG (R128). An island's watchdog expires without a BEACON and the island is reset. -/
  | islandWatchdog (k : Fin 8)
  /-- ISLAND0_WATCHDOG (R128). Island 0's own watchdog expires and the module is reset with cause 0x05. -/
  | island0Watchdog
  /-- RAIL_MONITOR (R125). A rail monitor trips and resets its island, or the module for island 0. -/
  | railMonitor (island : Fin 9)
  /-- CELL_FAULT_RESET (R125). An island detects a sequencer fault and resets the cell with cause 0x21. -/
  | cellFaultReset (island : Fin 8) (cell : Fin 31)
  /-- RESERVE_EXHAUSTED (R607). The Artesian reserve falls to 12 V and the always-on and standby rails fall. -/
  | reserveExhausted
  /-- FIELD_SETPOINT (R155). A SETPOINT reaches a field channel and is acted on, counted as rejected or judged out of sequence. -/
  | fieldSetpoint (ch : Fin 192) (p : Packet)
  /-- HARD_SHORT_TRIP (R146). A switch current reaches 40 A; the switch turns off and the hard-short latch is set. -/
  | hardShortTrip (ch : Fin 192) (both : Bool) (more : MorePaths)
  /-- LIMIT_TIME_EXPIRED (R144). Continuous time in current limit reaches the applicable limit time and the channel latches off. -/
  | limitTimeExpired (ch : Fin 192) (both : Bool) (more : MorePaths)
  /-- GEYSER_CLOSE (R145). The Geyser window closes; the limit drops to 12 A and the soft detector re-evaluates. -/
  | geyserClose (ch : Fin 192) (cur : Nat)
  /-- SOFT_EVENT (R148). The current crosses SOFT_THR outside a masked interval and SOFT_ACT acts. -/
  | softEvent (ch : Fin 192) (cur : Nat) (heat : Bool)
  /-- BLANK_END (R147). A blanking interval ends and the soft detector re-evaluates the current. -/
  | blankEnd (ch : Fin 192) (cur : Nat)
  /-- OVER_TEMP (R151). A junction reaches 170 °C and the channel turns off, latching at the eighth event in 60 s. -/
  | overTemp (ch : Fin 192)
  /-- OVER_TEMP_RESUME (R151). The junction is below 155 °C after 1 ms and the channel resumes its commanded state. -/
  | overTempResume (ch : Fin 192)
  /-- SHED_EVAL (R153). Every 10 ms cell, stud and module means are formed and warnings or sheds applied. -/
  | shedEval (means : List Nat)
  /-- SHED_ESCALATE (R153). After 100 ms of continued excess the next shed priority is shed. -/
  | shedEscalate (sc : ShedScope)
  /-- COMMAND_TIMEOUT (R157). A commanded channel's timeout expires and it takes its fail action. -/
  | commandTimeout (ch : Fin 192)
  /-- CLR_LIM (R150). FC_CH_CLEAR.CLR_LIM clears the current-limit latch after the cool-down. -/
  | clrLim (ch : Fin 192)
  /-- CLR_HARD (R150). FC_CH_CLEAR.CLR_HARD clears the hard-short latch after the cool-down. -/
  | clrHard (ch : Fin 192)
  /-- CLR_SHED (R153). FC_CH_CLEAR.CLR_SHED ends a channel's shed state. -/
  | clrShed (ch : Fin 192)
  /-- FC_CLR_CNT (R150). FC_CH_CLEAR.CLR_CNT clears the channel's counters. -/
  | fcClrCnt (ch : Fin 192)
  /-- CELL_STOP (R82). FC_CELL_CTRL.STOP stops the cell and its channels respond as to QUIESCE. -/
  | cellStop (c : Fin 24)
  /-- CELL_START (R139). FC_CELL_CTRL.START checks the grouping and restarts the cell with channels from off. -/
  | cellStart (c : Fin 24)
  /-- STUD_UV (R166). A stud below 8.0 V for 100 µs turns off every channel of its cells. -/
  | studUv (st : Fin 8)
  /-- STUD_RECOVER (R166). The stud stands at 8.5 V for 1 ms and the channels recover. -/
  | studRecover (st : Fin 8)
  /-- GROUND_LOSS (R163). All ground studs lose contact and every channel turns off by its power stage. -/
  | groundLoss
  /-- REVERSE_VOLTAGE (R164). Reverse voltage on the supplies turns every high-side switch fully on and blocks the logic. -/
  | reverseVoltage (st : Option (Fin 8))
  /-- LOAD_DUMP (R165). A load-dump pulse is clamped at 58 V and channels keep their state. -/
  | loadDump (mv : Nat)
  /-- MEAS_INTERVAL (R161). A channel's measurement interval completes and its SAMPLE and registers update. -/
  | measInterval (ch : Fin 192) (mean peak gmean gpeak : Int) (mv : Nat) (ovr : Bool)
  /-- FC_MEAS_READ (R162). A read of FC_CH_MEAS_I latches the voltage and peak of the same interval. -/
  | fcMeasRead (ch : Fin 192)
  /-- PWM_BOUNDARY (R171). A PWM period boundary applies committed values and computes the period's on-time. -/
  | pwmBoundary (ch : Fin 192) (mean peak : Int) (mv : Nat)
  /-- FC_ECHO_READ (R171). A read of FC_CH_ECHO latches FC_CH_ECHO_SEQ. -/
  | fcEchoRead (ch : Fin 192)
  /-- VALVE_QUEUE_START (R179). The reservoir is free and ready and the next queued valve starts BOOST. -/
  | valveQueueStart (c : Fin 24)
  /-- BOOST_WAIT_EXPIRED (R179). BOOST_WAIT expires and the queued valve starts at PEAK without boost. -/
  | boostWaitExpired (ch : Fin 192)
  /-- VALVE_BOOST_END (R178). BOOST ends at PEAK current, reservoir drop or BOOST_MAX and PEAK begins. -/
  | valveBoostEnd (ch : Fin 192) (cur peak : Int) (quarterVolts : Nat)
  /-- VALVE_PEAK_END (R178). PEAK_MS elapses and the valve enters HOLD. -/
  | valvePeakEnd (ch : Fin 192) (peak : Int)
  /-- RELEASE_DECAY_END (R180). After a release the coil current falls below 50 mA and both switches turn off. -/
  | releaseDecayEnd (ch : Fin 192)
  /-- DUTY_SLOT_END (R176). A duty-window slot ends and the window mean is compared with the limit. -/
  | dutySlotEnd (ch : Fin 192) (squares : Nat)
  /-- CLR_PAIR (R186). FC_CH_DRV_CTRL.CLR_PAIR at the lead clears the pair latch and both legs' latches. -/
  | clrPair (ch : Fin 192)
  /-- NET_PACKET (R190). A net-stream SAMPLE arrives at a load switch's cell. -/
  | netPacket (ch : Fin 192) (p : Packet)
  /-- NET_APPLY (R190). STAMP plus DELAY arrives and the net level is applied under the output rule. -/
  | netApply (ch : Fin 192) (clamp : Option Nat)
  /-- NET_BIT_WRITE (R189). A write of FC_CH_LS_CTRL.NET_BIT changes a register-bit net. -/
  | netBitWrite (ch : Fin 192) (v : Bool) (clamp : Option Nat)
  /-- FORCE_WRITE (R194). A write of FORCE puts a load switch off, on or back under its net. -/
  | forceWrite (ch : Fin 192) (v : Fin 4) (clamp : Option Nat)
  /-- FREEZE_WRITE (R195). A write of FC_CELL_LS.FREEZE freezes or releases the cell's load switches. -/
  | freezeWrite (c : Fin 24) (v : Bool)
  /-- NET_SILENT (R196). No NET_BIT or FORCE write for REFRESH_MS sets NET_SILENT. -/
  | netSilent (ch : Fin 192)
  /-- DIN_TICK (R204). A digital input's filter tick samples the comparator and updates COUNT and STATE. -/
  | dinTick (inp : DinInput) (pin : PinBand) (ov : Bool)
  /-- DIN_HEARTBEAT (R206). HEART_MS passes without a packet and a state SAMPLE is sent. -/
  | dinHeartbeat (ch : Fin 192)
  /-- OV_CLEAR (R207). OV clears after 1 ms without an over-voltage sample. -/
  | ovClear (ch : Fin 192)
  /-- DCP_SAMPLE_ARRIVAL (R212). A state SAMPLE of a pair channel arrives and the pair is evaluated. -/
  | dcpSampleArrival (n : Fin 48) (second : Bool) (p : Packet) (mismatch : Bool)
  /-- DCP_CHECK (R212). At each 0.5 ms boundary every enabled pair is checked for discrepancy time and timeouts. -/
  | dcpCheck (mismatch : Bool)
  /-- DCP_OUTPUT_HEARTBEAT (R215). A pair's output SAMPLE is sent every 10 ms without a change. -/
  | dcpOutputHeartbeat (n : Fin 48)
  /-- DCP_CONSUMER_TIMEOUT (R215). A consumer receives no pair sample for 30 ms and treats the output as SAFE. -/
  | dcpConsumerTimeout (n : Fin 48)
  /-- DCP_EN_WRITE (R216). A write of FC_DCP_CTRL.EN starts or ends a pair's evaluation. -/
  | dcpEnWrite (n : Fin 48) (en : Bool)
  /-- AIN_INTERVAL (R222). An analog input interval completes and its value SAMPLE is sent. -/
  | ainInterval (ch : Fin 192) (mean : Int) (p2p vref : Nat) (ovr : Bool)
  /-- SHUNT_OPEN (R220). I20 current above 25.6 mA for 1 ms opens the shunt. -/
  | shuntOpen (ch : Fin 192)
  /-- SHUNT_CLOSE (R220). After 100 ms the shunt closes and the channel measures again. -/
  | shuntClose (ch : Fin 192)
  /-- AIN_VAL_READ (R222). A read of FC_CH_AIN_VAL latches FC_CH_AIN_STAT. -/
  | ainValRead (ch : Fin 192)
  /-- FIN_INTERVAL (R224). A frequency or encoder interval ends and its value is computed and sent. -/
  | finInterval (ch : Fin 192) (ovr : Bool)
  /-- FIN_VAL_READ (R224). A read of FC_CH_FIN_VAL latches position and status. -/
  | finValRead (ch : Fin 192)
  /-- SUP_REG_LIMIT (R227). A regulated sensor supply held at its limit for 10 ms turns off and latches. -/
  | supRegLimit (ch : Fin 192)
  /-- SUP_LOW (R228). A sensor supply below 95 % of VSET for 1 ms sets SUP_LOW. -/
  | supLow (ch : Fin 192) (low : Bool)
  /-- TARN_SYNC (R238). At t_k minus 39 µs the port sends SYNC and begins sweep k. -/
  | tarnSync (p : Fin 16) (mv ma : Nat)
  /-- TARN_POLL_ANSWER (R239). A head's SAMPLE frame answers a poll and the port polls the next position. -/
  | tarnPollAnswer (p : Fin 16) (far : Bool) (frame : List Nat) (took : Nat)
  /-- TARN_POLL_TIMEOUT (R239). A poll draws no answer; the port repolls or marks the position ABSENT. -/
  | tarnPollTimeout (p : Fin 16) (far : Bool) (took : Nat)
  /-- TARN_IDENT (R236). An IDENT frame answers ENUM and the head takes its position. -/
  | tarnIdent (p : Fin 16) (frame : List Nat)
  /-- TARN_ENUM_NO_ANSWER (R236). A position gives no IDENT after two ENUMs and enumeration ends. -/
  | tarnEnumNoAnswer (p : Fin 16)
  /-- TARN_ACK (R235). An ACK answers a CONFIG, or its absence triggers a retry or CFG_FAIL. -/
  | tarnAck (p : Fin 16) (frame : List Nat)
  /-- TARN_HEAD_CFG_WRITE (R235). A write of TARN_HEAD_CFG sends a CONFIG after the next SYNC. -/
  | tarnHeadCfgWrite (p : Fin 16) (n : Fin 32) (v : BitVec 32)
  /-- TARN_POWER_FAULT (R230). A port's current limit for 10 ms or short trip turns the chain off. -/
  | tarnPowerFault (p : Fin 16)
  /-- TARN_PWR_RETRY (R230). One second after an unlatched power fault the port powers the chain again. -/
  | tarnPwrRetry (p : Fin 16)
  /-- TARN_OVERLOAD_60W (R230). All Tarn ports above 60 W for 1 s turn off the highest-numbered powered port. -/
  | tarnOverload60w
  /-- TARN_POWERING_DONE (R241). The 50 ms powering timer ends; RESET is broadcast and enumeration begins. -/
  | tarnPoweringDone (p : Fin 16)
  /-- TARN_STOP (R241). TARN_CTRL.STOP stops the port after the sweep in progress. -/
  | tarnStop (p : Fin 16)
  /-- TARN_START (R241). TARN_CTRL.START restarts a stopped port. -/
  | tarnStart (p : Fin 16)
  /-- TARN_REENUM (R241). TARN_CTRL.REENUM forces RESET and enumeration. -/
  | tarnReenum (p : Fin 16)
  /-- TARN_PWR_CLR (R230). TARN_CTRL.PWR_CLR ends a latched power fault and powers the chain. -/
  | tarnPwrClr (p : Fin 16)
  /-- TARN_CLR_CNT (R241). TARN_CTRL.CLR_CNT clears the port's and heads' counters. -/
  | tarnClrCnt (p : Fin 16)
  /-- TARN_SWEEP_READ (R244). A read of TARN_SWEEP latches TARN_SWEEP_INFO. -/
  | tarnSweepRead (p : Fin 16)
  /-- TARN_FRAME_READ (R245). A read of TARN_FRAMEn word 0 latches words 1 to 3. -/
  | tarnFrameRead (p : Fin 16) (n : Fin 32)
  /-- GROUP_FRAME_START (R250). A rate-group frame starts and runs its steps to commit and dispatch. -/
  | groupFrameStart (g : Fin 4) (t : Nat)
  /-- GROUP_OVERRUN (R251). A frame misses its deadline; it is abandoned or finished and the next frame skipped. -/
  | groupOverrun (g : Fin 4) (abandoned : Bool)
  /-- GRAPH_ENABLE (R260). A new graph enable word arrives and graphs are disabled or enabled. -/
  | graphEnable (word : BitVec 64)
  /-- IN_PORT_PACKET (R261). A packet of a routed stream is accepted into its IN port slot. -/
  | inPortPacket (p : Packet)
  /-- LE_STOP (R268). LE_CTRL.STOP stops the loop engine. -/
  | leStop
  /-- LE_START (R268). LE_CTRL.START restarts the loop engine with all instances initialised. -/
  | leStart
  /-- LE_CLR_CNT (R251). LE_CTRL.CLR_CNT clears group counters and event counts. -/
  | leClrCnt
  /-- LE_STOPPED (R268). The last rate group stops and the engine reads STOPPED or answers QUIESCE. -/
  | leStopped
  /-- INSTANCE_WRITE (R267). A write to instance or table memory is checked for BAD_PARAM and shadowed. -/
  | instanceWrite (w : LoopWord) (v : BitVec 32)
  /-- LE_SIG_READ (R270). A read of LE_SIGi_VAL0 latches the instance's other signal words. -/
  | leSigRead (inst : Fin 4096)
  /-- SOLVER_CYCLE (R273). A 100 ms boundary starts a solver cycle that latches inputs, updates estimators and solves. -/
  | solverCycle (pub : SolverPub)
  /-- SOLVER_INPUT_PACKET (R274). A packet of a routed stream is accepted into a solver input slot. -/
  | solverInputPacket (p : Packet)
  /-- SOLVER_DEADLINE (R286). The solve reaches DEADLINE_MS and stops with the last iterate. -/
  | solverDeadline
  /-- SOLVER_RESULT (R292). The solve ends and the result and decision record are sent. -/
  | solverResult
  /-- SOLVER_SKIP_SEND (R297). The result buffer frees and a skipped cycle's held result is sent. -/
  | solverSkipSend
  /-- SOL_STOP (R298). SOL_CTRL.STOP stops the solver after the cycle in progress. -/
  | solStop
  /-- SOL_START (R275). SOL_CTRL.START restarts a stopped solver. -/
  | solStart
  /-- SOL_COLD (R275). SOL_CTRL.COLD makes the next cycle a cold start. -/
  | solCold
  /-- SOL_CLR_CNT (R297). SOL_CTRL.CLR_CNT clears solver counters and SOL_MAX_T. -/
  | solClrCnt
  /-- SOL_RES_READ (R296). A read of SOL_RES_STAT latches the result registers. -/
  | solResRead
  /-- INERTIAL_SAMPLE (R300). At each 1 ms boundary the on-module inertial sensor sends a sample. -/
  | inertialSample (rates forces : List Int) (temp : Int) (saturated failed : Bool)
  /-- FUS_SAMPLE (R305). A fusion input sample arrives, is buffered, tested and may close epochs. -/
  | fusSample (p : Packet)
  /-- EPOCH_LIMIT (R304). An epoch open for LIMIT_MS closes with LATE. -/
  | epochLimit
  /-- FUS_DROPOUT (R312). An input without a usable sample for DROP_MS is masked. -/
  | fusDropout (inp : Fin 16)
  /-- INERTIAL_ABSENT (R309). 20 ms without a usable inertial sample returns the engine to INIT. -/
  | inertialAbsent
  /-- FUS_FORCE_MASK (R312). A write of FUS_INi_CTRL.FORCE_MASK masks or releases an input. -/
  | fusForceMask (inp : Fin 16) (v : Bool)
  /-- FUS_STOP (R309). FUS_CTRL.STOP stops the fusion engine. -/
  | fusStop
  /-- FUS_START (R309). FUS_CTRL.START restarts the engine into INIT. -/
  | fusStart
  /-- FUS_REINIT (R309). FUS_CTRL.REINIT discards open epochs and enters INIT. -/
  | fusReinit
  /-- FUS_CLR_CNT (R309). FUS_CTRL.CLR_CNT clears fusion counters. -/
  | fusClrCnt
  /-- FUS_ST_READ (R317). A read of FUS_ST_W0 latches the other fused-state words. -/
  | fusStRead
  /-- ANT_OPEN (R319). Antenna supply below 3 mA for 100 ms reports OPEN. -/
  | antOpen (a : Fin 2) (ma : Nat)
  /-- ANT_SHORT (R319). Antenna supply above 150 mA for 1 ms turns off and reports SHORT. -/
  | antShort (a : Fin 2)
  /-- ANT_RETRY (R319). One second after a short the antenna supply tries again. -/
  | antRetry (a : Fin 2)
  /-- GNSS_CHANNEL_ASSIGN (R321). The channel manager assigns a channel to a signal and it enters SEARCH. -/
  | gnssChannelAssign (n : Fin 384) (sig : Fin 17) (sv : Fin 256)
  /-- GNSS_DWELL_DONE (R328). A search dwell completes, confirming a detection or exhausting the space. -/
  | gnssDwellDone (n : Fin 384) (found : Bool)
  /-- GNSS_PULL_IN_LOCK (R325). A channel in PULL_IN gains code and carrier lock and enters TRACK. -/
  | gnssPullInLock (n : Fin 384) (cno : Nat)
  /-- GNSS_PULL_IN_TIMEOUT (R325). 500 ms without lock returns a channel to SEARCH or IDLE. -/
  | gnssPullInTimeout (n : Fin 384)
  /-- GNSS_TRACK_LOSS (R325). Low C/N0 or phase lock loss moves a channel to LOST. -/
  | gnssTrackLoss (n : Fin 384)
  /-- GNSS_LOST_TIMEOUT (R325). A channel LOST for 2 s returns to IDLE. -/
  | gnssLostTimeout (n : Fin 384)
  /-- GNSS_RESCHEDULE (R325). A rescheduled candidate's 10 s wait ends and it may be searched again. -/
  | gnssReschedule (a : Fin 2) (sig : Fin 17) (sv : Fin 256)
  /-- GNSS_CHANNEL_FREE (R321). A satellite 2° below the mask for 60 s frees its channel. -/
  | gnssChannelFree (n : Fin 384)
  /-- GNSS_MEAS_EPOCH (R330). A measurement epoch boundary sends the measurements of all tracked channels. -/
  | gnssMeasEpoch (meas : List GnsMeas)
  /-- GNSS_NAV_UNIT (R332). A channel completes a navigation data unit and it is checked and sent. -/
  | gnssNavUnit (n : Fin 384) (check : Fin 4) (kind nbits : Nat) (bits : List Nat) (age : Nat) (eph alm leap : Option Nat)
  /-- GNSS_PVT_EPOCH (R333). At a PVT boundary the solver runs checks and sends PVT and heading. -/
  | gnssPvtEpoch (o : GnsSolution)
  /-- RTCM_FRAME (R339). An RTCM 3 frame on a correction stream is checked and used or ignored. -/
  | rtcmFrame (second good : Bool) (msg station : Nat) (moved : Bool) (eph : Option (Nat × Nat))
  /-- RTCM_AGE_EXPIRED (R340). Corrections age beyond AGE_MAX_S and the fix falls back. -/
  | rtcmAgeExpired
  /-- GNSS_JAM (R344). A band's noise rise at JAM_DB for 1 s declares it jammed. -/
  | gnssJam (a : Fin 2) (band : Fin 3) (db : Nat)
  /-- GNSS_JAM_CLEAR (R344). A band below JAM_DB minus 1 dB for 1 s is clear again. -/
  | gnssJamClear (a : Fin 2) (band : Fin 3) (db : Nat)
  /-- GNSS_PARK_REFRESH (R345). REFRESH_MIN elapses in PARKED and island 3 powers up for a refresh. -/
  | gnssParkRefresh
  /-- GNSS_REFRESH_END (R345). Ephemerides complete or FIX_MAX_S passes; hot-start data is written and island 3 powers down. -/
  | gnssRefreshEnd
  /-- GNSS_HOTSTART_WRITE (R346). Every 10 min in RUN the older hot-start copy is rewritten. -/
  | gnssHotstartWrite
  /-- GNS_STOP (R325). GNS_CTRL.STOP stops the baseband with every channel IDLE. -/
  | gnsStop
  /-- GNS_START (R329). GNS_CTRL.START restarts a stopped baseband. -/
  | gnsStart
  /-- GNS_COLD (R346). GNS_CTRL.COLD invalidates both hot-start copies. -/
  | gnsCold
  /-- GNS_CLR_CNT (R343). GNS_CTRL.CLR_CNT clears baseband counters. -/
  | gnsClrCnt
  /-- GNS_PVT_READ (R338). A read of GNS_PVT_W0 latches the rest of the PVT. -/
  | gnsPvtRead
  /-- GNS_HDG_READ (R338). A read of GNS_HDG_W0 latches the rest of the heading. -/
  | gnsHdgRead
  /-- PPS_SECOND (R348). A whole second of module time emits the PPS pulses the gates allow. -/
  | ppsSecond
  /-- PPS_REPORT (R349). At least 500 ms before a PPS_A edge its predicted error is sent. -/
  | ppsReport (quant copyOfs : Int)
  /-- PPSA_QERR_READ (R349). A read of ETH_PPSA_QERR latches ETH_PPSA_QSEQ. -/
  | ppsaQerrRead
  /-- PPSB_DELAY_WRITE (R350). A write of PPS_B delay or width takes effect at the first pulse 1 ms later. -/
  | ppsbDelayWrite (delay : Bool) (v : BitVec 32)
  /-- PATH_COMMIT (R353). STR_PATH_CTRL.COMMIT checks a path buffer and makes it VALID or refuses it. -/
  | pathCommit (buf : Fin 4)
  /-- PATH_INVALIDATE (R354). STR_PATH_CTRL.INVALIDATE clears a buffer's VALID. -/
  | pathInvalidate (buf : Fin 4)
  /-- STR_REFIND (R358). STR_CTRL.REFIND orders a full closest-point search next frame. -/
  | strRefind
  /-- STR_CLR_CNT (R360). STR_CTRL.CLR_CNT clears the path follower counters. -/
  | strClrCnt
  /-- ENG_WAIT_EXPIRED (R360). ENG_WAIT_S expires in READY and the guiding modes are cleared. -/
  | engWaitExpired
  /-- GRACE_EXPIRED (R362). GRACE_MS expires and the fused state is declared unusable to the mode manager. -/
  | graceExpired
  /-- STR_ERR_READ (R363). A read of STR_ERR latches STR_ERR2 and STR_ERR3. -/
  | strErrRead
  /-- CONVOY_PARTNER_EPOCH (R368). A partner observation epoch arrives and is paired and solved. -/
  | convoyPartnerEpoch (epoch peer : Nat) (sol : ConvoySol)
  /-- CONVOY_WAIT_EXPIRED (R368). WAIT_MS passes without the partner epoch and the solver extrapolates or sends NONE. -/
  | convoyWaitExpired (sol : ConvoySol)
  /-- CONVOY_LOSS (R372). No partner epoch for LOSS_MS sets PARTNER_LOST. -/
  | convoyLoss
  /-- CVY_RESET_AMB (R369). STR_CVY_CTRL.RESET_AMB discards the convoy ambiguities. -/
  | cvyResetAmb
  /-- CVY_CLR_CNT (R370). STR_CVY_CTRL.CLR_CNT clears the convoy counters. -/
  | cvyClrCnt
  /-- STR_CVY_READ (R370). A read of STR_CVY_W0 latches the rest of the convoy solution. -/
  | strCvyRead
  /-- YIELD_STEP (R379). Every 100 ms the model stage places mass, undoes transport and emits final slices. -/
  | yieldStep (pkts : List (Fin 16 × Packet))
  /-- YIELD_ACK (R396). A tile-engine acknowledgement releases covered contribution packets. -/
  | yieldAck (cseq : BitVec 32)
  /-- CONTRIBUTION_PACKET (R395). A contribution packet reaches the tile engine and is applied to its cells. -/
  | contributionPacket (p : Packet)
  /-- TILE_FLUSH (R397). FLUSH_S elapses and all dirty rows are written to T0. -/
  | tileFlush
  /-- TILE_READBACK_DONE (R397). A tile read back from the store lets its queued contributions apply. -/
  | tileReadbackDone (tx ty : Int)
  /-- TILE_WAIT (R397). A read-back exceeds 500 ms and TILE_WAIT_EV is set. -/
  | tileWait (tx ty : Int)
  /-- FF_RATIO (R398). Every 100 ms the tile engine forms and sends the prior-map ratio. -/
  | ffRatio
  /-- DELTA_SEND (R399). DELTA_S elapses and changed tiles' deltas are sent to the fleet. -/
  | deltaSend
  /-- FLEET_DELTA (R400). A received fleet delta part is applied to its sender layer or discarded. -/
  | fleetDelta (sender : Nat) (p : Packet)
  /-- DRAIN_EXPIRED (R402). The drain time ends and the model stage flushes and goes IDLE. -/
  | drainExpired
  /-- YLD_STOP (R402). YLD_CTRL.STOP flushes and stops the model stage. -/
  | yldStop
  /-- YLD_START (R402). YLD_CTRL.START restarts the model stage. -/
  | yldStart
  /-- YLD_CLR_CNT (R406). YLD_CTRL.CLR_CNT clears the model stage counters. -/
  | yldClrCnt
  /-- YLD_NEW_PASS (R392). YLD_CTRL.NEW_PASS raises PASS. -/
  | yldNewPass
  /-- YLD_FLUSH (R402). YLD_CTRL.FLUSH finalises every slice at once. -/
  | yldFlush
  /-- YLD_T_STOP (R397). YLD_T_CTRL.STOP writes dirty rows and stops the tile engine. -/
  | yldTStop
  /-- YLD_T_START (R397). YLD_T_CTRL.START restarts the tile engine. -/
  | yldTStart
  /-- YLD_T_CLR_CNT (R406). YLD_T_CTRL.CLR_CNT clears the tile engine counters. -/
  | yldTClrCnt
  /-- YLD_T_FLUSH (R397). YLD_T_CTRL.FLUSH writes every dirty row now. -/
  | yldTFlush
  /-- TILE_LOOKUP (R406). A write of YLD_T_QCELL starts a cell lookup. -/
  | tileLookup (index : Fin 262144) (layer : Fin 16)
  /-- YLD_TM_READ (R406). A read of YLD_TM latches YLD_TM_B. -/
  | yldTmRead
  /-- YLD_LEDGER_READ (R406). A read of YLD_LEDGER_A latches YLD_LEDGER_F. -/
  | yldLedgerRead
  /-- YLD_FF_READ (R406). A read of YLD_T_FF_STAT latches YLD_T_FF_STAT2. -/
  | yldFfRead
  /-- YLD_QW_READ (R406). A read of YLD_T_QW0 latches the other lookup words. -/
  | yldQwRead
  /-- TIER_PACKET (R407). A packet of a recorded stream arrives at the store and is placed in its tier's block. -/
  | tierPacket (p : Packet)
  /-- BLOCK_CLOSE (R413). A block's close timer expires and the block is padded and closed. -/
  | blockClose (tier : Fin 4)
  /-- DRIVE_COMPLETION (R415). A drive completes a command and the block is written or the command failed. -/
  | driveCompletion (d : Fin 4) (q : Fin 8) (entry : Fin 1024) (ok : Bool)
  /-- DRIVE_STALL (R417). A T2 or T3 block is not completed in STALL_MS and is resubmitted; the drive becomes SUSPECT. -/
  | driveStall (d : Fin 4) (q : Fin 8) (entry : Fin 1024)
  /-- BLOCK_DISCARD (R417). A T2 or T3 block still unwritten 450 ms after its first record is discarded. -/
  | blockDiscard
  /-- SHED_EVALUATE (R418). Every 10 ms the store evaluates its shedding level. -/
  | shedEvaluate
  /-- DRIVE_CMD_TIMEOUT (R421). A command outstanding CMD_TIMEOUT_MS resets the drive controller. -/
  | driveCmdTimeout (d : Fin 4) (q : Fin 8) (entry : Fin 1024)
  /-- DRIVE_LINK_DOWN (R421). A drive link goes down and the controller is reset. -/
  | driveLinkDown (d : Fin 4)
  /-- DRIVE_READY (R421). A drive controller becomes ready and the drive becomes ONLINE or FAILED. -/
  | driveReady (d : Fin 4) (gen : Fin 4) (gb entries : Nat) (own : Bool)
  /-- MOUNT_DONE (R422). Every labelled drive is ONLINE and the engine enters RUNNING. -/
  | mountDone
  /-- MOUNT_TIMEOUT (R422). MOUNT_S expires and the engine enters RUNNING or NO_DRIVES. -/
  | mountTimeout
  /-- READ_BLOCK (R425). A STORE_REQ READ_BLOCK returns a written block. -/
  | readBlock (p : Packet)
  /-- FIND (R425). A STORE_REQ FIND returns the first block closed at or after a time. -/
  | find (p : Packet)
  /-- APPEND (R425). A STORE_REQ APPEND adds record data to a tier. -/
  | append (p : Packet)
  /-- TILE_PUT (R425). A STORE_REQ TILE_PUT stores a tile part. -/
  | tilePut (p : Packet)
  /-- TILE_GET (R425). A STORE_REQ TILE_GET returns a tile part. -/
  | tileGet (p : Packet)
  /-- REPLAY_OPEN (R426). SST_RP_CTRL.OPEN finds the interval and fills the replay buffer. -/
  | replayOpen
  /-- REPLAY_READY (R426). The replay read-ahead completes and the source is READY or CLOSED. -/
  | replayReady
  /-- REPLAY_CLOSE (R426). SST_RP_CTRL.CLOSE closes a source that is not playing. -/
  | replayClose
  /-- REPLAY_EMIT (R426). A recorded record's due time arrives and it is emitted from 0x5082. -/
  | replayEmit (wait : Nat)
  /-- REPLAY_END (R426). Playing reaches TO and the source is ENDED. -/
  | replayEnd
  /-- SST_STOP (R428). SST_CTRL.STOP writes staged blocks and stops the engine. -/
  | sstStop
  /-- SST_START (R422). SST_CTRL.START restarts the engine through MOUNTING. -/
  | sstStart
  /-- SST_RESCAN (R421). SST_CTRL.RESCAN rescans absent, failed or foreign drives. -/
  | sstRescan
  /-- SST_FLUSH (R413). SST_CTRL.FLUSH closes every open block. -/
  | sstFlush
  /-- SST_CLR_CNT (R418). SST_CTRL.CLR_CNT clears store counters. -/
  | sstClrCnt
  /-- SST_FMT (R409). SST_FMT with the key labels and empties the drives of its mask. -/
  | sstFmt (key : BitVec 16) (mask : Fin 16)
  /-- CAN_FRAME_RX (R436). A valid frame is received, filtered and buffered for its receive stream. -/
  | canFrameRx (n : Fin 24) (f : CanFrame) (sof : Nat)
  /-- CAN_RX_DELIVER (R437). A buffered frame leaves as a SAMPLE when credit allows. -/
  | canRxDeliver (n : Fin 24)
  /-- CAN_REFERENCE (R445). A reference message starts a follower's basic cycle. -/
  | canReference (n : Fin 24) (f : CanFrame) (sof : Nat)
  /-- CAN_TX_SUCCESS (R439). A frame is sent successfully and leaves its object or queue. -/
  | canTxSuccess (n : Fin 24) (sof : Nat)
  /-- CAN_TX_ERROR (R441). A transmit attempt loses arbitration or meets an error and is retried or abandoned. -/
  | canTxError (n : Fin 24) (sof : Nat) (lec : Fin 7) (dataPhase quiet : Bool)
  /-- CAN_RX_ERROR (R447). An error detected while receiving updates the counters and warnings. -/
  | canRxError (n : Fin 24) (lec : Fin 7) (dataPhase dominant : Bool)
  /-- CAN_OBJECT_PACKET (R439). A packet for a transmit object builds or replaces its frame. -/
  | canObjectPacket (n : Fin 24) (o : Fin 32) (p : Packet) (onWire : Bool)
  /-- CAN_QUEUE_PACKET (R440). A packet on a queue stream joins the pending queue. -/
  | canQueuePacket (n : Fin 24) (p : Packet)
  /-- CAN_OBJECT_PERIOD (R443). An object's PERIOD_MS elapses in the FREE role and it sends. -/
  | canObjectPeriod (n : Fin 24) (o : Fin 32)
  /-- CAN_BASIC_CYCLE (R444). A master's basic cycle start queues the reference message. -/
  | canBasicCycle (n : Fin 24)
  /-- CAN_REF_LATE (R444). The reference has not started by a quarter cycle and the cycle proceeds without it. -/
  | canRefLate (n : Fin 24)
  /-- CAN_REF_MISS (R445). No reference within 1.25 cycles; the follower free-runs or becomes UNSYNCED. -/
  | canRefMiss (n : Fin 24)
  /-- CAN_FALLBACK (R445). UNSYNCED lasts FALLBACK_MS and the port enters FALLBACK. -/
  | canFallback (n : Fin 24)
  /-- CAN_WINDOW_START (R443). A schedule window starts and its kind governs sending. -/
  | canWindowStart (n : Fin 24) (w : Fin 32)
  /-- CAN_RECOVER_DELAY (R448). RECOVER_DELAY_MS ends and counting of recessive runs begins. -/
  | canRecoverDelay (n : Fin 24)
  /-- CAN_RECOVERED (R448). 128 recessive runs are counted and the port returns to error-active. -/
  | canRecovered (n : Fin 24)
  /-- CAN_STUCK (R448). The bus stays dominant for 100 bit times and STUCK is set. -/
  | canStuck (n : Fin 24)
  /-- MB_STOP (R434). MB_CTRL.STOP stops the port after the frame on the wire. -/
  | mbStop (n : Fin 24)
  /-- MB_START (R434). MB_CTRL.START restarts a stopped port into NORMAL. -/
  | mbStart (n : Fin 24)
  /-- MB_ISOLATE (R450). MB_CTRL.ISOLATE takes the port off the bus. -/
  | mbIsolate (n : Fin 24)
  /-- MB_REJOIN (R434). MB_CTRL.REJOIN returns an isolated port to NORMAL. -/
  | mbRejoin (n : Fin 24)
  /-- MB_FLUSH_Q (R449). MB_CTRL.FLUSH_Q removes the pending queue with TX_FLUSHED. -/
  | mbFlushQ (n : Fin 24)
  /-- MB_CLR_CNT (R447). MB_CTRL.CLR_CNT clears the port counters. -/
  | mbClrCnt (n : Fin 24)
  /-- ETH_FRAME_RX (R456). A frame arrives at a switch port, is filtered, learned and queued for egress. -/
  | ethFrameRx (p : Fin 16) (f : EthFrame) (fcsBad : Bool)
  /-- ETH_HOST_TX (R458). A frame packet from a partition enters the switch at the host port. -/
  | ethHostTx (f : EthFrame)
  /-- ETH_HOST_RX_DELIVER (R458). A frame in the host receive buffer leaves when the fabric takes it. -/
  | ethHostRxDeliver
  /-- ETH_LINK_CHANGE (R454). A port's link comes up or goes down. -/
  | ethLinkChange (p : Fin 16) (up : Bool) (sqi : Fin 8)
  /-- ETH_MAC_AGE (R456). A learned address ages out after AGE_S. -/
  | ethMacAge
  /-- ETH_GATE_ENTRY (R459). A gate control entry or cycle starts and changes the open gates. -/
  | ethGateEntry (p : Fin 16) (e : Fin 64)
  /-- GPTP_SYNC (R460). The Sync interval elapses and two-step Sync is sent. -/
  | gptpSync
  /-- GPTP_PDELAY (R460). The Pdelay interval elapses and a delay request is sent. -/
  | gptpPdelay
  /-- GPTP_ANNOUNCE (R462). Each second an Announce is sent with the current quality. -/
  | gptpAnnounce
  /-- GPTP_MSG_RX (R460). A gPTP message from a peer is received and answered or ignored. -/
  | gptpMsgRx (p : Fin 16) (m : GptpMsg)
  /-- TQ_FRAME (R463). A PPS_A report reaches cell 3 and a time-quality frame is sent. -/
  | tqFrame
  /-- EVT_EDGE_STAMP (R464). An event-input comparator transition is stamped to module time. -/
  | evtEdgeStamp (x : Fin 2) (pin : PinBand)
  /-- ETH_EVTCAP_READ (R464). A read of ETH_EVTCAPx_LO latches the high word. -/
  | ethEvtcapRead (x : Fin 2)
  /-- ETH_CLR_CNT (R457). ETH_CTRL.CLR_CNT clears switch counters. -/
  | ethClrCnt
  /-- ETH_FLUSH_MAC (R456). ETH_CTRL.FLUSH_MAC empties the address table. -/
  | ethFlushMac
  /-- EHR_ROUTER_ADVERT (R465). A router advertisement configures the endpoint's address and route. -/
  | ehrRouterAdvert (addr : BitVec 128)
  /-- EHR_PEER_ENABLE (R468). A write of a peer's EN starts or ends its session. -/
  | ehrPeerEnable (n : Fin 16) (en : Bool)
  /-- EHR_CLIENT_HELLO (R468). A ClientHello arrives and the server runs the cookie exchange and handshake. -/
  | ehrClientHello (n : Fin 16)
  /-- EHR_HANDSHAKE_DONE (R467). A handshake completes and the session is UP or fails authentication. -/
  | ehrHandshakeDone (n : Fin 16) (chain : List FleetCert) (transcript verify : List Nat)
  /-- EHR_HANDSHAKE_TIMEOUT (R468). A handshake not complete in 60 s fails. -/
  | ehrHandshakeTimeout (n : Fin 16)
  /-- EHR_FLIGHT_RETRANSMIT (R468). A handshake flight timer expires and the flight is resent. -/
  | ehrFlightRetransmit (n : Fin 16)
  /-- EHR_BACKOFF (R468). The client backoff elapses and a new ClientHello is sent. -/
  | ehrBackoff (n : Fin 16)
  /-- EHR_SESSION_TIMEOUT (R468). No valid record for SESSION_TO_S takes the session DOWN. -/
  | ehrSessionTimeout (n : Fin 16)
  /-- EHR_HEARTBEAT (R473). HB_MS elapses and a heartbeat frame is sent on each UP session. -/
  | ehrHeartbeat
  /-- EHR_KEY_UPDATE (R466). KEYUPD_MIN or the record count is reached and a KeyUpdate is made. -/
  | ehrKeyUpdate (n : Fin 16)
  /-- DTLS_RECORD_RX (R471). A DTLS record carrying a frame or fragment is received, checked and delivered. -/
  | dtlsRecordRx (n : Fin 16) (num : Nat) (frame : List Nat) (close : Bool)
  /-- EHR_REASM_TIMEOUT (R470). A fragmented frame incomplete after 1 s is discarded. -/
  | ehrReasmTimeout (n : Fin 16)
  /-- EHR_PAYLOAD_TX (R472). A payload from an image-routed stream is framed and sent to its peers. -/
  | ehrPayloadTx (cls : Fin 8) (p : Packet)
  /-- EHR_RETRANSMIT (R482). An unacknowledged RELIABLE frame's timer expires and it is resent or abandoned. -/
  | ehrRetransmit (n : Fin 16)
  /-- EHR_STOP (R483). EHR_CTRL.STOP sends close_notify and stops the endpoint. -/
  | ehrStop
  /-- EHR_START (R468). EHR_CTRL.START restarts a stopped endpoint. -/
  | ehrStart
  /-- EHR_CLR_CNT (R482). EHR_CTRL.CLR_CNT clears endpoint counters. -/
  | ehrClrCnt
  /-- DSP_VBLANK (R486). Vertical blanking starts and a port's shadows are checked and copied into use. -/
  | dspVblank (n : Fin 2) (late : List (Nat × Nat))
  /-- DSP_EN_WRITE (R491). A write of DSP_Pn_CTRL.EN requests or ends the panel. -/
  | dspEnWrite (n : Fin 2) (en : Bool)
  /-- DSP_T_ON1 (R491). T_ON1 elapses and the LVDS link starts. -/
  | dspTOn1 (n : Fin 2)
  /-- DSP_T_ON2 (R491). T_ON2 elapses and the backlight turns on. -/
  | dspTOn2 (n : Fin 2)
  /-- DSP_T_OFF1 (R491). T_OFF1 elapses and the LVDS link goes idle. -/
  | dspTOff1 (n : Fin 2)
  /-- DSP_T_OFF2 (R491). T_OFF2 elapses and panel power and VCOM turn off. -/
  | dspTOff2 (n : Fin 2)
  /-- DSP_T_REST (R491). T_REST elapses and the port returns to OFF or powers up again. -/
  | dspTRest (n : Fin 2)
  /-- DSP_TEMP_UPDATE (R490). Every 100 ms panel temperature is measured and VCOM moved towards its target. -/
  | dspTempUpdate (n : Fin 2) (ohms : Nat)
  /-- DSP_CLR_CNT (R487). DSP_CTRL.CLR_CNT clears display counters. -/
  | dspClrCnt
  /-- RTC_SECOND (R502). The RTC counts into a new second and tests both alarms. -/
  | rtcSecond
  /-- BKP_RTC_SET (R498). BKP_CTRL.SET sets the calendar from the SET registers unless module time owns it. -/
  | bkpRtcSet
  /-- RTC_AUTO_SET (R498). While LOCKED, every 64 s island 0 sets the RTC from module time. -/
  | rtcAutoSet
  /-- RTC_CAL_WINDOW (R500). A 1,024 s calibration window ends and TRIM is adjusted. -/
  | rtcCalWindow (rate : Int)
  /-- BKP_SWITCH_VBAK (R495). The standby rail falls and the backup domain switches to VBAK. -/
  | bkpSwitchVbak (rail vbak : Nat)
  /-- BKP_SWITCH_RAIL (R495). The standby rail recovers and the domain returns to it. -/
  | bkpSwitchRail (rail vbak : Nat)
  /-- BKP_POR (R507). The backup supply falls below 1.75 V and the domain resets, losing its content. -/
  | bkpPor
  /-- BKP_RTC_READ (R501). A read of BKP_RTC_TIME latches date, sub-second and bound. -/
  | bkpRtcRead
  /-- PWRREQ_SET (R505). BKP_PWRREQ.SET sets the request latch and asserts PWR_REQ. -/
  | pwrreqSet
  /-- PWRREQ_CLR (R505). BKP_PWRREQ.CLR ends the request. -/
  | pwrreqClr
  /-- PWRREQ_PULSE_END (R505). PULSE_MS elapses and a pulse request ends. -/
  | pwrreqPulseEnd
  /-- PWRREQ_MAX (R505). REQ_MAX_S elapses without LOGIC_BAT valid and the request ends with REQ_TIMEOUT. -/
  | pwrreqMax
  /-- TOOL_PRESENT (R524). The tool-presence pin asserts for 10 ms and the Wellhead PHY powers up. -/
  | toolPresent
  /-- TOOL_RELEASED (R532). The tool-presence pin releases and the session ends. -/
  | toolReleased
  /-- HELLO (R527). A HELLO message is answered with identity and a nonce. -/
  | helloMsg (m : WhdMsg)
  /-- AUTH (R528). An AUTH message's credential and proof are verified. -/
  | authMsg (m : WhdMsg) (c : Credential)
  /-- AUTH_ANSWER (R530). At the 1 ms boundary after verification the AUTH is answered and sessions admitted. -/
  | authAnswer
  /-- CLOSE (R532). A CLOSE message ends the session. -/
  | closeMsg (m : WhdMsg)
  /-- STAGE_BEGIN (R514). STAGE_BEGIN frees a STAGED slot and targets a free slot. -/
  | stageBegin (m : WhdMsg) (length digest : Nat)
  /-- STAGE_DATA (R514). STAGE_DATA writes the next image bytes. -/
  | stageData (m : WhdMsg) (offset : Nat) (data : List Nat)
  /-- STAGE_END (R514). STAGE_END starts verification of the staged image. -/
  | stageEnd (m : WhdMsg)
  /-- STAGE_VERIFY_DONE (R514). Verification completes and the slot becomes STAGED or is freed. -/
  | stageVerifyDone (g : Image)
  /-- STAGE_ABORT (R514). STAGE_ABORT discards a staging in progress. -/
  | stageAbort (m : WhdMsg)
  /-- DISCARD (R514). A DISCARD message frees the STAGED slot. -/
  | discardMsg (m : WhdMsg)
  /-- SCHEDULE (R515). A SCHEDULE message sets a schedule for the STAGED image. -/
  | scheduleMsg (m : WhdMsg) (id instant window : Nat)
  /-- CANCEL (R515). A CANCEL message clears the schedule. -/
  | cancelMsg (m : WhdMsg) (id : Nat)
  /-- STATUS (R527). A STATUS message returns the update registers. -/
  | statusMsg (m : WhdMsg)
  /-- READ (R527). A READ message reads control space as the session origin. -/
  | readMsg (m : WhdMsg) (addr : BitVec 32) (count : Nat) (failing : List Nat)
  /-- WRITE (R527). A WRITE message writes control space as the session origin. -/
  | writeMsg (m : WhdMsg) (addr : BitVec 32) (words : List (BitVec 32)) (failing : List Nat)
  /-- MODE (R527). A MODE message submits a mode request as OPERATOR. -/
  | modeMsg (m : WhdMsg) (set clr conf : BitVec 12)
  /-- JOG (R91). A JOG message runs or repeats a SERVICE jog of a channel. -/
  | jogMsg (m : WhdMsg) (ch : Fin 192) (v : Int) (cmd : Fin 256) (inLoop : Bool)
  /-- REVOKE (R513). A REVOKE message checks a revocation order and blows the fuses. -/
  | revokeMsg (m : WhdMsg) (o : RevokeOrder)
  /-- AUTH_TIMEOUT (R532). No AUTH within 10 s of HELLO ends the session. -/
  | authTimeout (path : Fin 2)
  /-- WHD_IDLE (R532). No message for IDLE_S ends the session. -/
  | whdIdle (path : Fin 2)
  /-- WHD_LOCKOUT_END (R531). A path's 600 s lockout ends. -/
  | whdLockoutEnd (path : Fin 2)
  /-- WHD_CTRL_CLOSE (R532). WHD_CTRL.CLOSE ends the ACTIVE session. -/
  | whdCtrlClose
  /-- RELAY_OPEN (R533). A relay OPEN frame starts a relay session or is answered BUSY. -/
  | relayOpen (n : Fin 16) (id : BitVec 32)
  /-- RELAY_DATA (R533). A relay DATA frame carries session bytes. -/
  | relayData (n : Fin 16) (id : BitVec 32) (offset bytes : Nat)
  /-- RELAY_CLOSE (R533). A relay CLOSE frame ends the relay. -/
  | relayClose (n : Fin 16) (id : BitVec 32)
  /-- ANNOUNCE (R515). A fleet ANNOUNCE is checked and accepted as the schedule or refused. -/
  | fleetAnnounce (x : FleetSched)
  /-- FLEET_CANCEL (R515). A fleet CANCEL with a matching SCHEDULE_ID clears the schedule. -/
  | fleetCancel (x : FleetSched)
  /-- UPD_DISCARD (R514). UPD_CTRL.DISCARD cancels the schedule and frees STAGED. -/
  | updDiscard (key : BitVec 16)
  /-- UPD_CANCEL (R515). UPD_CTRL.CANCEL clears the schedule. -/
  | updCancel (key : BitVec 16)
  /-- UPD_SCHEDULE (R515). UPD_CTRL.SCHEDULE schedules from UPD_SCHED and UPD_WINDOW. -/
  | updSchedule (key : BitVec 16)
  /-- UPD_PRECHECK (R517). At instant minus 1 s the STAGED image is checked again. -/
  | updPrecheck
  /-- UPD_ACTIVATION_CHECK (R518). At the instant and each second after, deferral causes are evaluated. -/
  | updActivationCheck (flush : Fin 61) (lost dead : Nat)
  /-- UPD_DEFER_LAPSE (R518). DEFER_MAX_H passes with the schedule deferred and it lapses. -/
  | updDeferLapse
  /-- UPD_CONFIRM (R521). UPD_CONFIRM.CONFIRM confirms the new image and raises MIN_EPOCH. -/
  | updConfirm (key : BitVec 16)
  /-- MIG_DONE (R523). UPD_CONFIRM.MIG_DONE records the retained format migration. -/
  | migDone (key : BitVec 16)
  /-- MIG_FAIL (R522). UPD_CONFIRM.MIG_FAIL sets FALL_DUE. -/
  | migFail (key : BitVec 16)
  /-- UPD_WINDOW_EXPIRED (R522). UPD_RUN reaches the window unconfirmed and FALL_DUE is set. -/
  | updWindowExpired
  /-- UPD_RUN_RECORD (R521). Every 60 s the confirmation run count is recorded. -/
  | updRunRecord
  /-- CRYPTO_GO (R537). CRY_Ck_CTRL.GO queues a job on its crypto unit. -/
  | cryptoGo (k : Fin 8)
  /-- CRYPTO_DONE (R536). A crypto job completes after its fixed time and reports its result. -/
  | cryptoDone (pk : Bool) (put : List (BitVec 32 × BitVec 8))
  /-- EVENT_PACKET (R541). An EVENT packet arrives and the triggers decide whether a record forms. -/
  | eventPacket (p : Packet)
  /-- SNAPSHOT_ANSWER (R542). A snapshot read is answered and the word settles. -/
  | snapshotAnswer (rseq : Nat) (w : Fin 32) (failing : List Nat)
  /-- SNAPSHOT_TIMEOUT (R542). A snapshot word unanswered for 2 ms holds TIMEOUT. -/
  | snapshotTimeout (rseq : Nat)
  /-- EVR_FLUSH_TIMER (R545). FLUSH_S after the oldest staged record a flush starts. -/
  | evrFlushTimer
  /-- EVR_FLUSH_DONE (R545). A flush has written the staged records and the ring entry. -/
  | evrFlushDone
  /-- EVR_STOP (R546). EVR_CTRL.STOP stops recording. -/
  | evrStop
  /-- EVR_START (R546). EVR_CTRL.START restarts the recorder. -/
  | evrStart
  /-- EVR_FLUSH (R545). EVR_CTRL.FLUSH starts a flush. -/
  | evrFlush
  /-- EVR_EXPORT (R552). EVR_CTRL.EXPORT starts export of unexported records. -/
  | evrExport
  /-- EVR_CLR_CNT (R541). EVR_CTRL.CLR_CNT clears recorder counters. -/
  | evrClrCnt
  /-- EVR_SOFT (R541). EVR_CTRL.SOFT forms a record under SOFT_TRIG. -/
  | evrSoft (trig : Fin 64) (writer : Fin 65536)
  /-- EVR_FREEZE_WRITE (R550). A write of EVR_FREEZE freezes or releases region writes. -/
  | evrFreezeWrite (freeze : Bool) (maxS : Fin 1024)
  /-- EVR_FREEZE_EXPIRED (R550). FREEZE_MAX_S expires and the freeze is released. -/
  | evrFreezeExpired
  /-- EVR_CURSOR_WRITE (R551). A write of EVR_CURSOR starts loading the record window. -/
  | evrCursorWrite (rseq : Fin 524288)
  /-- EVR_WINDOW_LOADED (R551). The window load completes and STALE clears. -/
  | evrWindowLoaded
  /-- EVR_CLEAR (R553). EVR_CLEAR.CLEAR with the key empties the region. -/
  | evrClear (key : BitVec 16) (force : Bool)
  /-- EVR_EXPORT_ANSWER (R552). An APPEND answer advances EXPORTED or pauses export. -/
  | evrExportAnswer (code : Fin 256)
  /-- EVR_EXPORT_RETRY (R552). One second after a failed export, export is tried again. -/
  | evrExportRetry
  /-- HLT_SAMPLE (R556). Every 10 ms temperature and voltage monitors are sampled and thresholds judged. -/
  | hltSample (temps : List Int) (volts : List (Nat × Bool))
  /-- HLT_STREAM (R557). PERIOD_MS elapses and the health SAMPLE is sent. -/
  | hltStream
  /-- HLT_RO_MEASURE (R558). Every 10 min the ring oscillators are counted and drift formed. -/
  | hltRoMeasure (freqs : List (Option (Nat × Nat)))
  /-- HLT_RON_MINUTE (R559). Each minute a cell reports the median on-resistance of its channels. -/
  | hltRonMinute (c : Fin 24) (samples : List (List RonSample))
  /-- HLT_MRAM_SAVE (R560). Every 10 min the retained-store write counts are saved. -/
  | hltMramSave
  /-- HLT_THERMAL (R561). Once a second die temperatures update the thermal cycle counts. -/
  | hltThermal
  /-- HLT_CAP_TEST (R562). HLT_CTRL.CAP_TEST starts a reserve capacitance test. -/
  | hltCapTest
  /-- HLT_CAP_TEST_DONE (R562). The reserve test's timed fall ends and CAP_UF is written. -/
  | hltCapTestDone (t : Nat)
  /-- HLT_REPLAN (R564). HLT_CTRL.REPLAN starts or queues a re-plan. -/
  | hltReplan
  /-- HLT_REPLAN_DONE (R566). A re-plan completes and its records are written. -/
  | hltReplanDone
  /-- HLT_CLR_CNT (R557). HLT_CTRL.CLR_CNT clears health counters. -/
  | hltClrCnt
  /-- HEARTBEAT (R580). Mailbox service HEARTBEAT restarts the partition's HB_MS. -/
  | heartbeat (k : Fin 8)
  /-- RESTART (R579). Mailbox service RESTART stops and reloads the partition. -/
  | restart (k : Fin 8)
  /-- WAIT_UNTIL (R579). Mailbox service WAIT_UNTIL waits for a module-time instant. -/
  | waitUntil (k : Fin 8)
  /-- WAIT_UNTIL_DONE (R579). The WAIT_UNTIL instant arrives and the service completes. -/
  | waitUntilDone (k : Fin 8)
  /-- UTC (R579). Mailbox service UTC returns the leap-second count and time state. -/
  | utc (k : Fin 8)
  /-- PART_INFO (R579). Mailbox service PART_INFO returns a partition's masks and counts. -/
  | partInfo (k : Fin 8)
  /-- PART_HB_EXPIRED (R580). A partition misses HB_MS; HUNG sets and it may be restarted. -/
  | partHbExpired (k : Fin 8)
  /-- ISLAND_RESET_RELEASE (R22). The reset of one of islands 1 to 8 is released; link retraining starts and the main processor begins the island's reload, whose bound runs from this moment. -/
  | islandResetRelease (k : Fin 8)
  /-- IN_LIMIT_CHANGE (R144). A channel's high-side current reaches its limiter level, setting IN_LIMIT and starting the limit-time count, or falls below it for 1 µs, restarting the count. -/
  | inLimitChange (ch : Fin 192) (inLimit : Bool)
  /-- BOOST_READY (R141). A cell's boost reservoir recharges to 46 V, setting BOOST_READY and giving one capacitance estimate to the health aggregator. -/
  | boostReady (c : Fin 24) (vStart t : Nat)
  /-- RESERVE_CHARGED (R117). The Artesian reserve charges to 44 V and PWR_STATUS.RES_READY is set. -/
  | reserveCharged
  /-- EPOCH_BOUNDARY (R304). A fusion epoch boundary t_k arrives, and an epoch whose due inputs have all delivered or been masked closes and publishes its state. -/
  | epochBoundary
  /-- ANT_SUPPLY_OK (R319). The antenna supply current returns to 3 to 150 mA, the state becomes OK, ANT_EV sets and the signals may be acquired again. -/
  | antSupplyOk (a : Fin 2) (ma : Nat)
  /-- DRIVE_RESET_TIMEOUT (R421). A drive in RESETTING is not ready within CMD_TIMEOUT_MS and becomes FAILED with FAIL_EV and an EVENT. -/
  | driveResetTimeout (d : Fin 4)
  /-- WHD_TCP_CONNECT (R525). A TCP connection arrives on port 47622 of the Wellhead port and is accepted, with its TLS handshake, or reset as a second connection. -/
  | whdTcpConnect
  /-- FREQ_EDGE (R223). A comparator transition on a frequency or encoder input is stamped and counted, or suppressed and counted as GLITCH or QUAD_ERR. -/
  | freqEdge (ch : Fin 192) (e : Edge)
  deriving DecidableEq, Repr

end Sys2Proof
end

