-- ==== Sys2Proof/Config.lean ====
section
/-! DEFINITION. What an implementation fixes and the values the spec leaves open. Every open value is an opaque constant: nothing in Lean can see what it is, so a statement about it holds for every value. -/

namespace Sys2Proof.Config

/-- The free values: one for each count of the model's own counter `Block.free` (log entry 1). -/
opaque freeValue : Nat → Nat

/-- Free values of a binary64 computation whose order of operations or rounding the spec does not fix: a number that says which quantity, and the operands (log entry 2). -/
opaque freeReal : Nat → List Int → Int

/-- Which phase of an encoder leads when POSITION rises: the spec does not say (R225). -/
opaque quadALeads : Bool

/-- Value of a ratio whose reference reads 0 V (R221). -/
opaque ratioOfZero : Int → Nat

/-- Frequency in mHz of the first counted edges after START, for which R224 names no earlier edge: number of edges and the time from the first to the last in 10 ns. -/
opaque firstFrequency : Nat → Nat → Nat

/-- Whether a published quotient that is not whole is rounded up: the spec names no rounding for the payloads of the steering stages (a numerator and its divisor). -/
opaque roundsUp : Int → Nat → Bool

/-- What the unit key is made from: no access reads it (R538). -/
opaque unitSecret : Nat

/-- Bytes of the island-1 DRAM beyond the 2 GiB of the Millpond buffer, which it holds: the spec gives its size nowhere (R535). -/
opaque dramBeyondMillpond : Nat

/-- Where the Millpond buffer begins in the island-1 DRAM: the spec does not say (R578). -/
opaque millpondBase : Nat

/-- Size of the island-1 DRAM in bytes. -/
def dramBytes : Nat := 2147483648 + dramBeyondMillpond

end Sys2Proof.Config
end

