-- ==== Sys2Proof/Machine/State.lean ====
section
/-! DEFINITION. The state of the module: plain data, holding every register field, memory, queue, timer and condition the spec gives it.
Register fields stand in `regs` (and `inuse`) under the addresses of the register tables; what the spec gives the machine beside its registers stands in the structures of this file, one group per chapter. -/

namespace Sys2Proof.Machine

/-- A field of a register of the control space (chapter 25, Table 25.1): the byte address of its register, its lowest bit, its width and its reset value. -/
structure Fld where
  addr  : Nat
  lo    : Nat
  wid   : Nat
  reset : Nat
  deriving DecidableEq, Repr

/-- The number that names a field: 32 times its address plus its lowest bit. -/
def Fld.key (f : Fld) : Nat := f.addr * 32 + f.lo

/-- A sparse table of numbers by key. A register file lists only the fields that do not hold their reset value. -/
abbrev Store := List (Nat × Nat)

/-- The value listed for a key. -/
def Store.find? : Store → Nat → Option Nat
  | [], _ => none
  | e :: r, k => if e.1 = k then some e.2 else Store.find? r k

/-- The value listed for a key, or the given default. -/
def Store.find (m : Store) (k d : Nat) : Nat := (m.find? k).getD d

/-- The table without a key. -/
def Store.erase (m : Store) (k : Nat) : Store := m.filter (fun e => e.1 != k)

/-- The table with a new entry placed before the first greater key. -/
def Store.ins : Store → Nat → Nat → Store
  | [], k, v => [(k, v)]
  | e :: r, k, v => if k < e.1 then (k, v) :: e :: r else e :: Store.ins r k v

/-- The table with a key at a value, whatever the value. -/
def Store.put (m : Store) (k v : Nat) : Store := (m.erase k).ins k v

/-- The table with a key at a value; the default is not listed. -/
def Store.putD (m : Store) (k v d : Nat) : Store := if v = d then m.erase k else m.put k v

/-- Keys strictly rising. -/
def Store.sorted : Store → Bool
  | [] => true
  | [_] => true
  | a :: b :: r => decide (a.1 < b.1) && Store.sorted (b :: r)


/-- A list with its entry `i` changed. -/
def updAt {α : Type} : List α → Nat → (α → α) → List α
  | [], _, _ => []
  | x :: r, 0, f => f x :: r
  | x :: r, i + 1, f => x :: updAt r i f

/-- Condition of an island (chapters 1 and 5). -/
inductive IslRun where
  /-- In reset, or held by R25 or R511. -/
  | inReset
  /-- Released, its reload pending or running (R22, R23). -/
  | reloading
  /-- Loaded; its units run or wait for START. -/
  | running
  /-- Powered down by the power state (R110, R606). -/
  | poweredDown
  deriving DecidableEq, Repr

/-- One island. -/
structure Island where
  run      : IslRun := .inReset
  /-- Times of its resets of the last 60 s, newest first (R25). -/
  resets   : List Nat := []
  /-- Last BEACON, feeding its watchdog and its copy of module time (R32, R128). -/
  beaconAt : Nat := 0
  deriving DecidableEq, Repr

/-- A partition of island 1 (chapter 25, Table 25.4). -/
structure Partition where
  writeMask   : Nat := 0
  serviceMask : Nat := 0
  hbMs        : Nat := 0
  flags       : Nat := 0
  dramBase    : Nat := 0
  dramSize    : Nat := 0
  /-- Deadline of HB_MS (R580). -/
  hbEnd       : Option Nat := none
  deriving DecidableEq, Repr

/-- Module time, islands and partitions (chapters 1 and 25). -/
structure Sys where
  /-- Module time in ns (R28). -/
  mtime    : Nat := 0
  /-- Rate adjustment in ppb while an offset is slewed, and the offset still to remove in ns (R30). -/
  rateAdj  : Int := 0
  slew     : Int := 0
  /-- Announced step: its instant in module time and its size in ns (R31). -/
  step     : Option (Nat × Int) := none
  /-- An offset above 100 µs was applied since the last start (R30). -/
  stepped  : Bool := false
  /-- Error bound at the loss of GNSS time, and when the state left LOCKED (R33). -/
  b0       : Nat := 0
  leftLock : Option Nat := none
  /-- GPS to UTC leap seconds known (R29, R499). -/
  leap     : Option Nat := none
  /-- The nine islands, 0 to 8 (R13, R18). -/
  islands  : List Island := List.replicate 9 {}
  /-- Timeout of the island watchdogs in ms, from the SUPERVISOR section (R128). -/
  watchdog : Nat := 100
  /-- Island under reload (R23). -/
  reload   : Option Nat := none
  /-- Islands held in reset because island 1 reset while it reloaded them (R23). -/
  abandoned : List Nat := []
  /-- Partitions of island 1, by mailbox (R577). -/
  parts    : List Partition := List.replicate 8 {}
  /-- Elapsed times at which the WAIT_UNTIL services that run complete, per mailbox (R579, R31). -/
  waits    : List (Option Nat) := List.replicate 8 none
  /-- A retained record of the mapper's calibration fields exists (R401). -/
  calKept  : Bool := false
  /-- Record rings of the running image (R135). -/
  rings    : List RingRec := []
  deriving DecidableEq, Repr

/-- A live tag of the range 0x8000 to 0x9FFF (R53, R56): its number, the origin that issued it, the island it went to, the request's kind and when its response timeout expires. -/
structure TagRec where
  tag     : Nat
  source  : Nat
  target  : Nat
  kind    : Kind
  expires : Nat
  quarantined : Bool := false
  deriving DecidableEq, Repr

/-- A packet on a lane, kept by its sender until the receiver acknowledges it (R47, R49): its link, lane and direction (up: towards the higher island), the link sequence number with which it holds a credit, and attempts made. -/
structure Held where
  link     : Nat
  lane     : Nat
  up       : Bool
  packet   : Packet
  lseq     : Option Nat := none
  attempts : Nat := 1
  deriving DecidableEq, Repr

/-- A request that waits for a tag of its island (R55): its source and since when, the packet and the island it goes to, whether a block of the module issued it, and the LOAD packet it carries. -/
structure TagWait where
  source : Nat
  since  : Nat
  packet : Packet
  dest   : Nat
  own    : Bool := false
  load   : Option LoadMsg := none
  deriving DecidableEq, Repr

/-- One link between two islands (R44 to R50). -/
structure Link where
  /-- Credits in use, of 4 per lane and direction: entry 2 × lane, plus 1 for the direction up. -/
  used      : List Nat := List.replicate 16 0
  /-- Next link sequence number of the sender, and the one the receiver accepts next, with the same entries (R47). -/
  next      : List Nat := List.replicate 16 0
  expect    : List Nat := List.replicate 16 0
  /-- Stream and source island served last in each round (R51). -/
  rrStream  : List Nat := List.replicate 16 0
  rrIsland  : List Nat := List.replicate 16 0
  /-- When the limit of 1 ms began: the link went down, or the last reset at an end was released since (R48). -/
  downAt    : Option Nat := none
  deriving DecidableEq, Repr

/-- The fabric (chapter 2). -/
structure Fabric where
  /-- Next SEQ per (STREAM, ORIGIN); a pair not listed has not sent since its last start (R59). -/
  seqs    : Store := []
  /-- Stream routed by the image from a source: key origin × 64 + output number (R41). -/
  routes  : Store := []
  /-- Destination units of an image-assigned stream: stream and origin (R41). -/
  dests   : List (Nat × Nat) := []
  /-- Streams declared periodic: stream, packets per second and packet size in bytes (R51). -/
  periodic : List (Nat × Nat × Nat) := []
  /-- Live tags and tags in quarantine (R53, R56). -/
  tags    : List TagRec := []
  /-- Requests that wait for a tag, oldest first (R55). -/
  waiting : List TagWait := []
  /-- Responses delivered to the units that issued the requests: the unit's origin and the response, oldest first (R42). -/
  delivered : List (Nat × Packet) := []
  /-- Module time of the last write of FAB_RSP_TIMEOUT (R77, Table 3.8). -/
  timeoutAt : Nat := 0
  /-- Packets held by senders until acknowledged, oldest first (R47, R49, R50). -/
  held    : List Held := []
  /-- The 36 links (R44). -/
  links   : List Link := List.replicate 36 {}
  /-- Status with which the last request, control bit or service was answered; 0 is success. -/
  status  : Nat := 0
  deriving DecidableEq, Repr

/-- Staging at a load target (R68, R69). -/
structure Staging where
  target   : Nat
  section_ : Nat
  total    : Nat := 0
  /-- The bytes received. -/
  data     : List Nat := []
  /-- INSTANT of an armed COMMIT. -/
  armed    : Option Nat := none
  deriving DecidableEq, Repr

/-- What the loader waits for in a partial reconfiguration (R81): answers to QUIESCE, to DATA, to COMMIT. -/
inductive LoadStage where
  | quiescing | data | committing | armed
  deriving DecidableEq, Repr

/-- The loader's step under way (R68 to R70, R81): targets that still owe an answer, each with the section it answers for, DATA packets not yet sent and those unanswered, the INSTANT chosen. -/
structure LoadStep where
  stage   : LoadStage := .quiescing
  due     : List (Nat × Nat) := []
  plan    : List LoadMsg := []
  open_   : Nat := 0
  instant : Nat := 0
  deriving DecidableEq, Repr

/-- Image loader (chapter 3). -/
structure Img where
  /-- The image loaded at the last start. -/
  active   : Image := {}
  /-- Sections staged at load targets (R68). -/
  staged   : List Staging := []
  /-- LOAD packets the loader has sent, oldest first. -/
  sent     : List LoadMsg := []
  /-- Targets between their QUIESCE and their COMMIT or ABORT (R79). -/
  quiesced : List Nat := []
  /-- QUIESCE packets whose target has not come to rest yet (R82). -/
  owing    : List LoadMsg := []
  /-- The running partial reconfiguration: its step, deadline and sections by list entry (R80, R81). -/
  step     : Option LoadStep := none
  prEnd    : Nat := 0
  prList   : List (Nat × Nat) := []
  /-- Channels whose output stays undisturbed through the commit just made (R82). -/
  keep     : List Nat := []
  /-- Cells under reload: island and cell (R72). -/
  cells    : List (Nat × Nat) := []
  deriving DecidableEq, Repr

/-- Power states, supplies and resets behind their registers (chapter 5). Times are values of the elapsed clock in ns. -/
structure Pwr where
  /-- The island-0 always-on rail has stayed up since the last shutdown (R122, R607). -/
  railUp     : Bool := false
  /-- A module-scope reset is asserted, its cause, and the power state it was taken in (R608). -/
  inReset    : Bool := false
  cause      : Nat := 1
  takenIn    : Nat := 0
  /-- Detection D and ride-through of the running power-fail sequence (R118, R120). -/
  pfAt       : Option Nat := none
  ride       : Nat := 0
  /-- When LOGIC_BAT last became valid, while it stays so (R109, R121, R122). -/
  validAt    : Option Nat := none
  /-- Running timers of Table 5.4 and R113. -/
  ignWaitEnd : Option Nat := none
  runonEnd   : Option Nat := none
  parkEnd    : Option Nat := none
  /-- REFRESH_MIN as entry into PARKED found it, and the instant from which the next refresh counts (R345). -/
  refreshMin : Nat := 0
  refreshAt  : Nat := 0
  /-- End of the time allowed for the flush of a shutdown (R113). -/
  flushEnd   : Option Nat := none
  /-- RUN has ceased for a shutdown: every field channel is off (R113, R193). -/
  ceased     : Bool := false
  /-- State that a shutdown under way leads to. -/
  target     : Nat := 1
  /-- PWR_CTRL.REQ asked for the pending shutdown: its run-on is 0 (R112). -/
  byReq      : Bool := false
  /-- Wake pending while LOGIC_BAT was away: its bit number (Table 5.4). -/
  wake       : Option Nat := none
  /-- RESET_IN is held low (R126). -/
  resetLow   : Bool := false
  deriving DecidableEq, Repr

/-- What drives a commanded channel (R154 to R158): nothing since the start, an accepted SET, BRAKE or COAST. -/
inductive Drive where
  | none
  | set (value : Int)
  | brake
  | coast
  deriving DecidableEq, Repr

/-- What gives a channel its value: the last accepted command, the fail action or the replay hold value (R157, R158, R171). -/
inductive Force where
  | cmd (d : Drive)
  | safe
  | hold
  deriving DecidableEq, Repr

/-- What the low-side switch of a channel does: off; conducting in the off-time of the running PWM period; conducting (R136, R169, R180, R184). -/
inductive LowSide where
  | off | offTime | on
  deriving DecidableEq, Repr

/-- Protection and command state of a field channel behind its registers (chapter 6). Times are values of the elapsed clock in ns. -/
structure ChanCore where
  /-- The last accepted SET, BRAKE or COAST (R157, R166). -/
  last      : Drive := .none
  /-- The command timeout's deadline while it runs (R157, R158). -/
  deadline  : Option Nat := none
  /-- The timeout was suspended by HOLD (R158). -/
  held      : Bool := false
  /-- The timeout has expired and no command was accepted since (R157, R166). -/
  timedOut  : Bool := false
  /-- Off after a clear until the next accepted command (R150, R186). -/
  awaitCmd  : Bool := false
  /-- Sequence references of the setpoints, key STREAM × 65536 + ORIGIN (R59, R156). -/
  seqRef    : Store := []
  /-- The low-side switch, and whether the high-side active clamp holds the pin at −24 V after a release (R136, R180). -/
  low       : LowSide := .off
  clamped   : Bool := false
  /-- When the output last turned on, and when it last turned off (R145). -/
  onSince   : Option Nat := none
  offSince  : Nat := 0
  /-- Ends of the Geyser window, of the blanking interval and of the off-time of soft action 1 (R145, R147, R148). -/
  geyserEnd : Option Nat := none
  blankEnd  : Option Nat := none
  softEnd   : Option Nat := none
  /-- Start of the limit-time count (R144). -/
  limStart  : Option Nat := none
  /-- Consecutive periods with a soft event (R148). -/
  softRun   : Nat := 0
  /-- A soft event acted in the running PWM period. -/
  softSeen  : Bool := false
  /-- A limiter or a soft action cut the period in force (R174). -/
  cut       : Bool := false
  /-- When the limit and hard-short latches were first set: island 0's mirror (R150). -/
  limAt     : Option Nat := none
  hardAt    : Option Nat := none
  /-- The last limit-time trip (R185). -/
  limTrip   : Option Nat := none
  /-- Over-temperature events of the last 60 s, newest first, and the time of the last one (R151). -/
  therm     : List Nat := []
  /-- In limit at some time of the running measurement interval (R161). -/
  limSeen   : Bool := false
  /-- Voltage and peak current of the last completed interval, not yet latched (R162). -/
  measV     : Nat := 0
  measPeak  : Int := 0
  /-- SEQ of the last completed interval; none before the first of a start (R162). -/
  measSeq   : Option Nat := none
  /-- Start of the running measurement interval (R160, R161). -/
  measAt    : Nat := 0
  /-- Bits of FC_CH_STATUS whose EVENTs wait for the end of a reset, oldest first (R167). -/
  late      : List Nat := []
  /-- Derating in force on the duty limit and on the soft threshold, in 1/256 (R565, R567). -/
  derFrac   : Nat := 256
  derSoft   : Nat := 256
  deriving DecidableEq, Repr

/-- Modulated drive state of a channel (chapter 7). -/
structure ChanDrive where
  /-- On-carry and off-carry in cell clocks (R170). -/
  cOn      : Nat := 0
  cOff     : Nat := 0
  /-- Period sequence; the dither count that stood at PSEQ `dithBase`, and the length 2H it runs over (R171, R175). -/
  pseq     : Nat := 0
  dither   : Nat := 0
  dithBase : Nat := 0
  dithLen  : Nat := 0
  /-- Start of the running period; what governs it; what was committed since, oldest first; class S fields written since: time, field, value before (R171). -/
  start    : Nat := 0
  eff      : Force := .cmd .none
  commits  : List (Nat × Force) := []
  writes   : List (Nat × Nat × Nat) := []
  /-- Sign of the running period of a bridge, and when the leg of a changed sign turns high (R184). -/
  dir      : Int := 0
  turnAt   : Option Nat := none
  /-- Integrator of the current loop and mean current of the previous period (R173). -/
  integ    : Int := 0
  meanPrev : Int := 0
  /-- Duty cap of a bridge, in 1/32,767 (R177). -/
  cap      : Nat := 32767
  /-- The period in force: on-time and its marks SUP_ON, SUP_OFF, CAPPED, SAT (R172). -/
  onTime   : Nat := 0
  supOn    : Bool := false
  supOff   : Bool := false
  capped   : Bool := false
  sat      : Bool := false
  /-- PSEQ and mean current of the last completed period, not yet latched (R171). -/
  echoSeq  : Nat := 0
  echoI    : Int := 0
  /-- Echo entries of the running batch, as bytes (R172). -/
  batch    : List Nat := []
  batchAt  : Nat := 0
  /-- Sums of squares of the last 64 slots in mA², newest first (R176). -/
  slots    : List Nat := List.replicate 64 0
  /-- Actuation start, highest current and result marks of the running actuation (R178 to R182). -/
  actStart : Option Nat := none
  peakMax  : Int := 0
  noBoost  : Bool := false
  waited   : Bool := false
  deferred : Bool := false
  /-- Mean pin voltages of the periods of PEAK, newest first, with the start of each (R181). -/
  volts    : List (Nat × Nat) := []
  kinkAt   : Option Nat := none
  /-- An actuation deferred by the duty window (R177). -/
  defer    : Bool := false
  /-- Actuation count (R182). -/
  actSeq   : Nat := 0
  /-- A release waits for the next boundary: when it was accepted, and the phase it ended (R180). -/
  releasing : Option (Nat × Nat) := none
  /-- When the queued actuation was asked for (R179). -/
  askAt    : Nat := 0
  /-- Deadlines of BOOST_WAIT and of BOOST_MAX or PEAK_MS (R178, R179). -/
  waitEnd  : Option Nat := none
  phaseEnd : Option Nat := none
  /-- A release decays towards 50 mA (R180). -/
  decaying : Bool := false
  deriving DecidableEq, Repr

/-- Control net state of a load switch (chapter 8). -/
structure ChanNet where
  /-- Source level last delivered, and whether the source is available (R188, R192). -/
  level    : Bool := false
  avail    : Bool := false
  /-- Levels on their way: instant of application (module time, ns), level, unsettled (R190). -/
  queue    : List (Nat × Bool × Bool) := []
  /-- When the net last changed (R191). -/
  edgeAt   : Option Nat := none
  /-- Output when FREEZE was set, when the cell stopped, and when a reset of the cell or island asserted (R193 rows 9, 10, 5). -/
  frozen   : Bool := false
  stopped  : Bool := false
  atReset  : Bool := false
  /-- Last write of NET_BIT or FORCE (R196). -/
  writeAt  : Nat := 0
  /-- Energy in mJ of the clamped turn-off that the running command brings, where the command names it (R199). -/
  clamp    : Option (Option Nat) := none
  deriving DecidableEq, Repr

/-- Input function state of a channel (chapters 9 and 10). -/
structure ChanIn where
  /-- Last sample above the over-voltage level (R207). -/
  ovAt     : Option Nat := none
  /-- Last state packet, and the module time of the tick at which the reported values came into being (R206). -/
  sentAt   : Nat := 0
  bornAt   : Nat := 0
  /-- Start of the running interval of an analog or frequency input (R219, R224), and the last filter tick of a digital input (R204). -/
  intAt    : Nat := 0
  tickAt   : Nat := 0
  /-- Status word of the last completed analog interval, not yet latched (R222). -/
  ainStat  : Nat := 0
  /-- The shunt stood open at some time of the running interval (R220). -/
  short    : Bool := false
  /-- I20 shunt: when it opened (R220). -/
  shuntAt  : Option Nat := none
  /-- Frequency input (R223, R224): the last two counted edges and the last one before the running interval in 10 ns, counted edges of the running interval and since START, the last value in mHz. -/
  edgeAt   : Option Nat := none
  prevAt   : Option Nat := none
  e0       : Option Nat := none
  edges    : Nat := 0
  total    : Nat := 0
  fPrev    : Nat := 0
  /-- Encoder: levels of both phases, position, direction, and marks of the running interval. -/
  levelA   : Bool := false
  levelB   : Bool := false
  position : Int := 0
  dirUp    : Bool := false
  glitch   : Bool := false
  quadErr  : Bool := false
  /-- Position and status of the last completed interval, not yet latched. -/
  finPos   : Nat := 0
  finStat  : Nat := 0
  deriving DecidableEq, Repr

/-- One field channel. -/
structure Chan where
  core : ChanCore := {}
  drv  : ChanDrive := {}
  net  : ChanNet := {}
  inp  : ChanIn := {}
  deriving DecidableEq, Repr

/-- Where a cell stands (R78, R82, R167). -/
inductive CellRun where
  | stopped | running | quiesced | inReset | heldOff
  deriving DecidableEq, Repr

/-- One field cell. -/
structure Cell where
  run     : CellRun := .stopped
  /-- Stopped by FC_CELL_CTRL.STOP (R82, R194). -/
  byStop  : Bool := false
  /-- 10 ms means of the last 100 intervals in 10 mA, newest first (R153). -/
  hist    : List Nat := []
  /-- The same means as island 0 received them, 0 where it received none (R153). -/
  means   : List Nat := []
  /-- Shed level of the cell scope and when it last rose (R153). -/
  level   : Nat := 0
  shedAt  : Option Nat := none
  /-- Units queued for the boost reservoir, first in first, and the unit in BOOST (R179). -/
  queue   : List Nat := []
  boost   : Option Nat := none
  /-- Since when the charger has run, and whether the stud's voltage stops it (R141). -/
  charge  : Option Nat := none
  noCharge : Bool := false
  /-- FREEZE as mirrored in island 0 (R195). -/
  freeze  : Bool := false
  /-- Resets of the cell within the last 60 s. -/
  resets  : List Nat := []
  deriving DecidableEq, Repr

/-- Shedding state of a stud or of the module (R153). -/
structure Scope where
  shedAt   : Option Nat := none
  /-- The stud, or for the module's own entry every supply, is reversed (R164). -/
  reversed : Bool := false
  deriving DecidableEq, Repr

/-- What a state SAMPLE of a pair channel said (R213); `stamp` is its STAMP as module time in ns, `at_` its arrival. -/
structure PairSample where
  state     : Bool := false
  unsettled : Bool := true
  bad       : Bool := false
  delivered : Bool := false
  stamp     : Nat := 0
  at_       : Nat := 0
  deriving DecidableEq, Repr

/-- One channel of a pair: its last samples since the stream's last start, newest first; a check looks back 50 µs, in which no more than eight can arrive (R212). -/
structure PairChan where
  hist : List PairSample := []
  deriving DecidableEq, Repr

/-- A dual-channel pair (R212 to R216). -/
structure Pair where
  a        : PairChan := {}
  b        : PairChan := {}
  /-- Module time at which the running disagreement began. -/
  since    : Nat := 0
  /-- A disagreement that had reached TDISC ended before a check found it: the next check faults (R214). -/
  overdue  : Bool := false
  /-- Last output sample sent, elapsed time. -/
  sentAt   : Nat := 0
  /-- Consumers have received no sample for 30 ms and treat the output as SAFE (R215). -/
  silent   : Bool := true
  deriving DecidableEq, Repr

/-- One event input of island 4 (R217, R464). -/
structure EvtIn where
  /-- Module time of the comparator transition that began the present run. -/
  runAt   : Nat := 0
  /-- Last verdict of the comparator: 0, 1, or 2 NONE. -/
  cmp     : Nat := 2
  /-- Captured stamp of the last change of STATE. -/
  capNs   : Nat := 0
  /-- Last filter tick. -/
  tickAt  : Nat := 0
  deriving DecidableEq, Repr

/-- A request held for the next boundary: source, set, clear and confirm bits, cause (R96). -/
structure ModeReq where
  source : Nat
  set    : Nat := 0
  clr    : Nat := 0
  conf   : Nat := 0
  cause  : Nat := 1
  deriving DecidableEq, Repr

/-- A running or held jog with the command state its channel had before it (R91). -/
structure JogRun where
  ch      : Nat
  at_     : Nat
  held    : Bool := false
  shadow  : Bool := false
  last    : Drive := .none
  failAct : Bool := false
  hold    : Bool := false
  timedOut : Bool := false
  awaitCmd : Bool := false
  deriving DecidableEq, Repr

/-- The mode manager and its front end behind their registers (chapter 4). -/
structure Mode where
  policy    : ModePolicy := {}
  facts     : ModeFacts := {}
  /-- Requests since the last boundary; the word is restored and modes act (R85, R96, R105). -/
  reqs      : List ModeReq := []
  live      : Bool := false
  /-- Requested part of DEGRADED (R97). -/
  degReq    : Bool := false
  /-- Condition part of DEGRADED at the last boundary (R97). -/
  degCond   : Bool := false
  /-- Per mode: when it entered its state, the confirmation it still owes (0 none, 2 operator, 3 supervisor), and the source that confirmed it with the instant. -/
  entered   : List Nat := List.replicate 12 0
  need      : List Nat := List.replicate 12 0
  confirmed : List (Option (Nat × Nat)) := List.replicate 12 none
  /-- Actions withheld now, and strongest code collected since each began to be withheld: key mode × 8 + action (R102, R103). -/
  supp      : Store := []
  episode   : Store := []
  /-- Actions that resume at the next G3 frame (Table 4.4, A). -/
  resuming  : List Nat := []
  /-- Deadline of the supervisor's heartbeat (R90). -/
  hbEnd     : Option Nat := none
  jogs      : List JogRun := []
  /-- A jog has arrived while DRIVERLESS was set and SERVICE has not ended (Table 4.5). -/
  jogged    : Bool := false
  /-- A controlled stop is under way; since when on elapsed time, and the MF27 setpoint it ramps down from, as the solver last sent it (R89). -/
  stopping  : Bool := false
  stopAt    : Nat := 0
  stopFrom  : Int := 0
  /-- Running step of the sequences of HEADLAND and UNLOAD, the first one 0 (R100). -/
  steps     : List Nat := [0, 0]
  /-- Word, SEQ and requested part of DEGRADED in backup SRAM; none while invalid (R104). -/
  bak       : Option (Nat × Nat × Bool) := none
  deriving DecidableEq, Repr

/-- One position of a Tarn chain in the sweep in progress (chapter 10). -/
structure HeadEntry where
  /-- Sample frame, 16 bytes; empty when none arrived. -/
  frame   : List Nat := []
  /-- REASON of the position (Table 10.15), whether it was polled again, and whether the far end polled it. -/
  reason  : Nat := 6
  retried : Bool := false
  far     : Bool := false
  deriving DecidableEq, Repr

/-- What a Tarn port is doing on the wire. -/
inductive TarnStage where
  | idle
  /-- The result of the sweep before has not left: the polls wait (R240). -/
  | waiting
  /-- Polling: positions from the near end and, in SPLIT, from the far end; `none` when an end is done. -/
  | polling
  /-- A probe for one more head of a linear chain (R237), or the heal probe of a ring (R243). -/
  | probing
  | healing
  /-- Enumerating from the near end, then in a ring from the far end (R236). -/
  | enumNear
  | enumFar
  deriving DecidableEq, Repr

/-- One Tarn port behind its registers. -/
structure TarnPort where
  /-- START arrived: a result is sent at each sweep instant (R241). -/
  started  : Bool := false
  /-- What the port does on the wire (R235 to R243). -/
  stage    : TarnStage := .idle
  /-- SYNC_SEQ of the sweep in progress, and its t_k as a Leust stamp. -/
  syncSeq  : Nat := 0
  tk       : Nat := 0
  /-- Elapsed time at which its SYNC began. -/
  syncAt   : Nat := 0
  /-- State that the port enters at the next sweep instant (Table 10.12). -/
  goes     : Option Nat := none
  /-- Position polled next from the near end and from the far end; 0 when that end is done. -/
  near     : Nat := 0
  far      : Nat := 0
  nearTry  : Nat := 0
  farTry   : Nat := 0
  /-- Time since the SYNC began in µs, at each end. -/
  nearUs   : Nat := 0
  farUs    : Nat := 0
  /-- The entries of the 32 positions in this sweep (R239, R245). -/
  entries  : List HeadEntry := List.replicate 32 {}
  /-- An ABSENT position was found in this sweep; a heal probe was answered in it. -/
  broke    : Bool := false
  healed   : Bool := false
  /-- Heads whose type does not match the chain description (R236). -/
  wrong    : List Nat := []
  /-- CONFIG frames still to send, and whether the first was already retried (R235). -/
  configs  : List Nat := []
  cfgTried : Bool := false
  /-- STOP or QUIESCE waits for the end of the sweep; by which. -/
  stopping : Bool := false
  byStop   : Bool := false
  /-- The chain description or a head configuration changed, or REENUM was written (Table 10.12). -/
  changed  : Bool := false
  reenum   : Bool := false
  /-- End of POWERING, and of the 1 s after a power fault. -/
  pwrEnd   : Option Nat := none
  retryEnd : Option Nat := none
  /-- Power faults of the last 60 s, newest first (R230). -/
  faults   : List Nat := []
  /-- A loss-head calibration run accumulates, and since when (R247). -/
  calAt    : Option Nat := none
  /-- Values of K in use while candidates of a loss-head run stand in TARN_LOSS_CAL, by position (R247). -/
  kHeld    : Store := []
  /-- Duration and CONF of the last closed sweep, not yet latched (R244). -/
  lastUs   : Nat := 0
  lastConf : Nat := 0
  /-- Last frame of each position, not yet latched (R245). -/
  frames   : List (List Nat) := List.replicate 32 []
  deriving DecidableEq, Repr

/-- A signal of the loop engine (R254): the value is raw / 2^f. -/
structure Sig where
  raw    : Int := 0
  f      : Nat := 0
  conf   : Nat := 0
  valid  : Bool := false
  stale  : Bool := true
  masked : Bool := false
  replay : Bool := false
  deriving DecidableEq, Repr

/-- One block of the loop engine behind its header, wiring and parameter words (R249 to R266). -/
structure LoopInst where
  id    : Nat
  /-- Outputs committed by the last completed frame of its group, and by the one before it. -/
  y0    : Sig := {}
  y1    : Sig := {}
  p0    : Sig := {}
  p1    : Sig := {}
  /-- FSEQ of those two frames. -/
  fseq  : Nat := 0
  pseq  : Nat := 0
  /-- State confidence (R258). -/
  sc    : Nat := 0
  /-- Initialise at step 3 of the next frame; the first usable inputs are still awaited (R259). -/
  init  : Bool := true
  first : Bool := false
  /-- Block state, as the block's row lists it, and the samples of DELAY. -/
  st    : List Int := []
  hist  : List Sig := []
  /-- IN port: packets since the previous latch, SEQ of the last one, packets still to pass over, latches without a packet, a packet was taken, and when the last one was (R261). -/
  slot  : List Packet := []
  lastSeq : Option Nat := none
  pass  : Nat := 0
  age   : Nat := 0
  seen  : Bool := false
  takenAt : Nat := 0
  deriving DecidableEq, Repr

/-- One rate group (R250 to R253). -/
structure LoopGroup where
  /-- Start of its last frame in module time and in elapsed time, and completion of that frame in elapsed time. -/
  startM  : Option Nat := none
  startE  : Nat := 0
  doneAt  : Nat := 0
  /-- Completed frames since START. -/
  frames  : Nat := 0
  /-- The next frame is skipped. -/
  skip    : Bool := false
  /-- Module time stepped since the last frame (R253). -/
  realign : Bool := false
  /-- Overruns of the last 64 frame starts, newest first (R252). -/
  history : List Bool := []
  /-- Graph enables the group has applied, bit by graph. -/
  runs    : Nat := 0
  deriving DecidableEq, Repr

/-- The loop engine (chapter 11). -/
structure Loop where
  insts  : List LoopInst := []
  groups : List LoopGroup := List.replicate 4 {}
  /-- Modes that are ACTING in the last mode state published to the engine, bit by mode (MODEBIT). -/
  modes  : Nat := 0
  /-- The last stop came from LE_CTRL.STOP. -/
  byStop : Bool := false
  deriving DecidableEq, Repr

/-- An input slot of the setting solver (R274). -/
structure SolSlot where
  sig     : Sig := { stale := false }
  slot    : List Packet := []
  lastSeq : Option Nat := none
  pass    : Nat := 0
  age     : Nat := 0
  seen    : Bool := false
  deriving DecidableEq, Repr

/-- What one cycle latched: CUR of each variable, the feed rate and each measure, each with whether it was usable; the last usable value stands where it was not. -/
structure SolLatch where
  cur  : List (Int × Bool) := []
  q    : Sig × Bool := ({}, false)
  meas : List (Int × Bool) := []
  deriving DecidableEq, Repr

/-- Measure m: held value, the confidence of its input as it fades, and the estimator as binary64 patterns (R279, R288). -/
structure SolMeas where
  y     : Int := 0
  conf  : Nat := 0
  theta : List Nat := []
  cov   : List Nat := []
  cEst  : Nat := 0
  deriving DecidableEq, Repr

/-- A result of the solver (Table 12.4), as the registers show it. -/
structure SolResult where
  status : Nat := 0
  flags  : Nat := 0
  iter   : Nat := 0
  rank   : Nat := 0
  conf   : Nat := 0
  rseq   : Nat := 0
  time   : Nat := 0
  active : Nat := 0
  violated : Nat := 0
  row    : Nat := 0
  viol   : Nat := 0
  x      : List Int := List.replicate 32 0
  deriving DecidableEq, Repr

/-- The setting solver (chapter 12). -/
structure Solver where
  slots   : List SolSlot := List.replicate 64 {}
  problem : SolProblem := {}
  meas    : List SolMeas := List.replicate 8 {}
  /-- The live estimators while REPLAY acts (R291). -/
  live    : Option (List SolMeas) := none
  /-- Latched inputs of the last cycles, newest first. -/
  hist    : List SolLatch := []
  /-- Next cycle is a cold start; HARVEST and REPLAY acted at the last boundary. -/
  cold    : Bool := true
  harvest : Bool := false
  replay  : Bool := false
  /-- The last stop came from SOL_CTRL.STOP; a stop waits for the end of the cycle (R298); RSEQ of the next result. -/
  byStop  : Bool := false
  stopping : Bool := false
  rseq    : Nat := 0
  /-- Values last sent and the fixing that held each, raw in FMT. -/
  sent    : List Int := List.replicate 32 0
  /-- Start of the last cycle in module time and elapsed time; module time stepped since. -/
  startM  : Option Nat := none
  startE  : Nat := 0
  realign : Bool := false
  /-- The cycle in progress: box of each variable, fixed and held variables, flags of byte 5, REPLAY of its inputs. -/
  lo      : List Int := []
  hi      : List Int := []
  fixed   : Nat := 0
  heldVars : Nat := 0
  flags   : Nat := 0
  replayIn : Bool := false
  /-- Anchors p of the cycle in progress, raw; the final working set of the last completed solve: each variable's bound (0 none, 1 lower, 2 upper) and the rows (R275, R285). -/
  anchor  : List Int := []
  work    : List Nat := []
  workRows : List Nat := []
  /-- Last usable ROW_B input of each row (R281). -/
  rowB    : List (Option Int) := List.replicate 96 none
  /-- Feed-forward ratios with their confidences, the latched feed rate, and the feed, speed and width of the present density (R282). -/
  rMap    : Sig := {}
  rH      : Sig := {}
  feed    : Sig := {}
  density : Sig × Sig × Nat := ({}, {}, 0)
  /-- Discrete states at the last cycle: MF08, MF12, MF21, MF23 (R291). -/
  discrete : List Nat := [0, 0, 0, 0]
  /-- Value of MF29 when MF21 started, raw (Table 12.2). -/
  mf29    : Int := 0
  /-- Cycles and estimator resets since the last checkpoint. -/
  sinceCp : Nat := 0
  resetCp : Bool := false
  /-- The last completed result, and the skipped result that waits for the buffer (R297). -/
  last    : SolResult := {}
  waiting : Option Packet := none
  deriving DecidableEq, Repr

/-- A sample in the alignment buffer: input, end in module time (ns), packet (R301). -/
structure FusSample where
  input : Nat
  fin   : Nat
  pkt   : Packet
  deriving DecidableEq, Repr

/-- A fusion input: end of its last accepted sample, and module time of its last usable one (R303, R312). -/
structure FusIn where
  lastEnd  : Option Nat := none
  usableAt : Nat := 0
  deriving DecidableEq, Repr

/-- The fusion engine (chapter 13). -/
structure Fusion where
  ins      : List FusIn := List.replicate 16 {}
  buf      : List FusSample := []
  /-- Oldest open epoch's instant and number of open epochs; last boundary reached; instant of the last closed epoch. -/
  firstOpen : Nat := 0
  nOpen    : Nat := 0
  lastB    : Option Nat := none
  closed   : Option Nat := none
  /-- EPOCH_SEQ of the next state published. -/
  seq      : Nat := 0
  /-- The filter's states and covariance, as binary64 patterns (R308). -/
  filter   : List Nat := []
  /-- Bytes of the last published state, its CONF, and whether any was published. -/
  last     : List Nat := List.replicate 80 0
  conf     : Nat := 0
  replay   : Bool := false
  /-- End of the last PVT applied, RTK fixed in it, last usable PVT in module time, PVT speed of 1.0 m/s or more since, CONF_POS 0 since. -/
  pvtAt    : Option Nat := none
  rtk      : Bool := false
  pvtUse   : Option Nat := none
  fastSince : Option Nat := none
  zeroSince : Option Nat := none
  /-- Module time of the last usable inertial sample (R309). -/
  inertAt  : Nat := 0
  /-- The last stop came from FUS_CTRL.STOP. -/
  byStop   : Bool := false
  deriving DecidableEq, Repr

/-- A tracking channel behind its registers: when its state began, a second PULL_IN of one detection, when its lock began (R325). -/
structure GnsChan where
  since  : Nat := 0
  second : Bool := false
  lockAt : Nat := 0
  /-- Excluded: passing every check since (R343). -/
  passAt : Option Nat := none
  /-- Search space of the assignment: U_c in chips, N_c, U_f in mHz, N_f (R327). -/
  codeU  : Nat := 0
  codeN  : Nat := 0
  dopU   : Nat := 0
  dopN   : Nat := 0
  deriving DecidableEq, Repr

/-- A hot-start copy (R346). -/
structure HotCopy where
  valid   : Bool := false
  seq     : Nat := 0
  /-- Module time of the last fix in it and 3σ of that fix in mm. -/
  fixAt   : Option Nat := none
  sigma3  : Nat := 0
  /-- Satellites with an ephemeris: system × 256 + number, and module time until which it is valid; end of validity of the almanac. -/
  ephs    : List (Nat × Nat) := []
  alm     : Nat := 0
  leap    : Option Nat := none
  deriving DecidableEq, Repr

/-- A pulse output: last whole second pulsed, end of the running pulse in elapsed time, delay and width in use and the time of their last write (R348, R350). -/
structure Pps where
  lastSec : Option Nat := none
  fin     : Nat := 0
  /-- Offset of the last edge against its second in ns. -/
  edge    : Int := 0
  /-- Delay and width in use, and when they were last written (R350). -/
  delay   : Int := 0
  width   : Nat := 100
  writeAt : Nat := 0
  deriving DecidableEq, Repr

/-- The baseband and the pulse outputs (chapter 14). -/
structure Gnss where
  chans   : List GnsChan := List.replicate 384 {}
  /-- Candidates that wait for their 10 s: antenna, signal bit, satellite, end of the wait. -/
  waits   : List (Nat × Nat × Nat × Nat) := []
  /-- Retry of each antenna supply after a short. -/
  retry   : List (Option Nat) := [none, none]
  /-- Sequence numbers of the next measurement epoch and of the next PVT epoch. -/
  measSeq : Nat := 0
  pvtSeq  : Nat := 0
  /-- Previous offset (ps), drift (10⁻¹²) and epoch; none after START and after a solution-level exclusion. -/
  prev    : Option (Int × Int × Nat) := none
  /-- The solution is excluded, and passes every check since. -/
  spoof   : Bool := false
  spoofPass : Option Nat := none
  /-- Last correction formed: offset in ps, drift, module time. -/
  ofs     : Int := 0
  drift   : Int := 0
  ofsAt   : Nat := 0
  /-- RTCM: last observation message of the primary and the secondary stream, station of each, ambiguities discarded since the last PVT. -/
  obsAt   : List (Option Nat) := [none, none]
  station : List Nat := [0xFFFF, 0xFFFF]
  ambig   : Bool := false
  /-- Jammed bands: bit 3a + band. -/
  jammed  : Nat := 0
  /-- The data in use and its two copies. -/
  data    : HotCopy := {}
  copies  : List HotCopy := [{}, {}]
  /-- The refresh of PARKED that runs, since when (R345). -/
  refresh : Option Nat := none
  /-- Bytes of the last PVT and heading sent with their CONF. -/
  pvt     : List Nat := List.replicate 64 0
  pvtConf : Nat := 0
  hdg     : List Nat := List.replicate 24 0
  hdgConf : Nat := 0
  /-- Station of the last PVT's corrections; RTK_LOST_EV was set for the present lack of corrections (R340). -/
  used    : Option Nat := none
  rtkLost : Bool := false
  /-- The baseband started from PARKED or STANDBY, so the machine stood (Table 14.5). -/
  stood   : Bool := false
  /-- The last stop came from GNS_CTRL.STOP. -/
  byStop  : Bool := false
  /-- Boundary of the last measurement epoch and of the last PVT epoch. -/
  measAt  : Option Nat := none
  pvtAt   : Option Nat := none
  /-- PPS_A and PPS_B (R348). -/
  pps     : List Pps := [{}, {}]
  /-- Predicted error of the next edge of PPS_A in the last report, and its second (R349). -/
  report  : Int := 0
  reportSec : Nat := 0
  deriving DecidableEq, Repr

/-- A fused state or a convoy solution on its way to island 2: its bytes (of a solution its CONF after them), epoch in module time, REPLAY, and the elapsed time at which it arrives (R20, R27). -/
structure FusedIn where
  data    : List Nat
  at_     : Nat
  replay  : Bool := false
  arrives : Nat
  deriving DecidableEq, Repr

/-- The path follower and the spout stage behind their registers (chapter 15). Angles in 10⁻⁹ rad. -/
structure Steer where
  /-- The last fused state that reached island 2: its bytes, STAMP in module time, CONF and REPLAY; and the last usable one (R356, R357). -/
  fused    : List Nat := []
  fusedAt  : Nat := 0
  replay   : Bool := false
  usable   : List Nat := []
  usableAt : Nat := 0
  /-- Fused states on their way to island 2 or arrived since the last frame, oldest first (R27). -/
  coming   : List FusedIn := []
  /-- Convoy solutions on their way to island 2 and the last that is there; the last usable one with its epoch and CONF (R373). -/
  cvy      : List FusedIn := []
  good     : List Nat := []
  goodAt   : Nat := 0
  goodConf : Nat := 0
  /-- A full closest-point search is ordered (R358). -/
  refind   : Bool := true
  /-- Previous δ_cmd, and whether G2 tracking goes on. -/
  delta    : Int := 0
  tracking : Bool := false
  /-- The follower passed the last point of a path without LINK (R355). -/
  passed   : Bool := false
  /-- Deadlines of ENG_WAIT_S and GRACE_MS in elapsed time (R360). -/
  engEnd   : Option Nat := none
  graceEnd : Option Nat := none
  /-- Fused state declared unusable to the mode manager (R362). -/
  declared : Bool := false
  /-- Override input: latest value, value at the last frame, and frames in a row at or above THR (R361). -/
  ovrNow   : Option Int := none
  ovrLast  : Option Int := none
  ovrRun   : Nat := 0
  /-- G2 frames since the feedback stream delivered a packet, and the angle it carries in 10⁻⁴ rad. -/
  fbAge    : Nat := 0
  fbAngle  : Option Int := none
  /-- The closest point carries TURN; OUT_LOST stood at the last frame. -/
  turn     : Bool := false
  outLost  : Bool := false
  /-- e_y in mm, e_ψ and δ_cmd in 10⁻⁴ rad and frame of the last frame (STR_ERR). -/
  eyMm     : Int := 0
  epsi     : Int := 0
  deltaOut : Int := 0
  fseq     : Nat := 0
  deriving DecidableEq, Repr

/-- The convoy solver behind its registers (chapter 15). -/
structure Convoy where
  cseq     : Nat := 0
  /-- Own epochs that wait for the partner's, in module time (R368). -/
  waiting  : List Nat := []
  /-- The partner's latest epoch, when LOSS_MS began to run, and the partner's identifier. -/
  partner  : Option Nat := none
  heardAt  : Nat := 0
  peer     : Option Nat := none
  /-- Carrier ambiguities are resolved or being resolved (R369). -/
  ambig    : Bool := false
  /-- The partner's heading and when it came (class 0x03). -/
  hdg      : Option (Nat × Nat) := none
  /-- Bytes of the last solution sent. -/
  data     : List Nat := List.replicate 48 0
  deriving DecidableEq, Repr

/-- What one step of the yield model recorded (R379, R388): its boundary in module time (ns), the four shaft speeds in 10⁻³ min⁻¹, WORK, SECTIONS and the usable torques in 10⁻³ N·m. -/
structure YieldRec where
  t      : Nat
  speeds : List Nat
  work   : Bool
  secs   : Nat
  tl     : Option Nat
  tr     : Option Nat
  deriving DecidableEq, Repr

/-- A cut slice: index, shifted and estimated dry mass in mg, sum of moisture × mass, input confidence, and whether τ was limited when mass was placed (R385 to R387). -/
structure YieldSlice where
  i     : Int
  s     : Nat := 0
  q     : Nat := 0
  wet   : Nat := 0
  conf  : Nat := 255
  range : Bool := false
  deriving DecidableEq, Repr

/-- Mass of a slice that is not placeable, waiting for the next placeable one (R390): slice index, mass in mg, moisture × mass. -/
structure YieldCarry where
  i    : Int
  mass : Nat
  wet  : Nat
  deriving DecidableEq, Repr

/-- One contribution to a cell (Table 16.4). -/
structure Contribution where
  tx   : Int
  ty   : Int
  cell : Nat
  mass : Nat
  moist : Nat
  bits : Nat
  conf : Nat
  fl   : Nat
  pass : Nat
  sec  : Nat
  deriving DecidableEq, Repr

/-- A contribution packet that no acknowledgement covers yet: CSEQ, its packet, its mass in mg (R396). -/
structure YieldPacket where
  cseq : Nat
  pkt  : Packet
  mass : Nat
  deriving DecidableEq, Repr

/-- The running calibration run (Table 16.6). -/
structure YieldCal where
  kind  : Nat := 0
  sum   : Int := 0
  count : Nat := 0
  /-- TRANSPORT: arrived mass per step since the edge, τ and σ at the edge's arrival (µs), sums of the speeds, steps of low flow before the edge, and whether the edge came. -/
  mass  : List Nat := []
  tau   : Nat := 0
  sigma : Nat := 0
  speeds : List Nat := [0, 0, 0, 0]
  low   : Nat := 0
  edge  : Bool := false
  mean  : Nat := 0
  replay : Bool := false
  refs  : List Nat := []
  deriving DecidableEq, Repr

/-- The model stage behind its registers (chapter 16). Times of the model in µs, masses in mg. -/
structure Yield where
  /-- Input slots of the model stage, by role (Table 16.1). -/
  slots   : List SolSlot := List.replicate 16 {}
  /-- What the steps of the last 64 s recorded, newest first; sweeps of the loss heads and fused states by instant; the last usable moisture (R379 to R384). -/
  recs    : List YieldRec := []
  sweeps  : List (Nat × List (Option Int)) := []
  fused   : List (Nat × List Nat) := []
  moist   : Option Nat := none
  /-- Samples that arrived before the step to which they belong (R379). -/
  early   : List (Fin 16 × Packet) := []
  /-- Steps since each SPEED was usable. -/
  stale   : List Nat := [0, 0, 0, 0]
  /-- Cumulative mass arrived and mass assigned, the cut slices that are not final, and the newest slice (R385 to R388). -/
  a       : Nat := 0
  f       : Nat := 0
  /-- The last final slices with their mass, newest first: they enter the deconvolution of the window after them (R386). -/
  finals  : List (Int × Nat) := []
  slices  : List YieldSlice := []
  newest  : Option Int := none
  /-- τ′ and σ′: the last values computed with c_tm above 0. -/
  good    : Option (Nat × Nat) := none
  /-- Transport delay and spread in use, and the header-to-cylinder delay, in µs. -/
  tau     : Nat := 0
  sigma   : Nat := 0
  tauHf   : Nat := 0
  /-- Start of the last step; end of DRAINING (R402). -/
  stepAt  : Option Nat := none
  drainEnd : Option Nat := none
  /-- CSEQ of the next contribution, the backlog, mass that waits for a placeable slice, mass not placed and packets dropped (R390, R396). -/
  cseq    : Nat := 0
  backlog : List YieldPacket := []
  carry   : List YieldCarry := []
  unplaced : Nat := 0
  dropped : Nat := 0
  /-- WORK at the last step, and steps since it ended. -/
  workWas : Bool := false
  workOff : Nat := 0
  /-- The running calibration run; the last stop came from YLD_CTRL.STOP. -/
  cal     : YieldCal := {}
  byStop  : Bool := false
  deriving DecidableEq, Repr

/-- A cell record (Table 16.3). -/
structure CellRec where
  mass  : Nat := 0
  moist : Nat := 0
  cover : Nat := 0
  conf  : Nat := 0
  fl    : Nat := 0
  pass  : Nat := 0
  sec   : Nat := 0
  count : Nat := 0
  deriving DecidableEq, Repr

/-- A cached tile: layer 0 own, 1 to 8 fleet; its cells by index, rows changed since their last write, cells changed since the last delta (R397, R399). -/
structure Tile where
  layer : Nat
  tx    : Int
  ty    : Int
  cells : List (Nat × CellRec) := []
  dirty : List Nat := []
  delta : List Nat := []
  wrote : Nat := 0
  deriving DecidableEq, Repr

/-- A stored tile part: season, layer, tile, part number, generation and bytes (R425). -/
structure TilePart where
  season : Nat
  layer  : Nat
  tx     : Int
  ty     : Int
  part   : Nat
  gen    : Nat := 0
  bytes  : List Nat := []
  deriving DecidableEq, Repr

/-- The tile engine behind its registers (chapter 16). -/
structure TileEng where
  tiles   : List Tile := []
  /-- Contributions that wait for a tile's read-back, in order, with their CSEQ, and since when each tile is read back. -/
  queue   : List (Nat × Contribution) := []
  reading : List (Int × Int × Nat) := []
  /-- Highest CSEQ applied; the model stage's status SAMPLEs and the fused states on their way to the engine, with the last that is there (R398). -/
  applied : Option Nat := none
  status  : List FusedIn := []
  fused   : List FusedIn := []
  /-- The CSEQ to acknowledge once the staged tile parts are written (R396). -/
  ackDue  : Option Nat := none
  /-- Unit identifiers of the fleet senders of the season, slot 1 first, and the last DSEQ applied per slot and tile. -/
  senders : List Nat := []
  dseqs   : List (Nat × Int × Int × Nat) := []
  /-- DSEQ of the next delta of a tile (R399). -/
  sent    : List (Int × Int × Nat) := []
  /-- Last flush, last delta and last step (R397, R399). -/
  flushAt : Nat := 0
  deltaAt : Nat := 0
  stepAt  : Option Nat := none
  /-- The lookup's record, and whether it waits for a tile. -/
  lookup  : List Nat := List.replicate 16 0
  /-- Yield ahead in the last lookup; the last stop came from YLD_T_CTRL.STOP. -/
  yAhead  : Nat := 0
  byStop  : Bool := false
  /-- The store's tile parts, newest copy (R425). -/
  stored  : List TilePart := []
  deriving DecidableEq, Repr

/-- The open block of a tier: record bytes so far, the offset of the first record that starts in it, whether it opens with the rest of a record, and when its first record arrived (R412, R413). -/
structure OpenBlk where
  data  : List Nat := []
  first : Option Nat := none
  cont  : Bool := false
  since : Nat := 0
  deriving DecidableEq, Repr

/-- A closed block: tier, BSEQ, its 4,096 bytes, close time in module time, arrival of its first record in elapsed time, drives that hold a copy, and drives still owed one (R412, R415). -/
structure StBlk where
  tier  : Nat
  bseq  : Nat
  bytes : List Nat
  close : Nat
  since : Nat
  done  : List Nat := []
  deriving DecidableEq, Repr

/-- A live storage tag: drive, queue, entry, the block it writes, when it was submitted, and whether it writes an owed copy; of a read, the request that it serves (R414). -/
structure StCmd where
  drive : Nat
  queue : Nat
  entry : Nat
  tier  : Nat
  bseq  : Nat
  at_   : Nat
  owed  : Bool := false
  req   : Option Packet := none
  deriving DecidableEq, Repr

/-- A drive behind its registers: entries its queues offer, resets of the last 10 min, the stall and the reset that last began, owed copies by tier and BSEQ, and since when its label is awaited (R415, R417, R421). -/
structure StDrive where
  entries : Nat := 1024
  resets  : List Nat := []
  stallAt : Nat := 0
  resetAt : Nat := 0
  owed    : List (Nat × Nat) := []
  scan    : Option Nat := none
  deriving DecidableEq, Repr

/-- Discarded records of a tier since its last GAP record: instants of the first and the last in module time, records, bytes (R419). -/
structure StGap where
  first : Nat := 0
  last  : Nat := 0
  count : Nat := 0
  bytes : Nat := 0
  deriving DecidableEq, Repr

/-- A record as kept for replay: tier, the block that it starts in, its recorded instant in module time (ns) and the packet. -/
structure StRec where
  tier : Nat
  bseq : Nat
  inst : Nat
  p    : Packet
  deriving DecidableEq, Repr

/-- The season store and its replay source behind their registers (chapter 17). -/
structure Sst where
  /-- Δ of the replay source in ns (R426). -/
  delta   : Int := 0
  /-- Streams that the image records, with their tiers (R407). -/
  streams : List StoreStream := []
  /-- Regions of Table 17.4 in MiB: TILES, STAGING, REPLAY, READ. -/
  regions : List Nat := [392, 256, 512, 256]
  /-- Open blocks of the four tiers, and BSEQ of the next block of each (R412). -/
  opened  : List OpenBlk := List.replicate 4 {}
  bseq    : List Nat := List.replicate 4 0
  /-- Closed blocks not yet written, oldest first, and written blocks. -/
  staged  : List StBlk := []
  written : List StBlk := []
  /-- Records as kept for replay. -/
  recs    : List StRec := []
  /-- Tile parts of T0 that no drive holds yet, oldest first (R425). -/
  parts   : List TilePart := []
  /-- Requests whose read waits for a tag of its queue (R414). -/
  reads   : List Packet := []
  /-- Live storage tags (R414). -/
  cmds    : List StCmd := []
  /-- The four drives (R421). -/
  drives  : List StDrive := List.replicate 4 {}
  /-- Records discarded since the last GAP record, by tier (R419). -/
  gaps    : List StGap := List.replicate 4 {}
  /-- Bytes of each tier discarded. -/
  dropped : List Nat := List.replicate 4 0
  /-- Since when the age has stood at SHED_MS or more at level 1, and since when the conditions to leave the level have held (R418). -/
  overAt  : Option Nat := none
  okAt    : Option Nat := none
  /-- Last evaluation of the shedding level, and when mounting began (R418, R421). -/
  evalAt  : Option Nat := none
  mountAt : Nat := 0
  /-- Requests that wait for T0 staging (R418). -/
  waiting : List Packet := []
  /-- When the engine last stopped without writing what it held, in module time (R422). -/
  lostAt  : Option Nat := none
  /-- The last stop came from SST_CTRL.STOP. -/
  byStop  : Bool := false
  /-- Records of the open interval still to play, and when the source paused (R426). -/
  play    : List StRec := []
  pauseAt : Option Nat := none
  deriving DecidableEq, Repr

/-- A received frame in the receive buffer: frame, receive stream index, matching filter, OWN, module time of its start of frame (ns) (R436, R437). -/
structure CanRx where
  frame  : CanFrame
  rxs    : Nat
  filter : Nat
  own    : Bool
  sof    : Nat
  deriving DecidableEq, Repr

/-- A frame of the pending queue: the packet it came in, the attempts made and its arrival in elapsed time (R440, R441). -/
structure CanQ where
  frame : CanFrame
  pkt   : Packet
  tries : Nat := 0
  at_   : Nat := 0
  deriving DecidableEq, Repr

/-- A transmit object (R438, R439): the frame it holds, whether it arrived since the last success, whether it may compete now, attempts made, abandoned until new data, the frame that came while the held one was on the wire, the first packet of its stream and the last end of its period in module time, and since when the held frame may compete in elapsed time. -/
structure CanObj where
  frame : Option CanFrame := none
  fresh : Bool := false
  ready : Bool := false
  tries : Nat := 0
  spent : Bool := false
  next  : Option CanFrame := none
  since : Option Nat := none
  last  : Option Nat := none
  at_   : Nat := 0
  deriving DecidableEq, Repr

/-- A message-bus port behind its registers (chapter 18). -/
structure CanPort where
  rx     : List CanRx := []
  /-- Receive streams that lost a frame since their last packet, and the last drop's EVENT in elapsed time (R437). -/
  lostRx : List Nat := []
  dropAt : Option Nat := none
  /-- The pending queue, oldest first (R440), packets that wait for credit while it is full, and the 32 transmit objects (R438). -/
  queue  : List CanQ := []
  credit : List Packet := []
  objs   : List CanObj := List.replicate 32 {}
  /-- The transmit error counter, which may pass 255 (R447). -/
  tec    : Nat := 0
  /-- Entries into bus-off of the last 60 s, start of the recovery's delay, whether recessive runs are counted and since when, and whether ISOLATED follows (R448). -/
  busoffs : List Nat := []
  recAt  : Option Nat := none
  counting : Bool := false
  countAt : Nat := 0
  isolate : Bool := false
  /-- Start of the basic cycle in module time, the boundary it was due, the reference still to send, RESTART owed, the window open and whether it was used, and the last window start taken in this cycle (R443, R444). -/
  cycle  : Option Nat := none
  due    : Nat := 0
  ref    : Bool := false
  restart : Bool := false
  win    : Option Nat := none
  used   : Bool := false
  winAt  : Option Nat := none
  /-- References missed in a row, and when UNSYNCED began (R445). -/
  misses : Nat := 0
  unsyncAt : Nat := 0
  /-- The last frame sent successfully. -/
  sent   : Option CanFrame := none
  /-- The last stop came from MB_CTRL.STOP. -/
  byStop : Bool := false
  /-- What waits for the end of the frame on the wire: 0 STOP, 1 QUIESCE, 2 ISOLATE (R434). -/
  halt   : Option Nat := none
  deriving DecidableEq, Repr

/-- A learned address: VLAN, address, port, and when it last sent (R456). -/
structure EthMac where
  vid  : Nat
  mac  : Nat
  port : Nat
  seen : Nat
  deriving DecidableEq, Repr

/-- A frame in an egress queue, and whether a gate that closes too soon held it back (R456, R457, R459). -/
structure EthQueued where
  port  : Nat
  queue : Nat
  frame : EthFrame
  held  : Bool := false
  deriving DecidableEq, Repr

/-- A message that the time-sync engine sends (R460 to R462): times in PTP ns. -/
inductive PtpOut where
  | sync (seq : Nat)
  | followUp (seq origin tbi : Nat) (phase : Int)
  | delayReq (seq : Nat)
  | delayResp (seq received : Nat)
  | delayFollowUp (seq sent : Nat)
  | announce (cls accuracy prio1 utcOffset : Nat) (utcValid traceable : Bool)
  deriving DecidableEq, Repr

/-- The Ethernet switch and the time-sync engine behind their registers (chapter 19). -/
structure Eth where
  macs    : List EthMac := []
  egress  : List EthQueued := []
  hostRx  : List (Nat × EthFrame) := []
  /-- Frames of the module that wait for room in an egress queue (R458). -/
  hostTx  : List EthFrame := []
  dropAt  : Option Nat := none
  /-- Start of the running gate entry in module time and its number, per port; cycle start (R459). -/
  gates   : List (Option (Nat × Nat × Nat)) := List.replicate 16 none
  /-- Until when the line of each port is taken, in elapsed time. -/
  busy    : List Nat := List.replicate 17 0
  /-- Frames and gPTP messages sent, by port, oldest first. -/
  sent    : List (Nat × EthFrame) := []
  ptp     : List (Nat × PtpOut) := []
  /-- sequenceId of the next Sync and of the next Pdelay_Req (R460). -/
  syncSeq  : Nat := 0
  delaySeq : Nat := 0
  /-- When Sync, Pdelay_Req and Announce were last sent, in elapsed time. -/
  syncAt   : Option Nat := none
  delayAt  : Option Nat := none
  annAt    : Option Nat := none
  /-- The second whose report the last time-quality frame carried (R463). -/
  tqSec    : Option Nat := none
  /-- timeBaseIndicator and lastGmPhaseChange (R462). -/
  tbi     : Nat := 0
  phase   : Int := 0
  deriving DecidableEq, Repr

/-- An Ehrondost frame, or one fragment of it, as one record carries it: FLAGS, LENGTH of the whole frame and the payload bytes of this record (R469, R470). -/
structure EhrFrame where
  peer    : Nat
  cls     : Nat
  seq     : Nat
  flags   : Nat
  mtime   : Nat
  total   : Nat
  payload : List Nat
  deriving DecidableEq, Repr

/-- An unacknowledged RELIABLE frame (R482): class, SEQUENCE, payload, the packet it came in where one did, sends made, the last of them, and whether it is sent once only (Table 19.8). -/
structure EhrHeld where
  cls     : Nat
  seq     : Nat
  payload : List Nat
  src     : Option Packet := none
  sends   : Nat := 1
  sentAt  : Nat := 0
  deriving DecidableEq, Repr

/-- A frame in reassembly (R470). -/
structure EhrFrag where
  cls   : Nat
  seq   : Nat
  total : Nat
  count : Nat
  parts : List (Nat × List Nat)
  since : Nat
  deriving DecidableEq, Repr

/-- One session behind its registers (R466 to R482). Lists indexed by class hold 8 entries. -/
structure EhrSession where
  hsAt     : Nat := 0
  /-- Flights resent in the running handshake, and when the last was sent. -/
  flight   : Nat := 0
  flightAt : Nat := 0
  /-- Failures in a row and start of the backoff. -/
  fails    : Nat := 0
  backAt   : Nat := 0
  /-- When the last record of the peer came, when the keys were last changed, and records sent under them (R468, R473). -/
  lastRx   : Nat := 0
  keyAt    : Nat := 0
  records  : Nat := 0
  /-- The replay window: the highest record number taken, and those of the 64 up to it (R466). -/
  top      : Option Nat := none
  seen     : List Nat := []
  /-- A new handshake runs beside the session (R468). -/
  renew    : Bool := false
  /-- SEQUENCE of the next frame of each class. -/
  txSeq    : List Nat := List.replicate 8 0
  /-- SEQUENCE of the newest frame delivered (LATEST), and of the next frame in order (RELIABLE). -/
  rxLast   : List (Option Nat) := List.replicate 8 none
  expect   : List Nat := List.replicate 8 0
  /-- Unacknowledged RELIABLE frames; frames that came ahead of a gap; frames in reassembly (R470, R482). -/
  held     : List EhrHeld := []
  ahead    : List (Nat × Nat × List Nat) := []
  frags    : List EhrFrag := []
  /-- REQ_SEQ last taken from the peer: kept across sessions (R474). -/
  reqSeq   : Nat := 0
  deriving DecidableEq, Repr

/-- The Ehrondost endpoint behind its registers (chapter 19). -/
structure Ehr where
  sessions : List EhrSession := List.replicate 16 {}
  /-- Frames sent, oldest first. -/
  out      : List EhrFrame := []
  /-- When the last heartbeat was sent; the last stop came from EHR_CTRL.STOP (R473). -/
  hbAt     : Nat := 0
  byStop   : Bool := false
  /-- RELIABLE payloads that wait for room among the unacknowledged frames: class, payload, packet, and the one peer that it is for (R482). -/
  waiting  : List (Nat × List Nat × Option Packet × Option Nat) := []
  /-- Payloads received in PARKED, delivered at START (Table 19.9). -/
  parked   : List Packet := []
  /-- Entries of the measurement epoch that the endpoint encodes, of the parts that came (R475). -/
  obs      : List (List Nat) := []
  deriving DecidableEq, Repr

/-- A panel port behind its registers (chapter 20): its outputs, entry into its state, LVDS idle in STOPPING, sequence limited by a power-fail, the timing and the VCOM table in force, the frame last sent as panel codes (red, green, blue) by line, frames of the temporal dither, thermistor in range since, last update of the temperature, last start of vertical blanking. -/
structure DspPort where
  /-- Levels of PNL_PWR, BL_EN and the LVDS link, of INV0, INV1 and POL (R488 to R491). -/
  pwr    : Bool := false
  bl     : Bool := false
  lvds   : Bool := false
  inv0   : Bool := false
  inv1   : Bool := false
  pol    : Bool := false
  /-- Entry into the state; LVDS idle in STOPPING; the sequence is cut short by a power-fail (R491, R492). -/
  since  : Nat := 0
  idle   : Bool := false
  short  : Bool := false
  /-- PCLK_KHZ, HACT, HFP, HSYNC, HBP, VACT, VFP, VSYNC, VBP. -/
  timing : List Nat := [77000, 1920, 48, 32, 80, 1200, 3, 6, 26]
  /-- The VCOM table in force: temperature in 0.1 °C and value (R490). -/
  table  : List (Int × Nat) := (List.range 16).map fun (k : Nat) => (80 * Int.ofNat k - 400, 3400)
  /-- The frame last sent, as panel codes (red, green, blue) by line; frames of the temporal dither (R487). -/
  frame  : List (List (Nat × Nat × Nat)) := []
  count  : Nat := 0
  /-- Thermistor within range since; last update of the temperature (R489). -/
  okAt   : Option Nat := none
  tempAt : Nat := 0
  /-- Last start of vertical blanking, or of the link, in elapsed time. -/
  vbAt   : Nat := 0
  /-- When island 0 turns PNL_PWR off after a reset of island 1, the T_REST it mirrors, and when PNL_PWR last went off (R492). -/
  offAt  : Option Nat := none
  restAt : Option Nat := none
  deriving DecidableEq, Repr

/-- The backup domain behind its registers (chapter 21). It keeps its content through every reset of the module. -/
structure Backup where
  /-- UTC seconds since 1980-01-01 00:00:00, and elapsed time at which the RTC entered that second. -/
  secs   : Nat := 0
  secAt  : Nat := 0
  /-- The RTC passed the end of its range. -/
  ended  : Bool := false
  /-- Error bound at the last set in ns, and the second of that set. -/
  bSet   : Nat := 0
  setSec : Nat := 0
  /-- The leap-second count was missing when module time was seeded (R499). -/
  seedGuess : Bool := false
  /-- The leap-second count of the last set from module time (R498). -/
  leap   : Option Nat := none
  /-- Last set from module time and last calibration window, in elapsed time. -/
  autoAt : Nat := 0
  calAt  : Nat := 0
  /-- Alarm EVENTs that wait for island 0 (R502). -/
  events : List Nat := []
  /-- The domain's own power-on reset acted since the last start of the module (R507). -/
  lost   : Bool := true
  /-- When the running request began, and when REQ_MAX_S began to run (R505). -/
  reqAt  : Nat := 0
  maxAt  : Nat := 0
  deriving DecidableEq, Repr

/-- A record of the event recorder in staging (Table 23.2): RSEQ, generation, module time and stamp of the event, code, origin, trigger, flags of byte 25, bytes 26-27, LENGTH, MISSED, payload, snapshot words (a settled word with its VALID bit), when it formed in elapsed time. -/
structure EvrRec where
  rseq   : Nat
  gen    : Nat
  mtime  : Nat
  stamp  : Nat
  code   : Nat
  origin : Nat
  trig   : Nat
  flags  : Nat
  mode   : Nat
  len    : Nat
  missed : Nat
  data   : List Nat
  words  : List (Option (Nat × Bool)) := []
  since  : Nat := 0
  deriving DecidableEq, Repr

/-- The event recorder behind its registers (chapter 23). -/
structure Evr where
  staged   : List EvrRec := []
  /-- Resumed since the start of island 0 (R548), and the packets that wait for it. -/
  live     : Bool := false
  input    : List Packet := []
  /-- When each trigger last formed a record. -/
  formed   : List (Nat × Nat) := []
  /-- MISSED of the next record. -/
  missed   : Nat := 0
  /-- A flush runs (R545); when the freeze began (R550). -/
  flushing : Bool := false
  freezeAt : Nat := 0
  /-- Records of the outstanding APPEND, and when an export failed. -/
  export_  : Nat := 0
  errAt    : Option Nat := none
  /-- Window under load and window shown: bytes, formed records, and words that read POISONED (R551). -/
  loading  : Option (List Nat × Nat × List Nat) := none
  window   : List Nat := []
  bad      : List Nat := []
  deriving DecidableEq, Repr

/-- A re-plan (R564, R566): its number, governor, life used in 1/65,535, hours left, margins in 5 mV, its trigger (0 PARKED, 1 command), boost targets and derating by channel, worn channels and cells. -/
structure HltPlan where
  pseq  : Nat := 0
  gov   : Nat := 0
  used  : Nat := 0
  left  : Nat := 65535
  m     : List Nat := List.replicate 9 0
  trig  : Nat := 0
  boost : List Nat := List.replicate 24 192
  der   : List (Nat × Nat) := []
  worn  : List Nat := []
  wornB : List Nat := []
  deriving DecidableEq, Repr

/-- The health aggregator behind its registers (chapter 24). -/
structure Hlt where
  sampleAt : Nat := 0
  stampAt  : Nat := 0
  streamAt : Nat := 0
  roAt     : Nat := 0
  thermAt  : Nat := 0
  hseq     : Nat := 0
  /-- Minute values by channel, newest first, and boost estimates by cell. -/
  ron      : List (Nat × List Nat) := []
  boost    : List (List Nat) := List.replicate 24 []
  /-- Line writes by 4 KiB page of the retained store, and as last saved (R560). -/
  writes   : Store := []
  saved    : Store := []
  saveAt   : Nat := 0
  /-- Per island: the extreme before the last, the running extreme, rising; dark since the last reading; damage in 2^-40 of rated life (R561). -/
  cycles   : List (Option (Int × Int × Bool)) := List.replicate 9 none
  dark     : Bool := false
  damage   : List Nat := List.replicate 9 0
  /-- The standing plan, and the one being made; a re-plan follows the reserve test; the oscillators are due at an entry into PARKED. -/
  plan     : HltPlan := {}
  /-- The re-plan being made. -/
  next     : Option HltPlan := none
  roDue    : Bool := false
  /-- A reserve test waits for the running re-plan, and the trigger of a queued re-plan. -/
  testDue  : Bool := false
  pendTrig : Nat := 0
  /-- The minute instants of the cells' on-resistances (R559). -/
  ronAt    : List Nat := List.replicate 24 0
  /-- Per island, the margin in 5 mV from which its rail rises and since when (R567). -/
  rise     : List (Nat × Nat) := List.replicate 9 (0, 0)
  /-- Elapsed time at which RUN was entered, for HLT_HOURS. -/
  runAt    : Option Nat := none
  deriving DecidableEq, Repr

/-- The job of a crypto context behind its registers (R535 to R537): GO order, work in ns in all and still to do, what a block and what comes before the first one take, and when the running stretch began. -/
structure CryJob where
  order : Nat := 0
  total : Nat := 0
  left  : Nat := 0
  base  : Nat := 0
  block : Nat := 0
  since : Nat := 0
  deriving DecidableEq, Repr

/-- A slot of the boot flash: its role (Table 22.2: 0 FREE, 1 ACTIVE, 2 STAGED, 3 OXBOW) and the image it holds. -/
structure UpdSlot where
  role  : Nat := 0
  image : Image := {}
  deriving DecidableEq, Repr

/-- A staging in progress (R514): slot, IMAGE_LENGTH and manifest digest of STAGE_BEGIN, the bytes received, path of its session, verification running, request of STAGE_END and its time. -/
structure UpdStage where
  slot     : Nat
  length   : Nat
  digest   : Nat
  data     : List Nat := []
  path     : Nat := 0
  verify   : Bool := false
  req      : Nat := 0
  endAt    : Nat := 0
  deriving DecidableEq, Repr

/-- A standing schedule (R515, R516): instant 0 is the first whole second without a cause; `first` the module time of the first deferral. -/
structure UpdSched where
  id      : Nat
  instant : Nat
  window  : Nat
  fleet   : Bool
  digest  : Nat
  first   : Option Nat := none
  reason  : Nat := 0
  /-- Module time of the last evaluation (R518), and the instant was skipped by a forward step (R31). -/
  last    : Option Nat := none
  skipped : Bool := false
  deriving DecidableEq, Repr

/-- A directory record (Table 22.2): GEN, the three roles, the flags of byte 7, the last activation, the manifest digests, and its CRC-32. -/
structure DirRecord where
  gen     : Nat := 0
  roles   : List Nat := [0, 0, 0]
  flags   : Nat := 0
  actAt   : Nat := 0
  digests : List (List Nat) := List.replicate 3 (List.replicate 48 0)
  crc     : Nat := 0
  deriving DecidableEq, Repr

/-- The update block behind its registers (chapter 22). Slots and directory stand in the boot flash. -/
structure Upd where
  slots     : List UpdSlot := List.replicate 3 {}
  /-- Directory records of boot flash 0 at positions 0 and 1, then of boot flash 1 (R508, R509). -/
  dirs      : List (Option DirRecord) := List.replicate 4 none
  /-- The four vendor keys of the boot ROM, SEC 1 uncompressed (R513). -/
  vendorKeys : List (List Nat) := List.replicate 4 (List.replicate 97 0)
  /-- Public keys of the fleet trust anchors and serial numbers on the revocation list, held in the retained store (R467). -/
  anchors   : List (List Nat) := []
  revoked   : List Nat := []
  /-- Module time of the last activation, and its SCHEDULE_ID, instant and window. -/
  actAt     : Nat := 0
  actId     : Nat := 0
  actInst   : Nat := 0
  window    : Nat := 30
  /-- The staging session and the schedule that stands (R514, R515). -/
  stage     : Option UpdStage := none
  sched     : Option UpdSched := none
  /-- An activation is under way (R519); SAFE_HOLD (R511). -/
  activating : Bool := false
  safeHold  : Bool := false
  /-- Reports that wait for a SCHEDULER peer, oldest first (R520), and the one owed at the next full RUN: its OP and event time. -/
  reports   : List (List Nat) := []
  owed      : Option (Nat × Nat) := none
  /-- Elapsed time since which UPD_RUN counts, the recorded count stands in UPD_RUN (R521). -/
  runAt     : Option Nat := none
  /-- Retained format before the migration that runs or last ran (R523). -/
  oldFmt    : Nat := 0
  deriving DecidableEq, Repr

/-- An AUTH that waits for its answer (R528): its request number, credential, and when both verifications end. -/
structure WhdAuth where
  req  : Nat
  cred : Credential
  at_  : Nat
  deriving DecidableEq, Repr

/-- One path to a service session (chapter 22): 0 Wellhead, 1 relay. -/
structure WhdPath where
  /-- The connection or the relay is open. -/
  conn     : Bool := false
  /-- A HELLO without AUTH yet, and the nonce of the last HELLO (R527, R528). -/
  helloAt  : Option Nat := none
  nonce    : Option Nat := none
  /-- The AUTH that waits for its boundary (R528), and when the path was last heard (R532). -/
  auth     : Option WhdAuth := none
  lastAt   : Nat := 0
  /-- RTC seconds of the invalid AUTHs of the running window, and end of the lockout (R531): backup class. -/
  attempts : List Nat := []
  lockEnd  : Option Nat := none
  /-- Relay: RELAY_ID, peer, bytes sent and received. -/
  relayId  : Nat := 0
  peer     : Nat := 0
  sent     : Nat := 0
  rcvd     : Nat := 0
  deriving DecidableEq, Repr

/-- An answer of the service port (Table 22.7): path, TYPE, REQ_ID, STATUS and payload. -/
structure WhdAnswer where
  path   : Nat
  type   : Nat
  req    : Nat
  status : Nat
  data   : List Nat
  deriving DecidableEq, Repr

/-- The Wellhead port behind its registers (chapter 22). -/
structure Whd where
  paths  : List WhdPath := List.replicate 2 {}
  /-- Path of the ACTIVE session. -/
  active : Option Nat := none
  /-- Answers given, oldest first. -/
  out    : List WhdAnswer := []
  deriving DecidableEq, Repr

/-- Why the machine stops with a fault. The spec stops the module nowhere: a request to an address that does not exist is answered with UNMAPPED (R569), and every other command has an effect. No constructor is needed. -/
inductive Fault : Type
  deriving DecidableEq, Repr

/-- Why a command is refused. -/
inductive Refusal where
  /-- Raised by a dispatch arm whose command has no meaning yet; safe: the machine stops where the hardware goes on. -/
  | notModelled (mnemonic : String)
  deriving DecidableEq, Repr

/-- Everything the module holds but the bytes of its addressed memories and the queue of waiting commands. -/
structure Block where
  /-- Elapsed time in ns: it is never stepped (R31). -/
  now     : Nat := 0
  /-- Register fields that do not hold their reset value, by `Fld.key` (chapter 25). -/
  regs    : Store := []
  /-- Values still in use of class S fields whose written value waits for a block boundary (R11). -/
  inuse   : Store := []
  /-- Packets sent and still in flight, oldest first (chapter 2). -/
  out     : List Packet := []
  /-- Count of the free values consumed (the model's own field, not the spec's). -/
  free    : Nat := 0
  /-- Module time, islands and partitions (chapter 1). -/
  sys     : Sys := {}
  /-- The Leust fabric (chapter 2). -/
  fab     : Fabric := {}
  /-- The image loader (chapter 3). -/
  img     : Img := {}
  /-- The 192 field channels (chapter 6). -/
  chans   : List Chan := List.replicate 192 {}
  /-- The 24 field cells (chapter 6). -/
  cells   : List Cell := List.replicate 24 {}
  /-- Studs PWR_A to PWR_H, and the module as index 8 (R153). -/
  scopes  : List Scope := List.replicate 9 {}
  /-- The 48 dual-channel pairs (R212 to R216). -/
  pairs   : List Pair := List.replicate 48 {}
  /-- The two event inputs of island 4 (R217, R464). -/
  evtIn   : List EvtIn := List.replicate 2 {}
  /-- Power states (chapter 5). -/
  pwr     : Pwr := {}
  /-- Operating modes (chapter 4). -/
  mode    : Mode := {}
  /-- The 16 Tarn ports (chapter 10). -/
  tarn    : List TarnPort := List.replicate 16 {}
  /-- The loop engine (chapter 11). -/
  loop    : Loop := {}
  /-- The setting solver (chapter 12). -/
  solver  : Solver := {}
  /-- The fusion engine (chapter 13). -/
  fusion  : Fusion := {}
  /-- The baseband (chapter 14). -/
  gnss    : Gnss := {}
  /-- The backup domain (chapter 21). -/
  bkp     : Backup := {}
  /-- The season store (chapter 17). -/
  sst     : Sst := {}
  /-- The path follower (chapter 15). -/
  steer   : Steer := {}
  /-- The convoy solver (chapter 15). -/
  cvy     : Convoy := {}
  /-- The yield model (chapter 16). -/
  yld     : Yield := {}
  /-- The tile engine (chapter 16). -/
  tile    : TileEng := {}
  /-- The 24 message-bus ports (chapter 18). -/
  can     : List CanPort := List.replicate 24 {}
  /-- The Ethernet switch (chapter 19). -/
  eth     : Eth := {}
  /-- The Ehrondost fleet endpoint (chapter 19). -/
  ehr     : Ehr := {}
  /-- The two panel ports (chapter 20). -/
  dsp     : List DspPort := List.replicate 2 {}
  /-- The event recorder (chapter 23). -/
  evr     : Evr := {}
  /-- Lines of the retained store that are marked POISONED, by (address - 0x5000_0000) / 64 (R133). -/
  poison  : List Nat := []
  /-- Corrections of errors of one symbol that reads of the retained store have counted; the spec gives the count no register (R133). -/
  corrected : Nat := 0
  /-- The health aggregator (chapter 24). -/
  hlt     : Hlt := {}
  /-- The eight contexts of the crypto engine (R535, R537). -/
  cry     : List CryJob := List.replicate 8 {}
  /-- Bytes known to stand in the island-1 DRAM, by DRAM address; what an unlisted address holds is open (R535). -/
  dram    : Store := []
  /-- Images and activation (R508 to R523). -/
  upd     : Upd := {}
  /-- The service port and its sessions (R524 to R534). -/
  whd     : Whd := {}
--FIELDS
  deriving DecidableEq, Repr

/-- The module, and the commands that wait for it, first in first out. -/
structure State where
  blk     : Block := {}
  /-- Bytes of the path buffers (0x4510_0000), of the backup SRAM (0x4901_0000) and of the retained store (0x5000_0000): addresses strictly rising, no byte 0 listed; an unlisted byte reads 0. -/
  mem     : List Host.Cell := []
  /-- Commands that wait, oldest first. -/
  pending : List Instr := []
  deriving DecidableEq, Repr

/-- The machine right after a power-on: the module-scope reset is asserted with cause 0x01 (Table 5.9), every island and cell is in reset, and the start of Table 5.5 waits for its command MODULE_START. -/
def State.reset : State := { blk := { pwr := { inReset := true, cause := 1 } } }

end Sys2Proof.Machine
end

