-- ==== Sys2Proof/Machine/FieldsCtl.lean ====
section
/-! DEFINITION. The fields of the register tables of the spec, one constant per field (Ctl group: chapters 11, 12, 13).
A constant is named REGISTER_FIELD in the spec's spelling; its address, bits and reset value are those of the register table.
Indices count from 0 (position n of a Tarn chain is index n - 1). Where the spec gives no number the reset is 0 (log entries 3 and 4). -/

namespace Sys2Proof.Machine.R

/-! Chapter 11, Table 11.16. -/
def LE_CTRL_STOP : Fld := ⟨0x43000000, 0, 1, 0⟩
def LE_CTRL_START : Fld := ⟨0x43000000, 1, 1, 0⟩
def LE_CTRL_CLR_CNT : Fld := ⟨0x43000000, 2, 1, 0⟩
def LE_STATUS_STATE : Fld := ⟨0x43000004, 0, 2, 0⟩
def LE_STATUS_STORM : Fld := ⟨0x43000004, 8, 4, 0⟩
def LE_INFO_TILES : Fld := ⟨0x43000008, 0, 11, 0⟩
def LE_INFO_INSTANCES : Fld := ⟨0x43000008, 16, 13, 0⟩
def LE_GRAPH_EN0_EN : Fld := ⟨0x43000010, 0, 32, 1⟩
def LE_GRAPH_EN1_EN : Fld := ⟨0x43000014, 0, 32, 0⟩

/-! Chapter 11, Table 11.17. -/
def LE_GRPg_FRAME_COUNT (g : Nat) : Fld := ⟨0x43000100 + 0x20 * g, 0, 32, 0⟩
def LE_GRPg_LAST_T (g : Nat) : Fld := ⟨0x43000104 + 0x20 * g, 0, 32, 0⟩
def LE_GRPg_MAX_T (g : Nat) : Fld := ⟨0x43000108 + 0x20 * g, 0, 32, 0⟩
def LE_GRPg_BUDGET_T (g : Nat) : Fld := ⟨0x4300010C + 0x20 * g, 0, 32, 0⟩
def LE_GRPg_OVR_COUNT (g : Nat) : Fld := ⟨0x43000110 + 0x20 * g, 0, 16, 0⟩
def LE_GRPg_OVR_OVR_EV (g : Nat) : Fld := ⟨0x43000110 + 0x20 * g, 16, 1, 0⟩
def LE_GRPg_OVR_STORM (g : Nat) : Fld := ⟨0x43000110 + 0x20 * g, 17, 1, 0⟩
def LE_GRPg_OVR_ABANDONED (g : Nat) : Fld := ⟨0x43000110 + 0x20 * g, 24, 8, 0⟩
def LE_GRPg_REALIGN_COUNT (g : Nat) : Fld := ⟨0x43000114 + 0x20 * g, 0, 16, 0⟩
def LE_GRPg_OBS_STREAM (g : Nat) : Fld := ⟨0x43000118 + 0x20 * g, 0, 16, 0⟩
def LE_PROBEn_INSTANCE (n : Nat) : Fld := ⟨0x43000400 + 0x4 * n, 0, 12, 0⟩
def LE_PROBEn_OUT (n : Nat) : Fld := ⟨0x43000400 + 0x4 * n, 12, 1, 0⟩
def LE_PROBEn_EN (n : Nat) : Fld := ⟨0x43000400 + 0x4 * n, 15, 1, 0⟩

/-! Chapter 11, Table 11.18. -/
def LE_INSTi_W0_TYPE (i : Nat) : Fld := ⟨0x43100000 + 0x80 * i, 0, 8, 0⟩
def LE_INSTi_W0_GROUP (i : Nat) : Fld := ⟨0x43100000 + 0x80 * i, 8, 2, 0⟩
def LE_INSTi_W0_GRAPH (i : Nat) : Fld := ⟨0x43100000 + 0x80 * i, 10, 6, 0⟩
def LE_INSTi_W0_TILE (i : Nat) : Fld := ⟨0x43100000 + 0x80 * i, 16, 11, 0⟩
def LE_INSTi_W1_FMT0 (i : Nat) : Fld := ⟨0x43100004 + 0x80 * i, 0, 8, 0⟩
def LE_INSTi_W1_FMT1 (i : Nat) : Fld := ⟨0x43100004 + 0x80 * i, 8, 8, 0⟩
def LE_INSTi_W1_INIT (i : Nat) : Fld := ⟨0x43100004 + 0x80 * i, 16, 2, 0⟩
def LE_INSTi_W2_CONF_MIN (i : Nat) : Fld := ⟨0x43100008 + 0x80 * i, 0, 8, 1⟩
def LE_INSTi_W2_UP (i : Nat) : Fld := ⟨0x43100008 + 0x80 * i, 8, 8, 0xFF⟩
def LE_INSTi_W2_DOWN (i : Nat) : Fld := ⟨0x43100008 + 0x80 * i, 16, 8, 0xFF⟩
def LE_INSTi_W2_STALE_OK (i : Nat) : Fld := ⟨0x43100008 + 0x80 * i, 24, 1, 1⟩
def LE_INSTi_Wk_SRC_LO (i : Nat) (k : Nat) : Fld := ⟨0x43100010 + 0x80 * i + 0x4 * k, 0, 12, 0⟩
def LE_INSTi_Wk_OUT_LO (i : Nat) (k : Nat) : Fld := ⟨0x43100010 + 0x80 * i + 0x4 * k, 12, 1, 0⟩
def LE_INSTi_Wk_Z1_LO (i : Nat) (k : Nat) : Fld := ⟨0x43100010 + 0x80 * i + 0x4 * k, 13, 1, 0⟩
def LE_INSTi_Wk_CONN_LO (i : Nat) (k : Nat) : Fld := ⟨0x43100010 + 0x80 * i + 0x4 * k, 15, 1, 0⟩
def LE_INSTi_Wk_HI (i : Nat) (k : Nat) : Fld := ⟨0x43100010 + 0x80 * i + 0x4 * k, 16, 16, 0⟩

/-! Chapter 11, Table 11.19. -/
def LE_SIGi_VAL0_VALUE (i : Nat) : Fld := ⟨0x43300000 + 0x10 * i, 0, 32, 0⟩
def LE_SIGi_STAT0_CONF (i : Nat) : Fld := ⟨0x43300004 + 0x10 * i, 0, 8, 0⟩
def LE_SIGi_STAT0_VALID (i : Nat) : Fld := ⟨0x43300004 + 0x10 * i, 8, 1, 0⟩
def LE_SIGi_STAT0_STALE (i : Nat) : Fld := ⟨0x43300004 + 0x10 * i, 9, 1, 1⟩
def LE_SIGi_STAT0_MASKED (i : Nat) : Fld := ⟨0x43300004 + 0x10 * i, 10, 1, 0⟩
def LE_SIGi_STAT0_REPLAY (i : Nat) : Fld := ⟨0x43300004 + 0x10 * i, 11, 1, 0⟩
def LE_SIGi_STAT0_FSEQ (i : Nat) : Fld := ⟨0x43300004 + 0x10 * i, 16, 16, 0⟩
def LE_SIGi_STAT1_CONF (i : Nat) : Fld := ⟨0x4330000C + 0x10 * i, 0, 8, 0⟩
def LE_SIGi_STAT1_VALID (i : Nat) : Fld := ⟨0x4330000C + 0x10 * i, 8, 1, 0⟩
def LE_SIGi_STAT1_STALE (i : Nat) : Fld := ⟨0x4330000C + 0x10 * i, 9, 1, 1⟩
def LE_SIGi_STAT1_MASKED (i : Nat) : Fld := ⟨0x4330000C + 0x10 * i, 10, 1, 0⟩
def LE_SIGi_STAT1_REPLAY (i : Nat) : Fld := ⟨0x4330000C + 0x10 * i, 11, 1, 0⟩
def LE_SIGi_STAT1_FSEQ (i : Nat) : Fld := ⟨0x4330000C + 0x10 * i, 16, 16, 0⟩
def LE_SIGi_VAL1_VALUE (i : Nat) : Fld := ⟨0x43300008 + 0x10 * i, 0, 32, 0⟩
def LE_EVTi_SAT (i : Nat) : Fld := ⟨0x43340000 + 0x4 * i, 0, 1, 0⟩
def LE_EVTi_DIV0 (i : Nat) : Fld := ⟨0x43340000 + 0x4 * i, 1, 1, 0⟩
def LE_EVTi_ORDER (i : Nat) : Fld := ⟨0x43340000 + 0x4 * i, 2, 1, 0⟩
def LE_EVTi_SEQ_ERR (i : Nat) : Fld := ⟨0x43340000 + 0x4 * i, 3, 1, 0⟩
def LE_EVTi_OVERTAKEN (i : Nat) : Fld := ⟨0x43340000 + 0x4 * i, 4, 1, 0⟩
def LE_EVTi_AGED (i : Nat) : Fld := ⟨0x43340000 + 0x4 * i, 5, 1, 0⟩
def LE_EVTi_OUTLIER (i : Nat) : Fld := ⟨0x43340000 + 0x4 * i, 6, 1, 0⟩
def LE_EVTi_SWITCH (i : Nat) : Fld := ⟨0x43340000 + 0x4 * i, 7, 1, 0⟩
def LE_EVTi_FF_LOST (i : Nat) : Fld := ⟨0x43340000 + 0x4 * i, 8, 1, 0⟩
def LE_EVTi_INDEX (i : Nat) : Fld := ⟨0x43340000 + 0x4 * i, 9, 3, 0⟩
def LE_EVTi_COUNT (i : Nat) : Fld := ⟨0x43340000 + 0x4 * i, 16, 16, 0⟩

/-! Chapter 12, Table 12.10. -/
def SOL_CTRL_STOP : Fld := ⟨0x43800000, 0, 1, 0⟩
def SOL_CTRL_START : Fld := ⟨0x43800000, 1, 1, 0⟩
def SOL_CTRL_COLD : Fld := ⟨0x43800000, 2, 1, 0⟩
def SOL_CTRL_CLR_CNT : Fld := ⟨0x43800000, 3, 1, 0⟩
def SOL_STATUS_STATE : Fld := ⟨0x43800004, 0, 2, 0⟩
def SOL_STATUS_VARS : Fld := ⟨0x43800004, 8, 6, 0⟩
def SOL_STATUS_ROWS : Fld := ⟨0x43800004, 16, 7, 0⟩
def SOL_STATUS_MEAS : Fld := ⟨0x43800004, 24, 4, 0⟩
def SOL_CFG_ITER_MAX : Fld := ⟨0x43800008, 0, 7, 0x40⟩
def SOL_CFG_DEADLINE_MS : Fld := ⟨0x43800008, 8, 5, 0x1E⟩
def SOL_HOLD_HOLD_DOWN : Fld := ⟨0x4380000C, 0, 8, 0x10⟩
def SOL_HOLD_MEAS_DOWN : Fld := ⟨0x4380000C, 8, 8, 0x10⟩
def SOL_RES_STAT_STATUS : Fld := ⟨0x43800010, 0, 3, 0⟩
def SOL_RES_STAT_STALE : Fld := ⟨0x43800010, 3, 1, 1⟩
def SOL_RES_STAT_FLAGS : Fld := ⟨0x43800010, 4, 7, 0⟩
def SOL_RES_STAT_ITER : Fld := ⟨0x43800010, 12, 7, 0⟩
def SOL_RES_STAT_RANK : Fld := ⟨0x43800010, 20, 3, 0⟩
def SOL_RES_STAT_CONF : Fld := ⟨0x43800010, 24, 8, 0⟩
def SOL_RES_SEQ_RSEQ : Fld := ⟨0x43800014, 0, 32, 0⟩
def SOL_RES_TIME_T : Fld := ⟨0x43800018, 0, 16, 0⟩
def SOL_RES_TIME_ACTIVE : Fld := ⟨0x43800018, 16, 7, 0⟩
def SOL_RES_TIME_VIOLATED : Fld := ⟨0x43800018, 24, 7, 0⟩
def SOL_RES_VIOL_ROW : Fld := ⟨0x4380001C, 0, 7, 0⟩
def SOL_RES_VIOL_V : Fld := ⟨0x4380001C, 8, 24, 0⟩
def SOL_CNT_A_ITER_LIMIT : Fld := ⟨0x43800020, 0, 16, 0⟩
def SOL_CNT_A_RELAXED : Fld := ⟨0x43800020, 16, 16, 0⟩
def SOL_CNT_B_INFEASIBLE : Fld := ⟨0x43800024, 0, 16, 0⟩
def SOL_CNT_B_SKIPPED : Fld := ⟨0x43800024, 16, 16, 0⟩
def SOL_CNT_MODEL_OUTLIERS : Fld := ⟨0x43800028, 0, 16, 0⟩
def SOL_CNT_MODEL_RESETS : Fld := ⟨0x43800028, 16, 16, 0⟩
def SOL_MAX_T_T : Fld := ⟨0x4380002C, 0, 16, 0⟩
def SOL_BUDGET_T : Fld := ⟨0x43800030, 0, 16, 0⟩
def SOL_FF_ALPHA : Fld := ⟨0x43800040, 0, 8, 0x80⟩
def SOL_FF_FF_DOWN : Fld := ⟨0x43800040, 8, 8, 0x10⟩
def SOL_FF_STAT_RATIO : Fld := ⟨0x43800044, 0, 16, 0x1000⟩
def SOL_FF_STAT_C_MAP : Fld := ⟨0x43800044, 16, 8, 0⟩
def SOL_FF_STAT_C_H : Fld := ⟨0x43800044, 24, 8, 0⟩
def SOL_FEED_WIDTH_CM : Fld := ⟨0x43800048, 0, 16, 0⟩
def SOL_FEED_FEED_VAR : Fld := ⟨0x43800048, 16, 5, 0⟩

/-! Chapter 12, Table 12.11. -/
def SOL_VARi_CFG_FMT (i : Nat) : Fld := ⟨0x43800200 + 0x40 * i, 0, 8, 0⟩
def SOL_VARi_CFG_MF (i : Nat) : Fld := ⟨0x43800200 + 0x40 * i, 8, 5, 0⟩
def SOL_VARi_LO_LO (i : Nat) : Fld := ⟨0x43800204 + 0x40 * i, 0, 32, 0⟩
def SOL_VARi_HI_HI (i : Nat) : Fld := ⟨0x43800208 + 0x40 * i, 0, 32, 0⟩
def SOL_VARi_OPLO_OPLO (i : Nat) : Fld := ⟨0x4380020C + 0x40 * i, 0, 32, 0⟩
def SOL_VARi_OPHI_OPHI (i : Nat) : Fld := ⟨0x43800210 + 0x40 * i, 0, 32, 0⟩
def SOL_VARi_MOVE_M (i : Nat) : Fld := ⟨0x43800214 + 0x40 * i, 0, 32, 1⟩
def SOL_VARi_W_RHO (i : Nat) : Fld := ⟨0x43800218 + 0x40 * i, 0, 16, 0x100⟩
def SOL_VARi_W_KAPPA (i : Nat) : Fld := ⟨0x43800218 + 0x40 * i, 16, 16, 0⟩
def SOL_VARi_REF_REF (i : Nat) : Fld := ⟨0x4380021C + 0x40 * i, 0, 32, 0⟩
def SOL_VARi_STATE_FIXED (i : Nat) : Fld := ⟨0x43800220 + 0x40 * i, 0, 1, 0⟩
def SOL_VARi_STATE_FIX_SRC (i : Nat) : Fld := ⟨0x43800220 + 0x40 * i, 1, 3, 0⟩
def SOL_VARi_STATE_AT_BOUND (i : Nat) : Fld := ⟨0x43800220 + 0x40 * i, 4, 2, 0⟩
def SOL_VARi_FIX_EN (i : Nat) : Fld := ⟨0x43800224 + 0x40 * i, 0, 1, 0⟩
def SOL_VARi_FIXVAL_VALUE (i : Nat) : Fld := ⟨0x43800228 + 0x40 * i, 0, 32, 0⟩
def SOL_RES_Xi_VALUE (i : Nat) : Fld := ⟨0x43800100 + 0x4 * i, 0, 32, 0⟩

/-! Chapter 12, Table 12.12. -/
def SOL_MEASm_CFG_FMT (m : Nat) : Fld := ⟨0x43800A00 + 0x40 * m, 0, 8, 0⟩
def SOL_MEASm_CFG_TYPE (m : Nat) : Fld := ⟨0x43800A00 + 0x40 * m, 8, 1, 0⟩
def SOL_MEASm_CFG_KIND (m : Nat) : Fld := ⟨0x43800A00 + 0x40 * m, 9, 1, 0⟩
def SOL_MEASm_CFG_FEED_REG (m : Nat) : Fld := ⟨0x43800A00 + 0x40 * m, 10, 1, 0⟩
def SOL_MEASm_CFG_DELAY (m : Nat) : Fld := ⟨0x43800A00 + 0x40 * m, 16, 6, 0⟩
def SOL_MEASm_CFG_RESET_ON (m : Nat) : Fld := ⟨0x43800A00 + 0x40 * m, 24, 4, 0⟩
def SOL_MEASm_MASK_MASK (m : Nat) : Fld := ⟨0x43800A04 + 0x40 * m, 0, 32, 0⟩
def SOL_MEASm_W_W (m : Nat) : Fld := ⟨0x43800A08 + 0x40 * m, 0, 16, 0⟩
def SOL_MEASm_W_OPS (m : Nat) : Fld := ⟨0x43800A08 + 0x40 * m, 16, 8, 0⟩
def SOL_MEASm_W_OPS_MAX (m : Nat) : Fld := ⟨0x43800A08 + 0x40 * m, 24, 8, 0⟩
def SOL_MEASm_NORM_N (m : Nat) : Fld := ⟨0x43800A0C + 0x40 * m, 0, 32, 1⟩
def SOL_MEASm_TARGET_TAU (m : Nat) : Fld := ⟨0x43800A10 + 0x40 * m, 0, 32, 0⟩
def SOL_MEASm_EST_FORGET (m : Nat) : Fld := ⟨0x43800A14 + 0x40 * m, 0, 16, 0xFEB8⟩
def SOL_MEASm_EST_EXC (m : Nat) : Fld := ⟨0x43800A14 + 0x40 * m, 16, 8, 8⟩
def SOL_MEASm_EST_OUTLIER (m : Nat) : Fld := ⟨0x43800A14 + 0x40 * m, 24, 8, 0x40⟩
def SOL_MEASm_STATE_C (m : Nat) : Fld := ⟨0x43800A18 + 0x40 * m, 0, 8, 0⟩
def SOL_MEASm_STATE_C_EST (m : Nat) : Fld := ⟨0x43800A18 + 0x40 * m, 8, 8, 0⟩
def SOL_MEASm_STATE_UPDATES (m : Nat) : Fld := ⟨0x43800A18 + 0x40 * m, 16, 16, 0⟩
def SOL_MEASm_SQ_SQ (m : Nat) : Fld := ⟨0x43800A1C + 0x40 * m, 0, 32, 0⟩
def SOL_MEASm_Sk_S (m : Nat) (k : Nat) : Fld := ⟨0x43800A20 + 0x40 * m + 0x4 * k, 0, 32, 0⟩

/-! Chapter 12, Table 12.13. -/
def SOL_ROWj_CFG_KIND (j : Nat) : Fld := ⟨0x43820000 + 0x10 * j, 0, 2, 0⟩
def SOL_ROWj_CFG_RANK (j : Nat) : Fld := ⟨0x43820000 + 0x10 * j, 2, 3, 0⟩
def SOL_ROWj_CFG_EN (j : Nat) : Fld := ⟨0x43820000 + 0x10 * j, 5, 1, 0⟩
def SOL_ROWj_CFG_MEAS (j : Nat) : Fld := ⟨0x43820000 + 0x10 * j, 8, 3, 0⟩
def SOL_ROWj_B_B (j : Nat) : Fld := ⟨0x43820004 + 0x10 * j, 0, 32, 0⟩
def SOL_ROWj_NORM_U (j : Nat) : Fld := ⟨0x43820008 + 0x10 * j, 0, 32, 1⟩
def SOL_ROWj_STATE_ACTIVE (j : Nat) : Fld := ⟨0x4382000C + 0x10 * j, 0, 1, 0⟩
def SOL_ROWj_STATE_VIOLATED (j : Nat) : Fld := ⟨0x4382000C + 0x10 * j, 1, 1, 0⟩

/-! Chapter 12, Table 12.14. -/
def SOL_INk_SRC_STREAM (k : Nat) : Fld := ⟨0x43830000 + 0x10 * k, 0, 16, 0⟩
def SOL_INk_SRC_OFFSET (k : Nat) : Fld := ⟨0x43830000 + 0x10 * k, 16, 12, 0⟩
def SOL_INk_SRC_TYPE (k : Nat) : Fld := ⟨0x43830000 + 0x10 * k, 28, 4, 0⟩
def SOL_INk_CFG_F_IN (k : Nat) : Fld := ⟨0x43830004 + 0x10 * k, 0, 5, 0⟩
def SOL_INk_CFG_MAX_AGE (k : Nat) : Fld := ⟨0x43830004 + 0x10 * k, 8, 8, 0xA⟩
def SOL_INk_CFG_ROLE (k : Nat) : Fld := ⟨0x43830004 + 0x10 * k, 16, 4, 0⟩
def SOL_INk_CFG_INDEX (k : Nat) : Fld := ⟨0x43830004 + 0x10 * k, 20, 7, 0⟩
def SOL_INk_CFG_DISCARD (k : Nat) : Fld := ⟨0x43830004 + 0x10 * k, 28, 2, 0⟩
def SOL_INk_STAT_CONF (k : Nat) : Fld := ⟨0x43830008 + 0x10 * k, 0, 8, 0⟩
def SOL_INk_STAT_VALID (k : Nat) : Fld := ⟨0x43830008 + 0x10 * k, 8, 1, 0⟩
def SOL_INk_STAT_STALE (k : Nat) : Fld := ⟨0x43830008 + 0x10 * k, 9, 1, 1⟩
def SOL_INk_STAT_AGED (k : Nat) : Fld := ⟨0x43830008 + 0x10 * k, 10, 1, 0⟩
def SOL_INk_STAT_SEQ_ERR (k : Nat) : Fld := ⟨0x43830008 + 0x10 * k, 11, 1, 0⟩

/-! Chapter 13, Table 13.10. -/
def FUS_CTRL_STOP : Fld := ⟨0x44000000, 0, 1, 0⟩
def FUS_CTRL_START : Fld := ⟨0x44000000, 1, 1, 0⟩
def FUS_CTRL_REINIT : Fld := ⟨0x44000000, 2, 1, 0⟩
def FUS_CTRL_CLR_CNT : Fld := ⟨0x44000000, 3, 1, 0⟩
def FUS_STATUS_STATE : Fld := ⟨0x44000004, 0, 3, 0⟩
def FUS_STATUS_OPEN : Fld := ⟨0x44000004, 16, 9, 0⟩
def FUS_CFG_EPOCH : Fld := ⟨0x44000008, 0, 3, 1⟩
def FUS_CFG_LIMIT_MS : Fld := ⟨0x44000008, 16, 11, 0xFA⟩
def FUS_MASKED_MASK : Fld := ⟨0x4400000C, 0, 16, 0⟩
def FUS_TIMERS_COAST_MS : Fld := ⟨0x44000010, 0, 13, 0x3E8⟩
def FUS_TIMERS_REINIT_MS : Fld := ⟨0x44000010, 16, 13, 0x1388⟩
def FUS_CONF_DOWN_LATE_DOWN : Fld := ⟨0x44000014, 0, 8, 0x20⟩
def FUS_CONF_DOWN_PROMPT_AGE_MS : Fld := ⟨0x44000014, 8, 8, 4⟩
def FUS_INIT_SIG_MM : Fld := ⟨0x44000018, 0, 16, 0x1F4⟩
def FUS_CONFMAPg_SF (g : Nat) : Fld := ⟨0x44000020 + 0x4 * g, 0, 16, [20, 20, 17, 17].getD g 0⟩
def FUS_CONFMAPg_SZ (g : Nat) : Fld := ⟨0x44000020 + 0x4 * g, 16, 16, [2000, 1000, 870, 870].getD g 0⟩
def FUS_ST_STAT_STALE : Fld := ⟨0x44000040, 0, 1, 1⟩
def FUS_ST_Wn_BYTES (n : Nat) : Fld := ⟨0x44000044 + 0x4 * n, 0, 32, 0⟩
def FUS_CNT_EPOCH_LATE : Fld := ⟨0x440000A0, 0, 16, 0⟩
def FUS_CNT_EPOCH_DISCARDED : Fld := ⟨0x440000A0, 16, 8, 0⟩
def FUS_CNT_EPOCH_FULL : Fld := ⟨0x440000A0, 24, 8, 0⟩
def FUS_CNT_REINIT_COUNT : Fld := ⟨0x440000A4, 0, 16, 0⟩
def FUS_MAX_LAT_T : Fld := ⟨0x440000A8, 0, 16, 0⟩

/-! Chapter 13, Table 13.11. -/
def FUS_INi_SRC_STREAM (i : Nat) : Fld := ⟨0x44000400 + 0x40 * i, 0, 16, 0⟩
def FUS_INi_SRC_KIND (i : Nat) : Fld := ⟨0x44000400 + 0x40 * i, 16, 4, 0⟩
def FUS_INi_SRC_PRIO (i : Nat) : Fld := ⟨0x44000400 + 0x40 * i, 20, 2, 0⟩
def FUS_INi_TIME_PERIOD (i : Nat) : Fld := ⟨0x44000404 + 0x40 * i, 0, 16, 0x64⟩
def FUS_INi_TIME_SPAN (i : Nat) : Fld := ⟨0x44000404 + 0x40 * i, 16, 16, 0⟩
def FUS_INi_DROP_DROP_MS (i : Nat) : Fld := ⟨0x44000408 + 0x40 * i, 0, 13, 0xC8⟩
def FUS_INi_CHK_GATE (i : Nat) : Fld := ⟨0x4400040C + 0x40 * i, 0, 8, 0x40⟩
def FUS_INi_CHK_TRUST_DOWN (i : Nat) : Fld := ⟨0x4400040C + 0x40 * i, 8, 8, 0x40⟩
def FUS_INi_CHK_TRUST_UP (i : Nat) : Fld := ⟨0x4400040C + 0x40 * i, 16, 8, 8⟩
def FUS_INi_CHK_REJOIN_TRUST (i : Nat) : Fld := ⟨0x4400040C + 0x40 * i, 24, 8, 0x80⟩
def FUS_INi_REJOIN_REJOIN_N (i : Nat) : Fld := ⟨0x44000410 + 0x40 * i, 0, 16, 0x32⟩
def FUS_INi_REJOIN_CONF_MIN (i : Nat) : Fld := ⟨0x44000410 + 0x40 * i, 16, 8, 1⟩
def FUS_INi_SIGMA_SIGMA (i : Nat) : Fld := ⟨0x44000414 + 0x40 * i, 0, 16, 0⟩
def FUS_INi_SCALE_DIST_NM (i : Nat) : Fld := ⟨0x44000418 + 0x40 * i, 0, 32, 0⟩
def FUS_INi_ARM_X_MM (i : Nat) : Fld := ⟨0x4400041C + 0x40 * i, 0, 32, 0⟩
def FUS_INi_ARM_Y_MM (i : Nat) : Fld := ⟨0x44000420 + 0x40 * i, 0, 32, 0⟩
def FUS_INi_ARM_Z_MM (i : Nat) : Fld := ⟨0x44000424 + 0x40 * i, 0, 32, 0⟩
def FUS_INi_ROT_RP_ROLL (i : Nat) : Fld := ⟨0x44000428 + 0x40 * i, 0, 16, 0⟩
def FUS_INi_ROT_RP_PITCH (i : Nat) : Fld := ⟨0x44000428 + 0x40 * i, 16, 16, 0⟩
def FUS_INi_ROT_Y_YAW (i : Nat) : Fld := ⟨0x4400042C + 0x40 * i, 0, 16, 0⟩
def FUS_INi_STAT_TRUST (i : Nat) : Fld := ⟨0x44000430 + 0x40 * i, 0, 8, 0xFF⟩
def FUS_INi_STAT_MASKED (i : Nat) : Fld := ⟨0x44000430 + 0x40 * i, 8, 1, 0⟩
def FUS_INi_STAT_CAUSE (i : Nat) : Fld := ⟨0x44000430 + 0x40 * i, 9, 2, 0⟩
def FUS_INi_STAT_MASK_EV (i : Nat) : Fld := ⟨0x44000430 + 0x40 * i, 11, 1, 0⟩
def FUS_INi_STAT_REJOIN_EV (i : Nat) : Fld := ⟨0x44000430 + 0x40 * i, 12, 1, 0⟩
def FUS_INi_STAT_FAIL_EV (i : Nat) : Fld := ⟨0x44000430 + 0x40 * i, 13, 1, 0⟩
def FUS_INi_STAT_RUN (i : Nat) : Fld := ⟨0x44000430 + 0x40 * i, 16, 16, 0⟩
def FUS_INi_CNT_FAIL (i : Nat) : Fld := ⟨0x44000434 + 0x40 * i, 0, 16, 0⟩
def FUS_INi_CNT_LATE (i : Nat) : Fld := ⟨0x44000434 + 0x40 * i, 16, 16, 0⟩
def FUS_INi_CTRL_FORCE_MASK (i : Nat) : Fld := ⟨0x44000438 + 0x40 * i, 0, 1, 0⟩

end Sys2Proof.Machine.R
end

