-- ==== Sys2Proof/Machine/FieldsField.lean ====
section
/-! DEFINITION. The fields of the register tables of the spec, one constant per field (Field group: chapters 06, 07, 08, 09, 10).
A constant is named REGISTER_FIELD in the spec's spelling; its address, bits and reset value are those of the register table.
Indices count from 0 (position n of a Tarn chain is index n - 1). Where the spec gives no number the reset is 0 (log entries 3 and 4). -/

namespace Sys2Proof.Machine.R

/-! Chapter 06, Table 6.11. -/
def FC_CH_FUNC_FUNC (ch : Nat) : Fld := ⟨0x41000000 + 0x10000 * (ch / 8) + 0x100 * (ch % 8), 0, 4, 0⟩
def FC_CH_FUNC_BOND (ch : Nat) : Fld := ⟨0x41000000 + 0x10000 * (ch / 8) + 0x100 * (ch % 8), 4, 2, 0⟩
def FC_CH_FUNC_SHED_PRIO (ch : Nat) : Fld := ⟨0x41000000 + 0x10000 * (ch / 8) + 0x100 * (ch % 8), 8, 2, 3⟩
def FC_CH_PROT_SOFT_THR (ch : Nat) : Fld := ⟨0x41000004 + 0x10000 * (ch / 8) + 0x100 * (ch % 8), 0, 8, 0xF0⟩
def FC_CH_PROT_BLANK_US (ch : Nat) : Fld := ⟨0x41000004 + 0x10000 * (ch / 8) + 0x100 * (ch % 8), 8, 5, 5⟩
def FC_CH_PROT_SOFT_ACT (ch : Nat) : Fld := ⟨0x41000004 + 0x10000 * (ch / 8) + 0x100 * (ch % 8), 16, 2, 0⟩
def FC_CH_PROT_SOFT_N (ch : Nat) : Fld := ⟨0x41000004 + 0x10000 * (ch / 8) + 0x100 * (ch % 8), 18, 4, 4⟩
def FC_CH_PROT_LIM_TIME (ch : Nat) : Fld := ⟨0x41000004 + 0x10000 * (ch / 8) + 0x100 * (ch % 8), 24, 6, 5⟩
def FC_CH_GEYSER_WIN (ch : Nat) : Fld := ⟨0x41000008 + 0x10000 * (ch / 8) + 0x100 * (ch % 8), 0, 11, 0⟩
def FC_CH_GEYSER_GLIM_TIME (ch : Nat) : Fld := ⟨0x41000008 + 0x10000 * (ch / 8) + 0x100 * (ch % 8), 16, 6, 0xA⟩
def FC_CH_CMD_TIMEOUT_MS (ch : Nat) : Fld := ⟨0x4100000C + 0x10000 * (ch / 8) + 0x100 * (ch % 8), 0, 10, 0x64⟩
def FC_CH_CMD_CONF_MIN (ch : Nat) : Fld := ⟨0x4100000C + 0x10000 * (ch / 8) + 0x100 * (ch % 8), 16, 8, 1⟩
def FC_CH_SAFE_SAFE (ch : Nat) : Fld := ⟨0x41000010 + 0x10000 * (ch / 8) + 0x100 * (ch % 8), 0, 16, 0⟩
def FC_CH_REPORT_TICK (ch : Nat) : Fld := ⟨0x41000014 + 0x10000 * (ch / 8) + 0x100 * (ch % 8), 0, 10, 0x64⟩
def FC_CH_REPORT_PERIODS (ch : Nat) : Fld := ⟨0x41000014 + 0x10000 * (ch / 8) + 0x100 * (ch % 8), 16, 4, 1⟩
def FC_CH_HOLD_VALUE (ch : Nat) : Fld := ⟨0x41000018 + 0x10000 * (ch / 8) + 0x100 * (ch % 8), 0, 16, 0⟩
def FC_CH_HOLD_DEFINED (ch : Nat) : Fld := ⟨0x41000018 + 0x10000 * (ch / 8) + 0x100 * (ch % 8), 16, 1, 0⟩
def FC_CH_STATUS_ON (ch : Nat) : Fld := ⟨0x41000020 + 0x10000 * (ch / 8) + 0x100 * (ch % 8), 0, 1, 0⟩
def FC_CH_STATUS_IN_LIMIT (ch : Nat) : Fld := ⟨0x41000020 + 0x10000 * (ch / 8) + 0x100 * (ch % 8), 1, 1, 0⟩
def FC_CH_STATUS_GEYSER (ch : Nat) : Fld := ⟨0x41000020 + 0x10000 * (ch / 8) + 0x100 * (ch % 8), 2, 1, 0⟩
def FC_CH_STATUS_LIM_LATCH (ch : Nat) : Fld := ⟨0x41000020 + 0x10000 * (ch / 8) + 0x100 * (ch % 8), 3, 1, 0⟩
def FC_CH_STATUS_HARD_LATCH (ch : Nat) : Fld := ⟨0x41000020 + 0x10000 * (ch / 8) + 0x100 * (ch % 8), 4, 1, 0⟩
def FC_CH_STATUS_PAIR_LATCH (ch : Nat) : Fld := ⟨0x41000020 + 0x10000 * (ch / 8) + 0x100 * (ch % 8), 5, 1, 0⟩
def FC_CH_STATUS_HOT (ch : Nat) : Fld := ⟨0x41000020 + 0x10000 * (ch / 8) + 0x100 * (ch % 8), 6, 1, 0⟩
def FC_CH_STATUS_SHED (ch : Nat) : Fld := ⟨0x41000020 + 0x10000 * (ch / 8) + 0x100 * (ch % 8), 7, 1, 0⟩
def FC_CH_STATUS_FAIL_ACT (ch : Nat) : Fld := ⟨0x41000020 + 0x10000 * (ch / 8) + 0x100 * (ch % 8), 8, 1, 0⟩
def FC_CH_STATUS_HOLD (ch : Nat) : Fld := ⟨0x41000020 + 0x10000 * (ch / 8) + 0x100 * (ch % 8), 9, 1, 0⟩
def FC_CH_STATUS_STUD_UV (ch : Nat) : Fld := ⟨0x41000020 + 0x10000 * (ch / 8) + 0x100 * (ch % 8), 10, 1, 0⟩
def FC_CH_STATUS_SOFT_EV (ch : Nat) : Fld := ⟨0x41000020 + 0x10000 * (ch / 8) + 0x100 * (ch % 8), 16, 1, 0⟩
def FC_CH_STATUS_BLANKED_EV (ch : Nat) : Fld := ⟨0x41000020 + 0x10000 * (ch / 8) + 0x100 * (ch % 8), 17, 1, 0⟩
def FC_CH_STATUS_THERM_EV (ch : Nat) : Fld := ⟨0x41000020 + 0x10000 * (ch / 8) + 0x100 * (ch % 8), 18, 1, 0⟩
def FC_CH_STATUS_SEQ_ERR (ch : Nat) : Fld := ⟨0x41000020 + 0x10000 * (ch / 8) + 0x100 * (ch % 8), 19, 1, 0⟩
def FC_CH_STATUS_REJECT (ch : Nat) : Fld := ⟨0x41000020 + 0x10000 * (ch / 8) + 0x100 * (ch % 8), 20, 1, 0⟩
def FC_CH_STATUS_OVR (ch : Nat) : Fld := ⟨0x41000020 + 0x10000 * (ch / 8) + 0x100 * (ch % 8), 21, 1, 0⟩
def FC_CH_STATUS_TIMEOUT_EV (ch : Nat) : Fld := ⟨0x41000020 + 0x10000 * (ch / 8) + 0x100 * (ch % 8), 22, 1, 0⟩
def FC_CH_STATUS_CLAMP_EV (ch : Nat) : Fld := ⟨0x41000020 + 0x10000 * (ch / 8) + 0x100 * (ch % 8), 23, 1, 0⟩
def FC_CH_CLEAR_CLR_LIM (ch : Nat) : Fld := ⟨0x41000024 + 0x10000 * (ch / 8) + 0x100 * (ch % 8), 0, 1, 0⟩
def FC_CH_CLEAR_CLR_HARD (ch : Nat) : Fld := ⟨0x41000024 + 0x10000 * (ch / 8) + 0x100 * (ch % 8), 1, 1, 0⟩
def FC_CH_CLEAR_CLR_SHED (ch : Nat) : Fld := ⟨0x41000024 + 0x10000 * (ch / 8) + 0x100 * (ch % 8), 2, 1, 0⟩
def FC_CH_CLEAR_CLR_CNT (ch : Nat) : Fld := ⟨0x41000024 + 0x10000 * (ch / 8) + 0x100 * (ch % 8), 3, 1, 0⟩
def FC_CH_MEAS_I_I_MA (ch : Nat) : Fld := ⟨0x41000030 + 0x10000 * (ch / 8) + 0x100 * (ch % 8), 0, 16, 0⟩
def FC_CH_MEAS_I_SEQ (ch : Nat) : Fld := ⟨0x41000030 + 0x10000 * (ch / 8) + 0x100 * (ch % 8), 16, 8, 0⟩
def FC_CH_MEAS_I_STALE (ch : Nat) : Fld := ⟨0x41000030 + 0x10000 * (ch / 8) + 0x100 * (ch % 8), 24, 1, 1⟩
def FC_CH_MEAS_I_OVR (ch : Nat) : Fld := ⟨0x41000030 + 0x10000 * (ch / 8) + 0x100 * (ch % 8), 25, 1, 0⟩
def FC_CH_MEAS_V_V_MV (ch : Nat) : Fld := ⟨0x41000034 + 0x10000 * (ch / 8) + 0x100 * (ch % 8), 0, 16, 0⟩
def FC_CH_MEAS_V_I_PEAK_MA (ch : Nat) : Fld := ⟨0x41000034 + 0x10000 * (ch / 8) + 0x100 * (ch % 8), 16, 16, 0⟩
def FC_CH_CNT_EV_SOFT (ch : Nat) : Fld := ⟨0x41000040 + 0x10000 * (ch / 8) + 0x100 * (ch % 8), 0, 16, 0⟩
def FC_CH_CNT_EV_BLANKED (ch : Nat) : Fld := ⟨0x41000040 + 0x10000 * (ch / 8) + 0x100 * (ch % 8), 16, 16, 0⟩
def FC_CH_CNT_TRIP_HARD (ch : Nat) : Fld := ⟨0x41000044 + 0x10000 * (ch / 8) + 0x100 * (ch % 8), 0, 8, 0⟩
def FC_CH_CNT_TRIP_LIMIT (ch : Nat) : Fld := ⟨0x41000044 + 0x10000 * (ch / 8) + 0x100 * (ch % 8), 8, 8, 0⟩
def FC_CH_CNT_TRIP_THERM (ch : Nat) : Fld := ⟨0x41000044 + 0x10000 * (ch / 8) + 0x100 * (ch % 8), 16, 8, 0⟩
def FC_CH_CNT_TRIP_SHED (ch : Nat) : Fld := ⟨0x41000044 + 0x10000 * (ch / 8) + 0x100 * (ch % 8), 24, 8, 0⟩
def FC_CH_CNT_CMD_SEQ_ERR (ch : Nat) : Fld := ⟨0x41000048 + 0x10000 * (ch / 8) + 0x100 * (ch % 8), 0, 16, 0⟩
def FC_CH_CNT_CMD_REJECT (ch : Nat) : Fld := ⟨0x41000048 + 0x10000 * (ch / 8) + 0x100 * (ch % 8), 16, 16, 0⟩

/-! Chapter 06, Table 6.12. -/
def FC_CELL_CTRL_STOP (c : Nat) : Fld := ⟨0x41000800 + 0x10000 * c, 0, 1, 0⟩
def FC_CELL_CTRL_START (c : Nat) : Fld := ⟨0x41000800 + 0x10000 * c, 1, 1, 0⟩
def FC_CELL_STATUS_STOPPED (c : Nat) : Fld := ⟨0x41000804 + 0x10000 * c, 0, 1, 1⟩
def FC_CELL_STATUS_BOOST_READY (c : Nat) : Fld := ⟨0x41000804 + 0x10000 * c, 1, 1, 0⟩
def FC_CELL_STATUS_CELL_WARN (c : Nat) : Fld := ⟨0x41000804 + 0x10000 * c, 2, 1, 0⟩
def FC_CELL_STATUS_LATCHED (c : Nat) : Fld := ⟨0x41000804 + 0x10000 * c, 8, 8, 0⟩
def FC_CELL_STATUS_FAIL_ACT (c : Nat) : Fld := ⟨0x41000804 + 0x10000 * c, 16, 8, 0⟩
def FC_CELL_STATUS_SHED (c : Nat) : Fld := ⟨0x41000804 + 0x10000 * c, 24, 8, 0⟩
def FC_CELL_BOOST_VOLT (c : Nat) : Fld := ⟨0x41000808 + 0x10000 * c, 0, 8, 0⟩
def FC_CELL_BOOST_LIMIT_V (c : Nat) : Fld := ⟨0x41000808 + 0x10000 * c, 8, 8, 0xC0⟩
def FC_CELL_CURRENT_NOW (c : Nat) : Fld := ⟨0x4100080C + 0x10000 * c, 0, 16, 0⟩
def FC_CELL_CURRENT_MEAN (c : Nat) : Fld := ⟨0x4100080C + 0x10000 * c, 16, 16, 0⟩

/-! Chapter 06, Table 6.13. -/
def FC_STUD_I_NOW (s : Nat) : Fld := ⟨0x41200000 + 0x10 * s, 0, 16, 0⟩
def FC_STUD_I_MEAN (s : Nat) : Fld := ⟨0x41200000 + 0x10 * s, 16, 16, 0⟩
def FC_STUD_STAT_VOLT_MV (s : Nat) : Fld := ⟨0x41200004 + 0x10 * s, 0, 16, 0⟩
def FC_STUD_STAT_WARN (s : Nat) : Fld := ⟨0x41200004 + 0x10 * s, 16, 1, 0⟩
def FC_STUD_STAT_UV (s : Nat) : Fld := ⟨0x41200004 + 0x10 * s, 17, 1, 0⟩
def FC_STUD_STAT_SHED_LEVEL (s : Nat) : Fld := ⟨0x41200004 + 0x10 * s, 18, 2, 0⟩
def FC_MOD_I_NOW : Fld := ⟨0x41200100, 0, 16, 0⟩
def FC_MOD_I_MEAN : Fld := ⟨0x41200100, 16, 16, 0⟩
def FC_MOD_STAT_WARN : Fld := ⟨0x41200104, 16, 1, 0⟩
def FC_MOD_STAT_SHED_LEVEL : Fld := ⟨0x41200104, 18, 2, 0⟩

/-! Chapter 07, Table 7.7. -/
def FC_CH_PWM_PERIOD (ch : Nat) : Fld := ⟨0x41000050 + 0x10000 * (ch / 8) + 0x100 * (ch % 8), 0, 21, 0xC350⟩
def FC_CH_PWM_ECHO_BATCH (ch : Nat) : Fld := ⟨0x41000050 + 0x10000 * (ch / 8) + 0x100 * (ch % 8), 21, 3, 0⟩
def FC_CH_PWM_CARRY_EN (ch : Nat) : Fld := ⟨0x41000050 + 0x10000 * (ch / 8) + 0x100 * (ch % 8), 24, 1, 1⟩
def FC_CH_PWM_DEAD (ch : Nat) : Fld := ⟨0x41000050 + 0x10000 * (ch / 8) + 0x100 * (ch % 8), 25, 7, 0xA⟩
def FC_CH_LOOP_KP (ch : Nat) : Fld := ⟨0x41000054 + 0x10000 * (ch / 8) + 0x100 * (ch % 8), 0, 16, 0x200⟩
def FC_CH_LOOP_KI (ch : Nat) : Fld := ⟨0x41000054 + 0x10000 * (ch / 8) + 0x100 * (ch % 8), 16, 16, 0x100⟩
def FC_CH_DITHER_AMP_MA (ch : Nat) : Fld := ⟨0x41000058 + 0x10000 * (ch / 8) + 0x100 * (ch % 8), 0, 10, 0⟩
def FC_CH_DITHER_FREQ_HZ (ch : Nat) : Fld := ⟨0x41000058 + 0x10000 * (ch / 8) + 0x100 * (ch % 8), 16, 9, 0x64⟩
def FC_CH_DITHER_SHAPE (ch : Nat) : Fld := ⟨0x41000058 + 0x10000 * (ch / 8) + 0x100 * (ch % 8), 28, 1, 0⟩
def FC_CH_DUTY_WIN_S (ch : Nat) : Fld := ⟨0x4100005C + 0x10000 * (ch / 8) + 0x100 * (ch % 8), 0, 6, 0xA⟩
def FC_CH_DUTY_FRAC (ch : Nat) : Fld := ⟨0x4100005C + 0x10000 * (ch / 8) + 0x100 * (ch % 8), 8, 8, 0xE6⟩
def FC_CH_DUTY_DUTY_ACT (ch : Nat) : Fld := ⟨0x4100005C + 0x10000 * (ch / 8) + 0x100 * (ch % 8), 16, 1, 1⟩
def FC_CH_DUTY_FRAC_EFF (ch : Nat) : Fld := ⟨0x4100005C + 0x10000 * (ch / 8) + 0x100 * (ch % 8), 24, 8, 0xE6⟩
def FC_CH_VALVE_PEAK (ch : Nat) : Fld := ⟨0x41000060 + 0x10000 * (ch / 8) + 0x100 * (ch % 8), 0, 8, 0x28⟩
def FC_CH_VALVE_HOLD (ch : Nat) : Fld := ⟨0x41000060 + 0x10000 * (ch / 8) + 0x100 * (ch % 8), 8, 8, 0xC⟩
def FC_CH_VALVE_PEAK_MS (ch : Nat) : Fld := ⟨0x41000060 + 0x10000 * (ch / 8) + 0x100 * (ch % 8), 16, 8, 0x1E⟩
def FC_CH_VALVE_BOOST_MAX (ch : Nat) : Fld := ⟨0x41000060 + 0x10000 * (ch / 8) + 0x100 * (ch % 8), 24, 6, 0xA⟩
def FC_CH_VALVE_FAST (ch : Nat) : Fld := ⟨0x41000060 + 0x10000 * (ch / 8) + 0x100 * (ch % 8), 30, 1, 0⟩
def FC_CH_KINK_KINK (ch : Nat) : Fld := ⟨0x41000064 + 0x10000 * (ch / 8) + 0x100 * (ch % 8), 0, 8, 0x1E⟩
def FC_CH_KINK_BLANK_MS (ch : Nat) : Fld := ⟨0x41000064 + 0x10000 * (ch / 8) + 0x100 * (ch % 8), 8, 8, 2⟩
def FC_CH_KINK_BOOST_WAIT (ch : Nat) : Fld := ⟨0x41000064 + 0x10000 * (ch / 8) + 0x100 * (ch % 8), 16, 6, 0x14⟩
def FC_CH_VALVE_RES_CLOSE (ch : Nat) : Fld := ⟨0x41000068 + 0x10000 * (ch / 8) + 0x100 * (ch % 8), 0, 16, 0xFFFF⟩
def FC_CH_VALVE_RES_ACT_SEQ (ch : Nat) : Fld := ⟨0x41000068 + 0x10000 * (ch / 8) + 0x100 * (ch % 8), 16, 8, 0⟩
def FC_CH_VALVE_RES_STALE (ch : Nat) : Fld := ⟨0x41000068 + 0x10000 * (ch / 8) + 0x100 * (ch % 8), 24, 1, 1⟩
def FC_CH_VALVE_RES_NO_BOOST (ch : Nat) : Fld := ⟨0x41000068 + 0x10000 * (ch / 8) + 0x100 * (ch % 8), 25, 1, 0⟩
def FC_CH_VALVE_RES_DEFERRED (ch : Nat) : Fld := ⟨0x41000068 + 0x10000 * (ch / 8) + 0x100 * (ch % 8), 26, 1, 0⟩
def FC_CH_VALVE_RES_WAITED (ch : Nat) : Fld := ⟨0x41000068 + 0x10000 * (ch / 8) + 0x100 * (ch % 8), 27, 1, 0⟩
def FC_CH_ECHO_ON_TIME (ch : Nat) : Fld := ⟨0x4100006C + 0x10000 * (ch / 8) + 0x100 * (ch % 8), 0, 21, 0⟩
def FC_CH_ECHO_SUP_ON (ch : Nat) : Fld := ⟨0x4100006C + 0x10000 * (ch / 8) + 0x100 * (ch % 8), 21, 1, 0⟩
def FC_CH_ECHO_SUP_OFF (ch : Nat) : Fld := ⟨0x4100006C + 0x10000 * (ch / 8) + 0x100 * (ch % 8), 22, 1, 0⟩
def FC_CH_ECHO_CAPPED (ch : Nat) : Fld := ⟨0x4100006C + 0x10000 * (ch / 8) + 0x100 * (ch % 8), 23, 1, 0⟩
def FC_CH_ECHO_SAT (ch : Nat) : Fld := ⟨0x4100006C + 0x10000 * (ch / 8) + 0x100 * (ch % 8), 24, 1, 0⟩
def FC_CH_ECHO_CUT (ch : Nat) : Fld := ⟨0x4100006C + 0x10000 * (ch / 8) + 0x100 * (ch % 8), 25, 1, 0⟩
def FC_CH_ECHO_STALE (ch : Nat) : Fld := ⟨0x4100006C + 0x10000 * (ch / 8) + 0x100 * (ch % 8), 26, 1, 1⟩
def FC_CH_ECHO_SEQ_PSEQ (ch : Nat) : Fld := ⟨0x41000070 + 0x10000 * (ch / 8) + 0x100 * (ch % 8), 0, 16, 0⟩
def FC_CH_ECHO_SEQ_I_MA (ch : Nat) : Fld := ⟨0x41000070 + 0x10000 * (ch / 8) + 0x100 * (ch % 8), 16, 16, 0⟩
def FC_CH_DRV_STATUS_BOOST_NOT_READY (ch : Nat) : Fld := ⟨0x41000074 + 0x10000 * (ch / 8) + 0x100 * (ch % 8), 0, 1, 1⟩
def FC_CH_DRV_STATUS_DUTY_CAP (ch : Nat) : Fld := ⟨0x41000074 + 0x10000 * (ch / 8) + 0x100 * (ch % 8), 1, 1, 0⟩
def FC_CH_DRV_STATUS_PHASE (ch : Nat) : Fld := ⟨0x41000074 + 0x10000 * (ch / 8) + 0x100 * (ch % 8), 2, 2, 0⟩
def FC_CH_DRV_STATUS_QUEUED (ch : Nat) : Fld := ⟨0x41000074 + 0x10000 * (ch / 8) + 0x100 * (ch % 8), 4, 1, 0⟩
def FC_CH_DRV_STATUS_DUTY_EV (ch : Nat) : Fld := ⟨0x41000074 + 0x10000 * (ch / 8) + 0x100 * (ch % 8), 8, 1, 0⟩
def FC_CH_DRV_STATUS_NOKINK_EV (ch : Nat) : Fld := ⟨0x41000074 + 0x10000 * (ch / 8) + 0x100 * (ch % 8), 9, 1, 0⟩
def FC_CH_DRV_STATUS_SHORT_EV (ch : Nat) : Fld := ⟨0x41000074 + 0x10000 * (ch / 8) + 0x100 * (ch % 8), 10, 1, 0⟩
def FC_CH_DRV_CTRL_CLR_PAIR (ch : Nat) : Fld := ⟨0x41000078 + 0x10000 * (ch / 8) + 0x100 * (ch % 8), 0, 1, 0⟩
def FC_CH_CNT_DRV_SHORT (ch : Nat) : Fld := ⟨0x4100007C + 0x10000 * (ch / 8) + 0x100 * (ch % 8), 0, 16, 0⟩
def FC_CH_CNT_DRV_NOKINK (ch : Nat) : Fld := ⟨0x4100007C + 0x10000 * (ch / 8) + 0x100 * (ch % 8), 16, 8, 0⟩
def FC_CH_CNT_DRV_WAITS (ch : Nat) : Fld := ⟨0x4100007C + 0x10000 * (ch / 8) + 0x100 * (ch % 8), 24, 8, 0⟩
def FC_CH_DUTY_MEAN_LOAD (ch : Nat) : Fld := ⟨0x41000080 + 0x10000 * (ch / 8) + 0x100 * (ch % 8), 0, 16, 0⟩

/-! Chapter 08, Table 8.8. -/
def FC_CH_NET_SRC (ch : Nat) : Fld := ⟨0x41000090 + 0x10000 * (ch / 8) + 0x100 * (ch % 8), 0, 3, 0⟩
def FC_CH_NET_INVERT (ch : Nat) : Fld := ⟨0x41000090 + 0x10000 * (ch / 8) + 0x100 * (ch % 8), 3, 1, 0⟩
def FC_CH_NET_SRC_CH (ch : Nat) : Fld := ⟨0x41000090 + 0x10000 * (ch / 8) + 0x100 * (ch % 8), 8, 8, 0⟩
def FC_CH_NET_DELAY (ch : Nat) : Fld := ⟨0x41000090 + 0x10000 * (ch / 8) + 0x100 * (ch % 8), 16, 7, 0xA⟩
def FC_CH_LS_CTRL_NET_BIT (ch : Nat) : Fld := ⟨0x41000094 + 0x10000 * (ch / 8) + 0x100 * (ch % 8), 0, 1, 0⟩
def FC_CH_LS_CTRL_FORCE (ch : Nat) : Fld := ⟨0x41000094 + 0x10000 * (ch / 8) + 0x100 * (ch % 8), 1, 2, 0⟩
def FC_CH_LS_STATUS_NET (ch : Nat) : Fld := ⟨0x41000098 + 0x10000 * (ch / 8) + 0x100 * (ch % 8), 0, 1, 0⟩
def FC_CH_LS_STATUS_OUT (ch : Nat) : Fld := ⟨0x41000098 + 0x10000 * (ch / 8) + 0x100 * (ch % 8), 1, 1, 0⟩
def FC_CH_LS_STATUS_NET_HOLD (ch : Nat) : Fld := ⟨0x41000098 + 0x10000 * (ch / 8) + 0x100 * (ch % 8), 2, 1, 0⟩
def FC_CH_LS_STATUS_FROZEN (ch : Nat) : Fld := ⟨0x41000098 + 0x10000 * (ch / 8) + 0x100 * (ch % 8), 3, 1, 0⟩
def FC_CH_LS_STATUS_FORCED (ch : Nat) : Fld := ⟨0x41000098 + 0x10000 * (ch / 8) + 0x100 * (ch % 8), 4, 1, 0⟩
def FC_CH_LS_STATUS_NET_SILENT (ch : Nat) : Fld := ⟨0x41000098 + 0x10000 * (ch / 8) + 0x100 * (ch % 8), 5, 1, 0⟩
def FC_CH_LS_STATUS_NET_SHORT_EV (ch : Nat) : Fld := ⟨0x41000098 + 0x10000 * (ch / 8) + 0x100 * (ch % 8), 8, 1, 0⟩
def FC_CH_LS_STATUS_NET_LATE_EV (ch : Nat) : Fld := ⟨0x41000098 + 0x10000 * (ch / 8) + 0x100 * (ch % 8), 9, 1, 0⟩
def FC_CH_LS_STATUS_CLAMP_EV (ch : Nat) : Fld := ⟨0x41000098 + 0x10000 * (ch / 8) + 0x100 * (ch % 8), 10, 1, 0⟩
def FC_CH_LS_STATUS_CLAMP_MJ (ch : Nat) : Fld := ⟨0x41000098 + 0x10000 * (ch / 8) + 0x100 * (ch % 8), 16, 8, 0⟩
def FC_CH_LS_SILENT_REFRESH_MS (ch : Nat) : Fld := ⟨0x4100009C + 0x10000 * (ch / 8) + 0x100 * (ch % 8), 0, 16, 0⟩
def FC_CH_CNT_LS_NET_SHORT (ch : Nat) : Fld := ⟨0x410000A0 + 0x10000 * (ch / 8) + 0x100 * (ch % 8), 0, 8, 0⟩
def FC_CH_CNT_LS_NET_LATE (ch : Nat) : Fld := ⟨0x410000A0 + 0x10000 * (ch / 8) + 0x100 * (ch % 8), 8, 8, 0⟩
def FC_CH_CNT_LS_CLAMP_OVER (ch : Nat) : Fld := ⟨0x410000A0 + 0x10000 * (ch / 8) + 0x100 * (ch % 8), 16, 8, 0⟩
def FC_CH_LS_ONCNT_TURN_ON (ch : Nat) : Fld := ⟨0x410000A4 + 0x10000 * (ch / 8) + 0x100 * (ch % 8), 0, 32, 0⟩

/-! Chapter 08, Table 8.9. -/
def FC_CELL_LS_FREEZE (c : Nat) : Fld := ⟨0x41000810 + 0x10000 * c, 0, 1, 0⟩

/-! Chapter 09, Table 9.6. -/
def FC_CH_DIN_TOP (ch : Nat) : Fld := ⟨0x410000B0 + 0x10000 * (ch / 8) + 0x100 * (ch % 8), 0, 8, 0x14⟩
def FC_CH_DIN_HEART_MS (ch : Nat) : Fld := ⟨0x410000B0 + 0x10000 * (ch / 8) + 0x100 * (ch % 8), 16, 10, 0xA⟩
def FC_CH_DIN_STATE_STATE (ch : Nat) : Fld := ⟨0x410000B4 + 0x10000 * (ch / 8) + 0x100 * (ch % 8), 0, 1, 0⟩
def FC_CH_DIN_STATE_UNSETTLED (ch : Nat) : Fld := ⟨0x410000B4 + 0x10000 * (ch / 8) + 0x100 * (ch % 8), 1, 1, 1⟩
def FC_CH_DIN_STATE_OV (ch : Nat) : Fld := ⟨0x410000B4 + 0x10000 * (ch / 8) + 0x100 * (ch % 8), 2, 1, 0⟩
def FC_CH_DIN_STATE_CMP (ch : Nat) : Fld := ⟨0x410000B4 + 0x10000 * (ch / 8) + 0x100 * (ch % 8), 3, 2, 2⟩
def FC_CH_DIN_STATE_COUNT (ch : Nat) : Fld := ⟨0x410000B4 + 0x10000 * (ch / 8) + 0x100 * (ch % 8), 8, 8, 0⟩
def FC_CH_DIN_CNT_CHANGES (ch : Nat) : Fld := ⟨0x410000B8 + 0x10000 * (ch / 8) + 0x100 * (ch % 8), 0, 32, 0⟩
def FC_CH_DOUT_STATE_CMD (ch : Nat) : Fld := ⟨0x410000BC + 0x10000 * (ch / 8) + 0x100 * (ch % 8), 0, 1, 0⟩
def FC_CH_DOUT_STATE_OUT (ch : Nat) : Fld := ⟨0x410000BC + 0x10000 * (ch / 8) + 0x100 * (ch % 8), 1, 1, 0⟩

/-! Chapter 09, Table 9.7. -/
def FC_CELL_DIO_FAULT (c : Nat) : Fld := ⟨0x41000814 + 0x10000 * c, 0, 1, 0⟩
def FC_CELL_DIO_FAULT_CNT (c : Nat) : Fld := ⟨0x41000814 + 0x10000 * c, 16, 16, 0⟩

/-! Chapter 09, Table 9.8. -/
def FC_DCP_CFG_CH_A (p : Nat) : Fld := ⟨0x41300000 + 0x20 * p, 0, 8, 0⟩
def FC_DCP_CFG_CH_B (p : Nat) : Fld := ⟨0x41300000 + 0x20 * p, 8, 8, 0⟩
def FC_DCP_CFG_SAFE_A (p : Nat) : Fld := ⟨0x41300000 + 0x20 * p, 16, 1, 0⟩
def FC_DCP_CFG_SAFE_B (p : Nat) : Fld := ⟨0x41300000 + 0x20 * p, 17, 1, 0⟩
def FC_DCP_CFG_RESTART (p : Nat) : Fld := ⟨0x41300000 + 0x20 * p, 18, 1, 0⟩
def FC_DCP_TDISC_TDISC_MS (p : Nat) : Fld := ⟨0x41300004 + 0x20 * p, 0, 14, 0x64⟩
def FC_DCP_CTRL_EN (p : Nat) : Fld := ⟨0x41300008 + 0x20 * p, 0, 1, 0⟩
def FC_DCP_STATUS_STATE (p : Nat) : Fld := ⟨0x4130000C + 0x20 * p, 0, 3, 0⟩
def FC_DCP_STATUS_OUTPUT (p : Nat) : Fld := ⟨0x4130000C + 0x20 * p, 3, 1, 0⟩
def FC_DCP_STATUS_ARMED (p : Nat) : Fld := ⟨0x4130000C + 0x20 * p, 4, 1, 0⟩
def FC_DCP_STATUS_FAULT_EV (p : Nat) : Fld := ⟨0x4130000C + 0x20 * p, 8, 1, 0⟩
def FC_DCP_STATUS_DISC_MS (p : Nat) : Fld := ⟨0x4130000C + 0x20 * p, 16, 16, 0⟩
def FC_DCP_CNT_DISC (p : Nat) : Fld := ⟨0x41300010 + 0x20 * p, 0, 16, 0⟩
def FC_DCP_CNT_FAULTS (p : Nat) : Fld := ⟨0x41300010 + 0x20 * p, 16, 16, 0⟩

/-! Chapter 09, Table 9.9. -/
def ETH_EVT_FILTx_TICK (x : Nat) : Fld := ⟨0x47800F00 + 0x4 * x, 0, 10, 1⟩
def ETH_EVT_FILTx_TOP (x : Nat) : Fld := ⟨0x47800F00 + 0x4 * x, 16, 8, 0x14⟩
def ETH_EVT_STATEx_STATE (x : Nat) : Fld := ⟨0x47800F10 + 0x4 * x, 0, 1, 0⟩
def ETH_EVT_STATEx_UNSETTLED (x : Nat) : Fld := ⟨0x47800F10 + 0x4 * x, 1, 1, 1⟩
def ETH_EVT_STATEx_COUNT (x : Nat) : Fld := ⟨0x47800F10 + 0x4 * x, 8, 8, 0⟩
def ETH_EVT_STATEx_EDGES (x : Nat) : Fld := ⟨0x47800F10 + 0x4 * x, 16, 16, 0⟩

/-! Chapter 10, Table 10.18. -/
def FC_CH_AIN_RANGE (ch : Nat) : Fld := ⟨0x410000C0 + 0x10000 * (ch / 8) + 0x100 * (ch % 8), 0, 3, 1⟩
def FC_CH_AIN_RATIO (ch : Nat) : Fld := ⟨0x410000C0 + 0x10000 * (ch / 8) + 0x100 * (ch % 8), 4, 1, 0⟩
def FC_CH_AIN_REF_UNIT (ch : Nat) : Fld := ⟨0x410000C0 + 0x10000 * (ch / 8) + 0x100 * (ch % 8), 8, 3, 0⟩
def FC_CH_AIN_BAND_LO (ch : Nat) : Fld := ⟨0x410000C4 + 0x10000 * (ch / 8) + 0x100 * (ch % 8), 0, 12, 0⟩
def FC_CH_AIN_BAND_HI (ch : Nat) : Fld := ⟨0x410000C4 + 0x10000 * (ch / 8) + 0x100 * (ch % 8), 16, 12, 0xFFF⟩
def FC_CH_AIN_VAL_VALUE (ch : Nat) : Fld := ⟨0x410000C8 + 0x10000 * (ch / 8) + 0x100 * (ch % 8), 0, 32, 0⟩
def FC_CH_AIN_STAT_SEQ (ch : Nat) : Fld := ⟨0x410000CC + 0x10000 * (ch / 8) + 0x100 * (ch % 8), 0, 8, 0⟩
def FC_CH_AIN_STAT_STALE (ch : Nat) : Fld := ⟨0x410000CC + 0x10000 * (ch / 8) + 0x100 * (ch % 8), 8, 1, 1⟩
def FC_CH_AIN_STAT_OVR (ch : Nat) : Fld := ⟨0x410000CC + 0x10000 * (ch / 8) + 0x100 * (ch % 8), 9, 1, 0⟩
def FC_CH_AIN_STAT_BAND (ch : Nat) : Fld := ⟨0x410000CC + 0x10000 * (ch / 8) + 0x100 * (ch % 8), 10, 1, 0⟩
def FC_CH_AIN_STAT_SHORT (ch : Nat) : Fld := ⟨0x410000CC + 0x10000 * (ch / 8) + 0x100 * (ch % 8), 11, 1, 0⟩
def FC_CH_AIN_STAT_SUPPLY_BAD (ch : Nat) : Fld := ⟨0x410000CC + 0x10000 * (ch / 8) + 0x100 * (ch % 8), 12, 1, 0⟩
def FC_CH_AIN_STAT_P2P (ch : Nat) : Fld := ⟨0x410000CC + 0x10000 * (ch / 8) + 0x100 * (ch % 8), 16, 12, 0⟩
def FC_CH_FIN_MODE (ch : Nat) : Fld := ⟨0x410000D0 + 0x10000 * (ch / 8) + 0x100 * (ch % 8), 0, 2, 0⟩
def FC_CH_FIN_EDGE (ch : Nat) : Fld := ⟨0x410000D0 + 0x10000 * (ch / 8) + 0x100 * (ch % 8), 2, 2, 0⟩
def FC_CH_FIN_PULL (ch : Nat) : Fld := ⟨0x410000D0 + 0x10000 * (ch / 8) + 0x100 * (ch % 8), 4, 2, 0⟩
def FC_CH_FIN_THRESH (ch : Nat) : Fld := ⟨0x410000D0 + 0x10000 * (ch / 8) + 0x100 * (ch % 8), 8, 8, 0x32⟩
def FC_CH_FIN_HYST (ch : Nat) : Fld := ⟨0x410000D0 + 0x10000 * (ch / 8) + 0x100 * (ch % 8), 16, 5, 5⟩
def FC_CH_FIN_MIN_W (ch : Nat) : Fld := ⟨0x410000D0 + 0x10000 * (ch / 8) + 0x100 * (ch % 8), 24, 8, 0x14⟩
def FC_CH_FIN_ZERO_ZERO_MS (ch : Nat) : Fld := ⟨0x410000D4 + 0x10000 * (ch / 8) + 0x100 * (ch % 8), 0, 13, 0x1F4⟩
def FC_CH_FIN_VAL_VALUE (ch : Nat) : Fld := ⟨0x410000D8 + 0x10000 * (ch / 8) + 0x100 * (ch % 8), 0, 32, 0⟩
def FC_CH_FIN_POS_COUNT (ch : Nat) : Fld := ⟨0x410000DC + 0x10000 * (ch / 8) + 0x100 * (ch % 8), 0, 32, 0⟩
def FC_CH_FIN_STAT_SEQ (ch : Nat) : Fld := ⟨0x410000E0 + 0x10000 * (ch / 8) + 0x100 * (ch % 8), 0, 8, 0⟩
def FC_CH_FIN_STAT_STALE (ch : Nat) : Fld := ⟨0x410000E0 + 0x10000 * (ch / 8) + 0x100 * (ch % 8), 8, 1, 1⟩
def FC_CH_FIN_STAT_ZERO (ch : Nat) : Fld := ⟨0x410000E0 + 0x10000 * (ch / 8) + 0x100 * (ch % 8), 9, 1, 1⟩
def FC_CH_FIN_STAT_DIR (ch : Nat) : Fld := ⟨0x410000E0 + 0x10000 * (ch / 8) + 0x100 * (ch % 8), 10, 1, 0⟩
def FC_CH_FIN_STAT_EDGES (ch : Nat) : Fld := ⟨0x410000E0 + 0x10000 * (ch / 8) + 0x100 * (ch % 8), 16, 16, 0⟩
def FC_CH_FIN_CNT_GLITCH (ch : Nat) : Fld := ⟨0x410000E4 + 0x10000 * (ch / 8) + 0x100 * (ch % 8), 0, 16, 0⟩
def FC_CH_FIN_CNT_QUAD_ERR (ch : Nat) : Fld := ⟨0x410000E4 + 0x10000 * (ch / 8) + 0x100 * (ch % 8), 16, 16, 0⟩
def FC_CH_SUP_VSET (ch : Nat) : Fld := ⟨0x410000F0 + 0x10000 * (ch / 8) + 0x100 * (ch % 8), 0, 3, 1⟩
def FC_CH_SUP_STAT_SUP_LOW (ch : Nat) : Fld := ⟨0x410000F4 + 0x10000 * (ch / 8) + 0x100 * (ch % 8), 0, 1, 0⟩
def FC_CH_SUP_STAT_I_REG_MA (ch : Nat) : Fld := ⟨0x410000F4 + 0x10000 * (ch / 8) + 0x100 * (ch % 8), 16, 16, 0⟩

/-! Chapter 10, Table 10.19. -/
def TARN_CTRL_STOP (p : Nat) : Fld := ⟨0x42000000 + 0x1000 * p, 0, 1, 0⟩
def TARN_CTRL_START (p : Nat) : Fld := ⟨0x42000000 + 0x1000 * p, 1, 1, 0⟩
def TARN_CTRL_REENUM (p : Nat) : Fld := ⟨0x42000000 + 0x1000 * p, 2, 1, 0⟩
def TARN_CTRL_PWR_CLR (p : Nat) : Fld := ⟨0x42000000 + 0x1000 * p, 3, 1, 0⟩
def TARN_CTRL_CLR_CNT (p : Nat) : Fld := ⟨0x42000000 + 0x1000 * p, 4, 1, 0⟩
def TARN_CFG_PERIOD (p : Nat) : Fld := ⟨0x42000004 + 0x1000 * p, 0, 14, 0x7D0⟩
def TARN_CFG_HEADS (p : Nat) : Fld := ⟨0x42000004 + 0x1000 * p, 16, 6, 0⟩
def TARN_CFG_RING (p : Nat) : Fld := ⟨0x42000004 + 0x1000 * p, 22, 2, 0⟩
def TARN_CFG_PWR_EN (p : Nat) : Fld := ⟨0x42000004 + 0x1000 * p, 24, 1, 0⟩
def TARN_PHASE_PHASE (p : Nat) : Fld := ⟨0x42000008 + 0x1000 * p, 0, 14, 0⟩
def TARN_STATUS_STATE (p : Nat) : Fld := ⟨0x4200000C + 0x1000 * p, 0, 3, 0⟩
def TARN_STATUS_PWR_ON (p : Nat) : Fld := ⟨0x4200000C + 0x1000 * p, 3, 1, 0⟩
def TARN_STATUS_PWR_LATCH (p : Nat) : Fld := ⟨0x4200000C + 0x1000 * p, 4, 1, 0⟩
def TARN_STATUS_FOUND (p : Nat) : Fld := ⟨0x4200000C + 0x1000 * p, 8, 6, 0⟩
def TARN_STATUS_BREAK_LO (p : Nat) : Fld := ⟨0x4200000C + 0x1000 * p, 16, 6, 0⟩
def TARN_STATUS_BREAK_HI (p : Nat) : Fld := ⟨0x4200000C + 0x1000 * p, 24, 6, 0⟩
def TARN_PWR_VOLT_MV (p : Nat) : Fld := ⟨0x42000010 + 0x1000 * p, 0, 16, 0⟩
def TARN_PWR_CUR_MA (p : Nat) : Fld := ⟨0x42000010 + 0x1000 * p, 16, 16, 0⟩
def TARN_SWEEP_SWEEP_SEQ (p : Nat) : Fld := ⟨0x42000014 + 0x1000 * p, 0, 16, 0⟩
def TARN_SWEEP_VALID_COUNT (p : Nat) : Fld := ⟨0x42000014 + 0x1000 * p, 16, 6, 0⟩
def TARN_SWEEP_STALE (p : Nat) : Fld := ⟨0x42000014 + 0x1000 * p, 24, 1, 1⟩
def TARN_SWEEP_INFO_DURATION (p : Nat) : Fld := ⟨0x42000018 + 0x1000 * p, 0, 16, 0⟩
def TARN_SWEEP_INFO_CONF (p : Nat) : Fld := ⟨0x42000018 + 0x1000 * p, 16, 8, 0⟩
def TARN_EV_BREAK_EV (p : Nat) : Fld := ⟨0x42000020 + 0x1000 * p, 0, 1, 0⟩
def TARN_EV_HEAL_EV (p : Nat) : Fld := ⟨0x42000020 + 0x1000 * p, 1, 1, 0⟩
def TARN_EV_PWR_EV (p : Nat) : Fld := ⟨0x42000020 + 0x1000 * p, 2, 1, 0⟩
def TARN_EV_TYPE_EV (p : Nat) : Fld := ⟨0x42000020 + 0x1000 * p, 3, 1, 0⟩
def TARN_EV_ENUM_EV (p : Nat) : Fld := ⟨0x42000020 + 0x1000 * p, 4, 1, 0⟩
def TARN_EV_WAIT_EV (p : Nat) : Fld := ⟨0x42000020 + 0x1000 * p, 5, 1, 0⟩
def TARN_CNT_LINK_NO_REPLY (p : Nat) : Fld := ⟨0x42000024 + 0x1000 * p, 0, 16, 0⟩
def TARN_CNT_LINK_CRC (p : Nat) : Fld := ⟨0x42000024 + 0x1000 * p, 16, 16, 0⟩
def TARN_CNT_SWEEP_NOT_POLLED (p : Nat) : Fld := ⟨0x42000028 + 0x1000 * p, 0, 16, 0⟩
def TARN_CNT_SWEEP_BREAKS (p : Nat) : Fld := ⟨0x42000028 + 0x1000 * p, 16, 8, 0⟩
def TARN_CNT_SWEEP_PWR_FAULTS (p : Nat) : Fld := ⟨0x42000028 + 0x1000 * p, 24, 8, 0⟩
def TARN_CAL_T_RUN_MS (p : Nat) : Fld := ⟨0x4200002C + 0x1000 * p, 0, 32, 0⟩

/-! Chapter 10, Table 10.20. -/
def TARN_HEAD_ID_TYPE (p : Nat) (n : Nat) : Fld := ⟨0x42000100 + 0x1000 * p + 0x20 * n, 0, 8, 0⟩
def TARN_HEAD_ID_SUBTYPE (p : Nat) (n : Nat) : Fld := ⟨0x42000100 + 0x1000 * p + 0x20 * n, 8, 8, 0⟩
def TARN_HEAD_ID_EXP_TYPE (p : Nat) (n : Nat) : Fld := ⟨0x42000100 + 0x1000 * p + 0x20 * n, 16, 8, 0⟩
def TARN_HEAD_ID_EXP_SUB (p : Nat) (n : Nat) : Fld := ⟨0x42000100 + 0x1000 * p + 0x20 * n, 24, 8, 0⟩
def TARN_HEAD_SERIAL_SERIAL (p : Nat) (n : Nat) : Fld := ⟨0x42000104 + 0x1000 * p + 0x20 * n, 0, 32, 0⟩
def TARN_HEAD_STAT_REASON (p : Nat) (n : Nat) : Fld := ⟨0x42000108 + 0x1000 * p + 0x20 * n, 0, 3, 6⟩
def TARN_HEAD_STAT_FAR (p : Nat) (n : Nat) : Fld := ⟨0x42000108 + 0x1000 * p + 0x20 * n, 3, 1, 0⟩
def TARN_HEAD_STAT_RETRIED (p : Nat) (n : Nat) : Fld := ⟨0x42000108 + 0x1000 * p + 0x20 * n, 4, 1, 0⟩
def TARN_HEAD_STAT_CFG_FAIL (p : Nat) (n : Nat) : Fld := ⟨0x42000108 + 0x1000 * p + 0x20 * n, 5, 1, 0⟩
def TARN_HEAD_STAT_STALE (p : Nat) (n : Nat) : Fld := ⟨0x42000108 + 0x1000 * p + 0x20 * n, 6, 1, 1⟩
def TARN_HEAD_STAT_HSTATUS (p : Nat) (n : Nat) : Fld := ⟨0x42000108 + 0x1000 * p + 0x20 * n, 8, 8, 0⟩
def TARN_HEAD_STAT_CONF (p : Nat) (n : Nat) : Fld := ⟨0x42000108 + 0x1000 * p + 0x20 * n, 16, 8, 0⟩
def TARN_HEAD_CFG_CFG (p : Nat) (n : Nat) : Fld := ⟨0x4200010C + 0x1000 * p + 0x20 * n, 0, 32, 0⟩
def TARN_LOSS_CAL_K (p : Nat) (n : Nat) : Fld := ⟨0x42000110 + 0x1000 * p + 0x20 * n, 0, 16, 0⟩
def TARN_LOSS_CAL_BG (p : Nat) (n : Nat) : Fld := ⟨0x42000110 + 0x1000 * p + 0x20 * n, 16, 16, 0⟩
def TARN_LOSS_TKW_TKW (p : Nat) (n : Nat) : Fld := ⟨0x42000114 + 0x1000 * p + 0x20 * n, 0, 12, 0x1C2⟩
def TARN_LOSS_TKW_LOSS_MGS (p : Nat) (n : Nat) : Fld := ⟨0x42000114 + 0x1000 * p + 0x20 * n, 16, 16, 0⟩
def TARN_HEAD_CNT_NO_REPLY (p : Nat) (n : Nat) : Fld := ⟨0x42000118 + 0x1000 * p + 0x20 * n, 0, 8, 0⟩
def TARN_HEAD_CNT_CRC (p : Nat) (n : Nat) : Fld := ⟨0x42000118 + 0x1000 * p + 0x20 * n, 8, 8, 0⟩
def TARN_HEAD_CNT_STALE (p : Nat) (n : Nat) : Fld := ⟨0x42000118 + 0x1000 * p + 0x20 * n, 16, 8, 0⟩
def TARN_HEAD_CNT_WRONG (p : Nat) (n : Nat) : Fld := ⟨0x42000118 + 0x1000 * p + 0x20 * n, 24, 8, 0⟩
def TARN_CAL_ACC_G (p : Nat) (n : Nat) : Fld := ⟨0x4200011C + 0x1000 * p + 0x20 * n, 0, 32, 0⟩
def TARN_FRAMEn_Wm_BYTES (p : Nat) (n : Nat) (m : Nat) : Fld := ⟨0x42000800 + 0x1000 * p + 0x10 * n + 0x4 * m, 0, 32, 0⟩

end Sys2Proof.Machine.R
end

