-- ==== Sys2Proof/Machine/FieldsNav.lean ====
section
/-! DEFINITION. The fields of the register tables of the spec, one constant per field (Nav group: chapters 14, 15, 16, 17).
A constant is named REGISTER_FIELD in the spec's spelling; its address, bits and reset value are those of the register table.
Indices count from 0 (position n of a Tarn chain is index n - 1). Where the spec gives no number the reset is 0 (log entries 3 and 4). -/

namespace Sys2Proof.Machine.R

/-! Chapter 14, Table 14.17. -/
def GNS_CTRL_STOP : Fld := ⟨0x44800000, 0, 1, 0⟩
def GNS_CTRL_START : Fld := ⟨0x44800000, 1, 1, 0⟩
def GNS_CTRL_COLD : Fld := ⟨0x44800000, 2, 1, 0⟩
def GNS_CTRL_CLR_CNT : Fld := ⟨0x44800000, 3, 1, 0⟩
def GNS_STATUS_STATE : Fld := ⟨0x44800004, 0, 3, 0⟩
def GNS_STATUS_START_KIND : Fld := ⟨0x44800004, 3, 2, 0⟩
def GNS_STATUS_TRACKED : Fld := ⟨0x44800004, 8, 9, 0⟩
def GNS_STATUS_SVS : Fld := ⟨0x44800004, 24, 8, 0⟩
def GNS_CFG_MEAS_RATE : Fld := ⟨0x44800008, 0, 3, 4⟩
def GNS_CFG_PVT_RATE : Fld := ⟨0x44800008, 3, 3, 3⟩
def GNS_CFG_ELEV_MASK : Fld := ⟨0x44800008, 8, 5, 0xA⟩
def GNS_CFG_CNO_MASK : Fld := ⟨0x44800008, 16, 6, 0x1E⟩
def GNS_SIG_EN_EN : Fld := ⟨0x4480000C, 0, 32, 0x13EBF⟩
def GNS_HDG_SIG_EN : Fld := ⟨0x44800010, 0, 32, 0x219⟩
def GNS_ANTa_SUPPLY_EN (a : Nat) : Fld := ⟨0x44800014 + 0x4 * a, 0, 1, 1⟩
def GNS_ANTa_STATE (a : Nat) : Fld := ⟨0x44800014 + 0x4 * a, 1, 2, 0⟩
def GNS_ANTa_I_MA (a : Nat) : Fld := ⟨0x44800014 + 0x4 * a, 16, 16, 0⟩
def GNS_BASELINE_LEN_MM : Fld := ⟨0x4480001C, 0, 16, 0⟩
def GNS_BASELINE_TOL_MM : Fld := ⟨0x4480001C, 16, 8, 0x14⟩
def GNS_TRK_PLL_BW : Fld := ⟨0x44800020, 0, 5, 0xF⟩
def GNS_TRK_FLL_BW : Fld := ⟨0x44800020, 8, 7, 0x14⟩
def GNS_TRK_DLL_BW : Fld := ⟨0x44800020, 16, 8, 0x32⟩
def GNS_TRK_T_COH : Fld := ⟨0x44800020, 27, 5, 0x14⟩
def GNS_DLL_MODE : Fld := ⟨0x44800024, 0, 2, 2⟩
def GNS_DLL_D_NARROW : Fld := ⟨0x44800024, 8, 5, 0xA⟩
def GNS_DLL_CNO_TRACK : Fld := ⟨0x44800024, 16, 8, 0x1C⟩
def GNS_DLL_CNO_LOSS : Fld := ⟨0x44800024, 24, 8, 0x16⟩
def GNS_ACQ_N_NC : Fld := ⟨0x44800028, 0, 7, 0xA⟩
def GNS_RTK_AGE_MAX_S : Fld := ⟨0x4480002C, 0, 6, 0xA⟩
def GNS_CHK_A_CMC_TOL : Fld := ⟨0x44800030, 0, 8, 0x14⟩
def GNS_CHK_A_XBAND_TOL : Fld := ⟨0x44800030, 8, 8, 0x32⟩
def GNS_CHK_A_POW_MARGIN : Fld := ⟨0x44800030, 16, 8, 8⟩
def GNS_CHK_A_RAIM_GATE : Fld := ⟨0x44800030, 24, 8, 0x50⟩
def GNS_CHK_B_AOA_TOL : Fld := ⟨0x44800034, 0, 8, 0xF⟩
def GNS_CHK_B_TIME_JUMP_NS : Fld := ⟨0x44800034, 16, 16, 0x64⟩
def GNS_CHK_C_FREQ_TOL : Fld := ⟨0x44800038, 0, 16, 0x64⟩
def GNS_CHK_C_XSYS_TOL : Fld := ⟨0x44800038, 16, 16, 0x32⟩
def GNS_EXCL_EXCL_S : Fld := ⟨0x4480003C, 0, 10, 0x3C⟩
def GNS_EXCL_JAM_DB : Fld := ⟨0x4480003C, 16, 4, 6⟩
def GNS_PARK_REFRESH_MIN : Fld := ⟨0x44800040, 0, 8, 0x3C⟩
def GNS_PARK_FIX_MAX_S : Fld := ⟨0x44800040, 16, 9, 0x78⟩
def GNS_CONFMAP_SF_MM : Fld := ⟨0x44800044, 0, 16, 0xA⟩
def GNS_CONFMAP_SZ_CM : Fld := ⟨0x44800044, 16, 16, 0x3E8⟩
def GNS_HDGMAP_SF : Fld := ⟨0x44800048, 0, 16, 0x11⟩
def GNS_HDGMAP_SZ : Fld := ⟨0x44800048, 16, 16, 0x366⟩
def GNS_EV_EXCL_EV : Fld := ⟨0x44800050, 0, 1, 0⟩
def GNS_EV_SPOOF_EV : Fld := ⟨0x44800050, 1, 1, 0⟩
def GNS_EV_JAM_EV : Fld := ⟨0x44800050, 2, 1, 0⟩
def GNS_EV_ANT_EV : Fld := ⟨0x44800050, 3, 1, 0⟩
def GNS_EV_RTK_LOST_EV : Fld := ⟨0x44800050, 4, 1, 0⟩
def GNS_CNT_A_EXCLUSIONS : Fld := ⟨0x44800054, 0, 16, 0⟩
def GNS_CNT_A_SPOOF : Fld := ⟨0x44800054, 16, 16, 0⟩
def GNS_CNT_B_SLIPS : Fld := ⟨0x44800058, 0, 16, 0⟩
def GNS_CNT_B_LOSSES : Fld := ⟨0x44800058, 16, 16, 0⟩
def GNS_CNT_C_RTCM_CRC : Fld := ⟨0x4480005C, 0, 16, 0⟩
def GNS_CNT_C_RTCM_UNUSED : Fld := ⟨0x4480005C, 16, 16, 0⟩
def GNS_JAM_RISE : Fld := ⟨0x44800060, 0, 30, 0⟩
def GNS_TIME_OFS_OFFSET_NS : Fld := ⟨0x44800064, 0, 32, 0⟩
def GNS_TIME_STAT_SIGMA_NS : Fld := ⟨0x44800068, 0, 16, 0⟩
def GNS_TIME_STAT_TIME_REFUSED : Fld := ⟨0x44800068, 16, 1, 0⟩
def GNS_TIME_STAT_HOT_VALID : Fld := ⟨0x44800068, 17, 1, 0⟩
def GNS_PVT_STAT_STALE : Fld := ⟨0x4480006C, 0, 1, 1⟩
def GNS_PVT_STAT_CONF : Fld := ⟨0x4480006C, 8, 8, 0⟩
def GNS_PVT_Wn_BYTES (n : Nat) : Fld := ⟨0x44800070 + 0x4 * n, 0, 32, 0⟩
def GNS_HDG_Wn_BYTES (n : Nat) : Fld := ⟨0x448000B0 + 0x4 * n, 0, 32, 0⟩
def GNS_HDG_STAT_STALE : Fld := ⟨0x448000C8, 0, 1, 1⟩
def GNS_HDG_STAT_CONF : Fld := ⟨0x448000C8, 8, 8, 0⟩

/-! Chapter 14, Table 14.18. -/
def GNS_CHn_STAT_SIG (n : Nat) : Fld := ⟨0x44800400 + 0x10 * n, 0, 8, 0⟩
def GNS_CHn_STAT_SV (n : Nat) : Fld := ⟨0x44800400 + 0x10 * n, 8, 8, 0⟩
def GNS_CHn_STAT_STATE (n : Nat) : Fld := ⟨0x44800400 + 0x10 * n, 16, 3, 0⟩
def GNS_CHn_STAT_EXCL (n : Nat) : Fld := ⟨0x44800400 + 0x10 * n, 20, 4, 0⟩
def GNS_CHn_STAT_CNO (n : Nat) : Fld := ⟨0x44800400 + 0x10 * n, 24, 8, 0⟩
def GNS_CHn_LOCK_LOCK (n : Nat) : Fld := ⟨0x44800404 + 0x10 * n, 0, 16, 0⟩
def GNS_CHn_LOCK_SLIPS (n : Nat) : Fld := ⟨0x44800404 + 0x10 * n, 16, 8, 0⟩
def GNS_CHn_LOCK_SIDE_PEAK (n : Nat) : Fld := ⟨0x44800404 + 0x10 * n, 24, 8, 0⟩

/-! Chapter 14, Table 14.19. -/
def ETH_PPSx_CFG_EN (x : Nat) : Fld := ⟨0x47800E00 + 0x4 * x, 0, 1, 0⟩
def ETH_PPSx_CFG_GATE (x : Nat) : Fld := ⟨0x47800E00 + 0x4 * x, 1, 2, 1⟩
def ETH_PPSx_CFG_POL (x : Nat) : Fld := ⟨0x47800E00 + 0x4 * x, 3, 1, 0⟩
def ETH_PPSx_CFG_WIDTH_MS (x : Nat) : Fld := ⟨0x47800E00 + 0x4 * x, 16, 9, 0x64⟩
def ETH_PPS_HOLDMAX_NS : Fld := ⟨0x47800E08, 0, 32, 0x2710⟩
def ETH_PPSB_DELAY_DELAY_NS : Fld := ⟨0x47800E0C, 0, 32, 0⟩
def ETH_PPSA_QERR_ERR_PS : Fld := ⟨0x47800E10, 0, 32, 0⟩
def ETH_PPSA_QSEQ_SEC : Fld := ⟨0x47800E14, 0, 32, 0⟩
def ETH_PPS_STAT_RUN_A : Fld := ⟨0x47800E18, 0, 1, 0⟩
def ETH_PPS_STAT_RUN_B : Fld := ⟨0x47800E18, 1, 1, 0⟩
def ETH_PPS_STAT_GATED : Fld := ⟨0x47800E18, 16, 16, 0⟩

/-! Chapter 15, Table 15.10. -/
def STR_CTRL_CLR_CNT : Fld := ⟨0x45000000, 0, 1, 0⟩
def STR_CTRL_REFIND : Fld := ⟨0x45000000, 1, 1, 0⟩
def STR_STATUS_STATE : Fld := ⟨0x45000004, 0, 2, 0⟩
def STR_STATUS_USABLE : Fld := ⟨0x45000004, 2, 1, 0⟩
def STR_STATUS_OUT_LOST : Fld := ⟨0x45000004, 3, 1, 0⟩
def STR_STATUS_LOADED : Fld := ⟨0x45000004, 4, 1, 0⟩
def STR_STATUS_POINT : Fld := ⟨0x45000004, 16, 16, 0⟩
def STR_GEOM_WB_MM : Fld := ⟨0x45000008, 0, 16, 0xED8⟩
def STR_GEOM_REAR : Fld := ⟨0x45000008, 16, 1, 1⟩
def STR_CP_CP_X_MM : Fld := ⟨0x4500000C, 0, 32, 0⟩
def STR_GAIN_KY : Fld := ⟨0x45000010, 0, 16, 0x3E8⟩
def STR_GAIN_KPSI : Fld := ⟨0x45000010, 16, 16, 0x7D0⟩
def STR_LIM_DELTA_MAX : Fld := ⟨0x45000014, 0, 16, 0x1B58⟩
def STR_LIM_DELTA_RATE : Fld := ⟨0x45000014, 16, 16, 0xDAC⟩
def STR_SPEED_A_LAT : Fld := ⟨0x45000018, 0, 16, 0x3E8⟩
def STR_SPEED_V_MIN : Fld := ⟨0x45000018, 16, 8, 5⟩
def STR_LEAD_LEAD_MS : Fld := ⟨0x4500001C, 0, 10, 0xC8⟩
def STR_USE_POS_MIN : Fld := ⟨0x45000020, 0, 8, 0xE6⟩
def STR_USE_HDG_MIN : Fld := ⟨0x45000020, 8, 8, 0x80⟩
def STR_USE_AGE_MAX_MS : Fld := ⟨0x45000020, 16, 9, 0x64⟩
def STR_GRACE_GRACE_MS : Fld := ⟨0x45000024, 0, 11, 0x12C⟩
def STR_ENGAGE_ENG_MM : Fld := ⟨0x45000028, 0, 16, 0x12C⟩
def STR_ENGAGE_ENG_HDG : Fld := ⟨0x45000028, 16, 8, 0xA⟩
def STR_ENGAGE_ENG_WAIT_S : Fld := ⟨0x45000028, 24, 8, 0x1E⟩
def STR_OVR_SRC_STREAM : Fld := ⟨0x4500002C, 0, 16, 0⟩
def STR_OVR_SRC_OFFSET : Fld := ⟨0x4500002C, 16, 12, 0⟩
def STR_OVR_SRC_TYPE : Fld := ⟨0x4500002C, 28, 4, 0⟩
def STR_OVR_CFG_THR : Fld := ⟨0x45000030, 0, 16, 0xFFFF⟩
def STR_OVR_CFG_FRAMES : Fld := ⟨0x45000030, 16, 8, 5⟩
def STR_OUT_KIND : Fld := ⟨0x45000034, 0, 1, 0⟩
def STR_OUT_CH_A : Fld := ⟨0x45000034, 8, 8, 0xFF⟩
def STR_OUT_CH_B : Fld := ⟨0x45000034, 16, 8, 0xFF⟩
def STR_OUT_PORT : Fld := ⟨0x45000034, 24, 5, 0⟩
def STR_OUT_FB_FB_STREAM : Fld := ⟨0x45000038, 0, 16, 0⟩
def STR_OUT_FB_FB_AGE : Fld := ⟨0x45000038, 16, 8, 5⟩
def STR_PATH_SEL_ACTIVE : Fld := ⟨0x45000040, 0, 2, 0⟩
def STR_PATH_SEL_EN : Fld := ⟨0x45000040, 2, 1, 0⟩
def STR_PATH_CTRL_BUF : Fld := ⟨0x45000044, 0, 2, 0⟩
def STR_PATH_CTRL_COMMIT : Fld := ⟨0x45000044, 2, 1, 0⟩
def STR_PATH_CTRL_INVALIDATE : Fld := ⟨0x45000044, 3, 1, 0⟩
def STR_PATHb_STAT_VALID (b : Nat) : Fld := ⟨0x45000048 + 0x4 * b, 0, 1, 0⟩
def STR_PATHb_STAT_CHECK (b : Nat) : Fld := ⟨0x45000048 + 0x4 * b, 8, 8, 0⟩
def STR_PATHb_STAT_POINTS (b : Nat) : Fld := ⟨0x45000048 + 0x4 * b, 16, 16, 0⟩
def STR_ERR_EY_MM : Fld := ⟨0x45000060, 0, 32, 0⟩
def STR_ERR2_EPSI : Fld := ⟨0x45000064, 0, 16, 0⟩
def STR_ERR2_DELTA : Fld := ⟨0x45000064, 16, 16, 0⟩
def STR_ERR3_FSEQ : Fld := ⟨0x45000068, 0, 32, 0⟩
def STR_EV_ENGAGE_EV : Fld := ⟨0x45000070, 0, 1, 0⟩
def STR_EV_DISENGAGE_EV : Fld := ⟨0x45000070, 1, 1, 0⟩
def STR_EV_OVERRIDE_EV : Fld := ⟨0x45000070, 2, 1, 0⟩
def STR_EV_DR_EV : Fld := ⟨0x45000070, 3, 1, 0⟩
def STR_EV_END_EV : Fld := ⟨0x45000070, 4, 1, 0⟩
def STR_EV_OUT_LOST_EV : Fld := ⟨0x45000070, 5, 1, 0⟩
def STR_EV_ENG_TIMEOUT_EV : Fld := ⟨0x45000070, 6, 1, 0⟩
def STR_CNT_ENGAGES : Fld := ⟨0x45000074, 0, 16, 0⟩
def STR_CNT_OVERRIDES : Fld := ⟨0x45000074, 16, 16, 0⟩
def STR_CNT_B_GRACE : Fld := ⟨0x45000078, 0, 16, 0⟩
def STR_CNT_B_GRACE_EXP : Fld := ⟨0x45000078, 16, 16, 0⟩
def STR_SPT_PIVOT_PX : Fld := ⟨0x45000200, 0, 16, 0⟩
def STR_SPT_PIVOT_PY : Fld := ⟨0x45000200, 16, 16, 0⟩
def STR_SPT_REACH_REACH : Fld := ⟨0x45000204, 0, 16, 0⟩
def STR_SPT_SWING_TH_MIN : Fld := ⟨0x45000208, 0, 16, 0⟩
def STR_SPT_SWING_TH_MAX : Fld := ⟨0x45000208, 16, 16, 0⟩
def STR_SPT_ANT_ANT_X : Fld := ⟨0x4500020C, 0, 16, 0⟩
def STR_SPT_ANT_ANT_Y : Fld := ⟨0x4500020C, 16, 16, 0⟩
def STR_SPT_BIN_BIN_X : Fld := ⟨0x45000210, 0, 16, 0⟩
def STR_SPT_BIN_BIN_Y : Fld := ⟨0x45000210, 16, 16, 0⟩
def STR_SPT_SIZE_BIN_L : Fld := ⟨0x45000214, 0, 16, 0⟩
def STR_SPT_SIZE_BIN_W : Fld := ⟨0x45000214, 16, 16, 0⟩
def STR_SPT_AIM_AIM_MM : Fld := ⟨0x45000218, 0, 16, 0⟩
def STR_SPT_AIM_MARGIN_MM : Fld := ⟨0x45000218, 16, 16, 0x190⟩
def STR_SPT_LEAD_LEAD_MS : Fld := ⟨0x4500021C, 0, 16, 0x190⟩
def STR_SPT_LEAD_CVY_MIN : Fld := ⟨0x4500021C, 16, 8, 0xC8⟩
def STR_SPT_STAT_ACTIVE : Fld := ⟨0x45000220, 0, 1, 0⟩
def STR_SPT_STAT_GATE_OK : Fld := ⟨0x45000220, 1, 1, 0⟩
def STR_SPT_STAT_IN_BIN : Fld := ⟨0x45000220, 2, 1, 0⟩
def STR_SPT_STAT_SWING_LIMIT : Fld := ⟨0x45000220, 3, 1, 0⟩
def STR_SPT_STAT_EDGE_MM : Fld := ⟨0x45000220, 16, 16, 0⟩

/-! Chapter 15, Table 15.11. -/
def STR_CVY_CTRL_CLR_CNT : Fld := ⟨0x45080000, 0, 1, 0⟩
def STR_CVY_CTRL_RESET_AMB : Fld := ⟨0x45080000, 1, 1, 0⟩
def STR_CVY_CFG_RATE : Fld := ⟨0x45080004, 0, 2, 3⟩
def STR_CVY_CFG_WAIT_MS : Fld := ⟨0x45080004, 8, 8, 0x96⟩
def STR_CVY_CFG_EXTRAP_MS : Fld := ⟨0x45080004, 16, 10, 0x12C⟩
def STR_CVY_LOSS_LOSS_MS : Fld := ⟨0x45080008, 0, 13, 0x3E8⟩
def STR_CVY_MAP_SF_MM : Fld := ⟨0x4508000C, 0, 16, 0xA⟩
def STR_CVY_MAP_SZ_MM : Fld := ⟨0x4508000C, 16, 16, 0x1F4⟩
def STR_CVY_STAT_STATE : Fld := ⟨0x45080010, 0, 2, 0⟩
def STR_CVY_STAT_PARTNER_LOST : Fld := ⟨0x45080010, 2, 1, 0⟩
def STR_CVY_STAT_STALE : Fld := ⟨0x45080010, 3, 1, 1⟩
def STR_CVY_STAT_COMMON : Fld := ⟨0x45080010, 8, 8, 0⟩
def STR_CVY_STAT_AGE_MS : Fld := ⟨0x45080010, 16, 16, 0⟩
def STR_CVY_EV_FIX_EV : Fld := ⟨0x45080014, 0, 1, 0⟩
def STR_CVY_EV_LOSS_EV : Fld := ⟨0x45080014, 1, 1, 0⟩
def STR_CVY_EV_EXTRAP_EV : Fld := ⟨0x45080014, 2, 1, 0⟩
def STR_CVY_EV_AMB_EV : Fld := ⟨0x45080014, 3, 1, 0⟩
def STR_CVY_CNT_EXTRAP : Fld := ⟨0x45080018, 0, 16, 0⟩
def STR_CVY_CNT_NONE : Fld := ⟨0x45080018, 16, 16, 0⟩
def STR_CVY_Wn_BYTES (n : Nat) : Fld := ⟨0x45080020 + 0x4 * n, 0, 32, 0⟩

/-! Chapter 16, Table 16.10. -/
def YLD_CTRL_STOP : Fld := ⟨0x46000000, 0, 1, 0⟩
def YLD_CTRL_START : Fld := ⟨0x46000000, 1, 1, 0⟩
def YLD_CTRL_CLR_CNT : Fld := ⟨0x46000000, 2, 1, 0⟩
def YLD_CTRL_NEW_PASS : Fld := ⟨0x46000000, 3, 1, 0⟩
def YLD_CTRL_FLUSH : Fld := ⟨0x46000000, 4, 1, 0⟩
def YLD_STATUS_STATE : Fld := ⟨0x46000004, 0, 3, 0⟩
def YLD_STATUS_METHOD : Fld := ⟨0x46000004, 3, 2, 0⟩
def YLD_STATUS_C_TM : Fld := ⟨0x46000004, 8, 8, 0⟩
def YLD_STATUS_PASS : Fld := ⟨0x46000004, 16, 16, 0⟩
def YLD_TM_TAU : Fld := ⟨0x46000008, 0, 16, 0⟩
def YLD_TM_SIGMA : Fld := ⟨0x46000008, 16, 16, 0⟩
def YLD_TM_B_TAU_HF : Fld := ⟨0x4600000C, 0, 16, 0⟩
def YLD_TM_B_STALE : Fld := ⟨0x4600000C, 16, 1, 1⟩
def YLD_TM_FIX_T_FIX : Fld := ⟨0x46000010, 0, 12, 0x78⟩
def YLD_TM_FIX_CV_FIX : Fld := ⟨0x46000010, 16, 8, 0x33⟩
def YLD_TM_STAGEs_R (s : Nat) : Fld := ⟨0x46000014 + 0x4 * s, 0, 16, 0x3E8⟩
def YLD_TM_STAGEs_CV (s : Nat) : Fld := ⟨0x46000014 + 0x4 * s, 16, 8, 0x1A⟩
def YLD_TM_REFs_N_REF (s : Nat) : Fld := ⟨0x46000024 + 0x4 * s, 0, 16, 0⟩
def YLD_TM_REFs_CAL (s : Nat) : Fld := ⟨0x46000024 + 0x4 * s, 16, 1, 0⟩
def YLD_DEC_WIN : Fld := ⟨0x46000034, 0, 10, 0x100⟩
def YLD_DEC_LAMBDA : Fld := ⟨0x46000034, 16, 8, 0x10⟩
def YLD_DEC_THR_TM_DECONV : Fld := ⟨0x46000038, 0, 8, 0x80⟩
def YLD_DEC_THR_TM_SHIFT : Fld := ⟨0x46000038, 8, 8, 0x40⟩
def YLD_DEC_THR_LOW_THR : Fld := ⟨0x46000038, 16, 8, 0x60⟩
def YLD_MF_CFG_S0 : Fld := ⟨0x4600003C, 0, 20, 0⟩
def YLD_MF_REF_N_REF : Fld := ⟨0x46000040, 0, 16, 0x1A4⟩
def YLD_MF_REF_K_M : Fld := ⟨0x46000040, 16, 16, 0x1000⟩
def YLD_MF_Sk_S (k : Nat) : Fld := ⟨0x46000044 + 0x8 * k, 0, 20, 0⟩
def YLD_MF_Qk_Q (k : Nat) : Fld := ⟨0x46000048 + 0x8 * k, 0, 32, 0⟩
def YLD_MOIST_A_I_UA : Fld := ⟨0x46000084, 0, 16, 0xFA0⟩
def YLD_MOIST_A_M : Fld := ⟨0x46000084, 16, 16, 0x1F4⟩
def YLD_MOIST_B_I_UA : Fld := ⟨0x46000088, 0, 16, 0x4E20⟩
def YLD_MOIST_B_M : Fld := ⟨0x46000088, 16, 16, 0x9C4⟩
def YLD_HDR_WIDTH_CM : Fld := ⟨0x4600008C, 0, 16, 0x4C4⟩
def YLD_HDR_N_SEC : Fld := ⟨0x4600008C, 16, 5, 0x10⟩
def YLD_HDR_SPLIT : Fld := ⟨0x4600008C, 24, 4, 8⟩
def YLD_HDR_X_MM : Fld := ⟨0x46000090, 0, 32, 0⟩
def YLD_HDR_Y_MM : Fld := ⟨0x46000094, 0, 32, 0⟩
def YLD_LAT_H_STUB : Fld := ⟨0x46000098, 0, 12, 0x96⟩
def YLD_LAT_L_AHEAD : Fld := ⟨0x46000098, 16, 8, 0xC⟩
def YLD_LAT_D_AUG : Fld := ⟨0x46000098, 24, 8, 5⟩
def YLD_LAT_T_T_MIN : Fld := ⟨0x4600009C, 0, 16, 0x32⟩
def YLD_PLACE_POS_MIN : Fld := ⟨0x460000A0, 0, 8, 0x80⟩
def YLD_PLACE_CARRY_S : Fld := ⟨0x460000A0, 8, 8, 0xA⟩
def YLD_PLACE_PASS_GAP_S : Fld := ⟨0x460000A0, 16, 8, 5⟩
def YLD_EV_PLATE_EV : Fld := ⟨0x460000A4, 0, 1, 0⟩
def YLD_EV_TAU_RANGE_EV : Fld := ⟨0x460000A4, 1, 1, 0⟩
def YLD_EV_LOSS_EV : Fld := ⟨0x460000A4, 2, 1, 0⟩
def YLD_EV_CAL_FAIL : Fld := ⟨0x460000A4, 3, 1, 0⟩
def YLD_UNPLACED_G : Fld := ⟨0x460000A8, 0, 32, 0⟩
def YLD_DROPPED_G : Fld := ⟨0x460000AC, 0, 32, 0⟩
def YLD_CNT_LATE_COUNT : Fld := ⟨0x460000B0, 0, 32, 0⟩
def YLD_LEDGER_A_G : Fld := ⟨0x460000B4, 0, 32, 0⟩
def YLD_LEDGER_F_G : Fld := ⟨0x460000B8, 0, 32, 0⟩
def YLD_CAL_STAT_RUN : Fld := ⟨0x460000C0, 0, 2, 0⟩
def YLD_CAL_STAT_READY : Fld := ⟨0x460000C0, 2, 1, 0⟩
def YLD_CAL_ACC_G : Fld := ⟨0x460000C4, 0, 32, 0⟩
def YLD_CAL_W_G : Fld := ⟨0x460000C8, 0, 32, 0⟩
def YLD_CAL_CAND_FIRST : Fld := ⟨0x460000CC, 0, 16, 0⟩
def YLD_CAL_CAND_SECOND : Fld := ⟨0x460000CC, 16, 16, 0⟩
def YLD_SECs_HEAD (s : Nat) : Fld := ⟨0x46000100 + 0x4 * s, 0, 6, 0⟩
def YLD_INk_SRC_STREAM (k : Nat) : Fld := ⟨0x46000200 + 0x10 * k, 0, 16, 0⟩
def YLD_INk_SRC_OFFSET (k : Nat) : Fld := ⟨0x46000200 + 0x10 * k, 16, 12, 0⟩
def YLD_INk_SRC_TYPE (k : Nat) : Fld := ⟨0x46000200 + 0x10 * k, 28, 4, 0⟩
def YLD_INk_CFG_F_IN (k : Nat) : Fld := ⟨0x46000204 + 0x10 * k, 0, 5, 0⟩
def YLD_INk_CFG_MAX_AGE (k : Nat) : Fld := ⟨0x46000204 + 0x10 * k, 8, 8, 0xA⟩
def YLD_INk_CFG_ROLE (k : Nat) : Fld := ⟨0x46000204 + 0x10 * k, 16, 4, 0⟩
def YLD_INk_SPAN_SPAN (k : Nat) : Fld := ⟨0x46000208 + 0x10 * k, 0, 16, 0⟩
def YLD_INk_STAT_CONF (k : Nat) : Fld := ⟨0x4600020C + 0x10 * k, 0, 8, 0⟩
def YLD_INk_STAT_VALID (k : Nat) : Fld := ⟨0x4600020C + 0x10 * k, 8, 1, 0⟩
def YLD_INk_STAT_STALE (k : Nat) : Fld := ⟨0x4600020C + 0x10 * k, 9, 1, 1⟩
def YLD_INk_STAT_AGED (k : Nat) : Fld := ⟨0x4600020C + 0x10 * k, 10, 1, 0⟩

/-! Chapter 16, Table 16.11. -/
def YLD_T_CTRL_STOP : Fld := ⟨0x46080000, 0, 1, 0⟩
def YLD_T_CTRL_START : Fld := ⟨0x46080000, 1, 1, 0⟩
def YLD_T_CTRL_CLR_CNT : Fld := ⟨0x46080000, 2, 1, 0⟩
def YLD_T_CTRL_FLUSH : Fld := ⟨0x46080000, 3, 1, 0⟩
def YLD_T_STATUS_RUN : Fld := ⟨0x46080004, 0, 1, 0⟩
def YLD_T_STATUS_LIVE : Fld := ⟨0x46080004, 8, 6, 0⟩
def YLD_T_STATUS_PRIOR : Fld := ⟨0x46080004, 16, 6, 0⟩
def YLD_T_STATUS_FLEET : Fld := ⟨0x46080004, 24, 4, 0⟩
def YLD_T_GRID_ZONE : Fld := ⟨0x46080008, 0, 6, 1⟩
def YLD_T_GRID_SOUTH : Fld := ⟨0x46080008, 6, 1, 0⟩
def YLD_T_E0_M : Fld := ⟨0x4608000C, 0, 32, 0⟩
def YLD_T_N0_M : Fld := ⟨0x46080010, 0, 32, 0⟩
def YLD_T_SEASON_SEASON : Fld := ⟨0x46080014, 0, 32, 0⟩
def YLD_T_PRIOR_SEASON : Fld := ⟨0x46080018, 0, 32, 0⟩
def YLD_T_TIMES_FLUSH_S : Fld := ⟨0x4608001C, 0, 9, 0xA⟩
def YLD_T_TIMES_DELTA_S : Fld := ⟨0x4608001C, 16, 9, 0x1E⟩
def YLD_T_FF_PRIOR_MIN : Fld := ⟨0x46080020, 0, 8, 0x60⟩
def YLD_T_FF_FF_LEAD : Fld := ⟨0x46080020, 8, 8, 0xA⟩
def YLD_T_FF_FF_LEN : Fld := ⟨0x46080020, 16, 8, 3⟩
def YLD_T_FF_STAT_RATIO : Fld := ⟨0x46080024, 0, 16, 0x1000⟩
def YLD_T_FF_STAT_CONF : Fld := ⟨0x46080024, 16, 8, 0⟩
def YLD_T_FF_STAT_K_AHEAD : Fld := ⟨0x46080024, 24, 8, 0⟩
def YLD_T_FF_STAT2_Y_AHEAD : Fld := ⟨0x46080028, 0, 16, 0⟩
def YLD_T_FF_STAT2_STALE : Fld := ⟨0x46080028, 16, 1, 1⟩
def YLD_T_EV_TILE_WAIT_EV : Fld := ⟨0x4608002C, 0, 1, 0⟩
def YLD_T_CNT_A_READS : Fld := ⟨0x46080030, 0, 16, 0⟩
def YLD_T_CNT_A_EVICTIONS : Fld := ⟨0x46080030, 16, 16, 0⟩
def YLD_T_CNT_B_DELTAS_TX : Fld := ⟨0x46080034, 0, 16, 0⟩
def YLD_T_CNT_B_DELTAS_RX : Fld := ⟨0x46080034, 16, 16, 0⟩
def YLD_T_CNT_C_DELTA_STALE : Fld := ⟨0x46080038, 0, 16, 0⟩
def YLD_T_CNT_C_SENDER_REFUSED : Fld := ⟨0x46080038, 16, 8, 0⟩
def YLD_T_CNT_C_REPLAY_CNT : Fld := ⟨0x46080038, 24, 8, 0⟩
def YLD_T_ACK_CSEQ : Fld := ⟨0x4608003C, 0, 32, 0⟩
def YLD_T_QTILE_TX : Fld := ⟨0x46080040, 0, 16, 0⟩
def YLD_T_QTILE_TY : Fld := ⟨0x46080040, 16, 16, 0⟩
def YLD_T_QCELL_INDEX : Fld := ⟨0x46080044, 0, 18, 0⟩
def YLD_T_QCELL_LAYER : Fld := ⟨0x46080044, 24, 4, 0⟩
def YLD_T_QSTAT_STATE : Fld := ⟨0x46080048, 0, 2, 0⟩
def YLD_T_QWn_BYTES (n : Nat) : Fld := ⟨0x4608004C + 0x4 * n, 0, 32, 0⟩

/-! Chapter 17, Table 17.11. -/
def SST_CTRL_STOP : Fld := ⟨0x46800000, 0, 1, 0⟩
def SST_CTRL_START : Fld := ⟨0x46800000, 1, 1, 0⟩
def SST_CTRL_RESCAN : Fld := ⟨0x46800000, 2, 1, 0⟩
def SST_CTRL_FLUSH : Fld := ⟨0x46800000, 3, 1, 0⟩
def SST_CTRL_CLR_CNT : Fld := ⟨0x46800000, 4, 1, 0⟩
def SST_STATUS_STATE : Fld := ⟨0x46800004, 0, 3, 0⟩
def SST_STATUS_LEVEL : Fld := ⟨0x46800004, 3, 2, 0⟩
def SST_STATUS_ONLINE : Fld := ⟨0x46800004, 8, 4, 0⟩
def SST_POLICY_POLICY : Fld := ⟨0x46800008, 0, 2, 0⟩
def SST_POLICY_RECYCLE : Fld := ⟨0x46800008, 2, 1, 0⟩
def SST_POLICY_DRIVES : Fld := ⟨0x46800008, 8, 4, 0xF⟩
def SST_TIMES_STALL_MS : Fld := ⟨0x4680000C, 0, 9, 0x96⟩
def SST_TIMES_SHED_MS : Fld := ⟨0x4680000C, 16, 9, 0xFA⟩
def SST_TIMES2_CMD_TIMEOUT_MS : Fld := ⟨0x46800010, 0, 14, 0x7D0⟩
def SST_TIMES2_RESTORE_S : Fld := ⟨0x46800010, 16, 6, 0xA⟩
def SST_TIMES2_MOUNT_S : Fld := ⟨0x46800010, 24, 6, 0x14⟩
def SST_T01_T01_MAX_MIB : Fld := ⟨0x46800014, 0, 5, 4⟩
def SST_EV_SHED_EV : Fld := ⟨0x46800018, 0, 1, 0⟩
def SST_EV_RESTORE_EV : Fld := ⟨0x46800018, 1, 1, 0⟩
def SST_EV_FULL_EV : Fld := ⟨0x46800018, 2, 1, 0⟩
def SST_EV_STALL_EV : Fld := ⟨0x46800018, 3, 1, 0⟩
def SST_EV_FAIL_EV : Fld := ⟨0x46800018, 4, 1, 0⟩
def SST_FMT_KEY : Fld := ⟨0x4680001C, 0, 16, 0⟩
def SST_FMT_DRIVES : Fld := ⟨0x4680001C, 16, 4, 0⟩
def SST_TIERt_BLK_COUNT (t : Nat) : Fld := ⟨0x46800020 + 0x8 * t, 0, 32, 0⟩
def SST_TIERt_DROP_KIB (t : Nat) : Fld := ⟨0x46800024 + 0x8 * t, 0, 32, 0⟩
def SST_BACKLOG_AGE_MS : Fld := ⟨0x46800040, 0, 16, 0⟩
def SST_BACKLOG_T01_KIB : Fld := ⟨0x46800040, 16, 16, 0⟩
def SST_MP_STAGING_MIB : Fld := ⟨0x46800044, 0, 16, 0⟩
def SST_MP_PEAK_MIB : Fld := ⟨0x46800044, 16, 16, 0⟩
def SST_FREE_GB : Fld := ⟨0x46800048, 0, 32, 0⟩
def SST_CNT_FAULT_REISSUE : Fld := ⟨0x4680004C, 0, 16, 0⟩
def SST_CNT_FAULT_GAPS : Fld := ⟨0x4680004C, 16, 8, 0⟩
def SST_CNT_FAULT_DRIVE_LOST : Fld := ⟨0x4680004C, 24, 8, 0⟩
def SST_Dd_STAT_STATE (d : Nat) : Fld := ⟨0x46800100 + 0x10 * d, 0, 3, 0⟩
def SST_Dd_STAT_SPEED (d : Nat) : Fld := ⟨0x46800100 + 0x10 * d, 8, 2, 0⟩
def SST_Dd_STAT_TAGS (d : Nat) : Fld := ⟨0x46800100 + 0x10 * d, 16, 14, 0⟩
def SST_Dd_CAP_GB (d : Nat) : Fld := ⟨0x46800104 + 0x10 * d, 0, 32, 0⟩
def SST_Dd_CNT_TIMEOUTS (d : Nat) : Fld := ⟨0x46800108 + 0x10 * d, 0, 16, 0⟩
def SST_Dd_CNT_RESETS (d : Nat) : Fld := ⟨0x46800108 + 0x10 * d, 16, 8, 0⟩
def SST_Dd_CNT_ERRORS (d : Nat) : Fld := ⟨0x46800108 + 0x10 * d, 24, 8, 0⟩
def SST_Dd_DEBT_BLOCKS (d : Nat) : Fld := ⟨0x4680010C + 0x10 * d, 0, 32, 0⟩
def SST_RP_FROM_LO_NS : Fld := ⟨0x46800200, 0, 32, 0⟩
def SST_RP_FROM_HI_NS : Fld := ⟨0x46800204, 0, 32, 0⟩
def SST_RP_TO_LO_NS : Fld := ⟨0x46800208, 0, 32, 0⟩
def SST_RP_TO_HI_NS : Fld := ⟨0x4680020C, 0, 32, 0⟩
def SST_RP_CTRL_OPEN : Fld := ⟨0x46800210, 0, 1, 0⟩
def SST_RP_CTRL_CLOSE : Fld := ⟨0x46800210, 1, 1, 0⟩
def SST_RP_STAT_STATE : Fld := ⟨0x46800214, 0, 3, 0⟩
def SST_RP_STAT_LAG_EV : Fld := ⟨0x46800214, 3, 1, 0⟩
def SST_RP_STAT_END_EV : Fld := ⟨0x46800214, 4, 1, 0⟩
def SST_RP_STAT_CODE : Fld := ⟨0x46800214, 8, 8, 0⟩
def SST_RP_STAT_FALLBACK : Fld := ⟨0x46800214, 16, 16, 0⟩
def SST_RP_LAG_MS : Fld := ⟨0x46800218, 0, 32, 0⟩

end Sys2Proof.Machine.R
end

