-- ==== Sys2Proof/Machine/FieldsNet.lean ====
section
/-! DEFINITION. The fields of the register tables of the spec, one constant per field (Net group: chapters 18, 19, 20).
A constant is named REGISTER_FIELD in the spec's spelling; its address, bits and reset value are those of the register table.
Indices count from 0 (position n of a Tarn chain is index n - 1). Where the spec gives no number the reset is 0 (log entries 3 and 4). -/

namespace Sys2Proof.Machine.R

/-! Chapter 18, Table 18.10. -/
def MB_CTRL_STOP (p : Nat) : Fld := ⟨0x47000000 + 0x1000 * p, 0, 1, 0⟩
def MB_CTRL_START (p : Nat) : Fld := ⟨0x47000000 + 0x1000 * p, 1, 1, 0⟩
def MB_CTRL_ISOLATE (p : Nat) : Fld := ⟨0x47000000 + 0x1000 * p, 2, 1, 0⟩
def MB_CTRL_REJOIN (p : Nat) : Fld := ⟨0x47000000 + 0x1000 * p, 3, 1, 0⟩
def MB_CTRL_FLUSH_Q (p : Nat) : Fld := ⟨0x47000000 + 0x1000 * p, 4, 1, 0⟩
def MB_CTRL_CLR_CNT (p : Nat) : Fld := ⟨0x47000000 + 0x1000 * p, 5, 1, 0⟩
def MB_STATUS_MODE (p : Nat) : Fld := ⟨0x47000004 + 0x1000 * p, 0, 3, 0⟩
def MB_STATUS_FAULT (p : Nat) : Fld := ⟨0x47000004 + 0x1000 * p, 3, 2, 0⟩
def MB_STATUS_WARN (p : Nat) : Fld := ⟨0x47000004 + 0x1000 * p, 5, 1, 0⟩
def MB_STATUS_STUCK (p : Nat) : Fld := ⟨0x47000004 + 0x1000 * p, 6, 1, 0⟩
def MB_STATUS_RECOVERING (p : Nat) : Fld := ⟨0x47000004 + 0x1000 * p, 7, 1, 0⟩
def MB_STATUS_SYNC (p : Nat) : Fld := ⟨0x47000004 + 0x1000 * p, 8, 2, 0⟩
def MB_STATUS_RXBUF (p : Nat) : Fld := ⟨0x47000004 + 0x1000 * p, 16, 10, 0⟩
def MB_STATUS_QUEUE (p : Nat) : Fld := ⟨0x47000004 + 0x1000 * p, 26, 6, 0⟩
def MB_CFG_FD_EN (p : Nat) : Fld := ⟨0x47000008 + 0x1000 * p, 0, 1, 0⟩
def MB_CFG_PEX (p : Nat) : Fld := ⟨0x47000008 + 0x1000 * p, 1, 1, 1⟩
def MB_CFG_RX_OWN (p : Nat) : Fld := ⟨0x47000008 + 0x1000 * p, 2, 1, 0⟩
def MB_CFG_DROP (p : Nat) : Fld := ⟨0x47000008 + 0x1000 * p, 3, 1, 0⟩
def MB_NBT_BRP (p : Nat) : Fld := ⟨0x4700000C + 0x1000 * p, 0, 5, 3⟩
def MB_NBT_PROP (p : Nat) : Fld := ⟨0x4700000C + 0x1000 * p, 5, 6, 0x26⟩
def MB_NBT_PH1 (p : Nat) : Fld := ⟨0x4700000C + 0x1000 * p, 11, 6, 0x1D⟩
def MB_NBT_PH2 (p : Nat) : Fld := ⟨0x4700000C + 0x1000 * p, 17, 6, 9⟩
def MB_NBT_SJW (p : Nat) : Fld := ⟨0x4700000C + 0x1000 * p, 23, 6, 9⟩
def MB_DBT_BRP (p : Nat) : Fld := ⟨0x47000010 + 0x1000 * p, 0, 5, 1⟩
def MB_DBT_PROP (p : Nat) : Fld := ⟨0x47000010 + 0x1000 * p, 5, 5, 7⟩
def MB_DBT_PH1 (p : Nat) : Fld := ⟨0x47000010 + 0x1000 * p, 10, 5, 6⟩
def MB_DBT_PH2 (p : Nat) : Fld := ⟨0x47000010 + 0x1000 * p, 15, 4, 4⟩
def MB_DBT_SJW (p : Nat) : Fld := ⟨0x47000010 + 0x1000 * p, 19, 4, 4⟩
def MB_DBT_TDC_EN (p : Nat) : Fld := ⟨0x47000010 + 0x1000 * p, 23, 1, 1⟩
def MB_DBT_TDCO (p : Nat) : Fld := ⟨0x47000010 + 0x1000 * p, 24, 7, 0x1E⟩
def MB_PHY_TERM_EN (p : Nat) : Fld := ⟨0x47000014 + 0x1000 * p, 0, 1, 0⟩
def MB_PHY_TBC_EN (p : Nat) : Fld := ⟨0x47000014 + 0x1000 * p, 1, 1, 0⟩
def MB_PHY_WAKE_EN (p : Nat) : Fld := ⟨0x47000014 + 0x1000 * p, 2, 1, 0⟩
def MB_ERRCNT_TEC (p : Nat) : Fld := ⟨0x47000018 + 0x1000 * p, 0, 8, 0⟩
def MB_ERRCNT_REC (p : Nat) : Fld := ⟨0x47000018 + 0x1000 * p, 8, 8, 0⟩
def MB_ERRCNT_LEC (p : Nat) : Fld := ⟨0x47000018 + 0x1000 * p, 16, 3, 0⟩
def MB_ERRCNT_DLEC (p : Nat) : Fld := ⟨0x47000018 + 0x1000 * p, 24, 3, 0⟩
def MB_WARN_TEC_WARN (p : Nat) : Fld := ⟨0x4700001C + 0x1000 * p, 0, 8, 0x60⟩
def MB_WARN_REC_WARN (p : Nat) : Fld := ⟨0x4700001C + 0x1000 * p, 8, 8, 0x60⟩
def MB_WARN_BUSOFF_MAX (p : Nat) : Fld := ⟨0x4700001C + 0x1000 * p, 16, 8, 0⟩
def MB_BUSOFF_RECOVER_DELAY_MS (p : Nat) : Fld := ⟨0x47000020 + 0x1000 * p, 0, 16, 0⟩
def MB_BUSOFF_BUSOFF_Q (p : Nat) : Fld := ⟨0x47000020 + 0x1000 * p, 16, 1, 0⟩
def MB_TXCFG_RETRY (p : Nat) : Fld := ⟨0x47000024 + 0x1000 * p, 0, 4, 0xF⟩
def MB_EV_TEC_WARN_EV (p : Nat) : Fld := ⟨0x47000028 + 0x1000 * p, 0, 1, 0⟩
def MB_EV_REC_WARN_EV (p : Nat) : Fld := ⟨0x47000028 + 0x1000 * p, 1, 1, 0⟩
def MB_EV_PASSIVE_EV (p : Nat) : Fld := ⟨0x47000028 + 0x1000 * p, 2, 1, 0⟩
def MB_EV_BUSOFF_EV (p : Nat) : Fld := ⟨0x47000028 + 0x1000 * p, 3, 1, 0⟩
def MB_EV_RECOVER_EV (p : Nat) : Fld := ⟨0x47000028 + 0x1000 * p, 4, 1, 0⟩
def MB_EV_DROP_EV (p : Nat) : Fld := ⟨0x47000028 + 0x1000 * p, 5, 1, 0⟩
def MB_EV_REF_EV (p : Nat) : Fld := ⟨0x47000028 + 0x1000 * p, 6, 1, 0⟩
def MB_EV_CONFLICT_EV (p : Nat) : Fld := ⟨0x47000028 + 0x1000 * p, 7, 1, 0⟩
def MB_EV_ABANDON_EV (p : Nat) : Fld := ⟨0x47000028 + 0x1000 * p, 8, 1, 0⟩
def MB_EV_ISOLATE_EV (p : Nat) : Fld := ⟨0x47000028 + 0x1000 * p, 9, 1, 0⟩
def MB_EV_STUCK_EV (p : Nat) : Fld := ⟨0x47000028 + 0x1000 * p, 10, 1, 0⟩
def MB_SCHED_CYCLE_10US (p : Nat) : Fld := ⟨0x4700002C + 0x1000 * p, 0, 14, 0x3E8⟩
def MB_SCHED_ROLE (p : Nat) : Fld := ⟨0x4700002C + 0x1000 * p, 14, 2, 0⟩
def MB_SCHED_CYCLES (p : Nat) : Fld := ⟨0x4700002C + 0x1000 * p, 16, 3, 0⟩
def MB_SCHED_TXEN (p : Nat) : Fld := ⟨0x4700002C + 0x1000 * p, 20, 4, 3⟩
def MB_REF_REF_ID (p : Nat) : Fld := ⟨0x47000030 + 0x1000 * p, 0, 29, 0⟩
def MB_REF_IDE (p : Nat) : Fld := ⟨0x47000030 + 0x1000 * p, 29, 1, 0⟩
def MB_REF2_FALLBACK_MS (p : Nat) : Fld := ⟨0x47000034 + 0x1000 * p, 0, 14, 0x3E8⟩
def MB_REF2_PHASE_10US (p : Nat) : Fld := ⟨0x47000034 + 0x1000 * p, 16, 14, 0⟩
def MB_CYCLE_COUNT (p : Nat) : Fld := ⟨0x47000038 + 0x1000 * p, 0, 6, 0⟩
def MB_CYCLE_LATE_US (p : Nat) : Fld := ⟨0x47000038 + 0x1000 * p, 8, 8, 0⟩
def MB_CYCLE_OFS_US (p : Nat) : Fld := ⟨0x47000038 + 0x1000 * p, 16, 16, 0⟩
def MB_CNT_RX_COUNT (p : Nat) : Fld := ⟨0x47000040 + 0x1000 * p, 0, 32, 0⟩
def MB_CNT_TX_COUNT (p : Nat) : Fld := ⟨0x47000044 + 0x1000 * p, 0, 32, 0⟩
def MB_CNT_ERR_TX (p : Nat) : Fld := ⟨0x47000048 + 0x1000 * p, 0, 16, 0⟩
def MB_CNT_ERR_RX (p : Nat) : Fld := ⟨0x47000048 + 0x1000 * p, 16, 16, 0⟩
def MB_CNT_DROP_COUNT (p : Nat) : Fld := ⟨0x4700004C + 0x1000 * p, 0, 32, 0⟩
def MB_CNT_NOMATCH_COUNT (p : Nat) : Fld := ⟨0x47000050 + 0x1000 * p, 0, 32, 0⟩
def MB_CNT_ABANDON_ABANDONED (p : Nat) : Fld := ⟨0x47000054 + 0x1000 * p, 0, 16, 0⟩
def MB_CNT_ABANDON_FLUSHED (p : Nat) : Fld := ⟨0x47000054 + 0x1000 * p, 16, 16, 0⟩
def MB_CNT_MISC_BUSOFF (p : Nat) : Fld := ⟨0x47000058 + 0x1000 * p, 0, 8, 0⟩
def MB_CNT_MISC_REF_MISS (p : Nat) : Fld := ⟨0x47000058 + 0x1000 * p, 8, 8, 0⟩
def MB_CNT_MISC_CONFLICT (p : Nat) : Fld := ⟨0x47000058 + 0x1000 * p, 16, 8, 0⟩
def MB_CNT_MISC_ISOLATIONS (p : Nat) : Fld := ⟨0x47000058 + 0x1000 * p, 24, 8, 0⟩
def MB_RXSTRk_STREAM (p : Nat) (k : Nat) : Fld := ⟨0x47000060 + 0x1000 * p + 0x4 * k, 0, 16, 0⟩
def MB_QSTRk_STREAM (p : Nat) (k : Nat) : Fld := ⟨0x47000080 + 0x1000 * p + 0x4 * k, 0, 16, 0⟩
def MB_FLTf_ID_ID (p : Nat) (f : Nat) : Fld := ⟨0x47000100 + 0x1000 * p + 0x8 * f, 0, 29, 0⟩
def MB_FLTf_ID_IDE (p : Nat) (f : Nat) : Fld := ⟨0x47000100 + 0x1000 * p + 0x8 * f, 29, 1, 0⟩
def MB_FLTf_ID_WAKE (p : Nat) (f : Nat) : Fld := ⟨0x47000100 + 0x1000 * p + 0x8 * f, 30, 1, 0⟩
def MB_FLTf_ID_EN (p : Nat) (f : Nat) : Fld := ⟨0x47000100 + 0x1000 * p + 0x8 * f, 31, 1, 0⟩
def MB_FLTf_MASK_MASK (p : Nat) (f : Nat) : Fld := ⟨0x47000104 + 0x1000 * p + 0x8 * f, 0, 29, 0⟩
def MB_FLTf_MASK_RXS (p : Nat) (f : Nat) : Fld := ⟨0x47000104 + 0x1000 * p + 0x8 * f, 29, 3, 0⟩
def MB_WINw_START_10US (p : Nat) (w : Nat) : Fld := ⟨0x47000300 + 0x1000 * p + 0x4 * w, 0, 14, 0⟩
def MB_WINw_TYPE (p : Nat) (w : Nat) : Fld := ⟨0x47000300 + 0x1000 * p + 0x4 * w, 14, 2, 0⟩
def MB_WINw_OBJ (p : Nat) (w : Nat) : Fld := ⟨0x47000300 + 0x1000 * p + 0x4 * w, 16, 5, 0⟩
def MB_WINw_REPEAT (p : Nat) (w : Nat) : Fld := ⟨0x47000300 + 0x1000 * p + 0x4 * w, 21, 3, 0⟩
def MB_WINw_BASE (p : Nat) (w : Nat) : Fld := ⟨0x47000300 + 0x1000 * p + 0x4 * w, 24, 6, 0⟩

/-! Chapter 18, Table 18.11. -/
def MB_OBJo_ID_ID (p : Nat) (o : Nat) : Fld := ⟨0x47000400 + 0x1000 * p + 0x40 * o, 0, 29, 0⟩
def MB_OBJo_ID_IDE (p : Nat) (o : Nat) : Fld := ⟨0x47000400 + 0x1000 * p + 0x40 * o, 29, 1, 0⟩
def MB_OBJo_ID_FDF (p : Nat) (o : Nat) : Fld := ⟨0x47000400 + 0x1000 * p + 0x40 * o, 30, 1, 0⟩
def MB_OBJo_ID_BRS (p : Nat) (o : Nat) : Fld := ⟨0x47000400 + 0x1000 * p + 0x40 * o, 31, 1, 0⟩
def MB_OBJo_CFG_DLC (p : Nat) (o : Nat) : Fld := ⟨0x47000404 + 0x1000 * p + 0x40 * o, 0, 4, 8⟩
def MB_OBJo_CFG_FORM (p : Nat) (o : Nat) : Fld := ⟨0x47000404 + 0x1000 * p + 0x40 * o, 4, 2, 0⟩
def MB_OBJo_CFG_SEND (p : Nat) (o : Nat) : Fld := ⟨0x47000404 + 0x1000 * p + 0x40 * o, 6, 1, 0⟩
def MB_OBJo_CFG_PERIOD_MS (p : Nat) (o : Nat) : Fld := ⟨0x47000404 + 0x1000 * p + 0x40 * o, 8, 10, 0⟩
def MB_OBJo_CFG_CONF_MIN (p : Nat) (o : Nat) : Fld := ⟨0x47000404 + 0x1000 * p + 0x40 * o, 24, 8, 1⟩
def MB_OBJo_STREAM_STREAM (p : Nat) (o : Nat) : Fld := ⟨0x47000408 + 0x1000 * p + 0x40 * o, 0, 16, 0⟩
def MB_OBJo_STAT_PENDING (p : Nat) (o : Nat) : Fld := ⟨0x4700040C + 0x1000 * p + 0x40 * o, 0, 1, 0⟩
def MB_OBJo_STAT_NA (p : Nat) (o : Nat) : Fld := ⟨0x4700040C + 0x1000 * p + 0x40 * o, 1, 1, 0⟩
def MB_OBJo_STAT_SENT (p : Nat) (o : Nat) : Fld := ⟨0x4700040C + 0x1000 * p + 0x40 * o, 16, 16, 0⟩
def MB_OBJo_CNT_REPLACED (p : Nat) (o : Nat) : Fld := ⟨0x47000410 + 0x1000 * p + 0x40 * o, 0, 16, 0⟩
def MB_OBJo_CNT_MISSED (p : Nat) (o : Nat) : Fld := ⟨0x47000410 + 0x1000 * p + 0x40 * o, 16, 16, 0⟩
def MB_OBJo_SIGk_START_BIT (p : Nat) (o : Nat) (k : Nat) : Fld := ⟨0x47000420 + 0x1000 * p + 0x40 * o + 0x4 * k, 0, 9, 0⟩
def MB_OBJo_SIGk_LEN (p : Nat) (o : Nat) (k : Nat) : Fld := ⟨0x47000420 + 0x1000 * p + 0x40 * o + 0x4 * k, 10, 5, 0⟩
def MB_OBJo_SIGk_ORDER (p : Nat) (o : Nat) (k : Nat) : Fld := ⟨0x47000420 + 0x1000 * p + 0x40 * o + 0x4 * k, 15, 1, 0⟩
def MB_OBJo_SIGk_SIGNED (p : Nat) (o : Nat) (k : Nat) : Fld := ⟨0x47000420 + 0x1000 * p + 0x40 * o + 0x4 * k, 16, 1, 0⟩
def MB_OBJo_SIGk_NA (p : Nat) (o : Nat) (k : Nat) : Fld := ⟨0x47000420 + 0x1000 * p + 0x40 * o + 0x4 * k, 17, 1, 0⟩
def MB_OBJo_SIGk_EN (p : Nat) (o : Nat) (k : Nat) : Fld := ⟨0x47000420 + 0x1000 * p + 0x40 * o + 0x4 * k, 18, 1, 0⟩

/-! Chapter 19, Table 19.12. -/
def ETH_CTRL_CLR_CNT : Fld := ⟨0x47800000, 0, 1, 0⟩
def ETH_CTRL_FLUSH_MAC : Fld := ⟨0x47800000, 1, 1, 0⟩
def ETH_STATUS_LINK : Fld := ⟨0x47800004, 0, 16, 0⟩
def ETH_STATUS_GM : Fld := ⟨0x47800004, 16, 1, 0⟩
def ETH_SW_CFG_AGE_S : Fld := ⟨0x47800008, 0, 10, 0x12C⟩
def ETH_TS_CFG_SYNC_INT : Fld := ⟨0x4780000C, 0, 3, 2⟩
def ETH_TS_CFG_PDELAY_INT : Fld := ⟨0x4780000C, 3, 3, 5⟩
def ETH_TS_CFG_PRIO1 : Fld := ⟨0x4780000C, 8, 8, 0xF6⟩
def ETH_TS_CFG_DOMAIN : Fld := ⟨0x4780000C, 16, 8, 0⟩
def ETH_TS_CFG_HOLD_US : Fld := ⟨0x4780000C, 24, 8, 0xA⟩
def ETH_TS_STAT_CLASS : Fld := ⟨0x47800010, 0, 8, 0xF8⟩
def ETH_TS_STAT_ACCURACY : Fld := ⟨0x47800010, 8, 8, 0xFE⟩
def ETH_TS_STAT_TBI : Fld := ⟨0x47800010, 16, 8, 0⟩
def ETH_HOST_RXBUF : Fld := ⟨0x47800014, 0, 10, 0⟩
def ETH_HOST_DROP_COUNT : Fld := ⟨0x47800018, 0, 32, 0⟩
def ETH_TQ_CFG_EN : Fld := ⟨0x4780001C, 0, 1, 0⟩
def ETH_TQ_CFG_PCP : Fld := ⟨0x4780001C, 1, 3, 6⟩
def ETH_TQ_CFG_VID : Fld := ⟨0x4780001C, 4, 12, 0⟩
def ETH_TQ_CFG_PORTS : Fld := ⟨0x4780001C, 16, 16, 0⟩
def ETH_TQ_DA_LO_OCT : Fld := ⟨0x47800020, 0, 32, 3⟩
def ETH_TQ_DA_HI_OCT : Fld := ⟨0x47800024, 0, 16, 0x2A19⟩
def ETH_TQ_SEQ_COUNT : Fld := ⟨0x47800028, 0, 32, 0⟩
def ETH_EV_LINK_EV : Fld := ⟨0x47800030, 0, 1, 0⟩
def ETH_EV_DROP_EV : Fld := ⟨0x47800030, 1, 1, 0⟩
def ETH_EV_HOST_DROP_EV : Fld := ⟨0x47800030, 2, 1, 0⟩
def ETH_EV_STEP_EV : Fld := ⟨0x47800030, 3, 1, 0⟩
def ETH_VLANv_VID (v : Nat) : Fld := ⟨0x47800600 + 0x4 * v, 0, 12, 0⟩
def ETH_VLANv_MEMBERS (v : Nat) : Fld := ⟨0x47800600 + 0x4 * v, 12, 17, 0⟩
def ETH_VLANv_EN (v : Nat) : Fld := ⟨0x47800600 + 0x4 * v, 29, 1, 0⟩
def ETH_EVTCAPx_LO_NS (x : Nat) : Fld := ⟨0x47800F20 + 0x8 * x, 0, 32, 0⟩
def ETH_EVTCAPx_HI_NS (x : Nat) : Fld := ⟨0x47800F24 + 0x8 * x, 0, 32, 0⟩

/-! Chapter 19, Table 19.13. -/
def ETH_Pp_CFG_EN (p : Nat) : Fld := ⟨0x47800100 + 0x40 * p, 0, 1, 0⟩
def ETH_Pp_CFG_PHY_MASTER (p : Nat) : Fld := ⟨0x47800100 + 0x40 * p, 1, 1, 0⟩
def ETH_Pp_CFG_WAKE_EN (p : Nat) : Fld := ⟨0x47800100 + 0x40 * p, 2, 1, 0⟩
def ETH_Pp_CFG_AS_EN (p : Nat) : Fld := ⟨0x47800100 + 0x40 * p, 3, 1, 1⟩
def ETH_Pp_CFG_QBV_EN (p : Nat) : Fld := ⟨0x47800100 + 0x40 * p, 4, 1, 0⟩
def ETH_Pp_CFG_PRIO (p : Nat) : Fld := ⟨0x47800100 + 0x40 * p, 5, 3, 0⟩
def ETH_Pp_CFG_PVID (p : Nat) : Fld := ⟨0x47800100 + 0x40 * p, 8, 12, 1⟩
def ETH_Pp_CFG_ACCEPT (p : Nat) : Fld := ⟨0x47800100 + 0x40 * p, 20, 2, 0⟩
def ETH_Pp_STAT_LINK (p : Nat) : Fld := ⟨0x47800104 + 0x40 * p, 0, 1, 0⟩
def ETH_Pp_STAT_SQI (p : Nat) : Fld := ⟨0x47800104 + 0x40 * p, 1, 3, 0⟩
def ETH_Pp_STAT_AS_CAPABLE (p : Nat) : Fld := ⟨0x47800104 + 0x40 * p, 4, 1, 0⟩
def ETH_Pp_STAT_PDELAY_NS (p : Nat) : Fld := ⟨0x47800104 + 0x40 * p, 16, 16, 0⟩
def ETH_Pp_CNT_RX_COUNT (p : Nat) : Fld := ⟨0x47800108 + 0x40 * p, 0, 32, 0⟩
def ETH_Pp_CNT_TX_COUNT (p : Nat) : Fld := ⟨0x4780010C + 0x40 * p, 0, 32, 0⟩
def ETH_Pp_CNT_DROP_QFULL (p : Nat) : Fld := ⟨0x47800110 + 0x40 * p, 0, 16, 0⟩
def ETH_Pp_CNT_DROP_FILTERED (p : Nat) : Fld := ⟨0x47800110 + 0x40 * p, 16, 16, 0⟩
def ETH_Pp_CNT_ERR_FCS (p : Nat) : Fld := ⟨0x47800114 + 0x40 * p, 0, 16, 0⟩
def ETH_Pp_CNT_ERR_LINK_DOWN (p : Nat) : Fld := ⟨0x47800114 + 0x40 * p, 16, 16, 0⟩
def ETH_Pp_GCL_CFG_ENTRIES (p : Nat) : Fld := ⟨0x47800118 + 0x40 * p, 0, 7, 0⟩
def ETH_Pp_GCL_CFG_CYCLE_US (p : Nat) : Fld := ⟨0x47800118 + 0x40 * p, 12, 20, 0x3E8⟩
def ETH_Pp_GCL_BASE_LO_NS (p : Nat) : Fld := ⟨0x4780011C + 0x40 * p, 0, 32, 0⟩
def ETH_Pp_GCL_BASE_HI_NS (p : Nat) : Fld := ⟨0x47800120 + 0x40 * p, 0, 32, 0⟩
def ETH_Pp_GCL_STAT_HELD (p : Nat) : Fld := ⟨0x47800124 + 0x40 * p, 0, 16, 0⟩

/-! Chapter 19, Table 19.14. -/
def EHR_CTRL_STOP : Fld := ⟨0x47880000, 0, 1, 0⟩
def EHR_CTRL_START : Fld := ⟨0x47880000, 1, 1, 0⟩
def EHR_CTRL_CLR_CNT : Fld := ⟨0x47880000, 2, 1, 0⟩
def EHR_STATUS_STATE : Fld := ⟨0x47880004, 0, 2, 0⟩
def EHR_STATUS_UP : Fld := ⟨0x47880004, 8, 5, 0⟩
def EHR_CFG_UDP_PORT : Fld := ⟨0x47880008, 0, 16, 0xBA05⟩
def EHR_CFG_PORT : Fld := ⟨0x47880008, 16, 2, 0⟩
def EHR_CFG_CVY_PEER : Fld := ⟨0x47880008, 20, 4, 0⟩
def EHR_TIMERS_HB_MS : Fld := ⟨0x4788000C, 0, 13, 0xC8⟩
def EHR_TIMERS_SESSION_TO_S : Fld := ⟨0x4788000C, 16, 6, 0xA⟩
def EHR_TIMERS_HB_PARK_S : Fld := ⟨0x4788000C, 24, 7, 0xA⟩
def EHR_KEYUPD_KEYUPD_MIN : Fld := ⟨0x47880010, 0, 8, 0x3C⟩
def EHR_SENDER_LO_SENDER : Fld := ⟨0x47880014, 0, 32, 0⟩
def EHR_SENDER_HI_SENDER : Fld := ⟨0x47880018, 0, 32, 0⟩
def EHR_LOCALm_ADDR (m : Nat) : Fld := ⟨0x4788001C + 0x4 * m, 0, 32, 0⟩
def EHR_EV_UP_EV : Fld := ⟨0x47880030, 0, 1, 0⟩
def EHR_EV_DOWN_EV : Fld := ⟨0x47880030, 1, 1, 0⟩
def EHR_EV_AUTH_EV : Fld := ⟨0x47880030, 2, 1, 0⟩
def EHR_EV_ABANDON_EV : Fld := ⟨0x47880030, 3, 1, 0⟩
def EHR_EV_REASM_EV : Fld := ⟨0x47880030, 4, 1, 0⟩
def EHR_CNT_A_BAD_FRAME : Fld := ⟨0x47880034, 0, 16, 0⟩
def EHR_CNT_A_REFUSED : Fld := ⟨0x47880034, 16, 16, 0⟩
def EHR_CNT_B_STALE : Fld := ⟨0x47880038, 0, 16, 0⟩
def EHR_CNT_B_LOST : Fld := ⟨0x47880038, 16, 16, 0⟩
def EHR_CNT_C_REASM_FAIL : Fld := ⟨0x4788003C, 0, 16, 0⟩
def EHR_CNT_C_ABANDONED : Fld := ⟨0x4788003C, 16, 16, 0⟩
def EHR_CNT_D_AUTH_FAIL : Fld := ⟨0x47880040, 0, 16, 0⟩
def EHR_CNT_D_NO_SESSION : Fld := ⟨0x47880040, 16, 16, 0⟩

/-! Chapter 19, Table 19.15. -/
def EHR_PEERn_ADDRm_ADDR (n : Nat) (m : Nat) : Fld := ⟨0x47880100 + 0x40 * n + 0x4 * m, 0, 32, 0⟩
def EHR_PEERn_CFG_EN (n : Nat) : Fld := ⟨0x47880110 + 0x40 * n, 0, 1, 0⟩
def EHR_PEERn_CFG_ROLE (n : Nat) : Fld := ⟨0x47880110 + 0x40 * n, 1, 5, 0⟩
def EHR_PEERn_CFG_UDP_PORT (n : Nat) : Fld := ⟨0x47880110 + 0x40 * n, 16, 16, 0xBA05⟩
def EHR_PEERn_UID_LO_SENDER (n : Nat) : Fld := ⟨0x47880114 + 0x40 * n, 0, 32, 0⟩
def EHR_PEERn_UID_HI_SENDER (n : Nat) : Fld := ⟨0x47880118 + 0x40 * n, 0, 32, 0⟩
def EHR_PEERn_STAT_STATE (n : Nat) : Fld := ⟨0x4788011C + 0x40 * n, 0, 2, 0⟩
def EHR_PEERn_STAT_CLIENT (n : Nat) : Fld := ⟨0x4788011C + 0x40 * n, 2, 1, 0⟩
def EHR_PEERn_STAT_AUTH (n : Nat) : Fld := ⟨0x4788011C + 0x40 * n, 8, 8, 0⟩
def EHR_PEERn_STAT_RTT_MS (n : Nat) : Fld := ⟨0x4788011C + 0x40 * n, 16, 16, 0⟩
def EHR_PEERn_RX_COUNT (n : Nat) : Fld := ⟨0x47880120 + 0x40 * n, 0, 32, 0⟩
def EHR_PEERn_TX_COUNT (n : Nat) : Fld := ⟨0x47880124 + 0x40 * n, 0, 32, 0⟩
def EHR_PEERn_AGE_MS (n : Nat) : Fld := ⟨0x47880128 + 0x40 * n, 0, 32, 0⟩

/-! Chapter 20, Table 20.6. -/
def DSP_CTRL_LINK_MODE : Fld := ⟨0x48000000, 0, 1, 0⟩
def DSP_CTRL_CLR_CNT : Fld := ⟨0x48000000, 1, 1, 0⟩
def DSP_Pn_CTRL_EN (n : Nat) : Fld := ⟨0x48000100 + 0x100 * n, 0, 1, 0⟩
def DSP_Pn_CTRL_SHADOW_HOLD (n : Nat) : Fld := ⟨0x48000100 + 0x100 * n, 1, 1, 0⟩
def DSP_Pn_CTRL_POL_EN (n : Nat) : Fld := ⟨0x48000100 + 0x100 * n, 2, 1, 1⟩
def DSP_Pn_STATUS_STATE (n : Nat) : Fld := ⟨0x48000104 + 0x100 * n, 0, 3, 0⟩
def DSP_Pn_STATUS_TEMP_FAULT (n : Nat) : Fld := ⟨0x48000104 + 0x100 * n, 3, 1, 0⟩
def DSP_Pn_STATUS_TABLE_EV (n : Nat) : Fld := ⟨0x48000104 + 0x100 * n, 8, 1, 0⟩
def DSP_Pn_STATUS_UNDERRUN_EV (n : Nat) : Fld := ⟨0x48000104 + 0x100 * n, 9, 1, 0⟩
def DSP_Pn_CLK_PCLK_KHZ (n : Nat) : Fld := ⟨0x48000108 + 0x100 * n, 0, 17, 0x12CC8⟩
def DSP_Pn_CLK_FORMAT (n : Nat) : Fld := ⟨0x48000108 + 0x100 * n, 17, 2, 1⟩
def DSP_Pn_CLK_DITHER (n : Nat) : Fld := ⟨0x48000108 + 0x100 * n, 19, 2, 2⟩
def DSP_Pn_H1_HACT (n : Nat) : Fld := ⟨0x4800010C + 0x100 * n, 0, 12, 0x780⟩
def DSP_Pn_H1_HFP (n : Nat) : Fld := ⟨0x4800010C + 0x100 * n, 16, 8, 0x30⟩
def DSP_Pn_H2_HSYNC (n : Nat) : Fld := ⟨0x48000110 + 0x100 * n, 0, 8, 0x20⟩
def DSP_Pn_H2_HBP (n : Nat) : Fld := ⟨0x48000110 + 0x100 * n, 8, 8, 0x50⟩
def DSP_Pn_V1_VACT (n : Nat) : Fld := ⟨0x48000114 + 0x100 * n, 0, 12, 0x4B0⟩
def DSP_Pn_V1_VFP (n : Nat) : Fld := ⟨0x48000114 + 0x100 * n, 16, 8, 3⟩
def DSP_Pn_V2_VSYNC (n : Nat) : Fld := ⟨0x48000118 + 0x100 * n, 0, 8, 6⟩
def DSP_Pn_V2_VBP (n : Nat) : Fld := ⟨0x48000118 + 0x100 * n, 8, 8, 0x1A⟩
def DSP_Pn_FB_ADDR_4K (n : Nat) : Fld := ⟨0x4800011C + 0x100 * n, 0, 32, 0⟩
def DSP_Pn_STRIDE_BYTES (n : Nat) : Fld := ⟨0x48000120 + 0x100 * n, 0, 16, 0x1E00⟩
def DSP_Pn_INV_MODE (n : Nat) : Fld := ⟨0x48000124 + 0x100 * n, 0, 2, 0⟩
def DSP_Pn_INV_PIN_NEG (n : Nat) : Fld := ⟨0x48000124 + 0x100 * n, 2, 1, 0⟩
def DSP_Pn_SEQ1_T_ON1 (n : Nat) : Fld := ⟨0x48000128 + 0x100 * n, 0, 8, 0x14⟩
def DSP_Pn_SEQ1_T_ON2 (n : Nat) : Fld := ⟨0x48000128 + 0x100 * n, 16, 10, 0xC8⟩
def DSP_Pn_SEQ2_T_OFF1 (n : Nat) : Fld := ⟨0x4800012C + 0x100 * n, 0, 8, 0xA⟩
def DSP_Pn_SEQ2_T_OFF2 (n : Nat) : Fld := ⟨0x4800012C + 0x100 * n, 8, 8, 0xA⟩
def DSP_Pn_SEQ2_T_REST (n : Nat) : Fld := ⟨0x4800012C + 0x100 * n, 16, 11, 0x1F4⟩
def DSP_Pn_BL_BL_HZ (n : Nat) : Fld := ⟨0x48000130 + 0x100 * n, 0, 15, 0xC8⟩
def DSP_Pn_BL_DUTY (n : Nat) : Fld := ⟨0x48000130 + 0x100 * n, 16, 10, 0x3FF⟩
def DSP_Pn_NTC_R25 (n : Nat) : Fld := ⟨0x48000134 + 0x100 * n, 0, 16, 0x3E8⟩
def DSP_Pn_NTC_BETA (n : Nat) : Fld := ⟨0x48000134 + 0x100 * n, 16, 16, 0xF6E⟩
def DSP_Pn_TEMP_T (n : Nat) : Fld := ⟨0x48000138 + 0x100 * n, 0, 16, 0⟩
def DSP_Pn_TEMP_STALE (n : Nat) : Fld := ⟨0x48000138 + 0x100 * n, 16, 1, 1⟩
def DSP_Pn_VCOM_OUT_MV (n : Nat) : Fld := ⟨0x4800013C + 0x100 * n, 0, 13, 0⟩
def DSP_Pn_VCOM_FAULT_MV (n : Nat) : Fld := ⟨0x4800013C + 0x100 * n, 16, 13, 0xD48⟩
def DSP_Pn_VCFG_SLEW_MV (n : Nat) : Fld := ⟨0x48000140 + 0x100 * n, 0, 8, 0x14⟩
def DSP_Pn_CNT_UNDERRUN (n : Nat) : Fld := ⟨0x48000144 + 0x100 * n, 0, 16, 0⟩
def DSP_Pn_CNT_FRAMES (n : Nat) : Fld := ⟨0x48000144 + 0x100 * n, 16, 16, 0⟩
def DSP_Pn_VTk_TEMP (n : Nat) (k : Nat) : Fld := ⟨0x48000180 + 0x100 * n + 0x4 * k, 0, 16, [65136, 65216, 65296, 65376, 65456, 0, 80, 160, 240, 320, 400, 480, 560, 640, 720, 800].getD k 0⟩
def DSP_Pn_VTk_MV (n : Nat) (k : Nat) : Fld := ⟨0x48000180 + 0x100 * n + 0x4 * k, 16, 16, 0xD48⟩

end Sys2Proof.Machine.R
end

