-- ==== Sys2Proof/Machine/FieldsSys.lean ====
section
/-! DEFINITION. The fields of the register tables of the spec, one constant per field (Sys group: chapters 01, 02, 03, 04, 05, 21, 22, 23, 24, 25).
A constant is named REGISTER_FIELD in the spec's spelling; its address, bits and reset value are those of the register table.
Indices count from 0 (position n of a Tarn chain is index n - 1). Where the spec gives no number the reset is 0 (log entries 3 and 4). -/

namespace Sys2Proof.Machine.R

/-! Chapter 01, Table 1.7. -/
def SUP_MTIME_LO_NS_LO : Fld := ⟨0x40000100, 0, 32, 0⟩
def SUP_MTIME_HI_NS_HI : Fld := ⟨0x40000104, 0, 32, 0⟩
def SUP_MTIME_STATUS_STATE : Fld := ⟨0x40000108, 0, 3, 0⟩
def SUP_MTIME_STATUS_STEPPED : Fld := ⟨0x40000108, 3, 1, 0⟩
def SUP_MTIME_STATUS_HOLDOVER_S : Fld := ⟨0x40000108, 16, 16, 0⟩
def SUP_MTIME_ERR_BOUND_NS : Fld := ⟨0x4000010C, 0, 32, 0xFFFFFFFF⟩
def SUP_MTIME_STEP_STEP_US : Fld := ⟨0x40000110, 0, 32, 0⟩
def SUP_ISL_STATUS_LOST : Fld := ⟨0x40000120, 0, 9, 0⟩
def SUP_ISL_STATUS_HELD : Fld := ⟨0x40000120, 16, 9, 0⟩
def SUP_CELL_HELDk_CELL (k : Nat) : Fld := ⟨0x40000130 + 0x4 * k, 0, 31, 0⟩

/-! Chapter 02, Table 2.12. -/
def FAB_CTRL_CLR_COUNTERS : Fld := ⟨0x40100000, 0, 1, 0⟩
def FAB_STATUS_TAG_WAITING : Fld := ⟨0x40100004, 0, 9, 0⟩
def FAB_STATUS_STORE_TAG_WAITING : Fld := ⟨0x40100004, 9, 1, 0⟩
def FAB_ERR_STAT_BAD_ORIGIN : Fld := ⟨0x40100010, 0, 1, 0⟩
def FAB_ERR_STAT_BAD_KIND : Fld := ⟨0x40100010, 1, 1, 0⟩
def FAB_ERR_STAT_BAD_LENGTH : Fld := ⟨0x40100010, 2, 1, 0⟩
def FAB_ERR_STAT_BAD_STREAM : Fld := ⟨0x40100010, 3, 1, 0⟩
def FAB_ERR_STAT_BAD_TAG : Fld := ⟨0x40100010, 4, 1, 0⟩
def FAB_ERR_STAT_LINK_RETRY : Fld := ⟨0x40100010, 5, 1, 0⟩
def FAB_ERR_STAT_LINK_FAILED : Fld := ⟨0x40100010, 6, 1, 0⟩
def FAB_ERR_STAT_TIMEOUT : Fld := ⟨0x40100010, 7, 1, 0⟩
def FAB_ERR_STAT_TAG_STARVED : Fld := ⟨0x40100010, 8, 1, 0⟩
def FAB_ERR_CNT_COUNT : Fld := ⟨0x40100014, 0, 32, 0⟩
def FAB_LATE_CNT_COUNT : Fld := ⟨0x40100018, 0, 32, 0⟩
def FAB_EDGE_SUMMARY_BUS_RX : Fld := ⟨0x40100020, 0, 1, 0⟩
def FAB_EDGE_SUMMARY_STORE_SHED : Fld := ⟨0x40100020, 1, 1, 0⟩
def FAB_EDGE_SUMMARY_RATE_SKIP : Fld := ⟨0x40100020, 2, 1, 0⟩
def FAB_EDGE_SUMMARY_SOLVER_SKIP : Fld := ⟨0x40100020, 3, 1, 0⟩
def FAB_EDGE_SUMMARY_ETH_QUEUE : Fld := ⟨0x40100020, 4, 1, 0⟩
def FAB_EDGE_SUMMARY_ETH_HOST : Fld := ⟨0x40100020, 5, 1, 0⟩
def FAB_EDGE_SUMMARY_YIELD_BACKLOG : Fld := ⟨0x40100020, 6, 1, 0⟩
def FAB_EDGE_SUMMARY_RECORDER : Fld := ⟨0x40100020, 7, 1, 0⟩
def FAB_TAG_WAIT_LIMIT_LIMIT_MS : Fld := ⟨0x40100030, 0, 10, 0x32⟩
def FAB_RSP_TIMEOUT_TIMEOUT_MS : Fld := ⟨0x40100034, 0, 10, 0xC8⟩
def FAB_TAG_STORE_LIVE_LIVE : Fld := ⟨0x40100038, 0, 17, 0⟩
def FAB_TAG_WAIT_CNT_COUNT : Fld := ⟨0x4010003C, 0, 32, 0⟩
def FAB_TAG_ISLk_QUOTA (k : Nat) : Fld := ⟨0x40100040 + 0x4 * k, 0, 14, 0⟩
def FAB_TAG_ISLk_LIVE (k : Nat) : Fld := ⟨0x40100040 + 0x4 * k, 16, 14, 0⟩
def FAB_LINKk_UP (k : Nat) : Fld := ⟨0x40100100 + 0x4 * k, 0, 1, 0⟩
def FAB_LINKk_LANES (k : Nat) : Fld := ⟨0x40100100 + 0x4 * k, 1, 4, [2, 2, 2, 2, 2, 2, 2, 2, 2, 2, 4, 8, 2, 2, 2, 2, 2, 2, 2, 2, 2, 2, 2, 2, 2, 2, 2, 2, 2, 2, 2, 2, 2, 2, 2, 2].getD k 0⟩
def FAB_LINKk_RESETS (k : Nat) : Fld := ⟨0x40100100 + 0x4 * k, 8, 8, 0⟩
def FAB_LINKk_RETRIES (k : Nat) : Fld := ⟨0x40100100 + 0x4 * k, 16, 16, 0⟩

/-! Chapter 03, Table 3.11. -/
def IMG_CTRL_PR_START : Fld := ⟨0x40200000, 0, 1, 0⟩
def IMG_CTRL_PR_ABORT : Fld := ⟨0x40200000, 1, 1, 0⟩
def IMG_STATUS_STATE : Fld := ⟨0x40200004, 0, 3, 0⟩
def IMG_STATUS_CODE : Fld := ⟨0x40200004, 8, 8, 0⟩
def IMG_STATUS_RELOAD_PENDING : Fld := ⟨0x40200004, 16, 9, 0⟩
def IMG_ERR_DETAIL_SECTION : Fld := ⟨0x40200008, 0, 10, 0⟩
def IMG_ERR_DETAIL_SIG_BLOCK : Fld := ⟨0x40200008, 16, 2, 0⟩
def IMG_VERSION_VERSION : Fld := ⟨0x4020000C, 0, 32, 0⟩
def IMG_EPOCH_EPOCH : Fld := ⟨0x40200010, 0, 32, 0⟩
def IMG_RETAINED_FMT_IMAGE_FMT : Fld := ⟨0x40200014, 0, 16, 0⟩
def IMG_RETAINED_FMT_MIN_FMT : Fld := ⟨0x40200014, 16, 16, 0⟩
def IMG_PR_TIMEOUT_TIMEOUT_MS : Fld := ⟨0x40200020, 0, 10, 0xC8⟩
def IMG_PR_STATUS_STATE : Fld := ⟨0x40200024, 0, 3, 0⟩
def IMG_PR_STATUS_CODE : Fld := ⟨0x40200024, 8, 8, 0⟩
def IMG_PR_STATUS_ENTRY : Fld := ⟨0x40200024, 16, 3, 0⟩
def IMG_RELOAD_CNT_ISLAND : Fld := ⟨0x40200028, 0, 16, 0⟩
def IMG_RELOAD_CNT_CELL : Fld := ⟨0x40200028, 16, 16, 0⟩
def IMG_PR_LISTn_INDEX (n : Nat) : Fld := ⟨0x40200040 + 0x4 * n, 0, 10, 0⟩
def IMG_PR_LISTn_EN (n : Nat) : Fld := ⟨0x40200040 + 0x4 * n, 31, 1, 0⟩
def IMG_SELECTEDk_SEL (k : Nat) : Fld := ⟨0x40200080 + 0x4 * k, 0, 32, 0⟩

/-! Chapter 04, Table 4.9. -/
def MODE_ACTIVE_FLAGS : Fld := ⟨0x40000400, 0, 12, 0⟩
def MODE_ACTIVE_SEQ : Fld := ⟨0x40000400, 16, 16, 0⟩
def MODE_REQ_SET_SET : Fld := ⟨0x40000404, 0, 12, 0⟩
def MODE_REQ_CLR_CLR : Fld := ⟨0x40000408, 0, 12, 0⟩
def MODE_SUPPRESSED_SUPP : Fld := ⟨0x4000040C, 0, 12, 0⟩
def MODE_STATE_STATE : Fld := ⟨0x40000410, 0, 24, 0⟩
def MODE_CONFIRM_CONF : Fld := ⟨0x40000414, 0, 12, 0⟩
def MODE_LIMITS_WAIT_S : Fld := ⟨0x40000418, 0, 10, 0x3C⟩
def MODE_LIMITS_CONFIRM_S : Fld := ⟨0x40000418, 16, 10, 0x12C⟩
def MODE_DL_SUPERVISION_TIMEOUT_MS : Fld := ⟨0x4000041C, 0, 13, 0x1F4⟩
def MODE_LAST_CAUSE_CAUSE : Fld := ⟨0x40000420, 0, 8, 0⟩
def MODE_LAST_CAUSE_SOURCE : Fld := ⟨0x40000420, 8, 3, 0⟩
def MODE_LAST_CAUSE_MODE : Fld := ⟨0x40000420, 16, 8, 0xFF⟩
def MODE_DROP_CNT_COUNT : Fld := ⟨0x40000424, 0, 32, 0⟩
def MODE_RESTORE_RESTORED : Fld := ⟨0x40000428, 0, 1, 0⟩
def MODE_RESTORE_DEFAULTS : Fld := ⟨0x40000428, 1, 1, 0⟩
def MODE_CAL_RUN : Fld := ⟨0x4000042C, 0, 8, 0⟩
def MODE_CAL_ACCEPT : Fld := ⟨0x4000042C, 8, 1, 0⟩
def MODE_PERM_SRCs_SET (s : Nat) : Fld := ⟨0x40000440 + 0x8 * s, 0, 12, 0⟩
def MODE_PERM_SRCs_CLR (s : Nat) : Fld := ⟨0x40000440 + 0x8 * s, 16, 12, 0⟩
def MODE_CONF_SRCs_CONF (s : Nat) : Fld := ⟨0x40000444 + 0x8 * s, 0, 12, 0⟩

/-! Chapter 05, Table 5.14. -/
def PWR_STATE_STATE : Fld := ⟨0x40000200, 0, 2, 1⟩
def PWR_STATE_WAKE : Fld := ⟨0x40000200, 8, 8, 0xFF⟩
def PWR_CTRL_REQ : Fld := ⟨0x40000204, 0, 2, 0⟩
def PWR_CTRL_EXTEND : Fld := ⟨0x40000204, 8, 1, 0⟩
def PWR_CFG_IGN_TARGET : Fld := ⟨0x40000208, 0, 1, 1⟩
def PWR_CFG_RUNON_S : Fld := ⟨0x40000208, 4, 12, 0x1E⟩
def PWR_CFG_IGN_WAIT_S : Fld := ⟨0x40000208, 16, 10, 0x3C⟩
def PWR_PARK_PARK_MAX_H : Fld := ⟨0x4000020C, 0, 10, 0x48⟩
def PWR_PARK_BAT_MIN : Fld := ⟨0x4000020C, 16, 8, 0⟩
def PWR_WAKE_EN_IGN : Fld := ⟨0x40000210, 0, 1, 1⟩
def PWR_WAKE_EN_SRC : Fld := ⟨0x40000210, 1, 8, 7⟩
def PWR_STATUS_PF : Fld := ⟨0x40000214, 0, 1, 0⟩
def PWR_STATUS_COMMITTED : Fld := ⟨0x40000214, 1, 1, 0⟩
def PWR_STATUS_LOGIC_VALID : Fld := ⟨0x40000214, 2, 1, 0⟩
def PWR_STATUS_IGN : Fld := ⟨0x40000214, 3, 1, 0⟩
def PWR_STATUS_STATIONARY : Fld := ⟨0x40000214, 4, 1, 0⟩
def PWR_STATUS_SHUT_PENDING : Fld := ⟨0x40000214, 5, 1, 0⟩
def PWR_STATUS_ABORTED : Fld := ⟨0x40000214, 8, 1, 0⟩
def PWR_STATUS_IGN_WAIT_EXPIRED : Fld := ⟨0x40000214, 9, 1, 0⟩
def PWR_STATUS_FLUSH_LIMIT : Fld := ⟨0x40000214, 10, 1, 0⟩
def PWR_STATUS_RES_READY : Fld := ⟨0x40000214, 16, 1, 0⟩
def PWR_STATUS_RES_WORN : Fld := ⟨0x40000214, 17, 1, 0⟩
def PWR_STATUS_RES_FAILED : Fld := ⟨0x40000214, 18, 1, 0⟩
def PWR_PF_CFG_THRESH : Fld := ⟨0x40000218, 0, 8, 0x3C⟩
def PWR_PF_CFG_RIDE_MS : Fld := ⟨0x40000218, 8, 5, 0x14⟩
def PWR_PF_CNT_ABORTS : Fld := ⟨0x4000021C, 0, 16, 0⟩
def PWR_PF_CNT_COMMITS : Fld := ⟨0x4000021C, 16, 16, 0⟩
def PWR_RES_CAP_UF : Fld := ⟨0x40000220, 0, 16, 0⟩
def PWR_RES_VOLT : Fld := ⟨0x40000220, 16, 8, 0⟩
def PWR_RES_RIDE_AVAIL_MS : Fld := ⟨0x40000220, 24, 8, 0⟩
def PWR_SUPPLY_LOGIC_MV : Fld := ⟨0x40000224, 0, 16, 0⟩
def PWR_SUPPLY_VBAK_MV : Fld := ⟨0x40000224, 16, 16, 0⟩
def PWR_LAST_SHUT_RESULT : Fld := ⟨0x40000228, 0, 4, 0⟩
def PWR_LAST_SHUT_KIND : Fld := ⟨0x40000228, 4, 4, 0⟩
def PWR_LAST_SHUT_FLUSH_MS : Fld := ⟨0x40000228, 8, 8, 0⟩
def PWR_LAST_SHUT_T23_LOST_MS : Fld := ⟨0x40000228, 16, 16, 0⟩
def SUP_RST_CTRL_KEY : Fld := ⟨0x40000300, 0, 16, 0⟩
def SUP_RST_CTRL_MODULE : Fld := ⟨0x40000300, 16, 1, 0⟩
def SUP_RST_CTRL_ISLAND : Fld := ⟨0x40000300, 17, 1, 0⟩
def SUP_RST_CTRL_CELL : Fld := ⟨0x40000300, 18, 1, 0⟩
def SUP_RST_TARGET_ORIGIN : Fld := ⟨0x40000304, 0, 16, 0xFFFF⟩
def SUP_RST_CAUSE_CAUSE : Fld := ⟨0x40000308, 0, 8, 1⟩
def SUP_RST_CAUSE_COUNT : Fld := ⟨0x40000308, 16, 16, 0⟩
def SUP_RST_ISLk_CAUSE (k : Nat) : Fld := ⟨0x40000310 + 0x4 * k, 0, 8, 0⟩
def SUP_RST_ISLk_COUNT (k : Nat) : Fld := ⟨0x40000310 + 0x4 * k, 16, 16, 0⟩
def SUP_RST_CELL_LAST_ORIGIN : Fld := ⟨0x40000340, 0, 16, 0xFFFF⟩
def SUP_RST_CELL_LAST_CAUSE : Fld := ⟨0x40000340, 16, 8, 0⟩
def SUP_DEF_FLAGS_ISLAND : Fld := ⟨0x40000344, 0, 9, 0x1FF⟩
def SUP_DEF_FLAGS_MODULE : Fld := ⟨0x40000344, 15, 1, 1⟩
def SUP_DEF_FLAGS_BACKUP_LOST : Fld := ⟨0x40000344, 16, 1, 0⟩
def SUP_DEF_CELLk_CELL (k : Nat) : Fld := ⟨0x40000360 + 0x4 * k, 0, 31, [127, 31, 7, 65535, 127, 15, 255, 65280, 16711680].getD k 0⟩

/-! Chapter 21, Table 21.4. -/
def BKP_CTRL_SET : Fld := ⟨0x49000000, 0, 1, 0⟩
def BKP_STATUS_SOURCE : Fld := ⟨0x49000004, 0, 1, 0⟩
def BKP_STATUS_RTC_VALID : Fld := ⟨0x49000004, 1, 1, 0⟩
def BKP_STATUS_LOST : Fld := ⟨0x49000004, 2, 1, 1⟩
def BKP_STATUS_CAL_FAIL : Fld := ⟨0x49000004, 3, 1, 0⟩
def BKP_STATUS_SWITCH_EV : Fld := ⟨0x49000004, 4, 1, 0⟩
def BKP_STATUS_REQ_TIMEOUT : Fld := ⟨0x49000004, 5, 1, 0⟩
def BKP_STATUS_SWITCHES : Fld := ⟨0x49000004, 16, 16, 0⟩
def BKP_RTC_TIME_SEC : Fld := ⟨0x49000008, 0, 6, 0⟩
def BKP_RTC_TIME_MIN : Fld := ⟨0x49000008, 8, 6, 0⟩
def BKP_RTC_TIME_HOUR : Fld := ⟨0x49000008, 16, 5, 0⟩
def BKP_RTC_DATE_DAY : Fld := ⟨0x4900000C, 0, 5, 1⟩
def BKP_RTC_DATE_MONTH : Fld := ⟨0x4900000C, 8, 4, 1⟩
def BKP_RTC_DATE_YEAR : Fld := ⟨0x4900000C, 16, 8, 0⟩
def BKP_RTC_DATE_WDAY : Fld := ⟨0x4900000C, 24, 3, 2⟩
def BKP_RTC_SUB_SUBSEC : Fld := ⟨0x49000010, 0, 15, 0⟩
def BKP_RTC_BOUND_US : Fld := ⟨0x49000014, 0, 32, 0xFFFFFFFF⟩
def BKP_RTC_SET_TIME_TIME : Fld := ⟨0x49000018, 0, 21, 0⟩
def BKP_RTC_SET_DATE_DATE : Fld := ⟨0x4900001C, 0, 24, 0x101⟩
def BKP_RTC_SET_BOUND_MS : Fld := ⟨0x49000020, 0, 16, 0x3E8⟩
def BKP_RTC_CAL_TRIM : Fld := ⟨0x49000024, 0, 9, 0⟩
def BKP_RTC_CAL_AUTO : Fld := ⟨0x49000024, 16, 1, 1⟩
def BKP_RTC_CAL_DRIFT_PPM : Fld := ⟨0x49000024, 24, 8, 0x14⟩
def BKP_CFG_CHARGE : Fld := ⟨0x49000028, 0, 1, 0⟩
def BKP_ALMa_TIME_SEC (a : Nat) : Fld := ⟨0x49000030 + 0x10 * a, 0, 6, 0⟩
def BKP_ALMa_TIME_MIN (a : Nat) : Fld := ⟨0x49000030 + 0x10 * a, 8, 6, 0⟩
def BKP_ALMa_TIME_HOUR (a : Nat) : Fld := ⟨0x49000030 + 0x10 * a, 16, 5, 0⟩
def BKP_ALMa_TIME_WDAY (a : Nat) : Fld := ⟨0x49000030 + 0x10 * a, 24, 3, 1⟩
def BKP_ALMa_DATE_DAY (a : Nat) : Fld := ⟨0x49000034 + 0x10 * a, 0, 5, 1⟩
def BKP_ALMa_DATE_MONTH (a : Nat) : Fld := ⟨0x49000034 + 0x10 * a, 8, 4, 1⟩
def BKP_ALMa_DATE_YEAR (a : Nat) : Fld := ⟨0x49000034 + 0x10 * a, 16, 8, 0⟩
def BKP_ALMa_CFG_MASK (a : Nat) : Fld := ⟨0x49000038 + 0x10 * a, 0, 7, 0x7F⟩
def BKP_ALMa_CFG_EN (a : Nat) : Fld := ⟨0x49000038 + 0x10 * a, 8, 1, 0⟩
def BKP_ALMa_CFG_REQ (a : Nat) : Fld := ⟨0x49000038 + 0x10 * a, 9, 1, 0⟩
def BKP_ALMa_CFG_FLAG (a : Nat) : Fld := ⟨0x49000038 + 0x10 * a, 16, 1, 0⟩
def BKP_PWRREQ_SET : Fld := ⟨0x49000050, 0, 1, 0⟩
def BKP_PWRREQ_CLR : Fld := ⟨0x49000050, 1, 1, 0⟩
def BKP_PWRREQ_ACTIVE : Fld := ⟨0x49000050, 2, 1, 0⟩
def BKP_PWRREQ_MODE : Fld := ⟨0x49000050, 3, 1, 0⟩
def BKP_PWRREQ_KEEP : Fld := ⟨0x49000050, 4, 1, 0⟩
def BKP_PWRREQ_PULSE_MS : Fld := ⟨0x49000050, 8, 8, 0x32⟩
def BKP_PWRREQ_REQ_MAX_S : Fld := ⟨0x49000050, 16, 10, 0x78⟩

/-! Chapter 22, Table 22.14. -/
def UPD_CTRL_KEY : Fld := ⟨0x4A000000, 0, 16, 0⟩
def UPD_CTRL_DISCARD : Fld := ⟨0x4A000000, 16, 1, 0⟩
def UPD_CTRL_CANCEL : Fld := ⟨0x4A000000, 17, 1, 0⟩
def UPD_CTRL_SCHEDULE : Fld := ⟨0x4A000000, 18, 1, 0⟩
def UPD_STATUS_STATE : Fld := ⟨0x4A000004, 0, 4, 0⟩
def UPD_STATUS_REASON : Fld := ⟨0x4A000004, 4, 4, 0⟩
def UPD_STATUS_CODE : Fld := ⟨0x4A000004, 8, 8, 0⟩
def UPD_STATUS_PENDING_CONFIRM : Fld := ⟨0x4A000004, 16, 1, 0⟩
def UPD_STATUS_FALL_DUE : Fld := ⟨0x4A000004, 17, 1, 0⟩
def UPD_STATUS_NO_OXBOW : Fld := ⟨0x4A000004, 18, 1, 0⟩
def UPD_STATUS_SNAPSHOT_HELD : Fld := ⟨0x4A000004, 19, 1, 0⟩
def UPD_STATUS_FALLEN_BACK : Fld := ⟨0x4A000004, 20, 1, 0⟩
def UPD_SLOTs_INFO_ROLE (s : Nat) : Fld := ⟨0x4A000010 + 0x10 * s, 0, 2, 0⟩
def UPD_SLOTs_INFO_VKEY (s : Nat) : Fld := ⟨0x4A000010 + 0x10 * s, 2, 2, 0⟩
def UPD_SLOTs_VER_VERSION (s : Nat) : Fld := ⟨0x4A000014 + 0x10 * s, 0, 32, 0⟩
def UPD_SLOTs_EPOCH_EPOCH (s : Nat) : Fld := ⟨0x4A000018 + 0x10 * s, 0, 32, 0⟩
def UPD_SLOTs_LEN_BYTES (s : Nat) : Fld := ⟨0x4A00001C + 0x10 * s, 0, 32, 0⟩
def UPD_SCHED_LO_NS : Fld := ⟨0x4A000040, 0, 32, 0⟩
def UPD_SCHED_HI_NS : Fld := ⟨0x4A000044, 0, 32, 0⟩
def UPD_SCHED_ID_ID : Fld := ⟨0x4A000048, 0, 32, 0⟩
def UPD_WINDOW_MIN : Fld := ⟨0x4A00004C, 0, 8, 0x1E⟩
def UPD_WINDOW_DEFER_MAX_H : Fld := ⟨0x4A00004C, 8, 8, 0x18⟩
def UPD_RUN_RUN_S : Fld := ⟨0x4A000050, 0, 32, 0⟩
def UPD_CONFIRM_KEY : Fld := ⟨0x4A000054, 0, 16, 0⟩
def UPD_CONFIRM_CONFIRM : Fld := ⟨0x4A000054, 16, 1, 0⟩
def UPD_CONFIRM_MIG_DONE : Fld := ⟨0x4A000054, 17, 1, 0⟩
def UPD_CONFIRM_MIG_FAIL : Fld := ⟨0x4A000054, 18, 1, 0⟩
def UPD_MIN_EPOCH_EPOCH : Fld := ⟨0x4A000058, 0, 32, 0⟩
def UPD_REVOKED_MASK : Fld := ⟨0x4A00005C, 0, 4, 0⟩
def UPD_RET_FMT_STORED : Fld := ⟨0x4A000060, 0, 16, 0⟩
def UPD_CNT_DEFERRALS : Fld := ⟨0x4A000064, 0, 16, 0⟩
def UPD_CNT_FALLBACKS : Fld := ⟨0x4A000064, 16, 8, 0⟩
def UPD_CNT_REFUSED : Fld := ⟨0x4A000064, 24, 8, 0⟩

/-! Chapter 22, Table 22.15. -/
def WHD_CTRL_CLOSE : Fld := ⟨0x4D000000, 0, 1, 0⟩
def WHD_STATUS_TOOL : Fld := ⟨0x4D000004, 0, 1, 0⟩
def WHD_STATUS_LINK : Fld := ⟨0x4D000004, 1, 1, 0⟩
def WHD_STATUS_SESSION : Fld := ⟨0x4D000004, 2, 2, 0⟩
def WHD_STATUS_PATH : Fld := ⟨0x4D000004, 4, 1, 0⟩
def WHD_STATUS_LOCKOUT_EV : Fld := ⟨0x4D000004, 5, 1, 0⟩
def WHD_STATUS_PERM : Fld := ⟨0x4D000004, 8, 8, 0⟩
def WHD_CFG_IDLE_S : Fld := ⟨0x4D000008, 0, 10, 0x78⟩
def WHD_CFG_RETRY_S : Fld := ⟨0x4D000008, 16, 8, 0x3C⟩
def WHD_CFG_RELAY_PERM : Fld := ⟨0x4D000008, 24, 8, 0xD⟩
def WHD_LOCKa_LOCKED (a : Nat) : Fld := ⟨0x4D00000C + 0x4 * a, 0, 1, 0⟩
def WHD_LOCKa_ATTEMPTS (a : Nat) : Fld := ⟨0x4D00000C + 0x4 * a, 1, 3, 0⟩
def WHD_LOCKa_REMAIN_S (a : Nat) : Fld := ⟨0x4D00000C + 0x4 * a, 16, 16, 0⟩
def WHD_CNT_INVALID : Fld := ⟨0x4D000014, 0, 16, 0⟩
def WHD_CNT_LOCKOUTS : Fld := ⟨0x4D000014, 16, 8, 0⟩
def WHD_CNT_BUSY : Fld := ⟨0x4D000014, 24, 8, 0⟩
def WHD_CNT_B_REFUSED_LOCKED : Fld := ⟨0x4D000018, 0, 16, 0⟩
def WHD_CNT_B_SESSIONS : Fld := ⟨0x4D000018, 16, 16, 0⟩
def WHD_TOOLn_ID (n : Nat) : Fld := ⟨0x4D000020 + 0x4 * n, 0, 32, 0⟩
def WHD_MAC_LO_OCT : Fld := ⟨0x4D000030, 0, 32, 0⟩
def WHD_MAC_HI_OCT : Fld := ⟨0x4D000034, 0, 16, 0⟩

/-! Chapter 22, Table 22.16. -/
def CRY_STATUS_BUSY : Fld := ⟨0x4A000800, 0, 8, 0⟩
def CRY_STATUS_PK_QUEUED : Fld := ⟨0x4A000800, 8, 8, 0⟩
def CRY_CNT_JOBS : Fld := ⟨0x4A000804, 0, 16, 0⟩
def CRY_CNT_PREEMPT : Fld := ⟨0x4A000804, 16, 16, 0⟩
def CRY_Ck_CTRL_GO (k : Nat) : Fld := ⟨0x4A001000 + 0x40 * k, 0, 1, 0⟩
def CRY_Ck_CTRL_OP (k : Nat) : Fld := ⟨0x4A001000 + 0x40 * k, 8, 4, 0⟩
def CRY_Ck_CTRL_PRIO (k : Nat) : Fld := ⟨0x4A001000 + 0x40 * k, 12, 2, 0⟩
def CRY_Ck_SRC_ADDR (k : Nat) : Fld := ⟨0x4A001004 + 0x40 * k, 0, 32, 0⟩
def CRY_Ck_LEN_BYTES (k : Nat) : Fld := ⟨0x4A001008 + 0x40 * k, 0, 25, 0⟩
def CRY_Ck_DST_ADDR (k : Nat) : Fld := ⟨0x4A00100C + 0x40 * k, 0, 32, 0⟩
def CRY_Ck_KEY_ADDR (k : Nat) : Fld := ⟨0x4A001010 + 0x40 * k, 0, 32, 0⟩
def CRY_Ck_AUX_AAD_LEN (k : Nat) : Fld := ⟨0x4A001014 + 0x40 * k, 0, 24, 0⟩
def CRY_Ck_STAT_STATE (k : Nat) : Fld := ⟨0x4A001018 + 0x40 * k, 0, 2, 0⟩
def CRY_Ck_STAT_RESULT (k : Nat) : Fld := ⟨0x4A001018 + 0x40 * k, 8, 3, 0⟩
def CRY_Ck_STAT_SEQ (k : Nat) : Fld := ⟨0x4A001018 + 0x40 * k, 16, 16, 0⟩
def CRY_Ck_TIME_T (k : Nat) : Fld := ⟨0x4A00101C + 0x40 * k, 0, 32, 0⟩

/-! Chapter 23, Table 23.6. -/
def EVR_CTRL_STOP : Fld := ⟨0x4B000000, 0, 1, 0⟩
def EVR_CTRL_START : Fld := ⟨0x4B000000, 1, 1, 0⟩
def EVR_CTRL_FLUSH : Fld := ⟨0x4B000000, 2, 1, 0⟩
def EVR_CTRL_EXPORT : Fld := ⟨0x4B000000, 3, 1, 0⟩
def EVR_CTRL_CLR_CNT : Fld := ⟨0x4B000000, 4, 1, 0⟩
def EVR_CTRL_SOFT : Fld := ⟨0x4B000000, 5, 1, 0⟩
def EVR_CTRL_SOFT_TRIG : Fld := ⟨0x4B000000, 8, 6, 0⟩
def EVR_STATUS_RUNNING : Fld := ⟨0x4B000004, 0, 1, 0⟩
def EVR_STATUS_FROZEN : Fld := ⟨0x4B000004, 1, 1, 0⟩
def EVR_STATUS_FULL : Fld := ⟨0x4B000004, 2, 1, 0⟩
def EVR_STATUS_EXPORTING : Fld := ⟨0x4B000004, 3, 1, 0⟩
def EVR_STATUS_FULL_EV : Fld := ⟨0x4B000004, 8, 1, 0⟩
def EVR_STATUS_FREEZE_EXP_EV : Fld := ⟨0x4B000004, 9, 1, 0⟩
def EVR_STATUS_EXPORT_ERR_EV : Fld := ⟨0x4B000004, 10, 1, 0⟩
def EVR_STATUS_STAGED : Fld := ⟨0x4B000004, 16, 11, 0⟩
def EVR_FREEZE_FREEZE : Fld := ⟨0x4B000008, 0, 1, 0⟩
def EVR_FREEZE_FREEZE_MAX_S : Fld := ⟨0x4B000008, 16, 10, 0x3C⟩
def EVR_CFG_FLUSH_S : Fld := ⟨0x4B00000C, 0, 8, 0xA⟩
def EVR_CFG_EXPORT_AUTO : Fld := ⟨0x4B00000C, 8, 1, 1⟩
def EVR_WRITTEN_COUNT : Fld := ⟨0x4B000010, 0, 32, 0⟩
def EVR_EXPORTED_COUNT : Fld := ⟨0x4B000014, 0, 32, 0⟩
def EVR_NEXT_RSEQ : Fld := ⟨0x4B000018, 0, 32, 0⟩
def EVR_GEN_REGION_GEN : Fld := ⟨0x4B00001C, 0, 32, 0⟩
def EVR_CNT_MISSED_HOLDOFF : Fld := ⟨0x4B000020, 0, 16, 0⟩
def EVR_CNT_MISSED_NO_SLOT : Fld := ⟨0x4B000020, 16, 16, 0⟩
def EVR_CNT_FULL_REFUSED : Fld := ⟨0x4B000024, 0, 16, 0⟩
def EVR_CNT_FULL_LOST : Fld := ⟨0x4B000024, 16, 16, 0⟩
def EVR_CNT_UNMATCHED_COUNT : Fld := ⟨0x4B000028, 0, 32, 0⟩
def EVR_CNT_WORDS_INVALID : Fld := ⟨0x4B00002C, 0, 32, 0⟩
def EVR_CLEAR_KEY : Fld := ⟨0x4B000030, 0, 16, 0⟩
def EVR_CLEAR_CLEAR : Fld := ⟨0x4B000030, 16, 1, 0⟩
def EVR_CLEAR_FORCE : Fld := ⟨0x4B000030, 17, 1, 0⟩
def EVR_CURSOR_RSEQ : Fld := ⟨0x4B000040, 0, 19, 0⟩
def EVR_WIN_STAT_STALE : Fld := ⟨0x4B000044, 0, 1, 1⟩
def EVR_WIN_STAT_COUNT : Fld := ⟨0x4B000044, 8, 8, 0⟩
def EVR_WINn_BYTES (n : Nat) : Fld := ⟨0x4B001000 + 0x4 * n, 0, 32, 0⟩

/-! Chapter 23, Table 23.7. -/
def EVR_Tt_ORIGIN_O_VALUE (t : Nat) : Fld := ⟨0x4B004000 + 0x100 * t, 0, 16, 0⟩
def EVR_Tt_ORIGIN_O_MASK (t : Nat) : Fld := ⟨0x4B004000 + 0x100 * t, 16, 16, 0⟩
def EVR_Tt_CODE_C_VALUE (t : Nat) : Fld := ⟨0x4B004004 + 0x100 * t, 0, 16, 0⟩
def EVR_Tt_CODE_C_MASK (t : Nat) : Fld := ⟨0x4B004004 + 0x100 * t, 16, 16, 0⟩
def EVR_Tt_CFG_EN (t : Nat) : Fld := ⟨0x4B004008 + 0x100 * t, 0, 1, 0⟩
def EVR_Tt_CFG_FAULT (t : Nat) : Fld := ⟨0x4B004008 + 0x100 * t, 1, 1, 0⟩
def EVR_Tt_CFG_WORDS (t : Nat) : Fld := ⟨0x4B004008 + 0x100 * t, 8, 6, 0⟩
def EVR_Tt_CFG_HOLDOFF_MS (t : Nat) : Fld := ⟨0x4B004008 + 0x100 * t, 16, 14, 0⟩
def EVR_Tt_CNT_RECORDS (t : Nat) : Fld := ⟨0x4B00400C + 0x100 * t, 0, 32, 0⟩
def EVR_Tt_ADDRw_ADDR (t : Nat) (w : Nat) : Fld := ⟨0x4B004010 + 0x100 * t + 0x4 * w, 0, 32, 0⟩

/-! Chapter 24, Table 24.6. -/
def HLT_CTRL_REPLAN : Fld := ⟨0x4C000000, 0, 1, 0⟩
def HLT_CTRL_CAP_TEST : Fld := ⟨0x4C000000, 1, 1, 0⟩
def HLT_CTRL_CLR_CNT : Fld := ⟨0x4C000000, 2, 1, 0⟩
def HLT_STATUS_STATE : Fld := ⟨0x4C000004, 0, 2, 0⟩
def HLT_STATUS_PLAN_PENDING : Fld := ⟨0x4C000004, 2, 1, 0⟩
def HLT_CFG_PERIOD_MS : Fld := ⟨0x4C000008, 0, 10, 0x64⟩
def HLT_EV_TEMP_EV : Fld := ⟨0x4C00000C, 0, 1, 0⟩
def HLT_EV_VOLT_EV : Fld := ⟨0x4C00000C, 1, 1, 0⟩
def HLT_EV_REPLAN_EV : Fld := ⟨0x4C00000C, 2, 1, 0⟩
def HLT_EV_WORN_EV : Fld := ⟨0x4C00000C, 3, 1, 0⟩
def HLT_EV_CAP_DONE_EV : Fld := ⟨0x4C00000C, 4, 1, 0⟩
def HLT_EV_SAVE_LOST_EV : Fld := ⟨0x4C00000C, 5, 1, 0⟩
def HLT_PLAN_CFG_SLOPE : Fld := ⟨0x4C000010, 0, 8, 0xA⟩
def HLT_PLAN_CFG_AVS_MAX : Fld := ⟨0x4C000010, 8, 8, 0xA⟩
def HLT_PLAN_CFG_DER_MIN : Fld := ⟨0x4C000010, 16, 9, 0xC0⟩
def HLT_LIFE_CFG_N_RATED : Fld := ⟨0x4C000014, 0, 16, 0xEA60⟩
def HLT_LIFE_CFG_RON_FAIL : Fld := ⟨0x4C000014, 16, 8, 0xFF⟩
def HLT_LIFE_CFG_D_LIFE : Fld := ⟨0x4C000014, 24, 8, 0x1E⟩
def HLT_LIFE_REMAIN_H : Fld := ⟨0x4C000018, 0, 16, 0xFFFF⟩
def HLT_LIFE_GOVERNOR : Fld := ⟨0x4C000018, 16, 3, 0⟩
def HLT_USED_U : Fld := ⟨0x4C00001C, 0, 16, 0⟩
def HLT_HOURS_RUN_S : Fld := ⟨0x4C000020, 0, 32, 0⟩
def HLT_PSEQ_PSEQ : Fld := ⟨0x4C000024, 0, 32, 0⟩
def HLT_Tn_T (n : Nat) : Fld := ⟨0x4C000100 + 0x4 * n, 0, 16, 0⟩
def HLT_Tn_OVER (n : Nat) : Fld := ⟨0x4C000100 + 0x4 * n, 16, 1, 0⟩
def HLT_Tn_VALID (n : Nat) : Fld := ⟨0x4C000100 + 0x4 * n, 17, 1, 0⟩
def HLT_TLIMn_WARN (n : Nat) : Fld := ⟨0x4C000200 + 0x4 * n, 0, 16, 0x41A⟩
def HLT_TLIMn_HYST (n : Nat) : Fld := ⟨0x4C000200 + 0x4 * n, 16, 8, 0x32⟩
def HLT_Vn_MV (n : Nat) : Fld := ⟨0x4C000300 + 0x4 * n, 0, 16, 0⟩
def HLT_Vn_LOW (n : Nat) : Fld := ⟨0x4C000300 + 0x4 * n, 16, 1, 0⟩
def HLT_Vn_HIGH (n : Nat) : Fld := ⟨0x4C000300 + 0x4 * n, 17, 1, 0⟩
def HLT_Vn_VALID (n : Nat) : Fld := ⟨0x4C000300 + 0x4 * n, 18, 1, 0⟩
def HLT_VLIMn_LO_MV (n : Nat) : Fld := ⟨0x4C000400 + 0x4 * n, 0, 16, 0⟩
def HLT_VLIMn_HI_MV (n : Nat) : Fld := ⟨0x4C000400 + 0x4 * n, 16, 16, 0xFFFF⟩
def HLT_ROn_DRIFT_PPM (n : Nat) : Fld := ⟨0x4C000500 + 0x4 * n, 0, 24, 0⟩
def HLT_AVSk_IN_FORCE (k : Nat) : Fld := ⟨0x4C000560 + 0x4 * k, 0, 8, 0⟩
def HLT_AVSk_PLANNED (k : Nat) : Fld := ⟨0x4C000560 + 0x4 * k, 8, 8, 0⟩
def HLT_CYCk_A_C20 (k : Nat) : Fld := ⟨0x4C000600 + 0x8 * k, 0, 16, 0⟩
def HLT_CYCk_A_C40 (k : Nat) : Fld := ⟨0x4C000600 + 0x8 * k, 16, 16, 0⟩
def HLT_CYCk_B_C80 (k : Nat) : Fld := ⟨0x4C000604 + 0x8 * k, 0, 16, 0⟩
def HLT_CYCk_B_DAMAGE (k : Nat) : Fld := ⟨0x4C000604 + 0x8 * k, 16, 16, 0⟩
def HLT_CHc_RON25 (c : Nat) : Fld := ⟨0x4C001000 + 0x4 * c, 0, 16, 0⟩
def HLT_CHc_DERATE (c : Nat) : Fld := ⟨0x4C001000 + 0x4 * c, 16, 9, 0x100⟩
def HLT_CHc_WORN (c : Nat) : Fld := ⟨0x4C001000 + 0x4 * c, 25, 1, 0⟩
def HLT_CHR0c_R0 (c : Nat) : Fld := ⟨0x4C001400 + 0x4 * c, 0, 16, 0⟩
def HLT_BSTc_CAP_NF (c : Nat) : Fld := ⟨0x4C001800 + 0x4 * c, 0, 16, 0⟩
def HLT_BSTc_WORN (c : Nat) : Fld := ⟨0x4C001800 + 0x4 * c, 16, 1, 0⟩
def HLT_MRAMr_PAGE_PAGE (r : Nat) : Fld := ⟨0x4C001900 + 0x8 * r, 0, 17, 0⟩
def HLT_MRAMr_WEAR_WEAR (r : Nat) : Fld := ⟨0x4C001904 + 0x8 * r, 0, 16, 0⟩

/-! Chapter 25, Table 25.3. -/
def SUP_ID_PART_PART : Fld := ⟨0x40000000, 0, 16, 0x192⟩
def SUP_ID_PART_REV : Fld := ⟨0x40000000, 16, 8, 0x41⟩
def SUP_ID_PART_GRADE : Fld := ⟨0x40000000, 24, 4, 1⟩
def SUP_ID_UNITn_BYTES (n : Nat) : Fld := ⟨0x40000004 + 0x4 * n, 0, 32, 0⟩
def SUP_ID_ROM_BUILD : Fld := ⟨0x40000014, 0, 16, 0⟩
def SUP_ID_ROM_MINOR : Fld := ⟨0x40000014, 16, 8, 0⟩
def SUP_ID_ROM_MAJOR : Fld := ⟨0x40000014, 24, 8, 0⟩
def SUP_ID_KEYS_PRESENT : Fld := ⟨0x40000018, 0, 4, 0xF⟩
def SUP_ID_TEST_DAY : Fld := ⟨0x4000001C, 0, 16, 0⟩
def SUP_ID_CAPS_CELLS : Fld := ⟨0x40000020, 0, 8, 0x18⟩
def SUP_ID_CAPS_MB : Fld := ⟨0x40000020, 8, 8, 0x18⟩
def SUP_ID_CAPS_ETH : Fld := ⟨0x40000020, 16, 8, 0x10⟩
def SUP_ID_CAPS_TARN : Fld := ⟨0x40000020, 24, 8, 0x10⟩
def SUP_ID_CAPS2_TRACK : Fld := ⟨0x40000024, 0, 9, 0x180⟩
def SUP_ID_CAPS2_LINKS : Fld := ⟨0x40000024, 9, 3, 4⟩
def SUP_ID_CAPS2_ISLANDS : Fld := ⟨0x40000024, 12, 4, 9⟩
def SUP_ID_LAYOUT_MAP : Fld := ⟨0x40000028, 0, 16, 1⟩

/-! Chapter 25, Table 25.7. -/
def SUP_MBXk_CTRL_GO (k : Nat) : Fld := ⟨0x40000800 + 0x40 * k, 0, 1, 0⟩
def SUP_MBXk_CTRL_SVC (k : Nat) : Fld := ⟨0x40000800 + 0x40 * k, 8, 8, 0⟩
def SUP_MBXk_ARGn_ARG (k : Nat) (n : Nat) : Fld := ⟨0x40000804 + 0x40 * k + 0x4 * n, 0, 32, 0⟩
def SUP_MBXk_STAT_BUSY (k : Nat) : Fld := ⟨0x40000814 + 0x40 * k, 0, 1, 0⟩
def SUP_MBXk_STAT_STATUS (k : Nat) : Fld := ⟨0x40000814 + 0x40 * k, 8, 8, 0⟩
def SUP_MBXk_STAT_SEQ (k : Nat) : Fld := ⟨0x40000814 + 0x40 * k, 16, 16, 0⟩
def SUP_MBXk_RETn_RET (k : Nat) (n : Nat) : Fld := ⟨0x40000818 + 0x40 * k + 0x4 * n, 0, 32, 0⟩
def SUP_PART_STATUS_LOADED : Fld := ⟨0x40000A00, 0, 8, 0⟩
def SUP_PART_STATUS_HUNG : Fld := ⟨0x40000A00, 8, 8, 0⟩
def SUP_PART_RESTARTk_COUNT (k : Nat) : Fld := ⟨0x40000A04 + 0x4 * k, 0, 16, 0⟩

end Sys2Proof.Machine.R
end

