-- ==== Sys2Proof/Machine/Ops.lean ====
section
/-! DEFINITION. The named operations every meaning is written in: numbers and bytes, register fields, free values, packets, events and the clock. -/

namespace Sys2Proof.Machine

open Sys2Proof

/-! ## Numbers -/

/-- Rounded-up quotient. -/
def ceilDiv (a d : Nat) : Nat := (a + d - 1) / d

/-- Low `w` bits of an integer, two's complement. -/
def lowBits (w : Nat) (x : Int) : Nat := (x % (2 ^ w : Nat)).toNat

/-- The integer that `w` bits hold in two's complement. -/
def signed (w : Nat) (v : Nat) : Int :=
  if v % 2 ^ w < 2 ^ (w - 1) then (v % 2 ^ w : Nat) else (v % 2 ^ w : Nat) - (2 ^ w : Nat)

/-- An integer saturated to `w` bits, two's complement. -/
def satS (w : Nat) (x : Int) : Int := max (-(2 ^ (w - 1) : Nat)) (min ((2 ^ (w - 1) : Nat) - 1) x)

/-- An integer saturated to 0 to 2^w - 1. -/
def satU (w : Nat) (x : Int) : Nat := min (2 ^ w - 1) x.toNat

/-- An integer between two bounds. -/
def clampI (lo hi x : Int) : Int := max lo (min hi x)

/-- Bit `i` of a number. -/
def bit (v i : Nat) : Bool := v.testBit i

/-- The number with bit `i` set to `b`. -/
def withBit (v i : Nat) (b : Bool) : Nat :=
  if b then (if v.testBit i then v else v + 2 ^ i) else (if v.testBit i then v - 2 ^ i else v)

/-- The number that `n` little-endian bytes spell (R4). -/
def leNat : List Nat → Nat
  | [] => 0
  | x :: r => x % 256 + 256 * leNat r

/-- The `n` low bytes of a number, little-endian (R4). -/
def le : Nat → Nat → List Nat
  | 0, _ => []
  | n + 1, v => v % 256 :: le n (v / 256)

/-- Bytes `i` to `i + n - 1` of a list of bytes as a number; a byte beyond the end counts 0. -/
def bytesAt (d : List Nat) (i n : Nat) : Nat := leNat ((d.drop i).take n)

/-- A truth value as 1 or 0. -/
def b2n (b : Bool) : Nat := if b then 1 else 0

/-- Number of set bits among the low `n` bits. -/
def popCount (n v : Nat) : Nat := ((List.range n).filter (fun i => v.testBit i)).length

/-- Instants of a list that lie less than `w` before `now`. -/
def recent (now w : Nat) (l : List Nat) : List Nat := l.filter (fun t => now < t + w)

/-! ## Register fields -/

/-- Value of a field. -/
def Block.get (b : Block) (f : Fld) : Nat := b.regs.find f.key f.reset

/-- A field set to a value; bits above its width are dropped. -/
def Block.set (b : Block) (f : Fld) (v : Nat) : Block :=
  { b with regs := b.regs.putD f.key (v % 2 ^ f.wid) f.reset }

/-- The value a block uses: the old one while a written class S value waits for the block's boundary (R11, R77). -/
def Block.use (b : Block) (f : Fld) : Nat := b.inuse.find f.key (b.get f)

/-- Set or clear a one-bit field. -/
def Block.setB (b : Block) (f : Fld) (v : Bool) : Block := b.set f (b2n v)

/-- A one-bit field is set. -/
def Block.flag (b : Block) (f : Fld) : Bool := b.get f != 0

/-- Signed reading of a field. -/
def Block.geti (b : Block) (f : Fld) : Int := signed f.wid (b.get f)

/-- A field set to the low bits of an integer. -/
def Block.seti (b : Block) (f : Fld) (v : Int) : Block := b.set f (lowBits f.wid v)

/-- Bit `i` of a field. -/
def Block.bitOf (b : Block) (f : Fld) (i : Nat) : Bool := bit (b.get f) i

/-- Set or clear bit `i` of a field. -/
def Block.setBit (b : Block) (f : Fld) (i : Nat) (v : Bool) : Block := b.set f (withBit (b.get f) i v)

/-- Count up, saturating at the field's maximum. -/
def Block.inc (b : Block) (f : Fld) (n : Nat := 1) : Block := b.set f (min (2 ^ f.wid - 1) (b.get f + n))

/-- Count up, wrapping. -/
def Block.incW (b : Block) (f : Fld) (n : Nat := 1) : Block := b.set f (b.get f + n)

/-- All of a list of fields at 0. -/
def Block.clear (b : Block) (l : List Fld) : Block := l.foldl (fun b f => b.set f 0) b

/-- A block boundary: every written class S value of the addresses `lo` to `hi - 1` comes into use (R11, R77). -/
def Block.boundary (b : Block) (lo hi : Nat) : Block :=
  { b with inuse := b.inuse.filter (fun e => e.1 < lo * 32 || hi * 32 ≤ e.1) }

/-- All register fields of the addresses `lo` to `hi - 1` at their reset values (R129). -/
def Block.resetRegs (b : Block) (lo hi : Nat) : Block :=
  { b with regs := b.regs.filter (fun e => e.1 < lo * 32 || hi * 32 ≤ e.1),
           inuse := b.inuse.filter (fun e => e.1 < lo * 32 || hi * 32 ≤ e.1) }

/-- A class S field written: the old value stays in use until the boundary (R77). -/
def Block.setS (b : Block) (f : Fld) (v : Nat) : Block :=
  { (b.set f v) with inuse := if (b.inuse.find? f.key).isSome then b.inuse else b.inuse.put f.key (b.get f) }

/-- Apply a change when a condition holds. -/
def Block.when (b : Block) (c : Bool) (f : Block → Block) : Block := if c then f b else b

/-- Apply a change for each index below `n`, in ascending order. -/
def Block.each (b : Block) (n : Nat) (f : Nat → Block → Block) : Block :=
  (List.range n).foldl (fun b i => f i b) b

/-- Apply a change for each member of a list, in order. -/
def Block.eachOf {α : Type} (b : Block) (l : List α) (f : α → Block → Block) : Block :=
  l.foldl (fun b i => f i b) b

/-! ## Free values -/

/-- The next free value (log entry 1). -/
def Block.open_ (b : Block) : Nat := Config.freeValue b.free

/-- The model's counter past one free value. -/
def Block.spend (b : Block) : Block := { b with free := b.free + 1 }

/-- The `k`-th of several free values drawn at once; `spend` ends the draw. -/
def Block.fresh (b : Block) (k : Nat) : Int := Config.freeReal 0 [b.free, k]

/-- The `k`-th free value of a draw as a number below 2^w. -/
def Block.freshW (b : Block) (k w : Nat) : Nat := lowBits w (b.fresh k)

/-- A field at a free value. -/
def Block.setOpen (b : Block) (f : Fld) : Block := (b.set f b.open_).spend

/-! ## Origins (R14 to R17) -/

/-- The origin of a unit. -/
def org (island cell unit : Nat) : Nat := island * 4096 + cell * 128 + unit

/-- The origin that names an island as a whole. -/
def islOrigin (i : Nat) : Nat := org i 31 127

/-- Origin of a field channel (R17). -/
def chOrigin (ch : Nat) : Nat := org (6 + ch / 64) (ch / 8) (ch % 8)

/-- Origin of a field cell (R17). -/
def fcOrigin (c : Nat) : Nat := org (6 + c / 8) c 127

/-- Island, cell and unit codes of an origin. -/
def oIsland (o : Nat) : Nat := o / 4096
def oCell (o : Nat) : Nat := o / 128 % 32
def oUnit (o : Nat) : Nat := o % 128

/-! ## Packets -/

/-- Leust time stamp: module time in µs modulo 2^32 (R5). -/
def stampOf (ns : Nat) : Nat := ns / 1000 % 2 ^ 32

/-- The stamp of this instant. -/
def Block.stamp (b : Block) : Nat := stampOf b.sys.mtime

/-- Send a packet as it stands. -/
def Block.send (b : Block) (p : Packet) : Block := { b with out := b.out ++ [p] }

/-- Send a posted packet: SEQ counts per (STREAM, ORIGIN) and the first of a start carries 0 and RESYNC (R59). -/
def Block.post (b : Block) (p : Packet) : Block :=
  let k := p.stream * 65536 + p.origin
  let n := b.fab.seqs.find k 0
  { b with
    out := b.out ++ [{ p with seq := n % 256, resync := p.resync || (b.fab.seqs.find? k).isNone }],
    fab := { b.fab with seqs := b.fab.seqs.put k ((n + 1) % 256) } }

/-- Stream of output `n` of a source, where the image routes it (R41). -/
def Block.route? (b : Block) (origin n : Nat) : Option Nat := b.fab.routes.find? (origin * 64 + n)

/-- The cell of an origin as a load target. -/
def cellTarget (o : Nat) : Nat := o / 128 * 128 + 127

/-- A cell in reset, under reload or held off (R72, R73). -/
def Block.cellOff (b : Block) (o : Nat) : Bool :=
  decide (oIsland o < 9) && (b.img.cells.contains (oIsland o, oCell o) || b.bitOf (R.SUP_CELL_HELDk_CELL (oIsland o)) (oCell o))

/-- A load target is quiesced: its block takes no write, produces no SAMPLE and takes no SETPOINT (R79, R82). -/
def Block.quiesced (b : Block) (target : Nat) : Bool := b.img.quiesced.contains target

/-- The units whose cycle, frame or sweep in progress completes after a QUIESCE, its result sent (chapters 10 to 12). -/
def finishes (o : Nat) : Bool := (oIsland o == 2 && decide (oCell o ≤ 1)) || (oIsland o == 4 && (oCell o == 4 || oCell o == 5))

/-- A unit sends no SAMPLE: its target is quiesced, or its cell is in reset (R73, R82). -/
def Block.hushed (b : Block) (o : Nat) : Bool := ((b.quiesced o || b.quiesced (cellTarget o)) && !finishes o) || b.cellOff o

/-- Send a SAMPLE on the stream routed from output `n` of a source; without a route nothing is sent. -/
def Block.sample (b : Block) (origin n : Nat) (data : List Nat) (conf : Nat := 255) (valid : Bool := true)
    (stamp : Option Nat := none) (stale masked replay : Bool := false) : Block :=
  match (if b.hushed origin then none else b.route? origin n) with
  | none => b
  | some st => b.post { kind := .sample, stream := st, origin := origin, conf := conf, valid := valid, stale := stale, masked := masked, replay := replay, stamp := stamp.getD b.stamp, data := data }

/-- Send an EVENT with a payload of its own (R540). -/
def Block.eventRaw (b : Block) (origin : Nat) (data : List Nat) : Block :=
  b.post { kind := .event, stream := 0xFF01, origin := origin, stamp := b.stamp, data := data }

/-- Send an EVENT with CODE 0x0001 naming bit `n` of the register at `addr` (R540). -/
def Block.event (b : Block) (origin addr n : Nat) (extra : List Nat := []) : Block :=
  b.eventRaw origin ([1, 0, n, 0] ++ le 4 addr ++ extra)

/-- Set bit `i` of a field and send the EVENT that names it (R540). -/
def Block.raiseBit (b : Block) (origin : Nat) (f : Fld) (i : Nat) (extra : List Nat := []) : Block :=
  (b.setBit f i true).event origin f.addr (f.lo + i) extra

/-- Set a one-bit field and send the EVENT that names it (R540). -/
def Block.raise (b : Block) (origin : Nat) (f : Fld) (extra : List Nat := []) : Block :=
  (b.set f 1).event origin f.addr f.lo extra

/-- Forget the sequence counts of every stream an origin satisfying `p` begins: its next packet carries SEQ 0 and RESYNC (R59, R61). -/
def Block.resync (b : Block) (p : Nat → Bool) : Block :=
  { b with fab := { b.fab with seqs := b.fab.seqs.filter (fun e => !p (e.1 % 65536)) } }

/-- The fabric delivers a packet: while REPLAY acts, a stream marked for replay comes from the replay source alone (R427). -/
def Block.heard (b : Block) (p : Packet) : Bool :=
  !(b.get R.MODE_STATE_STATE / 4 % 4 == 2) || p.origin == 0x5082 || !b.sst.streams.any fun x => x.stream == p.stream && x.replay

/-- Record the status with which a request, a control bit or a service is answered. -/
def Block.status (b : Block) (code : Nat) : Block := { b with fab := { b.fab with status := code } }

/-! ## Time -/

/-- Part of the offset still to remove that the rate adjustment of at most 10 ppm removes in `d` ns (R30). -/
def Block.slewed (b : Block) (d : Nat) : Nat := if 2 ≤ b.get R.PWR_STATE_STATE then min b.sys.slew.natAbs (min 10000 b.sys.rateAdj.natAbs * d / 1000000000) else 0

/-- The offset still to remove, `c` ns nearer to 0. -/
def Sys.slewLeft (y : Sys) (c : Nat) : Int := if y.slew < 0 then y.slew + c else y.slew - c

/-- Elapsed time moves to `t`; an instant already past leaves the clocks alone. Module time runs in RUN and PARKED only (R34), slower while it is ahead of GNSS time and faster while it is behind (R30). -/
def Block.reach (b : Block) (t : Nat) : Block :=
  let d := t - b.now
  let c := b.slewed d
  { b with now := b.now + d,
           sys := if 2 ≤ b.get R.PWR_STATE_STATE then { b.sys with mtime := if b.sys.slew < 0 then b.sys.mtime + d + c else b.sys.mtime + d - c, slew := b.sys.slewLeft c } else b.sys }

/-- Module time moves to `t`; an instant already past leaves the clocks alone. The elapsed time differs by what is slewed on the way (R30). -/
def Block.toModule (b : Block) (t : Nat) : Block :=
  let d := t - b.sys.mtime
  let c := b.slewed d
  { b with now := if b.sys.slew < 0 then b.now + d - c else b.now + d + c,
           sys := if 2 ≤ b.get R.PWR_STATE_STATE then { b.sys with mtime := b.sys.mtime + d, slew := b.sys.slewLeft c } else b.sys }

/-- The time counter's value: a multiple of the 4 ns of its tick (R28; log entry 124). -/
def Block.counter (b : Block) : Nat := b.sys.mtime / 4 * 4

/-- The instant of module time in ns that a Leust stamp names: the one nearest to now (R5). -/
def Block.unstamp (b : Block) (st : Nat) : Nat :=
  let m := b.sys.mtime / 1000
  ((m : Int) + signed 32 ((st + 2 ^ 32 - m % 2 ^ 32) % 2 ^ 32)).toNat * 1000

/-- Module time moves to its next multiple of `p`: the one at hand or, when `strict`, a later one. -/
def Block.toBoundary (b : Block) (p : Nat) (strict : Bool) : Block :=
  b.toModule ((b.sys.mtime + (if strict then p else p - 1)) / p * p)

/-- Nanoseconds of a millisecond, a microsecond and a second. -/
def us : Nat := 1000
def ms : Nat := 1000000
def sec : Nat := 1000000000

/-- Halves rounded up: floor(n / d + 1/2). -/
def roundDiv (n : Int) (d : Nat) : Int := (2 * n + d) / (2 * (d : Int))

/-- Quotient rounded to nearest, ties away from zero; 0 when the divisor is 0 (R255). -/
def rquot (n d : Int) : Int :=
  let q : Int := (2 * n.natAbs + d.natAbs) / (2 * d.natAbs) * (if d = 0 then 0 else 1)
  if (n < 0) = (d < 0) then q else -q

/-- Integer square root by bits: the greatest r below 2^k with r² at most n. -/
def isqrt (n : Nat) : Nat → Nat
  | 0 => 0
  | k + 1 =>
    let r := 2 * isqrt (n / 4) k
    if (r + 1) * (r + 1) ≤ n then r + 1 else r

/-! ## Field-channel state -/

/-- The state of channel `ch` behind its registers. -/
def Block.ch (b : Block) (ch : Nat) : Chan := b.chans.getD ch {}

/-- The state of channel `ch` changed. -/
def Block.modCh (b : Block) (ch : Nat) (f : Chan → Chan) : Block := { b with chans := updAt b.chans ch f }

/-- The core, drive, net and input parts of a channel changed. -/
def Block.modCore (b : Block) (ch : Nat) (f : ChanCore → ChanCore) : Block := b.modCh ch (fun c => { c with core := f c.core })
def Block.modDrv (b : Block) (ch : Nat) (f : ChanDrive → ChanDrive) : Block := b.modCh ch (fun c => { c with drv := f c.drv })
def Block.modNet (b : Block) (ch : Nat) (f : ChanNet → ChanNet) : Block := b.modCh ch (fun c => { c with net := f c.net })
def Block.modIn (b : Block) (ch : Nat) (f : ChanIn → ChanIn) : Block := b.modCh ch (fun c => { c with inp := f c.inp })

/-- The state of field cell `c`. -/
def Block.cell (b : Block) (c : Nat) : Cell := b.cells.getD c {}

/-- The state of field cell `c` changed. -/
def Block.modCell (b : Block) (c : Nat) (f : Cell → Cell) : Block := { b with cells := updAt b.cells c f }

/-! ## Modes -/

/-- Mode numbers (Table 4.1). -/
def mDEGRADED : Nat := 0
def mREPLAY : Nat := 1
def mSERVICE : Nat := 2
def mROAD : Nat := 3
def mDRIVERLESS : Nat := 4
def mGUIDED : Nat := 5
def mHEADLAND : Nat := 6
def mUNLOAD : Nat := 7
def mHARVEST : Nat := 8
def mCONVOY : Nat := 9
def mCALIBRATE : Nat := 10
def mUPDATE : Nat := 11

/-- State of mode `k`: 0 OFF, 1 WAITING, 2 ACTING, 3 CONFIRM (MODE_STATE). -/
def Block.modeState (b : Block) (k : Nat) : Nat := b.get R.MODE_STATE_STATE / 4 ^ k % 4

/-- Mode `k` acts and no higher mode suppresses it whole. -/
def Block.acting (b : Block) (k : Nat) : Bool := b.modeState k == 2

/-- Kind of the calibration run that acts (R101); 0 for none. -/
def Block.calKind (b : Block) : Nat :=
  if b.acting 10 && b.get R.MODE_CAL_RUN != 0 then b.mode.policy.calKinds.getD (b.get R.MODE_CAL_RUN - 1) 0 else 0

/-- Calibration fields of the mapper: the retained class (chapter 16). -/
def yldRetained : List Fld :=
  [R.YLD_STATUS_PASS, R.YLD_TM_FIX_T_FIX, R.YLD_TM_FIX_CV_FIX, R.YLD_MF_CFG_S0, R.YLD_MF_REF_K_M] ++
    (List.range 4).flatMap fun s => [R.YLD_TM_STAGEs_R s, R.YLD_TM_STAGEs_CV s, R.YLD_TM_REFs_N_REF s, R.YLD_TM_REFs_CAL s]

/-! ## Islands -/

/-- Island `i` is declared lost (R26). -/
def Block.isLost (b : Block) (i : Nat) : Bool := b.bitOf R.SUP_ISL_STATUS_LOST i

/-- A part of a path: an island, or 16 plus a field cell, is lost or held off (R97). -/
def Block.partLost (b : Block) (p : Nat) : Bool :=
  if p < 16 then b.isLost p else b.isLost (6 + (p - 16) / 8) || b.bitOf (R.SUP_CELL_HELDk_CELL (6 + (p - 16) / 8)) (p - 16)

/-- The state of island `i`. -/
def Block.island (b : Block) (i : Nat) : Island := b.sys.islands.getD i {}

/-- The state of island `i` changed. -/
def Block.modIsland (b : Block) (i : Nat) (f : Island → Island) : Block :=
  { b with sys := { b.sys with islands := updAt b.sys.islands i f } }

/-- Record a reset of cell scope: SUP_RST_CELL_LAST, the defaults-applied flag and the EVENT of R129; the cell awaits its reload (R72). -/
def Block.recordCellReset (b : Block) (island cell cause : Nat) : Block :=
  let b := (b.set R.SUP_RST_CELL_LAST_ORIGIN (org island cell 127)).set R.SUP_RST_CELL_LAST_CAUSE cause
  let b := b.setBit (R.SUP_DEF_CELLk_CELL island) cell true
  let b := { b with img := { b.img with cells := (b.img.cells.filter (· != (island, cell))) ++ [(island, cell)] } }
  b.eventRaw (islOrigin 0) ([0x10, 0, cause, 0] ++ le 2 (org island cell 127) ++ [0, 0])

/-! ## Outcomes -/

/-- What a meaning answers. -/
abbrev Result := Host.Outcome State Fault Refusal

/-- The next state in which a change of the block has happened; the addressed memories and the queue stand. -/
def State.go (s : State) (f : Block → Block) : Result := .next { s with blk := f s.blk }

/-- A control bit, service or request that may be refused: on a status code nothing changes but the status answered. -/
def State.ask (s : State) (refusal : Option Nat) (f : Block → Block) : Result :=
  match refusal with
  | some c => s.go (fun b => b.status c)
  | none => s.go (fun b => (f b).status 0)

/-- An event that happens only while its condition holds; otherwise nothing happens. -/
def State.if_ (s : State) (c : Bool) (f : Block → Block) : Result :=
  s.go (fun b => if c then f b else b)

/-! ## Status codes (Table 2.9) -/

def BUSY : Nat := 0x01
def UNMAPPED : Nat := 0x02
def REFUSED : Nat := 0x03
def LINK_RESET : Nat := 0x04
def ISLAND_LOST : Nat := 0x05
def TIMEOUT : Nat := 0x06
def BAD_KIND : Nat := 0x07
def BAD_LENGTH : Nat := 0x08
def BAD_ORIGIN : Nat := 0x09
def BAD_STREAM : Nat := 0x0A
def POISONED : Nat := 0x0B

/-- Why a unit takes no control bit or write: its island is lost, its load target quiesced (R79), or its cell in reset (log entry 130). -/
def Block.unitRefusal (b : Block) (target : Nat) : Option Nat :=
  if b.isLost (oIsland target) then some ISLAND_LOST else if b.quiesced target || b.cellOff target then some BUSY else none

end Sys2Proof.Machine
end

