-- ==== Sys2Proof/Machine/Operands.lean ====
section
/-! DEFINITION. What a word of the control space is made of: access codes, change classes and read-back rules of register fields (chapter 0, R7, R11), and the registers at an address. -/

namespace Sys2Proof.Machine

open Sys2Proof

/-- Access codes (Table 0.3). -/
inductive RegAcc where
  | rw | ro | wo | w1c | w1s | rs
  deriving DecidableEq, Repr

/-- Change classes (R11). -/
inductive Cls where
  | L | S | H
  deriving DecidableEq, Repr

/-- What becomes of a written value outside the field's range, as the field's description says. Fields of `atLeast` and `atMost` name the other field: distance of its address, low bit, width, and what is added to it. -/
inductive Rule where
  | clamp (lo hi : Nat)
  | sclamp (n : Nat)
  | remap (lo hi v : Nat)
  | deny (lo hi code : Nat)
  | mult (n code : Nat)
  | roundUp (n : Nat)
  | atLeast (dAddr : Int) (lo wid : Nat) (plus : Int)
  | atMost (dAddr : Int) (lo wid : Nat) (plus : Int)
  deriving DecidableEq, Repr

/-- A field of a register table row: low bit, width, reset value (one, or one for each value of the last index), access, class and rules. -/
structure FieldRow where
  lo     : Nat
  wid    : Nat
  resets : List Nat
  acc    : RegAcc
  cls    : Cls
  rules  : List Rule
  deriving DecidableEq, Repr

/-- A register of a register table: address of its first element, its indices (count and stride, outermost first) and its fields. -/
structure RegRow where
  base   : Nat
  dims   : List (Nat × Nat)
  fields : List FieldRow
  deriving DecidableEq, Repr

/-- The last index of the element of an array that lies at an offset; 0 for a single register, nothing between elements. -/
def elementAt (last : Nat) : List (Nat × Nat) → Nat → Option Nat
  | [], o => if o = 0 then some last else none
  | (n, s) :: r, o => if o / s < n then elementAt (o / s) r (o % s) else none

/-- The register row and last index at an address. -/
def regIn (l : List RegRow) (a : Nat) : Option (RegRow × Nat) :=
  l.findSome? fun r => if r.base ≤ a then (elementAt 0 r.dims (a - r.base)).map fun i => (r, i) else none

/-- The field of a row at an address. -/
def FieldRow.fld (f : FieldRow) (a i : Nat) : Fld := ⟨a, f.lo, f.wid, if f.resets.length = 1 then f.resets.headD 0 else f.resets.getD i 0⟩

/-- The bits of a word that a field covers. -/
def FieldRow.of (f : FieldRow) (v : Nat) : Nat := v / 2 ^ f.lo % 2 ^ f.wid

/-- The bits of a word that a field constant covers. -/
def Fld.of (f : Fld) (v : Nat) : Nat := v / 2 ^ f.lo % 2 ^ f.wid

/-- A written value under one rule; `other` gives the value of a field the rule names. -/
def Rule.adjust (wid : Nat) (other : Int → Nat → Nat → Nat) (n : Nat) : Rule → Nat
  | .clamp lo hi => max lo (min hi n)
  | .sclamp k => lowBits wid (clampI (-(k : Int)) k (signed wid n))
  | .remap lo hi v => if lo ≤ n ∧ n ≤ hi then v else n
  | .deny _ _ _ | .mult _ _ => n
  | .roundUp k => (n + k - 1) / k * k
  | .atLeast d lo w p => max n (other d lo w + p).toNat
  | .atMost d lo w p => min n (other d lo w + p).toNat

/-- Why a written value is refused, if it is. -/
def Rule.refusal (n : Nat) : Rule → Option Nat
  | .deny lo hi code => if lo ≤ n ∧ n ≤ hi then some code else none
  | .mult k code => if n % k = 0 then none else some code
  | .clamp _ _ | .sclamp _ | .remap _ _ _ | .roundUp _ | .atLeast _ _ _ _ | .atMost _ _ _ _ => none

/-- A written value as the field reads it back. -/
def FieldRow.taken (f : FieldRow) (other : Int → Nat → Nat → Nat) (v : Nat) : Nat := f.rules.foldl (Rule.adjust f.wid other) (f.of v)

end Sys2Proof.Machine
end

