-- ==== Sys2Proof/Machine/Memory.lean ====
section
/-! DEFINITION. The addressed memories: the backup SRAM at 0x4901_0000 (chapter 21) and the retained store at 0x5000_0000 (chapter 5), one list of bytes in one canonical form. An unlisted byte reads 0 (log entry 10). -/

namespace Sys2Proof.Machine

open Sys2Proof

/-- Bytes by address. -/
abbrev Memory := List Host.Cell

/-- The byte at an address. -/
def Memory.read : Memory → Nat → BitVec 8
  | [], _ => 0#8
  | c :: r, a => if c.1 = a then c.2 else Memory.read r a

/-- One byte written: the entry is placed in order, or removed where the byte is 0. -/
def Memory.write : Memory → Nat → BitVec 8 → Memory
  | [], a, v => if v = 0#8 then [] else [(a, v)]
  | c :: r, a, v =>
    if a < c.1 then (if v = 0#8 then c :: r else (a, v) :: c :: r)
    else if a = c.1 then (if v = 0#8 then r else (a, v) :: r)
    else c :: Memory.write r a v

/-- Bytes written from an address on. -/
def Memory.writeBytes (m : Memory) (a : Nat) : List Nat → Memory
  | [] => m
  | v :: r => Memory.writeBytes (m.write a (BitVec.ofNat 8 v)) (a + 1) r

/-- `n` bytes from an address on. -/
def Memory.readBytes (m : Memory) (a : Nat) : Nat → List Nat
  | 0 => []
  | n + 1 => (m.read a).toNat :: Memory.readBytes m (a + 1) n

/-- `n` bytes from an address on at 0. -/
def Memory.zero (m : Memory) (a n : Nat) : Memory := m.filter fun c => decide (c.1 < a) || decide (a + n ≤ c.1)

/-- The canonical form: addresses strictly rising, no byte 0 listed. -/
def Memory.wf : Memory → Bool
  | [] => true
  | c :: r => c.2 != 0#8 && (match r with | [] => true | d :: _ => decide (c.1 < d.1)) && Memory.wf r

/-- A little-endian word (R4). -/
def Memory.word (m : Memory) (a : Nat) : Nat := leNat (m.readBytes a 4)
def Memory.putWord (m : Memory) (a v : Nat) : Memory := m.writeBytes a (le 4 v)

end Sys2Proof.Machine
end

