-- ==== Sys2Proof/Machine/Calendar.lean ====
section
/-! DEFINITION. Calendar arithmetic, the error bounds of module time and of the RTC, and setting the RTC (chapters 1 and 21: R33, R497 to R499). -/

namespace Sys2Proof.Machine

open Sys2Proof

/-- Year, month and day of a day count from 1980-01-01 (Gregorian). -/
def civil (days : Nat) : Nat × Nat × Nat :=
  let z := days + 723120
  let era := z / 146097
  let doe := z % 146097
  let yoe := (doe - doe / 1460 + doe / 36524 - doe / 146096) / 365
  let doy := doe - (365 * yoe + yoe / 4 - yoe / 100)
  let mp := (5 * doy + 2) / 153
  let m := if mp < 10 then mp + 3 else mp - 9
  (yoe + era * 400 + (if m ≤ 2 then 1 else 0), m, doy - (153 * mp + 2) / 5 + 1)

/-- A leap year, and the days of a month. -/
def leapYear (y : Nat) : Bool := (y % 4 == 0 && y % 100 != 0) || y % 400 == 0
def monthDays (y m : Nat) : Nat := match m with | 2 => if leapYear y then 29 else 28 | 4 | 6 | 9 | 11 => 30 | _ => 31

/-- Days from 1980-01-01 to a date. -/
def dayCount (y m d : Nat) : Nat :=
  let yy := y - (if m ≤ 2 then 1 else 0)
  let era := yy / 400
  let yoe := yy % 400
  let mp := if 2 < m then m - 3 else m + 9
  let doy := (153 * mp + 2) / 5 + d - 1
  era * 146097 + yoe * 365 + yoe / 4 - yoe / 100 + doy - 723120

/-- ISO weekday of a day count: 1980-01-01 was a Tuesday. -/
def weekday (days : Nat) : Nat := (days + 1) % 7 + 1

/-- Seconds of the RTC's range: to 2199-12-31 23:59:59 (R497). -/
def rtcRange : Nat := 80354 * 86400

/-- Second, minute, hour, weekday, day, month and year less 1980 of a second count. -/
def rtcFields (s : Nat) : List Nat :=
  let d := s / 86400
  let (y, m, day) := civil d
  [s % 60, s / 60 % 60, s / 3600 % 24, weekday d, day, m, y - 1980]

/-- The module time bound of R33 in ns: stored while LOCKED, growing by 3.5 ns per second in HOLDOVER and FREE, unknown otherwise. Between whole nanoseconds it is taken continuously and rounded down (DESIGN CHOICE, log entry 136: the spec names no rounding). -/
def Block.mtBound (b : Block) : Nat :=
  match b.get R.SUP_MTIME_STATUS_STATE with
  | 2 => b.get R.SUP_MTIME_ERR_BOUND_NS
  | 3 | 4 => min 0xFFFFFFFF (b.sys.b0 + 7 * (b.now - b.sys.leftLock.getD b.now) / (2 * sec))
  | _ => 0xFFFFFFFF

/-- The calendar in ticks of 1/32,768 s: the second it entered last, and what was counted since (R497). -/
def Block.rtcTicks (b : Block) : Nat := b.bkp.secs * 32768 + (if b.bkp.ended then 0 else (b.now - b.bkp.secAt) * 32768 / sec)

/-- The calendar in whole seconds. -/
def Block.rtcSecs (b : Block) : Nat := b.rtcTicks / 32768

/-- The RTC error bound in ns (R499). -/
def Block.rtcBoundNs (b : Block) : Nat :=
  let t := b.rtcTicks - b.bkp.setSec * 32768
  b.bkp.bSet + b.get R.BKP_RTC_CAL_DRIFT_PPM * 1000 * t / 32768

/-- What BKP_RTC_BOUND reports, in µs. -/
def Block.rtcBoundUs (b : Block) : Nat :=
  if b.flag R.BKP_STATUS_RTC_VALID then min 0xFFFFFFFE (b.rtcBoundNs / 1000) else 0xFFFFFFFF

/-- The RTC takes a second count and an error bound at once. -/
def Block.rtcPut (b : Block) (secs bound : Nat) : Block :=
  (b.set R.BKP_STATUS_RTC_VALID 1 : Block) |> fun b => { b with bkp := { b.bkp with secs := secs, secAt := b.now, setSec := secs, bSet := bound, ended := false } }

/-- Island 0 sets the RTC from module time less the leap-second count (R498); GPS time began on 1980-01-06. -/
def Block.rtcFromModule (b : Block) : Block :=
  (b.rtcPut (b.sys.mtime / sec + 5 * 86400 - b.sys.leap.getD 18) (b.mtBound + 50000) : Block) |> fun b => { b with bkp := { b.bkp with autoAt := b.now, leap := b.sys.leap } }

end Sys2Proof.Machine
end

