-- ==== Sys2Proof/Machine/LoopBlocks.lean ====
section
/-! DEFINITION. The block catalogue of the loop engine: signal arithmetic, validity and every block of Tables 11.5 to 11.11 (chapter 11, R254 to R266). -/

namespace Sys2Proof.Machine

open Sys2Proof

/-! ## Signals (R254, R255) -/

/-- A parameter word and a table word of the loop engine. -/
def leParam (i m : Nat) : Fld := ⟨0x43100020 + 0x80 * i + 4 * m, 0, 32, 0⟩
def leTable (w : Nat) : Fld := ⟨0x43200000 + 4 * (w % 65536), 0, 32, 0⟩

/-- Width, fractional bits and range of a format byte. -/
def fmtW (fm : Nat) : Nat := 8 * (fm % 4 + 1)
def fmtF (fm : Nat) : Nat := fm / 8 % 32
def fmtLo (fm : Nat) : Int := if bit fm 2 then -(2 ^ (fmtW fm - 1) : Nat) else 0
def fmtHi (fm : Nat) : Int := (2 ^ (if bit fm 2 then fmtW fm - 1 else fmtW fm) : Nat) - 1
def fmtSat (fm : Nat) (x : Int) : Int := clampI (fmtLo fm) (fmtHi fm) x

/-- A signal's raw value with `f` fractional bits: left shifts exact, right shifts rounded. -/
def Sig.align (x : Sig) (f : Nat) : Int :=
  if x.f ≤ f then x.raw * (2 ^ (f - x.f) : Nat) else rquot x.raw (2 ^ (x.f - f) : Nat)

/-- A boolean reading. -/
def Sig.on (x : Sig) : Bool := x.raw != 0

/-- Least confidence of some signals; 255 of none. -/
def minConf (l : List Sig) : Nat := l.foldl (fun m x => min m x.conf) 255

/-- The flags of R257 over the inputs used. -/
def pointFlags (l : List Sig) (raw : Int) (f : Nat) (ok : Bool) : Sig :=
  let masked := l.any (·.masked)
  let conf := if masked || !ok then 0 else minConf l
  { raw := raw, f := f, conf := conf, valid := l.all (·.valid) && conf != 0, stale := l.any (·.stale), masked := masked, replay := l.any (·.replay) }

/-- A value with flags of its own stored in a format. -/
def Sig.storeAs (x : Sig) (fm : Nat) : Sig := { x with raw := fmtSat fm (x.align (fmtF fm)), f := fmtF fm }

/-- round(K × v / 2^SH). -/
def gainOf (k v : Int) (sh : Nat) : Int := rquot (k * v) (2 ^ sh : Nat)

/-- What a block answers in a frame: its new state with outputs, and the event bits of LE_EVTi it sets, with an input index. -/
structure BlkOut where
  inst : LoopInst
  ev   : List Nat := []
  idx  : Option Nat := none

/-- The parameter words and header of one block, as in use. -/
structure BlkCfg where
  ty      : Nat
  fm0     : Nat
  fm1     : Nat
  init    : Nat
  confMin : Nat
  up      : Nat
  down    : Nat
  staleOk : Bool
  ps      : List Nat
  xs      : List Int := []
  rows    : List Int := []
  tab     : List Int := []

/-- Parameter `m`, unsigned and signed. -/
def BlkCfg.pu (c : BlkCfg) (m : Nat) : Nat := c.ps.getD m 0
def BlkCfg.p (c : BlkCfg) (m : Nat) : Int := signed 32 (c.pu m)

/-- A parameter "in y" as its format reads it. -/
def BlkCfg.py (c : BlkCfg) (m : Nat) : Int := if bit c.fm0 2 then c.p m else c.pu m

/-- An input is usable (R258). -/
def BlkCfg.usable (c : BlkCfg) (x : Sig) : Bool := x.valid && !x.masked && decide (c.confMin ≤ x.conf) && (!x.stale || c.staleOk)

/-- The inputs of a block in a frame; `none` is unconnected. -/
abbrev Ins := List (Option Sig)

def Ins.x (l : Ins) (n : Nat) : Option Sig := (l.getD n none)
def Ins.v (l : Ins) (n : Nat) : Sig := (Ins.x l n).getD {}
def Ins.first (l : Ins) (n : Nat) : List Sig := (l.take n).filterMap id

/-- A boolean control input counts 0 when it is not usable. -/
def BlkCfg.ctl (c : BlkCfg) (l : Ins) (n : Nat) : Bool :=
  match Ins.x l n with
  | some x => c.usable x && x.on
  | none => false

/-! ## Maps (R265) -/

/-- Interpolation over breakpoints `xs` and values `ys`: the value, and whether the argument lies outside. -/
def interp (xs ys : List Int) (extrap : Bool) (x : Int) : Int × Bool :=
  let n := xs.length
  let i := min (n - 2) ((xs.filter (fun a => decide (a ≤ x))).length - 1)
  let x0 := xs.getD i 0
  let y0 := ys.getD i 0
  let lo := decide (x < xs.headD 0)
  let hi := decide (xs.getD (n - 1) 0 < x)
  let y := y0 + rquot ((ys.getD (i + 1) 0 - y0) * (x - x0)) (xs.getD (i + 1) 0 - x0)
  (if extrap then y else if lo then ys.headD 0 else if hi then ys.getD (n - 1) 0 else y, lo || hi)

/-- MAP2: along the columns in rows j and j + 1, then along the rows. -/
def interp2 (xs rows tab : List Int) (extrap : Bool) (x r : Int) : Int × Bool :=
  let n := xs.length
  let line := fun j : Nat => (interp xs ((tab.drop (j * n)).take n) extrap x).1
  let (y, out) := interp rows ((List.range rows.length).map line) extrap r
  (y, out || (interp xs tab extrap x).2)

/-! ## Pointwise blocks (R257) -/

/-- The result of a pointwise block: raw values in the formats of y0 and y1, the inputs used, whether the value exists, event bits. -/
structure PointOut where
  r0   : Int
  r1   : Int := 0
  used : List Sig
  ok   : Bool := true
  ev   : List Nat := []

/-- √x0 rounded to nearest in a format with `f` fractional bits. -/
def sqrtOf (raw : Int) (xf f : Nat) : Int := ((isqrt (4 * raw.toNat * 2 ^ (2 * f) / 2 ^ xf) 50 + 1) / 2 : Nat)

def BlkCfg.point (c : BlkCfg) (l : Ins) : PointOut :=
  let f := fmtF c.fm0
  let a := (Ins.v l 0)
  let b := (Ins.v l 1)
  match c.ty with
  | 0x10 =>
    let t := fun n : Nat => match Ins.x l n with
      | some x => if bit (c.pu 0) n then -x.align f else x.align f
      | none => 0
    ⟨t 0 + t 1 + t 2 + t 3, 0, Ins.first l 4, true, []⟩
  | 0x11 => ⟨Sig.align { raw := a.raw * b.raw, f := a.f + b.f } f, 0, Ins.first l 2, true, []⟩
  | 0x12 =>
    if b.raw = 0 then ⟨if a.raw = 0 then 0 else if a.raw < 0 then fmtLo c.fm0 else fmtHi c.fm0, 0, Ins.first l 2, false, [1]⟩
    else ⟨rquot (a.raw * (2 ^ (f + b.f) : Nat)) (b.raw * (2 ^ a.f : Nat)), 0, Ins.first l 2, true, []⟩
  | 0x13 => ⟨gainOf (c.p 0) a.raw (c.pu 1) + c.py 2, 0, Ins.first l 1, true, []⟩
  | 0x14 => ⟨((a.align f).natAbs : Int), 0, Ins.first l 1, true, []⟩
  | 0x15 =>
    let vs := (Ins.first l 4).map (·.align f)
    ⟨vs.tail.foldl (fun m x => if c.pu 0 = 0 then min m x else max m x) (vs.headD 0), 0, Ins.first l 4, true, []⟩
  | 0x16 =>
    if a.raw < 0 then ⟨0, 0, Ins.first l 1, false, [1]⟩ else ⟨sqrtOf a.raw a.f f, 0, Ins.first l 1, true, []⟩
  | 0x17 => ⟨a.align f, 0, Ins.first l 1, true, []⟩
  | 0x20 =>
    let lo := match Ins.x l 1 with | some x => x.align f | none => c.py 0
    let hi := match Ins.x l 2 with | some x => x.align f | none => c.py 1
    let v := a.align f
    let y := if hi < lo then lo else min (max v lo) hi
    ⟨y, (b2n (y != v) : Nat), Ins.first l 3, true, if hi < lo then [2] else []⟩
  | 0x21 =>
    let d := a.align f - c.py 0
    let w := c.py 1
    ⟨if (d.natAbs : Int) ≤ w then 0 else if d < 0 then d + w else d - w, 0, Ins.first l 1, true, []⟩
  | 0x22 =>
    let r := interp c.xs c.tab (c.pu 2 == 1) a.raw
    ⟨r.1, (b2n r.2 : Nat), Ins.first l 1, true, []⟩
  | 0x23 =>
    let r := interp2 c.xs c.rows c.tab (c.pu 3 == 1) a.raw b.raw
    ⟨r.1, (b2n r.2 : Nat), Ins.first l 2, true, []⟩
  | 0x25 =>
    let x := a.align f
    let y := b.align f
    let r := match c.pu 0 with
      | 0 => decide (x < y) | 1 => decide (x ≤ y) | 2 => x == y | 3 => x != y | 4 => decide (y ≤ x) | _ => decide (y < x)
    ⟨(b2n r : Nat), 0, Ins.first l 2, true, []⟩
  | _ =>
    let ins := (List.range 4).filterMap fun n => (Ins.x l n).map fun x => x.on != bit (c.pu 1) n
    let r := match c.pu 0 with
      | 0 => ins.all id | 1 => ins.any id | 2 => (ins.filter id).length % 2 == 1
      | 3 => !ins.all id | 4 => !ins.any id | _ => !(ins.headD false)
    ⟨(b2n r : Nat), 0, Ins.first l 4, true, []⟩

/-! ## Stateful blocks (R258, R259, R264) -/

/-- The result of a stateful block on usable inputs: raw outputs, new state, whether a state store saturated, a lost feed-forward. -/
structure StateOut where
  r0     : Int
  r1     : Int := 0
  st     : List Int
  sat    : Bool := false
  ffLost : Bool := false

/-- A value with 16 extra fractional bits saturated to a format. -/
def sat16 (fm : Nat) (x : Int) : Int := clampI (fmtLo fm * 65536) (fmtHi fm * 65536 + 65535) x

/-- Proportional term, feed-forward and derivative term of PI and PID, and the new PV and D. -/
def BlkCfg.pidTerms (c : BlkCfg) (l : Ins) (st : List Int) (fresh : Bool) : Int × Int × Int × Int × Int × Bool :=
  let f := fmtF c.fm0
  let sp := (Ins.v l 0).raw
  let pv := (Ins.v l 1).raw
  let pid := c.ty == 0x41
  let gsh := c.pu (if pid then 3 else 2)
  let p := if pid then rquot (c.p 0 * ((c.pu 7 : Int) * sp - 32768 * pv)) (2 ^ (gsh + 15) : Nat) else gainOf (c.p 0) (sp - pv) gsh
  let d0 := st.getD 2 0
  let pv0 := if fresh then pv else st.getD 1 0
  let d := d0 + rquot ((c.pu 6 : Int) * ((pv - pv0) * 65536 - d0)) 65536
  let dt := if pid then -rquot (c.p 2 * d) (2 ^ (gsh + 16) : Nat) else 0
  let lost := match Ins.x l 2 with | some x => !c.usable x | none => false
  let ff := match Ins.x l 2 with | some x => if c.usable x then x.align f else 0 | none => 0
  (p, ff, dt, pv, if pid then d else 0, lost)

/-- Steady state n / d of a filter; a filter whose poles leave no steady state takes an open value (log entry 2). -/
def steadyOf (n d : Int) : Int := if d = 0 then Config.freeReal 11 [n] else rquot n d

/-- A stateful block whose data inputs are all usable; `first` asks for the initialisation of R259 from these inputs, `y'` is the previous output. -/
def BlkCfg.stateful (c : BlkCfg) (l : Ins) (st : List Int) (y' : Int) (first : Bool) : StateOut :=
  let f := fmtF c.fm0
  let a := (Ins.v l 0)
  let x := a.align f
  let s := fun n : Nat => st.getD n 0
  match c.ty with
  | 0x24 =>
    let lo := c.py 0
    let hi := c.py 1
    ⟨if hi ≤ x then 1 else if x ≤ lo then 0 else if first then (b2n (c.pu 2 != 0) : Nat) else y', 0, [], false, false⟩
  | 0x30 =>
    let lo := c.py 2 * 65536
    let hi := c.py 3 * 65536
    let n := s 0 + gainOf (c.p 0) a.raw (c.pu 1)
    let v := clampI lo hi n
    ⟨rquot v 65536, (b2n (v == lo || v == hi) : Nat), [v], false, false⟩
  | 0x31 =>
    let d := if first || st.isEmpty then 0 else x - s 0
    let g := s 1 + rquot ((c.pu 2 : Int) * (d - s 1)) 65536
    ⟨gainOf (c.p 0) g (c.pu 1), 0, [x, g], false, false⟩
  | 0x32 =>
    let s0 := if first then x * 65536 else s 0
    let n := s0 + rquot ((c.pu 0 : Int) * (x * 65536 - s0)) 65536
    let v := sat16 c.fm0 n
    ⟨rquot v 65536, 0, [v], v != n, false⟩
  | 0x33 =>
    let x1 := if first then x else s 0
    let v1 := if first then steadyOf ((c.p 0 + c.p 1) * x * 65536) (2 ^ 30 + c.p 2) else s 1
    let n := rquot ((c.p 0 * x + c.p 1 * x1) * 65536 - c.p 2 * v1) (2 ^ 30)
    let v := sat16 c.fm0 n
    ⟨rquot v 65536, 0, [x, v], v != n, false⟩
  | 0x34 =>
    let x1 := if first then x else s 0
    let x2 := if first then x else s 1
    let vi := steadyOf ((c.p 0 + c.p 1 + c.p 2) * x * 65536) (2 ^ 30 + c.p 3 + c.p 4)
    let v1 := if first then vi else s 2
    let v2 := if first then vi else s 3
    let n := rquot ((c.p 0 * x + c.p 1 * x1 + c.p 2 * x2) * 65536 - c.p 3 * v1 - c.p 4 * v2) (2 ^ 30)
    let v := sat16 c.fm0 n
    ⟨rquot v 65536, 0, [x, x1, v, v1], v != n, false⟩
  | 0x35 =>
    let y := if first then x else y'
    let d := clampI (-c.p 1) (c.p 0) (x - y)
    ⟨y + d, (b2n (d != x - y) : Nat), [], false, false⟩
  | 0x36 =>
    let h := (x :: (if first then [] else st)).take (max 1 (c.pu 0))
    ⟨rquot h.sum h.length, 0, h, false, false⟩
  | 0x40 | 0x41 =>
    let pid := c.ty == 0x41
    let umin := c.py (if pid then 4 else 3)
    let umax := c.py (if pid then 5 else 4)
    let (p, ff, dt, pv, d, lost) := c.pidTerms l st (st.length < 3)
    let trk := (Ins.v l 3).align f
    let y1 := clampI umin umax trk
    if c.ctl l 4 then ⟨y1, (b2n (y1 != trk) : Nat), [(y1 - p - ff - dt) * 65536, pv, d], false, lost⟩
    else
      let i := if first then (y' - p - ff - dt) * 65536 else s 0
      let u := p + rquot i 65536 + ff + dt
      let y := clampI umin umax u
      let e := (Ins.v l 0).raw - (Ins.v l 1).raw
      let di := gainOf (c.p 1) e (c.pu (if pid then 3 else 2))
      let hold := (decide (umax < u) && decide (0 < di)) || (decide (u < umin) && decide (di < 0))
      ⟨y, (b2n (y != u) : Nat), [clampI (umin * 65536) (umax * 65536) (if hold then i else i + di), pv, d], false, lost⟩
  | 0x51 =>
    let p := if first then a.on else s 0 != 0
    let r := match c.pu 0 with | 0 => a.on && !p | 1 => !a.on && p | _ => a.on != p
    ⟨(b2n r : Nat), 0, [(b2n a.on : Nat)], false, false⟩
  | 0x52 =>
    let n : Int := c.pu 1
    match c.pu 0 with
    | 0 =>
      let k := if a.on then min n (s 1 + 1) else 0
      ⟨(b2n (a.on && decide (n ≤ k)) : Nat), 0, [(b2n a.on : Nat), k], false, false⟩
    | 1 =>
      let k := if a.on then 0 else min n (s 1 + 1)
      ⟨if a.on then 1 else if n ≤ k then 0 else y', 0, [(b2n a.on : Nat), k], false, false⟩
    | _ =>
      let k := if a.on && s 0 == 0 && y' == 0 then n else max 0 (s 1 - 1)
      ⟨(b2n (decide (0 < k)) : Nat), 0, [(b2n a.on : Nat), k], false, false⟩
  | 0x53 =>
    let set := a.on
    let reset := c.ctl l 1
    let q : Int := if set && reset then (c.pu 0 : Int) else if set then 1 else if reset then 0 else s 0
    ⟨q, 0, [q], false, false⟩
  | 0x54 =>
    let lim := c.py 0
    let n := if a.on && s 0 == 0 then (if s 1 < lim then s 1 + 1 else if c.pu 1 = 1 then 0 else lim) else s 1
    ⟨n, 0, [(b2n a.on : Nat), n], false, false⟩
  | _ =>
    let apart := decide (c.py 0 < ((x - (Ins.v l 1).align f).natAbs : Int))
    let n : Int := c.pu 1
    let k := if apart == (s 0 == 1) then s 1 + 1 else 0
    let q : Int := if n ≤ k then 1 - s 0 else s 0
    ⟨q, 0, [q, if n ≤ k then 0 else k], false, false⟩

/-- Data inputs of a stateful block. -/
def dataIns (ty : Nat) : List Nat := if ty = 0x40 || ty = 0x41 || ty = 0x65 then [0, 1] else [0]

/-- Reset input of a stateful block: INTEG and COUNTER (R259; log entry 50). -/
def resetIn (ty : Nat) : Option Nat := if ty = 0x30 || ty = 0x54 then some 1 else none

/-- Track input of a stateful block. -/
def trackIn (ty : Nat) : Option Nat := if ty = 0x30 then some 2 else if ty = 0x40 || ty = 0x41 then some 3 else none

/-- Initialisation of a block (R259): INIT mode 0 ZERO, 1 FIRST, 2 TRACK. -/
def BlkCfg.initial (c : BlkCfg) (l : Ins) (t : LoopInst) : LoopInst :=
  let f := fmtF c.fm0
  let zero : Sig := { raw := 0, f := f, conf := 0, valid := false, stale := false }
  let base := { t with init := false, first := false, sc := 0, st := [], hist := [], y0 := zero, y1 := { zero with f := fmtF c.fm1 } }
  let track := c.init == 2 && ((trackIn c.ty).bind (Ins.x l)).isSome
  if c.ty = 0x53 then { base with st := [(b2n (c.pu 1 != 0) : Nat)], y0 := { zero with raw := (b2n (c.pu 1 != 0) : Nat) } }
  else if c.ty = 0x65 then { base with st := [1, 0], y0 := { zero with raw := 1 } }
  else if c.ty = 0x30 && track then
    let s := clampI (c.py 2 * 65536) (c.py 3 * 65536) ((Ins.v l 2).align f * 65536)
    { base with st := [s], y0 := { zero with raw := fmtSat c.fm0 (rquot s 65536) } }
  else if (c.ty = 0x40 || c.ty = 0x41) && track then
    let pid := c.ty == 0x41
    { base with first := true, y0 := { zero with raw := clampI (c.py (if pid then 4 else 3)) (c.py (if pid then 5 else 4)) ((Ins.v l 3).align f) } }
  else { base with first := c.init == 1 || (c.init == 2 && (trackIn c.ty).isNone) }

/-- Table 11.3 over a stateful block. -/
def BlkCfg.runState (c : BlkCfg) (l : Ins) (t : LoopInst) : BlkOut :=
  let t := if (resetIn c.ty).any (c.ctl l) then c.initial l t else t
  let ds := (dataIns c.ty).filterMap (Ins.x l)
  let held := fun sc : Nat => ({ inst := { t with sc := sc, y0 := { t.y0 with conf := sc, valid := t.y0.valid && sc != 0, stale := true }, y1 := { t.y1 with conf := sc, valid := t.y1.valid && sc != 0, stale := true } } } : BlkOut)
  if ds.all c.usable then
    let o := c.stateful l t.st t.y0.raw t.first
    let sc := min (minConf ds) (t.sc + c.up)
    let conf := if o.ffLost then 3 * sc / 4 else sc
    let sig : Sig := { raw := 0, conf := conf, valid := sc != 0, stale := ds.any (·.stale), replay := ds.any (·.replay) }
    let y0 := fmtSat c.fm0 o.r0
    let y1 := fmtSat c.fm1 o.r1
    { inst := { t with sc := sc, first := false, st := o.st, y0 := { sig with raw := y0, f := fmtF c.fm0 }, y1 := { sig with raw := y1, f := fmtF c.fm1 } },
      ev := (if o.sat || y0 != o.r0 || y1 != o.r1 then [0] else []) ++ (if o.ffLost then [8] else []) }
  else if ds.any fun x => x.stale && !c.staleOk && c.usable { x with stale := false } then held t.sc
  else held (t.sc - c.down)

/-! ## Blocks with a rule of their own -/

/-- A signal with its flags in the format of y0, and whether the store saturated. -/
def BlkCfg.pass (c : BlkCfg) (x : Sig) : Sig × List Nat :=
  let y := x.storeAs c.fm0
  (y, if y.raw = x.align (fmtF c.fm0) then [] else [0])

/-- A boolean or index output y1 with the flags of y0. -/
def BlkCfg.aux (c : BlkCfg) (y0 : Sig) (v : Nat) : Sig := { y0 with raw := fmtSat c.fm1 v, f := fmtF c.fm1 }

/-- A held value whose confidence falls by DOWN. -/
def BlkCfg.fade (c : BlkCfg) (y : Sig) : Sig :=
  { y with stale := true, conf := y.conf - c.down, valid := y.valid && decide (c.down < y.conf) }

/-- The middle of three signals, by value. -/
def mid3 (v : List (Int × Nat)) : Int × Nat :=
  ((v.filter fun a => decide ((v.filter fun b => decide (b.1 < a.1)).length ≤ 1) && decide ((v.filter fun b => decide (a.1 < b.1)).length ≤ 1)).head?).getD (0, 0)

/-- Median of three numbers. -/
def median3 (a b c : Nat) : Nat := max (min a b) (min (max a b) c)

/-- MED3 (R266). -/
def BlkCfg.med3 (c : BlkCfg) (l : Ins) (t : LoopInst) : BlkOut :=
  let f := fmtF c.fm0
  let us := (List.range 3).filterMap fun n => (Ins.x l n).bind fun x => if c.usable x then some (x, n) else none
  let sp := c.py 0
  let out := fun (v : Int) (conf : Nat) (ok : Bool) (ev : List Nat) (ix : Option Nat) =>
    let y : Sig := { raw := fmtSat c.fm0 v, f := f, conf := if ok then conf else 0, valid := ok && conf != 0, stale := us.any (·.1.stale), replay := us.any (·.1.replay) }
    ({ inst := { t with y0 := y }, ev := (if y.raw = v then [] else [0]) ++ ev, idx := ix } : BlkOut)
  match us with
  | [a, b, d] =>
    let m := mid3 [(a.1.align f, 0), (b.1.align f, 1), (d.1.align f, 2)]
    let far := us.filter fun u => decide (sp < ((u.1.align f - m.1).natAbs : Int))
    let conf := median3 a.1.conf b.1.conf d.1.conf
    match far with
    | [] => out m.1 conf true [] none
    | [u] => out m.1 conf true [6] (some u.2)
    | _ => out m.1 (conf / 2) true [6] none
  | [a, b] =>
    let x := a.1.align f
    let y := b.1.align f
    out (rquot (x + y) 2) (min a.1.conf b.1.conf / 2) (decide (((x - y).natAbs : Int) ≤ sp)) [] none
  | [a] => out (a.1.align f) (a.1.conf / 4) true [] none
  | _ => { inst := { t with y0 := { t.y0 with stale := true, valid := false, conf := 0, masked := false } } }

/-- FALLBACK (R266): state is the active index and the qualifying frames of each input. -/
def BlkCfg.fallback (c : BlkCfg) (l : Ins) (t : LoopInst) : BlkOut :=
  let q := fun n : Nat => match Ins.x l n with | some x => c.usable x && decide (c.pu 0 ≤ x.conf) | none => false
  let run := (List.range 4).map fun n => if q n then min (c.pu 1 : Int) (t.st.getD (n + 1) 0 + 1) else 0
  let a := (t.st.getD 0 0).toNat
  let better := ((List.range a).filter fun n => decide ((c.pu 1 : Int) ≤ run.getD n 0) && q n).head?
  let nx := if q a then better.getD a else (((List.range 4).filter q).head?).getD a
  let st := (nx : Int) :: run
  let sw := if nx = a then [] else [7]
  if q nx then
    let (y, ev) := c.pass (Ins.v l nx)
    { inst := { t with st := st, y0 := y, y1 := c.aux y nx }, ev := sw ++ ev, idx := if nx = a then none else some nx }
  else
    let y := { t.y0 with stale := true, valid := false, conf := 0 }
    { inst := { t with st := st, y0 := y, y1 := c.aux y 4 } }

/-- DELAY, SHOLD, SELECT, MED3, CGATE, FALLBACK, CSCALE, CONST and MODEBIT; `acting` is the bit MODEBIT reads. -/
def BlkCfg.own (c : BlkCfg) (l : Ins) (t : LoopInst) (acting : Bool) : BlkOut :=
  let f := fmtF c.fm0
  let a := Ins.v l 0
  match c.ty with
  | 0x03 => { inst := { t with y0 := { raw := fmtSat c.fm0 (c.py 0), f := f, conf := 255, valid := true, stale := false } }, ev := if fmtSat c.fm0 (c.py 0) = c.py 0 then [] else [0] }
  | 0x04 => { inst := { t with y0 := { raw := (b2n acting : Nat), f := f, conf := 255, valid := true, stale := false } } }
  | 0x37 =>
    let n := max 1 (c.pu 0)
    let h := (a :: t.hist).take n
    match t.hist[n - 1]? with
    | some x => let (y, ev) := c.pass x; { inst := { t with hist := h, y0 := y }, ev := ev }
    | none => { inst := { t with hist := h, y0 := { raw := 0, f := f, conf := 0, valid := false, stale := false } } }
  | 0x38 =>
    if c.ctl l 1 then let (y, ev) := c.pass a; { inst := { t with y0 := y }, ev := ev }
    else { inst := { t with y0 := c.fade t.y0 } }
  | 0x60 =>
    let k := a.align 0
    match (if 0 ≤ k ∧ k ≤ 6 then Ins.x l (1 + k.toNat) else none) with
    | some x =>
      let (y, ev) := c.pass x
      let conf := min a.conf x.conf
      { inst := { t with y0 := { y with conf := conf, valid := y.valid && conf != 0 } }, ev := ev }
    | none => { inst := { t with y0 := { t.y0 with valid := false, conf := 0 } }, ev := [2] }
  | 0x61 => c.med3 l t
  | 0x62 =>
    if (Ins.x l 0).any fun x => c.usable x && decide (c.pu 0 ≤ x.conf) then
      let (y, ev) := c.pass a
      { inst := { t with y0 := y, y1 := c.aux y 1, hist := [y] }, ev := ev }
    else
      let p : Sig := t.hist.headD { raw := 0, f := f, stale := false }
      match c.pu 1 with
      | 0 => let y := c.fade p; { inst := { t with y0 := y, y1 := c.aux y 0, hist := [y] } }
      | 1 => let (y, ev) := c.pass (Ins.v l 1); { inst := { t with y0 := y, y1 := c.aux y 0 }, ev := ev }
      | _ => let y := { p with valid := false, conf := 0 }; { inst := { t with y0 := y, y1 := c.aux y 0 } }
  | 0x63 => c.fallback l t
  | _ =>
    let (y, ev) := c.pass a
    let conf := if a.masked then 0 else min (c.pu 1) (a.conf * c.pu 0 / 255)
    { inst := { t with y0 := { y with conf := conf, valid := y.valid && conf != 0 } }, ev := ev }

/-- Rules of the block codes: pointwise, stateful, own. -/
def pointTypes : List Nat := [0x10, 0x11, 0x12, 0x13, 0x14, 0x15, 0x16, 0x17, 0x20, 0x21, 0x22, 0x23, 0x25, 0x50]
def stateTypes : List Nat := [0x24, 0x30, 0x31, 0x32, 0x33, 0x34, 0x35, 0x36, 0x40, 0x41, 0x51, 0x52, 0x53, 0x54, 0x65]
def ownTypes : List Nat := [0x03, 0x04, 0x37, 0x38, 0x60, 0x61, 0x62, 0x63, 0x64]

/-- One block in one frame, IN and OUT apart. -/
def BlkCfg.run (c : BlkCfg) (l : Ins) (t : LoopInst) (acting : Bool) : BlkOut :=
  let t := if t.init then c.initial l t else t
  if pointTypes.contains c.ty then
    let o := c.point l
    let r0 := fmtSat c.fm0 o.r0
    let y0 := pointFlags o.used r0 (fmtF c.fm0) o.ok
    let r1 := fmtSat c.fm1 o.r1
    { inst := { t with y0 := y0, y1 := { y0 with raw := r1, f := fmtF c.fm1 } }, ev := (if r0 = o.r0 && r1 = o.r1 then [] else [0]) ++ o.ev }
  else if stateTypes.contains c.ty then c.runState l t
  else if ownTypes.contains c.ty then c.own l t acting
  else { inst := t }

/-- Cost of a block in cycles of 1.25 ns (the Cycles column of Tables 11.5 to 11.11); `n` is the number of entries of an OUT port. -/
def blockCycles (ty n : Nat) : Nat :=
  match ty with
  | 0x01 => 16 | 0x02 => 24 + 4 * n | 0x03 => 2 | 0x04 => 4
  | 0x10 => 8 | 0x11 => 12 | 0x12 => 40 | 0x13 => 10 | 0x14 => 4 | 0x15 => 8 | 0x16 => 40 | 0x17 => 4
  | 0x20 => 8 | 0x21 => 8 | 0x22 => 40 | 0x23 => 80 | 0x24 => 8 | 0x25 => 6
  | 0x30 => 16 | 0x31 => 16 | 0x32 => 10 | 0x33 => 20 | 0x34 => 30 | 0x35 => 10 | 0x36 => 20 | 0x37 => 6 | 0x38 => 6
  | 0x40 => 28 | 0x41 => 40
  | 0x50 => 4 | 0x51 => 4 | 0x52 => 6 | 0x53 => 4 | 0x54 => 6
  | 0x60 => 8 | 0x61 => 24 | 0x62 => 8 | 0x63 => 16 | 0x64 => 4 | 0x65 => 10
  | _ => 0

/-! ## IN ports (R261) -/

/-- The value a packet gives a port. -/
def BlkCfg.extract (c : BlkCfg) (p : Packet) : Sig :=
  let fld := c.pu 1
  let ty := fld / 4096 % 16
  let n := ty % 4 + 1
  let v := bytesAt p.data (fld % 4096) n
  let raw : Int := if bit ty 2 then signed (8 * n) v else v
  let conf := if c.pu 2 = 0xFFFF then p.conf else min p.conf (bytesAt p.data (c.pu 2) 1)
  let bad := (bytesAt p.data (c.pu 6 % 65536) 1) &&& (c.pu 6 / 65536 % 256)
  { raw := raw, f := fld / 65536 % 32, conf := conf, valid := p.valid && bad == 0, stale := p.stale, masked := p.masked, replay := p.replay }

/-- Step 4 of a frame for an IN port, at elapsed time `now`. -/
def BlkCfg.latch (c : BlkCfg) (now : Nat) (t : LoopInst) : BlkOut :=
  let t := if t.init then { t with init := false, age := 0, seen := false, y0 := { raw := 0, f := fmtF c.fm0, stale := false }, y1 := {} } else t
  let f := fmtF c.fm0
  let mode := c.pu 3
  let all := t.slot.map fun p => ((c.extract p).storeAs c.fm0, (c.extract p).align f)
  let ok := all.filter (·.1.valid)
  let fin := fun (y : Sig) (ev : List Nat) =>
    ({ inst := { t with slot := [], age := 0, seen := true, y0 := y, y1 := c.aux { y with conf := 255, valid := true, stale := false, masked := false, replay := false } 1 }, ev := ev } : BlkOut)
  let merge := fun (v : Int) =>
    let y : Sig := { raw := fmtSat c.fm0 v, f := f, conf := minConf (ok.map (·.1)), valid := true, stale := ok.any (·.1.stale), masked := ok.any (·.1.masked), replay := ok.any (·.1.replay) }
    fin y (if y.raw = v then [] else [0])
  let idle : BlkOut :=
    let age := t.age + 1
    let aged := decide (c.pu 4 ≤ age)
    let late := mode == 3 && decide (t.takenAt + 30 * ms ≤ now)
    let y := if !t.seen then t.y0
      else if mode = 3 then (if late then { t.y0 with raw := 0, valid := true, stale := true, conf := 255 } else { t.y0 with stale := true })
      else { t.y0 with stale := true, valid := t.y0.valid && !aged, conf := if aged then 0 else t.y0.conf }
    { inst := { t with slot := [], age := age, y0 := y, y1 := c.aux { raw := 0, conf := 255, valid := true, stale := false } 0 },
      ev := if t.seen && mode != 3 && age = c.pu 4 then [5] else [] }
  if mode = 1 then (if ok.isEmpty then idle else merge (rquot ((ok.map (·.2)).sum) ok.length))
  else if mode = 2 then (if ok.isEmpty then idle else merge ((ok.map (·.2)).sum))
  else match all.getLast?, t.slot.getLast? with
    | some (y, v), some p =>
      let beyond := if all.length = 1 then [] else List.replicate (all.length - 1) 4
      if mode = 3 then fin { y with raw := (bytesAt p.data 0 1 % 2 : Nat), f := f } []
      else fin y ((if y.raw = v then [] else [0]) ++ beyond)
    | _, _ => idle

/-- A packet of the port's stream arrives: the new state, and whether it is out of sequence. A packet with ERROR set is counted and ignored. -/
def BlkCfg.arrive (c : BlkCfg) (p : Packet) (now : Nat) (t : LoopInst) : LoopInst × Bool :=
  let seqErr := !p.resync && t.lastSeq.any fun n => p.seq != (n + 1) % 256
  let pass := if p.resync then c.pu 5 else t.pass
  let t := { t with lastSeq := some p.seq, pass := pass - 1 }
  (if pass = 0 then { t with slot := t.slot ++ [p], takenAt := now } else t, seqErr)

end Sys2Proof.Machine
end

