-- ==== Sys2Proof/Machine/Channel.lean ====
section
/-! DEFINITION. One field channel: groups, protection, what drives an output, its switches, and the period of a modulated drive (chapters 6 and 7). -/

namespace Sys2Proof.Machine

open Sys2Proof

/-! ## Groups and functions -/

/-- First register address of a channel, and of a cell's channels and registers. -/
def chBase (ch : Nat) : Nat := 0x41000000 + 0x10000 * (ch / 8) + 0x100 * (ch % 8)
def cellBase (c : Nat) : Nat := 0x41000000 + 0x10000 * c

/-- Function code of a channel (Table 6.2). -/
def Block.fn (b : Block) (ch : Nat) : Nat := b.get (R.FC_CH_FUNC_FUNC ch)

/-- Output functions (R138), commanded functions (Table 6.2) and modulated functions (chapter 7). -/
def isOutput (f : Nat) : Bool := f == 1 || f == 2 || f == 3 || f == 4 || f == 6 || f == 9
def isCommanded (f : Nat) : Bool := f == 2 || f == 3 || f == 4 || f == 6 || f == 9
def isModulated (f : Nat) : Bool := f == 2 || f == 3 || f == 4

/-- Members of the group a channel belongs to, in ascending order (R139). -/
def Block.members (b : Block) (ch : Nat) : List Nat :=
  if b.fn ch = 4 then [ch / 2 * 2, ch / 2 * 2 + 1]
  else match b.get (R.FC_CH_FUNC_BOND ch) with
    | 1 => [ch / 2 * 2, ch / 2 * 2 + 1]
    | 2 => [ch / 4 * 4, ch / 4 * 4 + 1, ch / 4 * 4 + 2, ch / 4 * 4 + 3]
    | _ => [ch]

/-- The lead of a channel's group. -/
def Block.lead (b : Block) (ch : Nat) : Nat := (b.members ch).headD ch

/-- Members that share the current of a group: a bridge counts as one (R154, R176). -/
def Block.shares (b : Block) (ch : Nat) : Nat := if b.fn ch = 4 then 1 else (b.members ch).length

/-- The grouping of a cell's channels obeys R139. -/
def Block.groupOk (b : Block) (c : Nat) : Bool :=
  (List.range 8).all fun u =>
    let ch := 8 * c + u
    let f := b.fn ch
    let bond := b.get (R.FC_CH_FUNC_BOND ch)
    f < 10 && bond < 3 && (bond == 0 || f == 1 || f == 2) &&
    (b.members ch).all (fun m => b.fn m == f && b.get (R.FC_CH_FUNC_BOND m) == bond)

/-- Stud that feeds a cell (Table 6.3). -/
def studOf (c : Nat) : Nat := c / 3

/-- Soft threshold in force in 50 mA: derated (R565), or 0.60 A for a digital output (R208). -/
def Block.softThr (b : Block) (ch : Nat) : Nat :=
  if b.fn ch = 6 then 12
  else max 10 (b.use (R.FC_CH_PROT_SOFT_THR (b.lead ch)) * (b.ch ch).core.derSoft / 256)

/-- Soft action in force: OFF for a digital output (R208). -/
def Block.softAct (b : Block) (ch : Nat) : Nat :=
  if b.fn ch = 6 then 2 else b.use (R.FC_CH_PROT_SOFT_ACT (b.lead ch))

/-- Duty-limit fraction in force (R565). -/
def Block.fracEff (b : Block) (ch : Nat) : Nat :=
  b.use (R.FC_CH_DUTY_FRAC ch) * (b.ch ch).core.derFrac ^ 2 / 65536

/-! ## Boundaries and the cut-off of 20 ns (R171, Table 3.8) -/

/-- A class S field of a modulated channel is about to be written: what it held is kept for a boundary that falls within the next 20 ns (R171). -/
def Block.noteWrite (b : Block) (ch : Nat) (f : Fld) : Block :=
  b.when (isModulated (b.fn ch)) fun b => b.modDrv ch fun d => { d with writes := d.writes ++ [(b.now, f.key, b.get f)] }

/-- The boundary of a channel: its S fields come into use (Table 3.8), but for a write of the last 20 ns (R171). -/
def Block.chBoundary (b : Block) (ch : Nat) : Block :=
  let late := (b.ch ch).drv.writes.filter fun e => b.now < e.1 + 20
  let b := (b.boundary (chBase ch) (chBase ch + 0x100)).modCore ch fun k => { k with derSoft := b.get (R.HLT_CHc_DERATE ch) }
  if (b.ch ch).drv.writes.isEmpty then b
  else { (b.modDrv ch fun d => { d with writes := [] }) with inuse := late.reverse.foldl (fun m e => m.put e.2.1 e.2.2) b.inuse }

/-! ## What drives an output -/

/-- The cell of a channel is running. -/
def Block.runs (b : Block) (c : Nat) : Bool := (b.cell c).run == .running

/-- A cell is in reset, reloading or held off (R167, R73). -/
def Block.cellDown (b : Block) (c : Nat) : Bool := (b.cell c).run == .inReset || (b.cell c).run == .heldOff

/-- The current-limit, hard-short or pair latch of a channel is set. -/
def Block.latched (b : Block) (ch : Nat) : Bool :=
  b.flag (R.FC_CH_STATUS_LIM_LATCH ch) || b.flag (R.FC_CH_STATUS_HARD_LATCH ch) || b.flag (R.FC_CH_STATUS_PAIR_LATCH ch)

/-- Off for the whole module: any power state but RUN, a shutdown under way, or the commit point passed (R110, R113, R120). -/
def Block.allOff (b : Block) : Bool := b.get R.PWR_STATE_STATE != 3 || b.pwr.ceased || b.flag R.PWR_STATUS_COMMITTED

/-- The stud of a cell, or every supply, is reversed (R164). -/
def Block.reversed (b : Block) (c : Nat) : Bool := (b.scopes.getD (studOf c) {}).reversed || (b.scopes.getD 8 {}).reversed

/-- A member of the group holds it off by a protection path (R139). -/
def Block.tripped (b : Block) (ch : Nat) : Bool :=
  (b.members ch).any fun m => b.latched m || b.flag (R.FC_CH_STATUS_HOT m)

/-- A member of the group is shed (R139, R153). -/
def Block.groupShed (b : Block) (ch : Nat) : Bool := (b.members ch).any fun m => b.flag (R.FC_CH_STATUS_SHED m)

/-- Soft action 1 holds the group off (R148). -/
def Block.softOff (b : Block) (ch : Nat) : Bool := (b.members ch).any fun m => (b.ch m).core.softEnd.isSome

/-- A commanded group is off whatever its command (Table 6.8). -/
def Block.blocked (b : Block) (ch : Nat) : Bool :=
  b.allOff || b.tripped ch || b.groupShed ch || b.softOff ch || b.flag (R.FC_CH_STATUS_STUD_UV ch) ||
  b.cellDown (ch / 8) || (b.ch (b.lead ch)).core.awaitCmd

/-- A fail or hold value as a drive: coded as SAFE (Table 6.11). Function 0x9 with 2 holds what the last command set. -/
def Block.codedDrive (b : Block) (g : Nat) (v : Int) : Drive :=
  match b.fn g with
  | 4 => if v = 1 then .brake else .coast
  | 9 => if v = 2 then (b.ch g).core.last else .set (if v = 1 then 1 else 0)
  | 2 => .set (clampI 0 (4000 * b.shares g) v)
  | _ => .set (if v = 1 then 1 else 0)

/-- What gives the lead of a group its value now: the replay hold value, the fail action, or the last accepted command (R157, R158). -/
def Block.forceNow (b : Block) (g : Nat) : Force :=
  if b.flag (R.FC_CH_STATUS_HOLD g) then .hold else if b.flag (R.FC_CH_STATUS_FAIL_ACT g) then .safe else .cmd (b.ch g).core.last

/-- The drive that a force names. -/
def Block.driveOf (b : Block) (g : Nat) : Force → Drive
  | .cmd d => d
  | .safe => b.codedDrive g (signed 16 (b.use (R.FC_CH_SAFE_SAFE g)))
  | .hold => b.codedDrive g (signed 16 (b.use (R.FC_CH_HOLD_VALUE g)))

/-- The command in force at the lead of a group. -/
def Block.inForce (b : Block) (g : Nat) : Drive := b.driveOf g (b.forceNow g)

/-- What is in force at the lead of a modulated group is committed to its shadow (R171). -/
def Block.commitForce (b : Block) (g : Nat) : Block :=
  let d := (b.ch g).drv
  let f := b.forceNow g
  if !isModulated (b.fn g) || (d.commits.getLast?.map (·.2)).getD d.eff == f then b
  else b.modDrv g fun d => { d with commits := d.commits ++ [(b.now, f)] }

/-- The boundary at `t` takes what was committed at least 20 ns before it; the rest waits for the next one (R171). -/
def ChanDrive.take (d : ChanDrive) (t : Nat) : ChanDrive :=
  let (l, late) := d.commits.partition fun e => decide (e.1 + 20 ≤ t)
  { d with eff := (l.getLast?.map (·.2)).getD d.eff, commits := late }

/-- A drive that asks for on. -/
def Drive.isOn : Drive → Bool
  | .set v => v != 0
  | _ => false

/-! ## Switching -/

/-- An operation that happened at an earlier instant, which the clock has passed. -/
def Block.atTime (b : Block) (t : Nat) (f : Block → Block) : Block := { f { b with now := min t b.now } with now := b.now }

/-- The energy of a clamped turn-off of a load switch is held at the lead of its group; above 15 mJ it is reported (R199). -/
def Block.clampHeld (b : Block) (ch mj : Nat) : Block :=
  let b := b.set (R.FC_CH_LS_STATUS_CLAMP_MJ ch) (min 255 mj)
  b.when (decide (15 < mj)) fun b => (b.inc (R.FC_CH_CNT_LS_CLAMP_OVER ch)).raise (chOrigin ch) (R.FC_CH_LS_STATUS_CLAMP_EV ch)

/-- A load switch has turned off: whether its clamp engaged, and with what energy, is what the running command names, or else a free value (R197, R199). -/
def Block.clampMeasured (b : Block) (ch : Nat) : Block :=
  if b.fn ch ≠ 1 || b.lead ch ≠ ch || b.cellDown (ch / 8) then b
  else match (b.ch ch).net.clamp with
    | some none => b
    | some (some mj) => b.clampHeld ch mj
    | none => if b.freshW 0 1 = 0 then b.spend else (b.clampHeld ch (b.freshW 1 16)).spend

/-- An operation of a command that names the energy of the clamped turn-off it brings. -/
def Block.withClamp (b : Block) (ch : Nat) (clamp : Option Nat) (f : Block → Block) : Block :=
  (f (b.modNet ch fun n => { n with clamp := some clamp })).modNet ch fun n => { n with clamp := none }

/-- A high-side switch turns on: blanking starts, and a load switch or sensor supply that was off for 100 ms opens its Geyser window (R145, R147). -/
def Block.turnOn (b : Block) (ch : Nat) : Block :=
  let g := b.lead ch
  let c := (b.ch ch).core
  let win := b.use (R.FC_CH_GEYSER_WIN g)
  let open_ := (b.fn ch == 1 || b.fn ch == 9) && win != 0 && decide (c.offSince + 100 * ms ≤ b.now)
  let b := b.modCore ch fun k => { k with
    onSince := some b.now
    blankEnd := if b.use (R.FC_CH_PROT_BLANK_US g) = 0 then none else some (b.now + b.use (R.FC_CH_PROT_BLANK_US g) * us)
    geyserEnd := if open_ then some (b.now + win * 10 * us) else none
    softEnd := none, clamped := false }
  let b := (b.set (R.FC_CH_STATUS_ON ch) 1).setB (R.FC_CH_STATUS_GEYSER ch) open_
  b.when (b.fn ch == 1) fun b => b.inc (R.FC_CH_LS_ONCNT_TURN_ON ch)

/-- A high-side switch turns off. -/
def Block.turnOff (b : Block) (ch : Nat) : Block :=
  let b := b.modCore ch fun k => { k with onSince := none, offSince := b.now, blankEnd := none, geyserEnd := none, limStart := none, softRun := if k.softEnd.isSome || k.softSeen then k.softRun else 0 }
  (((b.set (R.FC_CH_STATUS_ON ch) 0).set (R.FC_CH_STATUS_GEYSER ch) 0).set (R.FC_CH_STATUS_IN_LIMIT ch) 0).clampMeasured ch

/-- A high-side switch brought to a state. -/
def Block.switch (b : Block) (ch : Nat) (on : Bool) : Block :=
  if b.flag (R.FC_CH_STATUS_ON ch) = on then b else if on then b.turnOn ch else b.turnOff ch

/-- The low-side switch brought to a state. -/
def Block.setLow (b : Block) (ch : Nat) (l : LowSide) : Block := if (b.ch ch).core.low = l then b else b.modCore ch fun k => { k with low := l }

/-- Both switches of a channel off (R138). -/
def Block.bothOff (b : Block) (ch : Nat) : Block := (b.switch ch false).setLow ch .off

/-- Every member of a group brought to a state, its low-side switch off. -/
def Block.switchGroup (b : Block) (g : Nat) (on : Bool) : Block := b.eachOf (b.members g) fun m b => (b.switch m on).setLow m .off

/-- A modulated group off: both switches of every member, but past the commit point a bridge free-wheels through its low-side switches (R120, R159). -/
def Block.driveOff (b : Block) (g : Nat) : Block :=
  let low : LowSide := if b.fn g = 4 && b.get R.PWR_STATE_STATE = 3 && b.flag R.PWR_STATUS_COMMITTED then .on else .off
  (b.eachOf (b.members g) fun m b => (b.switch m false).setLow m low).modDrv g fun d => { d with turnAt := none }

/-! ## Echo batches (R172) -/

/-- The running echo batch is sent with the periods it holds. -/
def Block.flushBatch (b : Block) (g : Nat) : Block :=
  let d := (b.ch g).drv
  if d.batch.isEmpty then b
  else (b.sample (chOrigin g) 1 d.batch 255 true (some d.batchAt)).modDrv g fun d => { d with batch := [] }

/-! ## The carrier (R169, R170) -/

/-- On-time of a duty in 1/32,767: halves rounded up. -/
def onTimeOf (u period : Nat) : Nat := (2 * u * period + 32767) / 65534

/-- The period emitted for a requested on-time: on-time, on-carry, off-carry, and whether a pulse or an off-time was suppressed (R170). -/
def emitPeriod (t period tmin : Nat) (carry : Bool) (cOn cOff : Nat) : Nat × Nat × Nat × Bool × Bool :=
  let cOn := if carry then cOn else 0
  let cOff := if carry then cOff else 0
  let keep := fun n : Nat => if carry then n else 0
  if t = 0 then (0, 0, 0, false, false)
  else if t = period then (period, 0, 0, false, false)
  else
    let t' := min (t + cOn) period
    if t' < tmin then (0, keep t', 0, true, false)
    else
      let o := period - t' + cOff
      if o < tmin then (period, 0, keep o, false, true)
      else if tmin ≤ period - o then (period - o, 0, 0, false, false)
      else (t', 0, 0, false, false)

/-- Shortest pulse of a channel in cell clocks. -/
def Block.tMin (b : Block) (ch : Nat) : Nat := max 20 (2 * b.use (R.FC_CH_PWM_DEAD ch))

/-- Length of a channel's period in ns. -/
def Block.periodNs (b : Block) (ch : Nat) : Nat := b.use (R.FC_CH_PWM_PERIOD ch) * 10

/-! ## The solenoid loop (R173 to R175) -/

/-- One period of the loop: duty, new integrator, and whether the clamp acted. -/
def piStep (kp ki : Nat) (x s m : Int) (prevCut : Bool) : Nat × Int × Bool :=
  if s = 0 then (0, 0, false)
  else
    let e := s - m
    let uraw := (kp * e) / 256 + x / 4096
    let u := clampI 0 32767 uraw
    let frozen := (decide (32767 < uraw) && decide (0 < e)) || (decide (uraw < 0) && decide (e < 0)) || prevCut
    (u.toNat, if frozen then x else clampI 0 134213632 (x + ki * e), uraw != u)

/-- Dither half-length in periods. -/
def Block.ditherH (b : Block) (ch : Nat) : Nat :=
  max 1 (roundDiv 100000000 (2 * b.use (R.FC_CH_PWM_PERIOD ch) * b.use (R.FC_CH_DITHER_FREQ_HZ ch))).toNat

/-- The place of the running period in the dither cycle: it counts PSEQ modulo the cycle's length (R175). -/
def ChanDrive.ditherJ (d : ChanDrive) : Nat := (d.dither + (d.pseq + 65536 - d.dithBase) % 65536) % max 1 d.dithLen

/-- The dither cycle takes a length: a change keeps the place, reduced modulo the new length (R175). -/
def ChanDrive.ditherOver (d : ChanDrive) (n : Nat) : ChanDrive :=
  if d.dithLen = n then d
  else if d.dithLen = 0 then { d with dithLen := n }
  else { d with dither := d.ditherJ % max 1 n, dithBase := d.pseq, dithLen := n }

/-- Dither term AMP × w[k], halves rounded up. -/
def Block.ditherTerm (b : Block) (ch j h : Nat) : Int :=
  let a : Int := b.use (R.FC_CH_DITHER_AMP_MA ch)
  if b.use (R.FC_CH_DITHER_SHAPE ch) = 0 then (if j < h then a else -a)
  else if j ≤ h then roundDiv (a * (2 * (j : Int) - h)) h
  else roundDiv (a * (3 * (h : Int) - 2 * j)) h

/-- Current cap of one member in mA: 4,000 × √(FRAC_EFF / 256), rounded down. -/
def Block.iCap (b : Block) (ch m : Nat) : Nat := isqrt (62500 * b.fracEff ch * m * m) 16

/-- Duty cap of a bridge after a period (R177): 1/16 of full scale is 2,048 and 1/64 is 512 (log entry 24). -/
def Block.bridgeCap (b : Block) (g : Nat) (mean : Int) : Nat :=
  let c := (b.ch g).drv.cap
  if !b.flag (R.FC_CH_DRV_STATUS_DUTY_CAP g) then 32767
  else if b.iCap g 1 < mean.natAbs then c - 2048 else min 32767 (c + 512)

/-- The phase that regulates a valve: while a release waits for its boundary, the one it ended. -/
def Block.phaseOf (b : Block) (g : Nat) : Nat := match (b.ch g).drv.releasing with | some e => e.2 | none => b.get (R.FC_CH_DRV_STATUS_PHASE g)

/-- The target S[k] of the period that starts now, in mA; 0 for a bridge (R175, R177, R178). -/
def Block.target (b : Block) (g : Nat) : Int :=
  let d := (b.ch g).drv
  let m := b.shares g
  match b.fn g with
  | 2 =>
    let v := match b.driveOf g d.eff with | .set v => v | _ => 0
    let s := if v = 0 then 0 else clampI 0 (4000 * m) (v + b.ditherTerm g d.ditherJ (b.ditherH g))
    if b.flag (R.FC_CH_DRV_STATUS_DUTY_CAP g) then min s (b.iCap g m) else s
  | 3 =>
    let pk := b.use (R.FC_CH_VALVE_PEAK g) * 50
    if b.phaseOf g = 3 then min pk (b.use (R.FC_CH_VALVE_HOLD g) * 50) else pk
  | _ => 0

/-- Duty, new integrator, CAPPED and SAT of the period that starts now. -/
def Block.dutyNext (b : Block) (g : Nat) (mean : Int) (prevCut : Bool) : Nat × Int × Bool × Bool :=
  let d := (b.ch g).drv
  let capOn := b.flag (R.FC_CH_DRV_STATUS_DUTY_CAP g)
  if b.fn g = 4 then
    let v := match b.driveOf g d.eff with | .set v => v.natAbs | _ => 0
    (if capOn then min v d.cap else v, 0, capOn, false)
  else
    let (u, x, sat) := piStep (b.use (R.FC_CH_LOOP_KP g)) (b.use (R.FC_CH_LOOP_KI g)) d.integ (b.target g) mean prevCut
    (u, x, capOn, sat)

/-! ## The switches of a period (Table 7.3) -/

/-- What the low-side switch of the leg that is high for `t` of `period` clocks does. -/
def lowOf (t period : Nat) : LowSide := if t = 0 then .on else if t = period then .off else .offTime

/-- A bridge's leg turns high at the start of a period. -/
def Block.legHigh (b : Block) (leg t period : Nat) (wasFull : Bool) : Block :=
  (if t = 0 then b.switch leg false else if wasFull then b.switch leg true else b.turnOn leg).setLow leg (lowOf t period)

/-- The pair of a bridge at the start of a period: Table 7.3; at a change of sign both low-side switches conduct for DEAD before the other leg turns high (R184). -/
def Block.bridgePeriod (b : Block) (g t period : Nat) (wasFull : Bool) : Block :=
  let old := (b.ch g).drv.dir
  match b.driveOf g (b.ch g).drv.eff with
  | .none | .coast => ((b.bothOff g).bothOff (g + 1)).modDrv g fun d => { d with dir := 0 }
  | .brake => (((b.switch g false).setLow g .on).switch (g + 1) false |>.setLow (g + 1) .on).modDrv g fun d => { d with dir := 0 }
  | .set v =>
    let hi := if 0 < v then g else g + 1
    let lo := if 0 < v then g + 1 else g
    let b := (b.modDrv g fun d => { d with dir := v.sign }).switch lo false |>.setLow lo .on
    if v = 0 || t = 0 then (b.switch hi false).setLow hi .on
    else if old * v < 0 then ((b.switch hi false).setLow hi .on).modDrv g fun d => { d with turnAt := some (b.now + b.use (R.FC_CH_PWM_DEAD g) * 10) }
    else b.legHigh hi t period wasFull

/-- DEAD has passed after a change of sign: the other leg turns high (R184). -/
def Block.legTurn (b : Block) (g : Nat) : Block :=
  match (b.ch g).drv.turnAt with
  | none => b
  | some t =>
    let d := (b.ch g).drv
    let b := b.modDrv g fun d => { d with turnAt := none }
    b.atTime t fun b => b.legHigh (if 0 < d.dir then g else g + 1) d.onTime (b.use (R.FC_CH_PWM_PERIOD g)) false

/-! ## Period boundaries (R171, R172) -/

/-- A member of the group had its period cut by the limiter or soft action 1 (R172, R174). -/
def Block.wasCut (b : Block) (g : Nat) : Bool := (b.members g).any fun m => (b.ch m).core.cut

/-- The ended period is echoed, in its registers and in the running batch (Table 7.1). -/
def Block.echo (b : Block) (g : Nat) (mean : Int) : Block :=
  let d := (b.ch g).drv
  let cut := b.wasCut g
  let flags := b2n d.supOn + 2 * b2n d.supOff + 4 * b2n d.capped + 8 * b2n d.sat + 16 * b2n cut
  let b := ((b.set (R.FC_CH_ECHO_ON_TIME g) d.onTime).setB (R.FC_CH_ECHO_SUP_ON g) d.supOn).setB (R.FC_CH_ECHO_SUP_OFF g) d.supOff
  let b := ((b.setB (R.FC_CH_ECHO_CAPPED g) d.capped).setB (R.FC_CH_ECHO_SAT g) d.sat).setB (R.FC_CH_ECHO_CUT g) cut
  let b := (b.set (R.FC_CH_ECHO_STALE g) 0).modDrv g fun d => { d with echoSeq := d.pseq, echoI := mean }
  if !b.runs (g / 8) then b
  else
    let start := stampOf (b.sys.mtime - (b.now - d.start))
    let b := b.modDrv g fun d => { d with
      batchAt := if d.batch.isEmpty then start else d.batchAt
      batch := d.batch ++ le 2 d.pseq ++ le 3 d.onTime ++ [flags] ++ le 2 (lowBits 16 (satS 16 mean)) }
    b.when (decide (8 * 2 ^ b.use (R.FC_CH_PWM_ECHO_BATCH g) ≤ (b.ch g).drv.batch.length)) fun b => b.flushBatch g

/-- The boundary that opens a period: committed values come into use, PSEQ and the dither count rise. -/
def Block.openPeriod (b : Block) (g : Nat) (mean : Int) : Block :=
  let b := b.eachOf (b.members g) fun m b => (b.chBoundary m).modCore m fun k => { k with cut := false, softRun := if k.softSeen then k.softRun else 0, softSeen := false }
  b.modDrv g fun d =>
    { ({ d.take b.now with pseq := (d.pseq + 1) % 65536 }.ditherOver (2 * b.ditherH g)) with start := b.now, meanPrev := mean, cap := b.bridgeCap g mean, turnAt := none }

/-- A new period begins: its on-time, and the switches of its first instant. While a path holds the channel off, its integrator keeps its value unless the target is 0 (DESIGN CHOICE, log entry 145). -/
def Block.beginPeriod (b : Block) (g : Nat) (mean : Int) : Block :=
  let prevCut := b.wasCut g
  let wasFull := (b.ch g).drv.onTime == b.use (R.FC_CH_PWM_PERIOD g)
  let b := b.openPeriod g mean
  let period := b.use (R.FC_CH_PWM_PERIOD g)
  let off := b.blocked g || (b.fn g == 3 && (b.phaseOf g < 2))
  let (u, x, capped, sat) := b.dutyNext g mean prevCut
  let (t, cOn, cOff, supOn, supOff) :=
    emitPeriod (if off then 0 else onTimeOf u period) period (b.tMin g) (b.use (R.FC_CH_PWM_CARRY_EN g) == 1) (b.ch g).drv.cOn (b.ch g).drv.cOff
  let kept := if b.target g = 0 then 0 else (b.ch g).drv.integ
  let b := b.modDrv g fun d => { d with onTime := t, integ := if off then kept else x, capped := capped, sat := sat && !off, cOn := cOn, cOff := cOff, supOn := supOn, supOff := supOff }
  let b := b.when (supOn || supOff) fun b => (b.set (R.FC_CH_DRV_STATUS_SHORT_EV g) 1).inc (R.FC_CH_CNT_DRV_SHORT g)
  if off then b.driveOff g
  else if b.fn g = 4 then b.bridgePeriod g t period wasFull
  else b.eachOf (b.members g) fun m b => (if t != 0 && !wasFull then b.turnOn m else b.switch m (t != 0)).setLow m (lowOf t period)

/-- The rest of the running period is its off-time: soft action 1 of a modulated function (R148). -/
def Block.restOff (b : Block) (g : Nat) : Block :=
  if b.fn g = 4 && (b.ch g).drv.dir = 0 then b
  else (b.eachOf (b.members g) fun m b => (b.switch m false).setLow m .on).modDrv g fun d => { d with turnAt := none }

/-- The high-side switch of a channel conducts at this instant: within the on-time of its period for a modulated drive. -/
def Block.conducts (b : Block) (ch : Nat) : Bool :=
  let d := (b.ch (b.lead ch)).drv
  b.flag (R.FC_CH_STATUS_ON ch) &&
    (!isModulated (b.fn ch) || b.reversed (ch / 8) || (b.fn ch == 3 && b.get (R.FC_CH_DRV_STATUS_PHASE ch) == 1) || d.onTime == b.use (R.FC_CH_PWM_PERIOD (b.lead ch)) || decide (b.now < d.start + 10 * d.onTime))

end Sys2Proof.Machine
end

