-- ==== Sys2Proof/Machine/Field.lean ====
section
/-! DEFINITION. Operations shared by the field channels (chapters 6 to 9): valves, the output rule, latches, nets, and the start, stop and reset of a cell. -/

namespace Sys2Proof.Machine

open Sys2Proof

/-! ## On/off valves (R178 to R182) -/

/-- A valve result completes. The highest current of an actuation that ends before HOLD includes the running period, whose samples no command brings: a free value, not below the highest known (log entry 146). -/
def Block.valveResult (b : Block) (ch close : Nat) : Block :=
  let d := (b.ch ch).drv
  let k := b.use (R.FC_CH_KINK_KINK ch)
  let (b, peak) := if close = 0xFFFE then (b.spend, max d.peakMax (signed 16 (b.freshW 0 16))) else (b, d.peakMax)
  let b := ((b.set (R.FC_CH_VALVE_RES_CLOSE ch) close).set (R.FC_CH_VALVE_RES_ACT_SEQ ch) d.actSeq).set (R.FC_CH_VALVE_RES_STALE ch) 0
  let b := ((b.setB (R.FC_CH_VALVE_RES_NO_BOOST ch) d.noBoost).setB (R.FC_CH_VALVE_RES_DEFERRED ch) d.deferred).setB (R.FC_CH_VALVE_RES_WAITED ch) d.waited
  let b := b.when (close == 0xFFFF && k != 0) fun b => (b.set (R.FC_CH_DRV_STATUS_NOKINK_EV ch) 1).inc (R.FC_CH_CNT_DRV_NOKINK ch)
  let start := (d.actStart.getD b.now)
  b.sample (chOrigin ch) 2
    (le 2 close ++ [d.actSeq % 256, b2n d.noBoost + 2 * b2n d.waited + 4 * b2n d.deferred] ++ le 2 (lowBits 16 (satS 16 peak)) ++ [0, 0])
    255 true (some (stampOf (b.sys.mtime - (b.now - start))))

/-- An actuation starts: in BOOST from the reservoir, or with the first period of PEAK without it. -/
def Block.valveStart (b : Block) (ch : Nat) (boost waited : Bool) : Block :=
  let b := b.modDrv ch fun d => { d with
    actStart := some b.now, peakMax := 0, noBoost := !boost, waited := waited, volts := [], kinkAt := none, waitEnd := none
    actSeq := (d.actSeq + 1) % 256, deferred := d.defer, defer := false, releasing := none, decaying := false, integ := 0, onTime := 0
    phaseEnd := if boost then some (b.now + b.use (R.FC_CH_VALVE_BOOST_MAX ch) * 50 * us)
                else some (b.now + b.use (R.FC_CH_VALVE_PEAK_MS ch) * ms) }
  let b := b.modCell (ch / 8) fun c => { c with queue := c.queue.filter (· != ch), boost := if boost then some ch else c.boost }
  let b := (b.set (R.FC_CH_DRV_STATUS_PHASE ch) (if boost then 1 else 2)).set (R.FC_CH_DRV_STATUS_QUEUED ch) 0
  let b := (b.set (R.FC_CH_VALVE_RES_STALE ch) 1).modCore ch fun k => { k with low := .off, clamped := false }
  if boost then b.switch ch true else b.beginPeriod ch 0

/-- Actuations in the order in which their commands were accepted, those of one instant in ascending unit order (R179). -/
def Block.queueIn (b : Block) (l : List Nat) (ch : Nat) : List Nat :=
  let later := fun (x : Nat) => (b.ch x).drv.askAt == b.now && decide (ch < x)
  l.filter (fun x => !later x) ++ [ch] ++ l.filter later

/-- An actuation is asked for: deferred under DUTY_CAP, else queued; it starts as soon as the commands of the same instant are accepted (R177, R179). -/
def Block.valveAsk (b : Block) (ch : Nat) : Block :=
  if b.flag (R.FC_CH_DRV_STATUS_DUTY_CAP ch) then b.modDrv ch fun d => { d with defer := true }
  else
    let b := b.modDrv ch fun d => { d with askAt := b.now, waitEnd := some (b.now + b.use (R.FC_CH_KINK_BOOST_WAIT ch) * 100 * us) }
    (b.modCell (ch / 8) fun c => { c with queue := b.queueIn c.queue ch }).set (R.FC_CH_DRV_STATUS_QUEUED ch) 1

/-- A queued valve starts now, or where nothing has kept it waiting at the instant of its command. -/
def Block.queueStart (b : Block) (ch : Nat) (boost atOnce : Bool) : Block :=
  if atOnce then b.atTime (b.ch ch).drv.askAt fun b => b.valveStart ch boost false else b.valveStart ch boost false

/-- The queue of a cell is served: its first valve starts BOOST where the reservoir is free and ready, and one whose BOOST_WAIT is 0 never waits (R179). -/
def Block.serveValves (b : Block) (c : Nat) (atOnce : Bool) : Block :=
  let b := match (b.cell c).boost, (b.cell c).queue with
    | none, ch :: _ => if b.flag (R.FC_CELL_STATUS_BOOST_READY c) then b.queueStart ch true atOnce else b
    | _, _ => b
  b.eachOf ((b.cell c).queue.filter fun ch => (b.ch ch).drv.waitEnd == some (b.ch ch).drv.askAt) fun ch b => b.queueStart ch false true

/-- A released valve lets its coil current decay: through the low-side switch, or with FAST against the active clamp (R180). -/
def Block.valveDecay (b : Block) (ch : Nat) : Block :=
  let fast := b.use (R.FC_CH_VALVE_FAST ch) = 1
  ((b.switch ch false).modCore ch fun k => { k with low := if fast then .off else .on, clamped := fast }).modDrv ch fun d => { d with decaying := true, releasing := none, integ := 0 }

/-- A valve is released: at once from BOOST, both switches off when a path turns it off, else at the next boundary; a queued or deferred actuation does not take place (R179, R180). -/
def Block.valveRelease (b : Block) (ch : Nat) (byPath : Bool) : Block :=
  let ph := b.get (R.FC_CH_DRV_STATUS_PHASE ch)
  let b := (b.modCell (ch / 8) fun c => { c with queue := c.queue.filter (· != ch), boost := if c.boost = some ch then none else c.boost })
  let b := (b.set (R.FC_CH_DRV_STATUS_QUEUED ch) 0).modDrv ch fun d => { d with defer := false, waitEnd := none }
  let b := b.when (ph == 1 || ph == 2) fun b => b.valveResult ch 0xFFFE
  let b := b.when (ph != 0) fun b => (b.set (R.FC_CH_DRV_STATUS_PHASE ch) 0).modDrv ch fun d => { d with phaseEnd := none, releasing := some (b.now, ph) }
  if byPath then (b.modDrv ch fun d => { d with releasing := none, decaying := false, integ := 0 }).bothOff ch
  else if ph = 1 then b.valveDecay ch
  else b

/-! ## Load switches (R193) -/

/-- Row of Table 8.3 that decides a load switch at the lead of its group, and the output it gives; soft action 1 of R148 stands with row 4 (log entry 21). -/
def Block.lsRow (b : Block) (g : Nat) : Nat × Bool :=
  let n := (b.ch g).net
  if b.get R.PWR_STATE_STATE ≠ 3 || b.pwr.ceased then (1, false)
  else if b.flag R.PWR_STATUS_COMMITTED then (2, false)
  else if b.tripped g then (3, false)
  else if b.groupShed g || b.softOff g then (4, false)
  else if b.cellDown (g / 8) then (5, n.atReset)
  else if b.flag (R.FC_CH_STATUS_STUD_UV g) then (6, false)
  else if b.get (R.FC_CH_LS_CTRL_FORCE g) = 1 then (7, false)
  else if b.get (R.FC_CH_LS_CTRL_FORCE g) = 2 then (8, true)
  else if b.flag (R.FC_CELL_LS_FREEZE (g / 8)) then (9, n.frozen)
  else if !b.runs (g / 8) then (10, n.stopped)
  else (11, b.flag (R.FC_CH_LS_STATUS_NET g))

/-! ## Latch events (R144 to R151, R167) -/

/-- The fields of the current-limit and hard-short latches a path sets. -/
def limBit (ch : Nat) : Fld := R.FC_CH_STATUS_LIM_LATCH ch
def hardBit (ch : Nat) : Fld := R.FC_CH_STATUS_HARD_LATCH ch

/-- The EVENT of a latch, which also cuts the echo batch short (R172); one set during a reset of the cell is reported after the reload (R167). -/
def Block.latchEvent (b : Block) (ch bit : Nat) : Block :=
  if b.cellDown (ch / 8) then b.modCore ch fun k => { k with late := k.late ++ [bit] }
  else (b.flushBatch (b.lead ch)).event (chOrigin ch) (R.FC_CH_STATUS_ON ch).addr bit

/-- The current-limit latch of a channel is set, with its count and EVENT when it was not: `path` is the field that names the highest path that fired (R149). -/
def Block.limLatched (b : Block) (ch : Nat) (path : Fld) : Block :=
  if b.flag (limBit ch) then b
  else (((b.set (limBit ch) 1).inc (R.FC_CH_CNT_TRIP_LIMIT ch)).modCore ch fun k => { k with limAt := some b.now, softRun := 0 }).latchEvent ch path.lo

/-- DUTY_ACT 1 while DUTY_CAP is in force: a load switch, digital output or sensor supply turns off with its current-limit latch set (R177). -/
def Block.dutyLatch (b : Block) (g : Nat) : Block :=
  if b.flag (R.FC_CH_DRV_STATUS_DUTY_CAP g) && b.use (R.FC_CH_DUTY_DUTY_ACT g) = 1 then b.limLatched g (limBit g) else b

/-! ## The output rule of every function -/

/-- The output that a load switch, a digital output or a sensor supply shall have. -/
def Block.wanted (b : Block) (g : Nat) : Bool := if b.fn g = 1 then (b.lsRow g).2 else !b.blocked g && (b.inForce g).isOn

/-- Bring the outputs of a channel's group to what its conditions and its command in force ask. A modulated channel follows its command at its own boundaries and is only turned off here. Under a reversed supply every high-side switch is fully on and the low-side return blocked (R164). -/
def Block.resolve (b : Block) (ch : Nat) : Block :=
  let g := b.lead ch
  if b.reversed (ch / 8) then (b.set (R.FC_CH_STATUS_ON ch) 1).setLow ch .off
  else match b.fn g with
  | 1 =>
    let b := b.when (b.wanted g) (·.dutyLatch g)
    let (row, on) := b.lsRow g
    let b := ((b.setB (R.FC_CH_LS_STATUS_OUT g) on).setB (R.FC_CH_LS_STATUS_FROZEN g) (row == 9)).setB (R.FC_CH_LS_STATUS_FORCED g) (row == 7 || row == 8)
    b.switchGroup g on
  | 2 => if b.blocked g then b.driveOff g else b
  | 3 =>
    let want := (b.inForce g).isOn
    let busy := b.get (R.FC_CH_DRV_STATUS_PHASE g) != 0 || b.flag (R.FC_CH_DRV_STATUS_QUEUED g) || (b.ch g).drv.defer
    if b.blocked g then b.valveRelease g true
    else if want && !busy then b.valveAsk g
    else if !want && busy then b.valveRelease g false
    else b
  | 4 => if b.blocked g then b.driveOff g else b
  | 6 =>
    let b := b.when (b.wanted g) (·.dutyLatch g)
    (b.switch g (b.wanted g)).setB (R.FC_CH_DOUT_STATE_OUT g) (b.wanted g)
  | 9 =>
    let b := b.when (b.wanted g) (·.dutyLatch g)
    b.switchGroup g (b.wanted g)
  | _ => b.bothOff ch

/-- Every channel of a cell brought to what its conditions ask. -/
def Block.resolveCell (b : Block) (c : Nat) : Block := b.each 8 fun u b => b.resolve (8 * c + u)

/-- Every channel of the module brought to what its conditions ask. -/
def Block.resolveAll (b : Block) : Block := b.each 24 fun c b => b.resolveCell c

/-- What the passing of time has brought to the channels of a cell: off-times of soft action 1 that have run out, a bridge's leg past its dead time, and the queued valves, those asked for at this very instant only when `all` says so (R148, R179, R184). -/
def Block.ripen (b : Block) (c : Nat) (all : Bool := true) : Block :=
  let b := b.each 8 fun u b =>
    let ch := 8 * c + u
    let b := match (b.ch ch).core.softEnd with
      | some t => if t ≤ b.now then (b.modCore ch fun k => { k with softEnd := none }).atTime t fun b => b.resolve ch else b
      | none => b
    match (b.ch ch).drv.turnAt with
    | some t => if t ≤ b.now then b.legTurn ch else b
    | none => b
  match (b.cell c).queue with
  | [] => b
  | ch :: _ => if all || decide ((b.ch ch).drv.askAt < b.now) then b.serveValves c true else b

/-- A change of a channel that meets its cell as it stands at this instant. -/
def State.goCh (s : State) (ch : Nat) (f : Block → Block) : Result := s.go fun b => f (b.ripen (ch / 8))

/-! ## The common fault bit (R210) -/

/-- A digital-I/O cause sets FC_CELL_DIO.FAULT, counts and sends an EVENT with the cell's origin. -/
def Block.dioFault (b : Block) (c : Nat) : Block :=
  if b.flag (R.FC_CELL_DIO_FAULT c) then b
  else ((b.inc (R.FC_CELL_DIO_FAULT_CNT c)).raise (fcOrigin c) (R.FC_CELL_DIO_FAULT c))

/-- A digital-I/O cause still holds in the cell. -/
def Block.dioHolds (b : Block) (c : Nat) : Bool :=
  (List.range 8).any fun u =>
    let ch := 8 * c + u
    (b.fn ch == 5 && b.flag (R.FC_CH_DIN_STATE_OV ch)) ||
    (b.fn ch == 6 && (b.flag (R.FC_CH_STATUS_LIM_LATCH ch) || b.flag (R.FC_CH_STATUS_HARD_LATCH ch) ||
      (b.flag (R.FC_CH_STATUS_FAIL_ACT ch) && (b.ch ch).core.timedOut)))

/-! ## Latches (R144 to R151) -/

/-- Set the current-limit latch; its EVENT names `path` (R149). The group turns off. -/
def Block.latchLim (b : Block) (ch : Nat) (path : Fld) : Block :=
  let b := b.limLatched ch path
  let b := b.when (b.fn ch == 6) fun b => b.dioFault (ch / 8)
  b.resolve ch

/-- A hard-short or limit-time trip of one leg at this instant. -/
def trippedNow (now : Nat) (k : ChanCore) : Bool :=
  (match k.limTrip with | some t => decide (now ≤ t + 1000) | none => false) ||
  (match k.hardAt with | some t => decide (now ≤ t + 1000) | none => false)

/-- Both legs of a bridge tripped within 1 µs: PAIR_LATCH at both legs, and one EVENT with the lead's origin that names both (R185). -/
def Block.pairLatch (b : Block) (g : Nat) : Block :=
  let b := ((b.flushBatch g).set (R.FC_CH_STATUS_PAIR_LATCH g) 1).set (R.FC_CH_STATUS_PAIR_LATCH (g + 1)) 1
  let b := b.event (chOrigin g) (R.FC_CH_STATUS_PAIR_LATCH g).addr (R.FC_CH_STATUS_PAIR_LATCH g).lo [g, g + 1]
  b.resolve g

/-- The other leg of a bridge. -/
def otherLeg (ch : Nat) : Nat := if ch % 2 = 0 then ch + 1 else ch - 1

/-! ## Fail actions (R157) -/

/-- A commanded channel takes its fail action; `timeout` says that its command timeout is the cause. -/
def Block.failAct (b : Block) (g : Nat) (timeout : Bool) : Block :=
  let b := (b.set (R.FC_CH_STATUS_FAIL_ACT g) 1).set (R.FC_CH_STATUS_HOLD g) 0
  let b := b.when timeout fun b =>
    (b.set (R.FC_CH_STATUS_TIMEOUT_EV g) 1).modCore g fun k => { k with timedOut := true, deadline := none }
  let b := b.when (timeout && b.fn g == 6) fun b => b.dioFault (g / 8)
  (b.commitForce g).resolve g

/-! ## What a digital input sends (R190, R206) -/

/-- Status of a digital input in a packet: CONF is 0 while UNSETTLED. -/
def Block.dinConf (b : Block) (ch : Nat) : Nat := if b.flag (R.FC_CH_DIN_STATE_UNSETTLED ch) then 0 else 255

/-- Send the state SAMPLE of a digital input (Table 9.2). -/
def Block.dinSample (b : Block) (ch : Nat) : Block :=
  let st := b2n (b.flag (R.FC_CH_DIN_STATE_STATE ch)) + 2 * b2n (b.flag (R.FC_CH_DIN_STATE_UNSETTLED ch)) + 4 * b2n (b.flag (R.FC_CH_DIN_STATE_OV ch))
  let b := b.sample (chOrigin ch) 3 [st, b.get (R.FC_CH_DIN_STATE_COUNT ch), 0, 0] (b.dinConf ch) true (some (stampOf (b.ch ch).inp.bornAt))
  b.modIn ch fun i => { i with sentAt := b.now }

/-- Send the net packet of a digital input (Table 8.2). -/
def Block.netSample (b : Block) (ch : Nat) : Block :=
  let st := b2n (b.flag (R.FC_CH_DIN_STATE_STATE ch)) + 2 * b2n (b.flag (R.FC_CH_DIN_STATE_UNSETTLED ch))
  b.sample (chOrigin ch) 4 [st, 0, 0, 0] (b.dinConf ch)

/-- The net packet of an event input (R190, R217). -/
def Block.evtSample (b : Block) (x : Nat) : Block :=
  let un := b.flag (R.ETH_EVT_STATEx_UNSETTLED x)
  b.sample (org 4 6 (2 + x)) 0 [b2n (b.flag (R.ETH_EVT_STATEx_STATE x)) + 2 * b2n un, 0, 0, 0] (if un then 0 else 255)

/-! ## Control nets (R188, R190 to R192) -/

/-- The source of a channel's control net lies in island `i`. -/
def Block.netFrom (b : Block) (ch i : Nat) : Bool :=
  match b.get (R.FC_CH_NET_SRC ch) with
  | 1 => 6 + b.get (R.FC_CH_NET_SRC_CH ch) / 64 == i
  | 2 => i == 4
  | 3 => i == 4
  | _ => false

/-- A channel's net becomes unavailable: it holds its last value (R192). -/
def Block.netDown (b : Block) (ch : Nat) : Block :=
  (b.modNet ch fun n => { n with avail := false, queue := [] }).set (R.FC_CH_LS_STATUS_NET_HOLD ch) 1

/-- Nets with a source in island `i` become unavailable. -/
def Block.netsLost (b : Block) (i : Nat) : Block :=
  b.each 192 fun ch b => b.when (b.fn ch == 1 && b.netFrom ch i) fun b => b.netDown ch

/-- Nets with a source in field cell `c` become unavailable. -/
def Block.netsLostCell (b : Block) (c : Nat) : Block :=
  b.each 192 fun ch b =>
    b.when (b.fn ch == 1 && b.get (R.FC_CH_NET_SRC ch) == 1 && b.get (R.FC_CH_NET_SRC_CH ch) / 8 == c) fun b => b.netDown ch

/-- Nets of the event inputs become unavailable. -/
def Block.netsLostEvt (b : Block) : Block := b.each 192 fun ch b => b.when (b.fn ch == 1 && 2 ≤ b.get (R.FC_CH_NET_SRC ch)) fun b => b.netDown ch

/-- A net level takes hold at the lead of a load switch; an unsettled one makes the net unavailable and leaves its value (R190, R192). An edge less than 20 µs after the last one ends a pulse or gap that is already at the output; it is counted as a short one (DESIGN CHOICE, log entry 147). -/
def Block.netLevel (b : Block) (g : Nat) (level unsettled : Bool) : Block :=
  let n := (b.ch g).net
  let edge := !unsettled && level != n.level
  let short := edge && n.edgeAt.any fun t => decide (b.now < t + 20 * us)
  let b := b.modNet g fun n => { n with level := if unsettled then n.level else level, avail := !unsettled, edgeAt := if edge then some b.now else n.edgeAt }
  let b := b.when short fun b => (b.set (R.FC_CH_LS_STATUS_NET_SHORT_EV g) 1).inc (R.FC_CH_CNT_LS_NET_SHORT g)
  let b := b.setB (R.FC_CH_LS_STATUS_NET_HOLD g) unsettled
  let b := b.when (!unsettled) fun b => b.setB (R.FC_CH_LS_STATUS_NET g) (level != b.flag (R.FC_CH_NET_INVERT g))
  b.resolve g

/-- The net of a load switch is formed from its source as FC_CH_NET names it: the register bit, a digital input of the same field island, or what its stream last delivered; a source that is no digital input delivers nothing and leaves the net at 0 (R188). -/
def Block.netForm (b : Block) (g : Nat) : Block :=
  if b.fn g ≠ 1 || b.lead g ≠ g then b
  else
    let src := b.get (R.FC_CH_NET_SRC_CH g)
    let held := fun (b : Block) => (b.netDown g).resolve g
    match b.get (R.FC_CH_NET_SRC g) with
    | 0 => b.netLevel g (b.flag (R.FC_CH_LS_CTRL_NET_BIT g)) false
    | 1 =>
      if 191 < src || b.fn src ≠ 5 then held (b.set (R.FC_CH_LS_STATUS_NET g) 0)
      else if src / 64 = g / 64 then (if b.runs (src / 8) then b.netLevel g (b.flag (R.FC_CH_DIN_STATE_STATE src)) (b.flag (R.FC_CH_DIN_STATE_UNSETTLED src)) else held b)
      else if (b.ch g).net.avail then b.netLevel g (b.ch g).net.level false
      else held b
    | _ => if (b.ch g).net.avail then b.netLevel g (b.ch g).net.level false else held b

/-- A write of FC_CH_NET: another source has delivered nothing yet (R188, R192). -/
def Block.netWrittenTo (b : Block) (g : Nat) (old : Nat × Nat) : Block :=
  let new := (b.get (R.FC_CH_NET_SRC g), b.get (R.FC_CH_NET_SRC_CH g))
  (b.when (new != old) fun b => b.modNet g fun n => { n with avail := false, queue := [] }).netForm g

/-- A write of FC_CH_FUNC in a stopped cell: a channel that takes another function is off until START (R138, R157). -/
def Block.funcWritten (b : Block) (ch old : Nat) : Block :=
  if b.fn ch = old then b.resolve ch
  else
    let b := (b.modCore ch fun k => { k with last := .none, deadline := none, softEnd := none }).modNet ch fun n => { n with stopped := false }
    let b := ((b.set (R.FC_CH_STATUS_FAIL_ACT ch) 0).set (R.FC_CH_STATUS_HOLD ch) 0).set (R.FC_CH_DRV_STATUS_PHASE ch) 0
    ((b.modCell (ch / 8) fun c => { c with queue := c.queue.filter (· != ch), boost := if c.boost = some ch then none else c.boost }).bothOff ch).resolve ch

/-- The state stream of a digital input has restarted: the pairs that name the channel have no sample until it delivers (R213). -/
def Block.pairsUnheard (b : Block) (ch : Nat) : Block :=
  { b with pairs := b.pairs.mapIdx fun n (q : Pair) => { q with a := if b.get (R.FC_DCP_CFG_CH_A n) = ch then {} else q.a, b := if b.get (R.FC_DCP_CFG_CH_B n) = ch then {} else q.b } }

/-- The streams that satisfy `p` have restarted: their nets wait for the level that each source sends with RESYNC (R190, R192), and their pairs for the state (R206, R213). -/
def Block.netsRestart (b : Block) (p : Nat → Nat → Bool) : Block :=
  let again := fun (o n : Nat) => (b.route? o n).any fun st => p st o
  let b := b.each 192 fun ch b =>
    if b.fn ch ≠ 5 then b
    else
      let b := b.when (again (chOrigin ch) 3) fun b => (b.pairsUnheard ch).when (b.runs (ch / 8)) fun b => b.dinSample ch
      if !again (chOrigin ch) 4 then b else
      let b := b.each 192 fun g b => b.when (b.fn g == 1 && b.get (R.FC_CH_NET_SRC g) == 1 && b.get (R.FC_CH_NET_SRC_CH g) == ch && g / 64 != ch / 64) fun b => b.netDown g
      b.when (b.runs (ch / 8)) fun b => b.netSample ch
  b.each 2 fun x b =>
    if !again (org 4 6 (2 + x)) 0 then b
    else (b.each 192 fun g b => b.when (b.fn g == 1 && b.get (R.FC_CH_NET_SRC g) == 2 + x) fun b => b.netDown g).when ((b.island 4).run == .running) fun b => b.evtSample x

/-! ## Start, stop and reset of a cell (R82, R157, R167) -/

/-- A digital input at its start: nothing is settled and the comparator has given no verdict (R203, R205). -/
def Block.dinStart (b : Block) (ch : Nat) : Block :=
  ((((b.set (R.FC_CH_DIN_STATE_STATE ch) 0).set (R.FC_CH_DIN_STATE_UNSETTLED ch) 1).set (R.FC_CH_DIN_STATE_CMP ch) 2).set (R.FC_CH_DIN_STATE_COUNT ch) 0).modIn ch
    fun i => { i with ovAt := none, bornAt := b.sys.mtime, tickAt := b.now }

/-- Output voltage of VSET in mV; 0 switches the stud through (R227). -/
def vsetMv (v : Nat) : Nat := match v with | 1 => 5000 | 2 => 8000 | 3 => 10000 | 4 => 12000 | _ => 0

/-- The stud stands below VSET + 1.0 V (R228). -/
def Block.studShort (b : Block) (ch : Nat) : Bool :=
  let v := vsetMv (b.use (R.FC_CH_SUP_VSET ch))
  v != 0 && decide (b.get (R.FC_STUD_STAT_VOLT_MV (studOf (ch / 8))) < v + 1000)

/-- An analog, frequency or encoder input begins at START or a reload: POSITION and the edge total 0, no edge seen, a first interval begun now (R219, R224, R225). -/
def Block.inStart (b : Block) (ch : Nat) : Block :=
  b.modIn ch fun i => { i with
    shuntAt := none, short := false, intAt := b.now, edgeAt := none, prevAt := none, e0 := none
    edges := 0, total := 0, fPrev := 0, position := 0, glitch := false, quadErr := false }

/-- A channel begins from off: what START and a reload leave. -/
def Block.chanStart (b : Block) (ch : Nat) : Block :=
  let g := b.lead ch
  let b := b.modCore ch fun k => { k with
    last := .none, held := false, timedOut := false, awaitCmd := false, seqRef := [], softRun := 0, softSeen := false, cut := false, softEnd := none
    derFrac := b.get (R.HLT_CHc_DERATE ch), derSoft := b.get (R.HLT_CHc_DERATE ch)
    deadline := if isCommanded (b.fn ch) && g == ch then some (b.now + b.use (R.FC_CH_CMD_TIMEOUT_MS ch) * ms) else none
    measSeq := none, measAt := b.now, limSeen := false }
  let b := b.modDrv ch fun d => { d with
    cOn := 0, cOff := 0, pseq := 0, dither := 0, dithBase := 0, dithLen := 0, start := b.now, eff := .cmd .none, commits := [], writes := [], dir := 0, turnAt := none
    integ := 0, meanPrev := 0, onTime := 0, supOn := false, supOff := false
    capped := false, sat := false, batch := [], waitEnd := none, phaseEnd := none, defer := false, releasing := none, decaying := false }
  let b := (b.set (R.FC_CH_STATUS_FAIL_ACT ch) 0).set (R.FC_CH_STATUS_HOLD ch) 0
  let b := (b.set (R.FC_CH_DRV_STATUS_PHASE ch) 0).set (R.FC_CH_DRV_STATUS_QUEUED ch) 0
  let b := b.when (b.fn ch != 1) fun b => b.bothOff ch
  (b.inStart ch).when (b.fn ch == 5) fun b => b.dinStart ch

/-- Streams that the channels of a cell begin restart at SEQ 0 with RESYNC. -/
def Block.resyncCell (b : Block) (c : Nat) : Block :=
  b.resync fun o => o / 128 == fcOrigin c / 128

/-- A channel whose output a commit leaves undisturbed goes on: its command timeout runs from START, its sequence reference is set anew (R82, R157); an input starts as at every START (R203, R205, R219, R224, R225). -/
def Block.chanKeep (b : Block) (ch : Nat) : Block :=
  let b := b.modCore ch fun k => { k with seqRef := [], measSeq := none, measAt := b.now, deadline := if isCommanded (b.fn ch) && b.lead ch == ch then some (b.now + b.use (R.FC_CH_CMD_TIMEOUT_MS ch) * ms) else none }
  let b := b.when (b.fn ch == 7 || b.fn ch == 8) fun b => b.inStart ch
  b.when (b.fn ch == 5) fun b => b.dinStart ch

/-- A cell starts: its channels begin from off, load switches keep their output until their net or force decides (R156, R157); channels in `keep` go on as they are (R82). -/
def Block.cellStart (b : Block) (c : Nat) (keep : List Nat := []) : Block :=
  let b := (b.resyncCell c).modCell c fun k => { k with run := .running, byStop := false, queue := [], boost := none, charge := if k.noCharge then none else some b.now }
  let b := (b.set (R.FC_CELL_STATUS_STOPPED c) 0).set (R.FC_CELL_BOOST_LIMIT_V c) (b.hlt.plan.boost.getD c 192)
  let b := b.boundary (cellBase c) (cellBase c + 0x800)
  let b := b.each 8 fun u b => if keep.contains (8 * c + u) then b.chanKeep (8 * c + u) else b.chanStart (8 * c + u)
  let b := b.each 8 fun u b => b.when (b.fn (8 * c + u) == 5) fun b => ((b.pairsUnheard (8 * c + u)).dinSample (8 * c + u)).netSample (8 * c + u)
  (b.each 8 fun u b => b.netForm (8 * c + u)).resolveCell c

/-- A cell stops or is quiesced: every commanded channel takes its fail action, but while REPLAY acts it stays in its hold state; load switches keep their last state, and the interval due does not complete (R82, R159). -/
def Block.cellStop (b : Block) (c : Nat) (run : CellRun) : Block :=
  let b := b.each 8 fun u b => b.modNet (8 * c + u) fun n => { n with stopped := b.flag (R.FC_CH_STATUS_ON (8 * c + u)) }
  let b := (b.modCell c fun k => { k with run := run }).set (R.FC_CELL_STATUS_STOPPED c) 1
  b.each 8 fun u b =>
    let ch := 8 * c + u
    let b := (((b.flushBatch ch).set (R.FC_CH_MEAS_I_STALE ch) 1).set (R.FC_CH_AIN_STAT_STALE ch) 1).set (R.FC_CH_FIN_STAT_STALE ch) 1
    let b := b.modCore ch fun k => { k with deadline := none }
    if isCommanded (b.fn ch) && b.lead ch == ch && !b.acting mREPLAY then b.failAct ch false else b.resolve ch

/-- What a channel keeps through a reset of its cell: a load switch held from the stud with its limiter's count and window, its latches and events in island 0, the value of its net (R150, R167, R192). -/
def ChanCore.atReset (k : ChanCore) (now : Nat) (held on : Bool) : ChanCore :=
  let kept : ChanCore := { limAt := k.limAt, hardAt := k.hardAt, limTrip := k.limTrip, therm := k.therm, late := k.late, offSince := if on && !held then now else k.offSince }
  if held then { kept with onSince := k.onSince, geyserEnd := k.geyserEnd, limStart := k.limStart, limSeen := k.limSeen } else kept

/-- A reset of a cell's scope asserts: load switches are held from the stud, every other channel is off; latches stay, mirrored in island 0 (R167, Table 5.11). Settings return to their defaults. -/
def Block.cellReset (b : Block) (c : Nat) : Block :=
  let b := b.eachOf (List.range 8) fun u b => (b.flushBatch (8 * c + u)).pairsUnheard (8 * c + u)
  let old := b
  let frz := b.flag (R.FC_CELL_LS_FREEZE c)
  let b := b.resetRegs (cellBase c) (cellBase c + 0x10000)
  let b := (b.modCell c fun k => { run := .inReset, freeze := frz, hist := k.hist, means := k.means, noCharge := k.noCharge, resets := b.now :: recent b.now (60 * sec) k.resets })
  let b := b.set (R.FC_CELL_LS_FREEZE c) (b2n frz)
  let b := b.each 8 fun u b =>
    let ch := 8 * c + u
    let on := old.flag (R.FC_CH_STATUS_ON ch)
    let held := old.fn ch == 1 && on
    let b := b.modCh ch fun x => {
      core := x.core.atReset b.now held on
      drv := { slots := x.drv.slots }
      net := { level := x.net.level, avail := false, frozen := x.net.frozen, atReset := held, stopped := held, writeAt := b.now } }
    let always := [R.FC_CH_FUNC_FUNC ch, R.FC_CH_FUNC_BOND ch, R.FC_CH_STATUS_LIM_LATCH ch, R.FC_CH_STATUS_HARD_LATCH ch, R.FC_CH_STATUS_PAIR_LATCH ch, R.FC_CH_STATUS_SHED ch, R.FC_CH_STATUS_STUD_UV ch,
      R.FC_CH_STATUS_HOT ch, R.FC_CH_LS_STATUS_NET ch]
    let b := b.eachOf (always ++ if held then [R.FC_CH_STATUS_ON ch, R.FC_CH_STATUS_IN_LIMIT ch, R.FC_CH_STATUS_GEYSER ch] else []) fun f b => b.set f (old.get f)
    b.set (R.FC_CH_LS_STATUS_NET_HOLD ch) (b2n (old.fn ch == 1))
  b.resolveCell c

end Sys2Proof.Machine
end

