-- ==== Sys2Proof/Machine/FieldProt.lean ====
section
/-! DEFINITION. Field channels and cells: commands, protection, shedding and measurements (chapter 6). -/

namespace Sys2Proof.Machine

open Sys2Proof

def BAD_COMMAND : Nat := 0x50
def COOLDOWN : Nat := 0x51
def BAD_GROUP : Nat := 0x52
def PAIR_LATCHED : Nat := 0x53

/-! ## Error notes -/

/-- Code of a packet kind (Table 2.3). -/
def kindCode : Kind → Nat
  | .sample => 1 | .setpoint => 2 | .event => 3 | .beacon => 4 | .mode => 5
  | .readReq => 0x10 | .readRsp => 0x11 | .writeReq => 0x12 | .writeRsp => 0x13 | .storeReq => 0x14 | .storeRsp => 0x15
  | .load => 0x16 | .loadRsp => 0x17 | .errorNote => 0x1F
  | .reserved c => c

/-- Payload of an error response (Table 2.8). -/
def errorPayload (code : Nat) (p : Packet) (island index : Nat) : List Nat :=
  [code, kindCode p.kind] ++ le 2 p.stream ++ [p.seq, island] ++ le 2 index

/-- Answer a posted packet with ERROR_NOTE, from a unit (R57). -/
def Block.errorNote (b : Block) (origin code : Nat) (p : Packet) : Block :=
  b.send { kind := .errorNote, stream := 0, origin := origin, tag := p.tag, conf := 0, valid := false, error := true, stamp := b.stamp,
           data := errorPayload code p (oIsland origin) 0 }

/-! ## Setpoints (R154 to R158) -/

/-- A SET value in its range (Table 6.7). -/
def setRange (f m : Nat) (v : Int) : Int :=
  match f with
  | 2 => clampI 0 (4000 * m) v
  | 4 => clampI (-32767) 32767 v
  | _ => clampI 0 1 v

/-- A SETPOINT is counted in REJECT and not acted on. -/
def Block.reject (b : Block) (ch : Nat) : Block := (b.set (R.FC_CH_STATUS_REJECT ch) 1).inc (R.FC_CH_CNT_CMD_REJECT ch)

/-- An accepted command takes hold at the lead of a group: SET, BRAKE and COAST end a fail action and a hold and restart the timeout unless STALE; HOLD suspends it. -/
def Block.accept (b : Block) (g : Nat) (cmd : Nat) (v : Int) (stale : Bool) : Block :=
  let run := !stale || (b.ch g).core.held
  if cmd = 1 then
    let b := b.modCore g fun k => { k with deadline := none, held := true, awaitCmd := false, timedOut := false }
    if b.use (R.FC_CH_HOLD_DEFINED g) = 1 then (((b.set (R.FC_CH_STATUS_HOLD g) 1).set (R.FC_CH_STATUS_FAIL_ACT g) 0).commitForce g).resolve g
    else b.failAct g false
  else
    let x := setRange (b.fn g) (b.shares g) v
    let b := b.when (cmd == 0 && x != v) fun b => b.set (R.FC_CH_STATUS_CLAMP_EV g) 1
    let d : Drive := if cmd = 2 then .brake else if cmd = 3 then .coast else .set x
    let b := b.modCore g fun k => { k with
      last := d, held := false, awaitCmd := false, timedOut := false
      deadline := if run then some (b.now + b.use (R.FC_CH_CMD_TIMEOUT_MS g) * ms) else k.deadline }
    let b := ((b.set (R.FC_CH_STATUS_FAIL_ACT g) 0).set (R.FC_CH_STATUS_HOLD g) 0).commitForce g
    let b := b.when (b.fn g == 6) fun b => b.setB (R.FC_CH_DOUT_STATE_CMD g) (x != 0)
    b.resolve g

/-- A SETPOINT reaches a field channel (R154 to R158). At a running cell it sets the sequence reference of its source, whatever becomes of it. -/
def Block.setpoint (b : Block) (ch : Nat) (p : Packet) : Block :=
  let f := b.fn ch
  let cmd := bytesAt p.data 2 1
  let v := signed 16 (bytesAt p.data 0 2)
  let key := p.stream * 65536 + p.origin
  let inSeq := p.resync || (match (b.ch ch).core.seqRef.find? key with | none => true | some n => p.seq == (n + 1) % 256)
  let b := b.when (b.runs (ch / 8)) fun b => b.modCore ch fun k => { k with seqRef := k.seqRef.put key p.seq }
  if !isCommanded f || b.lead ch != ch || 3 < cmd || (2 ≤ cmd && f != 4) then (b.reject ch).errorNote (chOrigin ch) BAD_COMMAND p
  else if p.data.length ≠ 8 then (b.reject ch).errorNote (chOrigin ch) BAD_LENGTH p
  else if !b.runs (ch / 8) then b.reject ch
  else if !p.valid || p.error || p.masked || p.conf < b.get (R.FC_CH_CMD_CONF_MIN ch) then b.reject ch
  else if !inSeq then (b.set (R.FC_CH_STATUS_SEQ_ERR ch) 1).inc (R.FC_CH_CNT_CMD_SEQ_ERR ch)
  else b.accept ch cmd v p.stale

/-- A commanded channel's timeout expires (R157). -/
def execCommandTimeout (ch : Fin 192) (s : State) : Result := s.goCh ch fun b =>
  match (b.ch ch).core.deadline with
  | none => b
  | some t => (b.reach t).failAct ch true

/-! ## Trips (R144 to R151) -/

/-- The soft detector of a channel acts: its output is on, its cell is not in reset, and no interval masks it (R147, R167). -/
def Block.softMasked (b : Block) (ch : Nat) : Bool := (b.ch ch).core.blankEnd.isSome || b.flag (R.FC_CH_STATUS_GEYSER ch)
def Block.softActs (b : Block) (ch : Nat) : Bool := isOutput (b.fn ch) && b.flag (R.FC_CH_STATUS_ON ch) && !b.cellDown (ch / 8)

/-- A crossing of SOFT_THR inside a masked interval (R147). -/
def Block.softBlanked (b : Block) (ch : Nat) : Block := (b.set (R.FC_CH_STATUS_BLANKED_EV ch) 1).inc (R.FC_CH_CNT_EV_BLANKED ch)

/-- Consecutive periods with a soft event, this one included. In an unmodulated function a run is broken when the channel has stayed on for 1 ms after its blanking (R148). -/
def Block.softCount (b : Block) (ch : Nat) : Nat :=
  let k := (b.ch ch).core
  let stayed := !isModulated (b.fn ch) && (match k.onSince with
    | some t => decide (t + b.use (R.FC_CH_PROT_BLANK_US (b.lead ch)) * us + ms ≤ b.now) | none => false)
  if isModulated (b.fn ch) && k.softSeen then k.softRun else (if stayed then 0 else k.softRun) + 1

/-- The paths that fire in one cell clock cycle: every one counts and sets its own status bit, the latches follow, and one EVENT names the highest of them (R144 to R151). -/
def Block.fire (b : Block) (ch : Nat) (hard limit soft heat say : Bool) : Block :=
  let act := b.softAct ch
  let n := b.softCount ch
  let hot := if heat then b.now :: recent b.now (60 * sec) (b.ch ch).core.therm else (b.ch ch).core.therm
  let lim := limit || (soft && (decide (2 ≤ act) || (act == 1 && decide (b.use (R.FC_CH_PROT_SOFT_N (b.lead ch)) ≤ n)))) || (heat && decide (8 ≤ hot.length))
  let newHard := hard && !b.flag (hardBit ch)
  let newLim := lim && !b.flag (limBit ch)
  let b := b.when soft fun b => (b.set (R.FC_CH_STATUS_SOFT_EV ch) 1).inc (R.FC_CH_CNT_EV_SOFT ch)
  let b := b.when heat fun b => ((b.set (R.FC_CH_STATUS_THERM_EV ch) 1).inc (R.FC_CH_CNT_TRIP_THERM ch)).set (R.FC_CH_STATUS_HOT ch) 1
  let b := (b.when hard fun b => (b.set (hardBit ch) 1).inc (R.FC_CH_CNT_TRIP_HARD ch)).when newLim fun b => (b.set (limBit ch) 1).inc (R.FC_CH_CNT_TRIP_LIMIT ch)
  let rest := soft && act == 1 && !lim && !hard && !heat
  let b := b.modCore ch fun k => { k with
    therm := hot, hardAt := if newHard then some b.now else k.hardAt, limAt := if newLim then some b.now else k.limAt, limTrip := if limit then some b.now else k.limTrip
    cut := k.cut || limit || (soft && act == 1)
    softRun := if hard || lim || heat then 0 else if soft && act == 1 then n else k.softRun
    softSeen := k.softSeen || (rest && isModulated (b.fn ch))
    softEnd := if rest && !isModulated (b.fn ch) then some (b.now + ms) else k.softEnd }
  let path := if hard then hardBit ch else if limit then limBit ch else if soft then R.FC_CH_STATUS_SOFT_EV ch else R.FC_CH_STATUS_THERM_EV ch
  let b := b.when ((newHard || newLim) && say) fun b => b.latchEvent ch path.lo
  let b := b.when (b.fn ch == 6 && (hard || lim)) fun b => b.dioFault (ch / 8)
  if rest && isModulated (b.fn ch) then b.restOff (b.lead ch)
  else if soft && act == 0 && !hard && !lim && !heat then b
  else b.resolve ch

/-- A trip with the further paths of its cycle; a soft crossing inside a masked interval only counts there. -/
def Block.trip (b : Block) (ch : Nat) (hard : Bool) (more : MorePaths) (say : Bool) : Block :=
  let soft := more.soft && b.softActs ch
  let b := b.when (soft && b.softMasked ch) fun b => b.softBlanked ch
  b.fire ch hard (!hard || more.limit) (soft && !b.softMasked ch) more.heat say

/-- Both legs of a bridge trip within 1 µs: this one now, the other with it (`both`) or just before (R185). -/
def Block.tripPair (b : Block) (ch : Nat) (hard both : Bool) (more : MorePaths) : Block :=
  let pair := b.fn ch == 4 && (both || trippedNow b.now (b.ch (otherLeg ch)).core)
  let b := b.trip ch hard more (!pair)
  let b := b.when (pair && both) fun b => b.trip (otherLeg ch) hard {} false
  b.when pair fun b => b.pairLatch (ch / 2 * 2)

/-- A switch current reaches 40 A; `both` says that the other leg of the bridge trips within the same microsecond, `more` which paths fire in the same cycle (R146, R149, R185). -/
def execHardShortTrip (ch : Fin 192) (both : Bool) (more : MorePaths) (s : State) : Result := s.goCh ch fun b => b.tripPair ch true both more

/-- The limit-time count reaches the applicable limit time: LIM_TIME, or GLIM_TIME inside the Geyser window (R144). -/
def Block.limitTime (b : Block) (ch : Nat) : Nat :=
  let g := b.lead ch
  if b.flag (R.FC_CH_STATUS_GEYSER ch) then b.use (R.FC_CH_GEYSER_GLIM_TIME g) * 100 * us else b.use (R.FC_CH_PROT_LIM_TIME g) * 10 * us

/-- Continuous time in current limit reaches the applicable limit time (R144, R149, R185). -/
def execLimitTimeExpired (ch : Fin 192) (both : Bool) (more : MorePaths) (s : State) : Result := s.goCh ch fun b =>
  match (b.ch ch).core.limStart with
  | none => b
  | some t => (b.reach (t + b.limitTime ch)).tripPair ch false both more

/-- The high-side current reaches the limiter level, or falls below it for 1 µs (R143, R144). A leg that waits for its dead time turns high first. -/
def execInLimitChange (ch : Fin 192) (inLimit : Bool) (s : State) : Result := s.goCh ch fun b =>
  let b := match (b.ch (b.lead ch)).drv.turnAt with | some t => (b.reach t).legTurn (b.lead ch) | none => b
  if !b.flag (R.FC_CH_STATUS_ON ch) then b
  else if inLimit then
    (b.set (R.FC_CH_STATUS_IN_LIMIT ch) 1).modCore ch fun k => { k with limStart := some (k.limStart.getD b.now), limSeen := true }
  else (b.set (R.FC_CH_STATUS_IN_LIMIT ch) 0).modCore ch fun k => { k with limStart := none }

/-! ## The soft detector (R147, R148) -/

/-- A soft event: SOFT_EV, its count, and the action of SOFT_ACT (R148). -/
def Block.softEvent (b : Block) (ch : Nat) (heat : Bool := false) : Block := b.fire ch false false true heat true

/-- The current, in mA, stands above the soft threshold. -/
def Block.overSoft (b : Block) (ch cur : Nat) : Bool := b.softThr ch * 50 < cur

/-- The current crosses SOFT_THR: a soft event, or a count in BLANKED inside a masked interval (R147); in a reset of its cell the detector does not act (R167). `heat`: the over-temperature comparator fires in the same cycle. -/
def execSoftEvent (ch : Fin 192) (cur : Nat) (heat : Bool) (s : State) : Result := s.goCh ch fun b =>
  if !b.softActs ch || !b.overSoft ch cur then b.when heat fun b => b.fire ch false false false true true
  else if b.softMasked ch then (b.softBlanked ch).when heat fun b => b.fire ch false false false true true
  else b.softEvent ch heat

/-- A blanking interval ends: unless the Geyser window still masks it, the detector re-evaluates the current (R147). -/
def execBlankEnd (ch : Fin 192) (cur : Nat) (s : State) : Result := s.goCh ch fun b =>
  match (b.ch ch).core.blankEnd with
  | none => b
  | some t =>
    let b := (b.reach t).modCore ch fun k => { k with blankEnd := none }
    b.when (!b.flag (R.FC_CH_STATUS_GEYSER ch) && !b.cellDown (ch / 8) && b.overSoft ch cur) fun b => b.softEvent ch

/-- The Geyser window closes: the limit drops to 12 A, the limit-time count restarts, and the soft detector re-evaluates (R144, R145, R147). -/
def execGeyserClose (ch : Fin 192) (cur : Nat) (s : State) : Result := s.goCh ch fun b =>
  match (b.ch ch).core.geyserEnd with
  | none => b
  | some t =>
    let b := (b.reach t).set (R.FC_CH_STATUS_GEYSER ch) 0
    let lim := decide (12000 ≤ cur)
    let b := b.modCore ch fun k => { k with geyserEnd := none, limStart := if lim then some b.now else none, limSeen := k.limSeen || lim }
    let b := b.setB (R.FC_CH_STATUS_IN_LIMIT ch) lim
    b.when ((b.ch ch).core.blankEnd.isNone && !b.cellDown (ch / 8) && b.overSoft ch (min cur 12000)) fun b => b.softEvent ch

/-! ## Heat (R151) -/

/-- A junction reaches 170 °C: the channel turns off, and stays off while hot; the eighth event within 60 s sets the current-limit latch instead of a resume. -/
def execOverTemp (ch : Fin 192) (s : State) : Result := s.goCh ch fun b => b.fire ch false false false true true

/-- The junction is below 155 °C and at least 1 ms has passed: the channel resumes its commanded state. -/
def execOverTempResume (ch : Fin 192) (s : State) : Result := s.goCh ch fun b =>
  if !b.flag (R.FC_CH_STATUS_HOT ch) then b
  else
    let b := b.reach ((b.ch ch).core.therm.headD b.now + ms)
    (b.set (R.FC_CH_STATUS_HOT ch) 0).resolve ch

/-! ## Shedding (R153) -/

/-- Shed every channel of some cells with one priority. Cells of a lost island are out of reach. -/
def Block.shedCells (b : Block) (cells : List Nat) (prio : Nat) : Block :=
  b.eachOf cells fun c b => b.each 8 fun u b =>
    let ch := 8 * c + u
    if b.get (R.FC_CH_FUNC_SHED_PRIO ch) = prio && !b.flag (R.FC_CH_STATUS_SHED ch) && prio != 0 then
      ((b.set (R.FC_CH_STATUS_SHED ch) 1).inc (R.FC_CH_CNT_TRIP_SHED ch)).resolve ch
    else b

/-- Cells that island 0 reaches. -/
def Block.reachable (b : Block) (cells : List Nat) : List Nat := cells.filter fun c => !b.isLost (6 + c / 8)

/-- The means of a scope's cells: those of the field island for a cell, those that island 0 received for a stud and the module (R153). -/
def Block.scopeMeans (b : Block) : ShedScope → List (List Nat)
  | .cell c => [(b.cell c).hist]
  | .stud s => [(b.cell (3 * s)).means, (b.cell (3 * s + 1)).means, (b.cell (3 * s + 2)).means]
  | .module => (List.range 24).map fun c => (b.cell c).means

/-- 10 ms mean and sum of the last 100 means of a scope, in 10 mA. -/
def Block.scopeNow (b : Block) (sc : ShedScope) : Nat := ((b.scopeMeans sc).map fun l => l.headD 0).sum
def Block.scopeSum (b : Block) (sc : ShedScope) : Nat := ((b.scopeMeans sc).map fun l => (l.take 100).sum).sum

/-- Cells of a scope, its rating in 10 mA (Table 6.4). -/
def scopeCells : ShedScope → List Nat
  | .cell c => [c.val]
  | .stud s => [3 * s.val, 3 * s.val + 1, 3 * s.val + 2]
  | .module => List.range 24

def scopeRating : ShedScope → Nat
  | .cell _ => 3200
  | .stud _ => 6000
  | .module => 30000

/-- Shed level of a scope, and when it last rose. -/
def Block.shedLevel (b : Block) : ShedScope → Nat
  | .cell c => (b.cell c).level
  | .stud s => b.get (R.FC_STUD_STAT_SHED_LEVEL s)
  | .module => b.get R.FC_MOD_STAT_SHED_LEVEL

def Block.shedAt (b : Block) : ShedScope → Option Nat
  | .cell c => (b.cell c).shedAt
  | .stud s => (b.scopes.getD s.val {}).shedAt
  | .module => (b.scopes.getD 8 {}).shedAt

def Block.setShed (b : Block) (sc : ShedScope) (level : Nat) (at_ : Option Nat) : Block :=
  match sc with
  | .cell c => b.modCell c fun k => { k with level := level, shedAt := at_ }
  | .stud s => { (b.set (R.FC_STUD_STAT_SHED_LEVEL s) level) with scopes := updAt b.scopes s.val fun k => { k with shedAt := at_ } }
  | .module => { (b.set R.FC_MOD_STAT_SHED_LEVEL level) with scopes := updAt b.scopes 8 fun k => { k with shedAt := at_ } }

/-- The WARN field of a scope and the origin that reports it. -/
def scopeWarn : ShedScope → Fld
  | .cell c => R.FC_CELL_STATUS_CELL_WARN c
  | .stud s => R.FC_STUD_STAT_WARN s
  | .module => R.FC_MOD_STAT_WARN

def scopeOrigin : ShedScope → Nat
  | .cell c => fcOrigin c
  | _ => islOrigin 0

/-- Judge the means of one scope: WARN above the rating, the first shed above 110 %, and the end of both below the rating. -/
def Block.judgeScope (b : Block) (sc : ShedScope) : Block :=
  let r := scopeRating sc
  let sum := b.scopeSum sc
  let w := scopeWarn sc
  let b := b.when (decide (100 * r < sum) && !b.flag w) fun b => b.raise (scopeOrigin sc) w
  let cells := match sc with | .cell _ => scopeCells sc | _ => b.reachable (scopeCells sc)
  let b := b.when (decide (1100 * r < 10 * sum) && b.shedLevel sc == 0) fun b => (b.shedCells cells 3).setShed sc 1 (some b.now)
  b.when (decide (sum < 100 * r) && b.flag w) fun b => (b.set w 0).setShed sc 0 none

/-- A field island forms the means of its cells while it is out of reset; island 0 receives them unless the island is lost (R153). -/
def Block.cellMeans (b : Block) (means : List Nat) : Block :=
  b.each 24 fun c b => if h : c < 24 then
    let i := 6 + c / 8
    let up := (b.island i).run == .running
    let m := means.getD c 0
    let b := b.modCell c fun k => { k with hist := if up then (m :: k.hist).take 100 else [], means := ((if up && !b.isLost i then m else 0) :: k.means).take 100 }
    if up then ((b.set (R.FC_CELL_CURRENT_NOW c) (min 65535 m)).set (R.FC_CELL_CURRENT_MEAN c) (min 65535 (b.scopeSum (.cell ⟨c, h⟩) / 100))).judgeScope (.cell ⟨c, h⟩) else b
  else b

/-- Every 10 ms cell, stud and module means are formed, and warnings or sheds applied. `means` are the 10 ms means of cells 0 to 23 in 10 mA. -/
def Block.shedEval (b : Block) (means : List Nat) : Block :=
  let b := (b.toBoundary (10 * ms) true).cellMeans means
  let b := b.each 8 fun s b =>
    if h : s < 8 then
      let sc := ShedScope.stud ⟨s, h⟩
      let b := (b.set (R.FC_STUD_I_NOW s) (b.scopeNow sc / 10)).set (R.FC_STUD_I_MEAN s) (b.scopeSum sc / 1000)
      b.judgeScope sc
    else b
  let b := (b.set R.FC_MOD_I_NOW (min 65535 (b.scopeNow .module / 10))).set R.FC_MOD_I_MEAN (min 65535 (b.scopeSum .module / 1000))
  b.judgeScope .module

def execShedEval (means : List Nat) (s : State) : Result := s.go fun b => b.shedEval means

/-- After 100 ms of continued excess the next shed priority is shed: 2, then 1. -/
def Block.shedEscalate (b : Block) (sc : ShedScope) : Block :=
  let lv := b.shedLevel sc
  match b.shedAt sc with
  | none => b
  | some t =>
    if lv = 0 || 2 < lv then b
    else
      let b := b.reach (t + 100 * ms)
      if b.scopeNow sc ≤ scopeRating sc then b.setShed sc lv none
      else
        let cells := match sc with | .cell _ => scopeCells sc | _ => b.reachable (scopeCells sc)
        (b.shedCells cells (3 - lv)).setShed sc (lv + 1) (some b.now)

def execShedEscalate (sc : ShedScope) (s : State) : Result := s.go fun b => b.shedEscalate sc

/-! ## Clears (R150, R153) -/

/-- A latch was first set less than 10 ms ago. -/
def cooling (now : Nat) (t : Option Nat) : Bool :=
  match t with | some t => decide (now < t + 10 * ms) | none => false

/-- Why a channel's cell takes no write: its island is lost, it is quiesced or in reset (R79). -/
def Block.chRefusal (b : Block) (ch : Nat) : Option Nat := b.unitRefusal (fcOrigin (ch / 8))

/-- Why a clear of the current-limit latch is refused. -/
def Block.clrLimRefusal (b : Block) (ch : Nat) : Option Nat :=
  if b.flag (R.FC_CH_STATUS_PAIR_LATCH ch) then some PAIR_LATCHED
  else if b.flag (limBit ch) && cooling b.now (b.ch ch).core.limAt then some COOLDOWN else none

/-- Why a clear of the hard-short latch is refused. -/
def Block.clrHardRefusal (b : Block) (ch : Nat) : Option Nat :=
  if b.flag (R.FC_CH_STATUS_PAIR_LATCH ch) then some PAIR_LATCHED
  else if b.flag (hardBit ch) && cooling b.now (b.ch ch).core.hardAt then some COOLDOWN else none

/-- After a clear a commanded channel stays off until its next accepted command, its integrator at 0; a load switch follows its net (R150, R174). -/
def Block.afterClear (b : Block) (ch : Nat) : Block :=
  let g := b.lead ch
  let b := b.when (isCommanded (b.fn g)) fun b => (b.modCore g fun k => { k with awaitCmd := true }).modDrv g fun d => { d with integ := 0 }
  b.resolve g

/-- Clear the current-limit latch. -/
def Block.clrLim (b : Block) (ch : Nat) : Block :=
  if b.flag (limBit ch) then ((b.set (limBit ch) 0).modCore ch fun k => { k with limAt := none }).afterClear ch else b

/-- Clear the hard-short latch. -/
def Block.clrHard (b : Block) (ch : Nat) : Block :=
  if b.flag (hardBit ch) then ((b.set (hardBit ch) 0).modCore ch fun k => { k with hardAt := none }).afterClear ch else b

/-- End the shed state; the channel resumes what is in force. -/
def Block.clrShed (b : Block) (ch : Nat) : Block :=
  if b.flag (R.FC_CH_STATUS_SHED ch) then (b.set (R.FC_CH_STATUS_SHED ch) 0).resolve ch else b

/-- The counters of a channel (R150, and chapters 7, 8, 9 and 10 for theirs). -/
def chCounters (ch : Nat) : List Fld :=
  [R.FC_CH_CNT_EV_SOFT ch, R.FC_CH_CNT_EV_BLANKED ch, R.FC_CH_CNT_TRIP_HARD ch, R.FC_CH_CNT_TRIP_LIMIT ch, R.FC_CH_CNT_TRIP_THERM ch, R.FC_CH_CNT_TRIP_SHED ch,
   R.FC_CH_CNT_CMD_SEQ_ERR ch, R.FC_CH_CNT_CMD_REJECT ch, R.FC_CH_CNT_DRV_SHORT ch, R.FC_CH_CNT_DRV_NOKINK ch, R.FC_CH_CNT_DRV_WAITS ch,
   R.FC_CH_CNT_LS_NET_SHORT ch, R.FC_CH_CNT_LS_NET_LATE ch, R.FC_CH_CNT_LS_CLAMP_OVER ch, R.FC_CH_LS_ONCNT_TURN_ON ch, R.FC_CH_DIN_CNT_CHANGES ch]

def execClrLim (ch : Fin 192) (s : State) : Result := s.ask (s.blk.chRefusal ch <|> s.blk.clrLimRefusal ch) fun b => (b.ripen (ch / 8)).clrLim ch
def execClrHard (ch : Fin 192) (s : State) : Result := s.ask (s.blk.chRefusal ch <|> s.blk.clrHardRefusal ch) fun b => (b.ripen (ch / 8)).clrHard ch
def execClrShed (ch : Fin 192) (s : State) : Result := s.ask (s.blk.chRefusal ch) fun b => (b.ripen (ch / 8)).clrShed ch
def execFcClrCnt (ch : Fin 192) (s : State) : Result := s.ask (s.blk.chRefusal ch) fun b => b.clear (chCounters ch)

/-! ## Stop and start of a cell -/

/-- FC_CELL_CTRL.STOP (R82); a quiesced cell refuses every write (R79). -/
def execCellStop (c : Fin 24) (s : State) : Result :=
  s.ask (s.blk.unitRefusal (fcOrigin c)) fun b =>
    if b.runs c then (((b.ripen c).cellStop c .stopped).modCell c fun k => { k with byStop := true }).netsLostCell c else b

/-- FC_CELL_CTRL.START: refused while the grouping fails R139. -/
def execCellStart (c : Fin 24) (s : State) : Result :=
  s.ask (s.blk.unitRefusal (fcOrigin c) <|> if s.blk.groupOk c then none else some BAD_GROUP) fun b =>
    if (b.cell c).run = .stopped && (b.cell c).byStop then b.cellStart c else b

/-! ## Supplies outside the normal range (R163 to R166) -/

/-- The charge target in force, and a reservoir voltage between 46 V and it, in 0.25 V: where a recharge past 46 V stands is not stated (R141). -/
def Block.boostTarget (b : Block) (c : Nat) : Nat := max 184 (b.get (R.FC_CELL_BOOST_LIMIT_V c))
def Block.boostBetween (b : Block) (c : Nat) : Nat := 184 + b.open_ % (b.boostTarget c - 183)

/-- The charger of a cell stops where it is, or resumes (R141). -/
def Block.chargerStops (b : Block) (c : Nat) : Block :=
  if (b.cell c).noCharge then b
  else
    let b := b.when ((b.cell c).charge.isSome && b.flag (R.FC_CELL_STATUS_BOOST_READY c)) fun b => (b.set (R.FC_CELL_BOOST_VOLT c) (b.boostBetween c)).spend
    b.modCell c fun k => { k with charge := none, noCharge := true }

def Block.chargerResumes (b : Block) (c : Nat) : Block := if (b.cell c).noCharge then b.modCell c fun k => { k with charge := some b.now, noCharge := false } else b

/-- A recharge that passed 46 V ends at its target within 2.5 ms (R141). -/
def Block.chargeEnds (b : Block) (c : Nat) : Block :=
  match (b.cell c).charge with
  | some t => if b.flag (R.FC_CELL_STATUS_BOOST_READY c) && decide (t + 2500 * us ≤ b.now) then (b.set (R.FC_CELL_BOOST_VOLT c) (b.boostTarget c)).modCell c fun k => { k with charge := none } else b
  | none => b

/-- A stud's voltage against the limits of the chargers of its cells: they stop below 8.0 V and above 40 V, and resume below 38 V (R141); against the outputs of its sensor supplies (R228). -/
def Block.studVolts (b : Block) (st mv : Nat) : Block :=
  let b := b.each 24 fun k b => b.when (b.fn (24 * st + k) == 9 && b.studShort (24 * st + k)) fun b => b.set (R.FC_CH_SUP_STAT_SUP_LOW (24 * st + k)) 1
  b.eachOf [3 * st, 3 * st + 1, 3 * st + 2] fun c b => if mv < 8000 || 40000 < mv then b.chargerStops c else if mv < 38000 then b.chargerResumes c else b

/-- A stud below 8.0 V for 100 µs turns off every channel of its cells. -/
def Block.studUv (b : Block) (st : Nat) : Block :=
  let b := b.set (R.FC_STUD_STAT_UV st) 1
  b.eachOf [3 * st, 3 * st + 1, 3 * st + 2] fun c b =>
    let b := (b.ripen c).chargerStops c
    let b := b.each 8 fun u b => b.set (R.FC_CH_STATUS_STUD_UV (8 * c + u)) 1
    b.resolveCell c

/-- The stud stands at 8.5 V for 1 ms: load switches follow their nets, commanded channels their last command, integrators at 0. -/
def Block.studRecover (b : Block) (st : Nat) : Block :=
  if !b.flag (R.FC_STUD_STAT_UV st) then b
  else
    let back := (b.scopes.getD st {}).reversed
    let b := { (b.set (R.FC_STUD_STAT_UV st) 0) with scopes := updAt b.scopes st fun k => { k with reversed := false } }
    b.eachOf [3 * st, 3 * st + 1, 3 * st + 2] fun c b =>
      let b := (b.chargerResumes c).when back fun b => b.each 8 fun u b => b.bothOff (8 * c + u)
      let b := b.each 8 fun u b => (b.set (R.FC_CH_STATUS_STUD_UV (8 * c + u)) 0).modDrv (8 * c + u) fun d => { d with integ := 0 }
      b.resolveCell c

def execStudUv (st : Fin 8) (s : State) : Result := s.go fun b => b.studUv st
def execStudRecover (st : Fin 8) (s : State) : Result := s.go fun b => b.studRecover st

/-- The logic loses its supply: nothing of islands 1 to 8 runs until a start (R163, R164). -/
def Block.logicLost (b : Block) : Block :=
  let b := (b.set R.PWR_STATE_STATE 0).set R.PWR_STATUS_LOGIC_VALID 0
  let isl := b.sys.islands.map fun (i : Island) => { i with run := .inReset }
  { b.spend with pwr := { b.pwr with validAt := none, railUp := b.open_ % 2 == 1, pfAt := none }, sys := { b.sys with islands := isl } }

/-- The channels of a stud's cells brought to what their conditions ask. -/
def Block.resolveStud (b : Block) (st : Nat) : Block := b.eachOf [3 * st, 3 * st + 1, 3 * st + 2] fun c b => b.resolveCell c

/-- Every channel off by its power stage (R163). -/
def Block.stageOff (b : Block) : Block := b.each 192 fun ch b => b.bothOff ch

/-- All ground studs lose contact: every channel turns off by its power stage, and the logic loses its return. Whether the always-on rail stays up is open: the reserve guarantees nothing (R163). -/
def execGroundLoss (s : State) : Result := s.go fun b => b.stageOff.logicLost

/-- A supply stands reversed: stud `k`, or with 8 LOGIC_BAT and every stud; the low-side return is blocked and every high-side switch concerned fully on, which lasts until the supply is right again (R164). -/
def Block.reverse (b : Block) (k : Nat) : Block :=
  let b := { b with scopes := updAt b.scopes k fun x => { x with reversed := true } }
  b.eachOf (if k = 8 then List.range 24 else [3 * k, 3 * k + 1, 3 * k + 2]) fun c b => b.resolveCell c

/-- The supplies stand the right way round: channels that the reversal turned on are off until the logic decides (R164, R168). -/
def Block.unreverse (b : Block) : Block := if (b.scopes.getD 8 {}).reversed then ({ b with scopes := b.scopes.map fun x => { x with reversed := false } } : Block).stageOff else b

/-- Reverse voltage: every high-side switch of the cells concerned turns fully on. On LOGIC_BAT and all studs the logic is unpowered and nothing is reported; on one stud its cells report STUD_UV (R164). -/
def execReverseVoltage (st : Option (Fin 8)) (s : State) : Result := s.go fun b =>
  match st with
  | none => (b.logicLost.resolveAll).reverse 8
  | some st => (((b.set (R.FC_STUD_STAT_UV st) 1).each 24 fun k b => b.set (R.FC_CH_STATUS_STUD_UV (24 * st + k)) 1).resolveStud st).reverse st |>.studVolts st 0

/-- A load-dump pulse brings the supplies to a level, clamped at 58 V: channels keep their state; a pin at the stud reads above 40 V with OVR, and above 40 V the boost chargers stop (R137, R141, R165). -/
def execLoadDump (mv : Nat) (s : State) : Result := s.go fun b =>
  let v := min 58000 mv
  let b := (b.each 8 fun st b => (b.set (R.FC_STUD_STAT_VOLT_MV st) v).studVolts st v).set R.PWR_SUPPLY_LOGIC_MV v
  b.when (decide (40000 < v)) fun b => b.each 192 fun ch b => b.when (b.flag (R.FC_CH_STATUS_ON ch)) fun b => b.set (R.FC_CH_STATUS_OVR ch) 1

/-! ## Measurements (R137, R160 to R162) -/

/-- Length of a measurement interval in ns (R160). -/
def Block.interval (b : Block) (ch : Nat) : Nat :=
  if isModulated (b.fn ch) then b.use (R.FC_CH_REPORT_PERIODS ch) * b.use (R.FC_CH_PWM_PERIOD ch) * 10 else b.use (R.FC_CH_REPORT_TICK ch) * 10 * us

/-- SEQ of the SAMPLE that carries an interval (R162); without a route a count of its own, 0 for the first. -/
def Block.seqFor (b : Block) (origin n : Nat) (last : Option Nat) : Nat :=
  match b.route? origin n, last with
  | some st, _ => b.fab.seqs.find (st * 65536 + origin) 0
  | none, none => 0
  | none, some n => (n + 1) % 256

/-- A measurement interval completes; its SEQ is that of the SAMPLE that carries it (R162). It completes with its mean and peak current in mA (of the channel, and summed over its group), its mean pin voltage in mV, and whether a sample read OVR. -/
def Block.measured (b : Block) (ch : Nat) (mean peak gmean gpeak : Int) (mv : Nat) (ovr : Bool) : Block :=
  if !b.runs (ch / 8) then b
  else
    let isOver := ovr || decide (mean < -10240) || decide (30700 < mean) || decide (peak < -10240) || decide (30700 < peak) || decide (40000 < mv)
    let i := clampI (-10240) 30700 mean
    let pk := clampI (-10240) 30700 peak
    let v := min 40000 mv
    let k := (b.ch ch).core
    let start := k.measAt
    let b := (b.reach (start + b.interval ch)).ripen (ch / 8)
    let seq := b.seqFor (chOrigin ch) 0 k.measSeq
    let group := b.lead ch == ch && (b.members ch).length != 1 && b.fn ch != 4
    let status := b2n (b.conducts ch) + 2 * b2n (k.limSeen || b.flag (R.FC_CH_STATUS_IN_LIMIT ch)) + 4 * b2n (b.latched ch) + 8 * b2n isOver +
      16 * b2n (b.flag (R.FC_CH_STATUS_HOT ch)) + 32 * b2n (b.flag (R.FC_CH_STATUS_SHED ch)) + 64 * b2n (b.flag (R.FC_CH_STATUS_FAIL_ACT ch)) + 128 * b2n (b.flag (R.FC_CH_STATUS_STUD_UV ch))
    let data := le 2 (lowBits 16 (satS 16 (if group then gmean else i))) ++ le 2 v ++ le 2 (lowBits 16 (satS 16 (if group then gpeak else pk))) ++ [status, 0]
    let b := b.sample (chOrigin ch) 0 data (if isOver then 128 else 255) true (some (stampOf (b.sys.mtime - (b.now - start))))
    let b := b.when isOver fun b => b.set (R.FC_CH_STATUS_OVR ch) 1
    let b := ((b.seti (R.FC_CH_MEAS_I_I_MA ch) i).set (R.FC_CH_MEAS_I_SEQ ch) seq).set (R.FC_CH_MEAS_I_STALE ch) 0
    let b := (b.setB (R.FC_CH_MEAS_I_OVR ch) isOver).modCore ch fun k => { k with measV := v, measPeak := pk, measSeq := some seq, measAt := b.now, limSeen := false }
    b.when (!isModulated (b.fn ch)) fun b => b.chBoundary ch

def execMeasInterval (ch : Fin 192) (mean peak gmean gpeak : Int) (mv : Nat) (ovr : Bool) (s : State) : Result :=
  s.go fun b => b.measured ch mean peak gmean gpeak mv ovr

/-- A read of FC_CH_MEAS_I latches the voltage and peak of the same interval (R162). -/
def Block.measLatch (b : Block) (ch : Nat) : Block :=
  let k := (b.ch ch).core
  (b.set (R.FC_CH_MEAS_V_V_MV ch) k.measV).seti (R.FC_CH_MEAS_V_I_PEAK_MA ch) k.measPeak

def execFcMeasRead (ch : Fin 192) (s : State) : Result := s.go fun b => b.measLatch ch

/-! ## The boost reservoir (R141, R179) -/

/-- Mean of the two middle values, or the middle one; a half takes the open direction. -/
def medianOf (l : List Nat) : Nat :=
  let s := l.mergeSort fun a b => decide (a ≤ b)
  let n := s.length
  if n % 2 = 1 then s.getD (n / 2) 0
  else
    let x := s.getD (n / 2 - 1) 0 + s.getD (n / 2) 0
    if x % 2 = 1 && Config.roundsUp x 2 then x / 2 + 1 else x / 2

/-- A recharge from below 40 V gives one capacitance estimate (R563); voltages in 0.25 V, the recharge time in ns. -/
def Block.boostEstimate (b : Block) (c vStart t : Nat) : Block :=
  if 160 ≤ vStart then b
  else
    let l := ((6 * t * 16 / (184 ^ 2 - vStart ^ 2)) :: b.hlt.boost.getD c []).take 64
    ({ b with hlt := { b.hlt with boost := updAt b.hlt.boost c fun _ => l } } : Block).set (R.HLT_BSTc_CAP_NF c) (min 65535 (medianOf l))

/-- The reservoir recharges to 46 V: BOOST_READY is set, it goes on to its target, and a queued valve starts (R141, R179). A stopped charger brings it nowhere. The boost target of a new plan holds from this recharge on (R567). -/
def Block.boostReady (b : Block) (c vStart t : Nat) : Block :=
  if (b.cell c).noCharge then b
  else
    let b := ((b.set (R.FC_CELL_STATUS_BOOST_READY c) 1).set (R.FC_CELL_BOOST_VOLT c) (max 184 (b.get (R.FC_CELL_BOOST_VOLT c)))).set (R.FC_CELL_BOOST_LIMIT_V c) (b.hlt.plan.boost.getD c 192)
    ((b.modCell c fun k => { k with charge := some b.now }).serveValves c false).boostEstimate c vStart t

def execBoostReady (c : Fin 24) (vStart t : Nat) (s : State) : Result := s.go fun b => b.boostReady c vStart t

end Sys2Proof.Machine
end

