-- ==== Sys2Proof/Machine/FieldDrive.lean ====
section
/-! DEFINITION. Modulated drive: the carrier, the solenoid loop, the duty window, on/off valves and bridges (chapter 7). -/

namespace Sys2Proof.Machine

open Sys2Proof

/-! ## Period boundaries (R171, R172, R181) -/

/-- The mean pin voltage of a period of PEAK is judged for the closing kink (R181). -/
def Block.kink (b : Block) (ch mv : Nat) : Block :=
  let d := (b.ch ch).drv
  let k := b.use (R.FC_CH_KINK_KINK ch) * 10
  if b.get (R.FC_CH_DRV_STATUS_PHASE ch) ≠ 2 then b
  else
    let start := d.start
    let found := match d.volts with
      | (v1, t1) :: (v0, _) :: _ =>
        d.kinkAt.isNone && k != 0 && decide (v1 + k ≤ v0) && decide (2 * v1 < 2 * mv + k) &&
        decide (d.actStart.getD 0 + b.use (R.FC_CH_KINK_BLANK_MS ch) * ms ≤ t1)
      | _ => false
    let at_ := match d.volts with | (_, t1) :: _ => t1 | _ => 0
    b.modDrv ch fun d => { d with volts := ((mv, start) :: d.volts).take 2, kinkAt := if found then some at_ else d.kinkAt }

/-- A release that was accepted 20 ns before this boundary or earlier turns the valve off (R171, R180). -/
def Block.releaseDue (b : Block) (ch : Nat) : Bool := b.fn ch == 3 && (b.ch ch).drv.releasing.any fun e => decide (e.1 + 20 ≤ b.now)

/-- A PWM period boundary, one period after the last: `mean` and `peak` are the mean and the highest current of the ended period in mA (the group sum at a lead), `mv` is its mean pin voltage. -/
def Block.pwmBoundary (b : Block) (ch : Nat) (mean peak : Int) (mv : Nat) : Block :=
  let ph := b.phaseOf ch
  if !isModulated (b.fn ch) || b.lead ch != ch || b.cellDown (ch / 8) || b.reversed (ch / 8) then b
  else if b.fn ch = 3 && ph < 2 then b
  else
    let b := (b.reach ((b.ch ch).drv.start + b.periodNs ch)).ripen (ch / 8)
    let b := b.when (b.fn ch == 3) fun b => (b.modDrv ch fun d => { d with peakMax := if ph = 2 then max d.peakMax peak else d.peakMax }).kink ch mv
    let b := b.echo ch mean
    if b.releaseDue ch then (b.chBoundary ch).valveDecay ch else b.beginPeriod ch mean

def execPwmBoundary (ch : Fin 192) (mean peak : Int) (mv : Nat) (s : State) : Result := s.goCh ch fun b => b.pwmBoundary ch mean peak mv

/-- A read of FC_CH_ECHO latches FC_CH_ECHO_SEQ (R171). -/
def Block.echoLatch (b : Block) (ch : Nat) : Block :=
  let d := (b.ch ch).drv
  (b.set (R.FC_CH_ECHO_SEQ_PSEQ ch) d.echoSeq).seti (R.FC_CH_ECHO_SEQ_I_MA ch) d.echoI

def execFcEchoRead (ch : Fin 192) (s : State) : Result := s.go fun b => b.echoLatch ch

/-! ## On/off valves (R178 to R182) -/

/-- The reservoir is free and ready and the next queued valve starts BOOST. -/
def execValveQueueStart (c : Fin 24) (s : State) : Result := s.go fun b => (b.ripen c).serveValves c false

/-- BOOST_WAIT expires: the queued valve starts at PEAK without boost. -/
def execBoostWaitExpired (ch : Fin 192) (s : State) : Result := s.goCh ch fun b =>
  match (b.ch ch).drv.waitEnd with
  | none => b
  | some t => if b.flag (R.FC_CH_DRV_STATUS_QUEUED ch) then ((b.reach t).inc (R.FC_CH_CNT_DRV_WAITS ch)).valveStart ch false true else b

/-- BOOST ends with the coil at `cur` mA, `peak` its highest current, and the reservoir at `quarterVolts` × 0.25 V: at PEAK current, at 2 V above the stud, or else when BOOST_MAX has elapsed. PEAK begins, and with it its first period; the reservoir is free and recharges. -/
def Block.boostEnds (b : Block) (ch : Nat) (cur peak : Int) (quarterVolts : Nat) : Block :=
  if b.get (R.FC_CH_DRV_STATUS_PHASE ch) ≠ 1 then b
  else
    let c := ch / 8
    let early := decide ((b.use (R.FC_CH_VALVE_PEAK ch) * 50 : Nat) ≤ cur) || decide (250 * quarterVolts ≤ b.get (R.FC_STUD_STAT_VOLT_MV (studOf c)) + 2000)
    let b := if early then b else b.reach ((b.ch ch).drv.phaseEnd.getD b.now)
    let b := ((b.set (R.FC_CELL_BOOST_VOLT c) (min 255 quarterVolts)).setB (R.FC_CELL_STATUS_BOOST_READY c) (decide (184 ≤ quarterVolts))).modCell c fun k => { k with boost := none, charge := if k.noCharge then none else some b.now }
    let b := (b.set (R.FC_CH_DRV_STATUS_PHASE ch) 2).modDrv ch fun d => { d with
      peakMax := max d.peakMax (max cur peak), meanPrev := cur, phaseEnd := some (d.actStart.getD b.now + b.use (R.FC_CH_VALVE_PEAK_MS ch) * ms) }
    (b.beginPeriod ch cur).serveValves c false

def execValveBoostEnd (ch : Fin 192) (cur peak : Int) (quarterVolts : Nat) (s : State) : Result := s.goCh ch fun b => b.boostEnds ch cur peak quarterVolts

/-- PEAK_MS elapses: the valve enters HOLD and its result completes (R181); `peak` is the highest current of the running period so far. -/
def execValvePeakEnd (ch : Fin 192) (peak : Int) (s : State) : Result := s.goCh ch fun b =>
  let d := (b.ch ch).drv
  if b.get (R.FC_CH_DRV_STATUS_PHASE ch) ≠ 2 then b
  else
    let b := b.reach (d.phaseEnd.getD b.now)
    let close := match d.kinkAt with
      | some t => min 0xFFFD ((t - d.actStart.getD 0) / (10 * us))
      | none => 0xFFFF
    ((b.set (R.FC_CH_DRV_STATUS_PHASE ch) 3).modDrv ch fun d => { d with phaseEnd := none, peakMax := max d.peakMax peak }).valveResult ch close

/-- After a release the coil current falls below 50 mA: both switches are off. -/
def execReleaseDecayEnd (ch : Fin 192) (s : State) : Result := s.goCh ch fun b =>
  if (b.ch ch).drv.decaying then ((b.modDrv ch fun d => { d with decaying := false }).modCore ch fun k => { k with clamped := false }).bothOff ch else b

/-! ## The duty window (R176, R177) -/

/-- The window limit times 256 in mA². -/
def Block.dutyLimit256 (b : Block) (g : Nat) : Nat := b.fracEff g * (4000 * b.shares g) ^ 2

/-- A slot ends with the mean of i² over its samples, in mA². While DUTY_CAP is in force, DUTY_ACT 1 turns an unmodulated output off with its latch (R177). -/
def Block.dutySlot (b : Block) (g squares : Nat) : Block :=
  if !isOutput (b.fn g) || b.lead g != g then b
  else
    let b := (b.modDrv g fun d => { d with slots := (squares :: d.slots).take 64 }).modCore g fun k => { k with derFrac := b.get (R.HLT_CHc_DERATE g) }
    let sum := (b.ch g).drv.slots.sum
    let l := b.dutyLimit256 g
    let b := b.set (R.FC_CH_DUTY_MEAN_LOAD g) (if l = 0 then 65535 else min 65535 (sum * 256 * 4096 / (64 * l)))
    let cap := R.FC_CH_DRV_STATUS_DUTY_CAP g
    let was := b.flag cap
    let b := if 64 * l ≤ sum * 256 then
        b.when (!was) fun b => ((b.set cap 1).modDrv g fun d => { d with cap := 32767 }).raise (chOrigin g) (R.FC_CH_DRV_STATUS_DUTY_EV g)
      else b.when (was && decide (16 * sum * 256 < 15 * 64 * l)) fun b => b.set cap 0
    if b.flag cap then (if isModulated (b.fn g) then b else (b.dutyLatch g).resolve g)
    else if was && (b.ch g).drv.defer then b.valveAsk g
    else b

def execDutySlotEnd (ch : Fin 192) (squares : Nat) (s : State) : Result := s.goCh ch fun b => b.dutySlot ch squares

/-- After a reload of the cell or island the window is preset to 7/8 of the limit. -/
def Block.dutyPreset (b : Block) (ch : Nat) : Block :=
  b.modDrv ch fun d => { d with slots := List.replicate 64 (7 * b.dutyLimit256 ch / 2048) }

/-! ## Bridges (R186) -/

/-- Why CLR_PAIR is refused. -/
def Block.clrPairRefusal (b : Block) (ch : Nat) : Option Nat :=
  if b.fn ch ≠ 4 || ch % 2 ≠ 0 then some BAD_GROUP
  else if [ch, ch + 1].any (fun c => cooling b.now (b.ch c).core.limAt || cooling b.now (b.ch c).core.hardAt) then some COOLDOWN
  else none

/-- CLR_PAIR at the lead clears the pair latch and both legs' latches; the pair stays off until its next accepted command. -/
def Block.clrPair (b : Block) (g : Nat) : Block :=
  let clear := fun (c : Nat) (b : Block) => (((b.set (R.FC_CH_STATUS_PAIR_LATCH c) 0).set (limBit c) 0).set (hardBit c) 0).modCore c fun k => { k with limAt := none, hardAt := none }
  if b.latched g || b.latched (g + 1) then (b.eachOf [g, g + 1] clear).afterClear g else b

def execClrPair (ch : Fin 192) (s : State) : Result := s.ask (s.blk.chRefusal ch <|> s.blk.clrPairRefusal ch) fun b => (b.ripen (ch / 8)).clrPair ch

end Sys2Proof.Machine
end

