-- ==== Sys2Proof/Machine/FieldNet.lean ====
section
/-! DEFINITION. Load switches: control nets, FORCE, FREEZE and turn-off energy (chapter 8). -/

namespace Sys2Proof.Machine

open Sys2Proof

/-- A source whose stream is the net of a load switch: the digital input of another field island, or the event input, that FC_CH_NET names (Table 8.1). -/
def Block.netStreams (b : Block) (ch origin : Nat) : Bool :=
  match b.get (R.FC_CH_NET_SRC ch) with
  | 1 => b.get (R.FC_CH_NET_SRC_CH ch) / 64 != ch / 64 && origin == chOrigin (b.get (R.FC_CH_NET_SRC_CH ch))
  | 2 => origin == org 4 6 2
  | 3 => origin == org 4 6 3
  | _ => false

/-- A net-stream SAMPLE of LENGTH 4 arrives from a source outside the field island: its level is applied at STAMP + DELAY, or at once when that instant has passed (R190). One of another LENGTH is no net packet, and a net that FC_CH_NET takes from elsewhere has no stream (log entry 148). -/
def Block.netPacket (b : Block) (ch : Nat) (p : Packet) : Block :=
  if b.fn ch ≠ 1 || b.lead ch ≠ ch || b.cellDown (ch / 8) || !b.netStreams ch p.origin || p.data.length ≠ 4 then b
  else
    let level := bit (bytesAt p.data 0 1) 0
    let uns := bit (bytesAt p.data 0 1) 1 || p.masked || p.conf == 0
    let d := (p.stamp + b.get (R.FC_CH_NET_DELAY ch) * 10 + 2 ^ 32 - b.stamp) % 2 ^ 32
    let t := b.now + d * us - b.sys.mtime % 1000
    if d < 2 ^ 31 && b.now ≤ t then b.modNet ch fun n => { n with queue := n.queue ++ [(t, level, uns)] }
    else
      let b := b.modNet ch fun n => { n with queue := [] }
      (((b.set (R.FC_CH_LS_STATUS_NET_LATE_EV ch) 1).inc (R.FC_CH_CNT_LS_NET_LATE ch)).netLevel ch level uns)

def execNetPacket (ch : Fin 192) (p : Packet) (s : State) : Result := s.goCh ch fun b => if b.heard p then b.netPacket ch p else b

/-- What is left of the queue when its first level, an edge at `t`, ends within 20 µs and is suppressed with the edge that ends it (R191). -/
def shortPulse (t : Nat) (level : Bool) (rest : List (Nat × Bool × Bool)) : Option (List (Nat × Bool × Bool)) :=
  match rest.dropWhile fun e => e.2.1 == level && !e.2.2 with
  | (t2, _, false) :: r => if t2 < t + 20 * us then some r else none
  | _ => none

/-- The instant of the next queued level arrives; a pulse or gap shorter than 20 µs is suppressed whole (R191). -/
def Block.netApply (b : Block) (ch : Nat) : Block :=
  match (b.ch ch).net.queue with
  | [] => b
  | (t, level, uns) :: rest =>
    let b := b.reach t
    match if level != (b.ch ch).net.level && !uns then shortPulse t level rest else none with
    | some r => ((b.modNet ch fun n => { n with queue := r }).set (R.FC_CH_LS_STATUS_NET_SHORT_EV ch) 1).inc (R.FC_CH_CNT_LS_NET_SHORT ch)
    | none => (b.modNet ch fun n => { n with queue := rest }).netLevel ch level uns

def execNetApply (ch : Fin 192) (clamp : Option Nat) (s : State) : Result := s.goCh ch fun b => b.withClamp ch clamp fun b => b.netApply ch

/-- NET_BIT or FORCE was written: NET_SILENT clears and its time runs anew (R196). -/
def Block.netWritten (b : Block) (ch : Nat) : Block :=
  (b.set (R.FC_CH_LS_STATUS_NET_SILENT ch) 0).modNet ch fun n => { n with writeAt := b.now }

/-- A write of NET_BIT; outside function 0x1 it has no effect. -/
def Block.netBit (b : Block) (ch : Nat) (v : Bool) : Block :=
  if b.fn ch ≠ 1 then b
  else
    let b := (b.setB (R.FC_CH_LS_CTRL_NET_BIT ch) v).netWritten ch
    if b.get (R.FC_CH_NET_SRC ch) = 0 && b.lead ch = ch then b.netLevel ch v false else b

def execNetBitWrite (ch : Fin 192) (v : Bool) (clamp : Option Nat) (s : State) : Result :=
  s.ask (s.blk.chRefusal ch) fun b => (b.ripen (ch / 8)).withClamp ch clamp fun b => b.netBit ch v

/-- A write of FORCE: 1 off, 2 on, 0 back under the rule; 3 reads 0. -/
def Block.force (b : Block) (ch v : Nat) : Block :=
  if b.fn ch ≠ 1 then b
  else
    let b := (b.set (R.FC_CH_LS_CTRL_FORCE ch) (if v = 3 then 0 else v)).netWritten ch
    if b.lead ch = ch then b.resolve ch else b

def execForceWrite (ch : Fin 192) (v : Fin 4) (clamp : Option Nat) (s : State) : Result :=
  s.ask (s.blk.chRefusal ch) fun b => (b.ripen (ch / 8)).withClamp ch clamp fun b => b.force ch v

/-- A write of FC_CELL_LS.FREEZE freezes or releases the load switches of a cell; island 0 mirrors it (R195). -/
def Block.freeze (b : Block) (c : Nat) (v : Bool) : Block :=
  let b := b.when (v && !b.flag (R.FC_CELL_LS_FREEZE c)) fun b =>
    b.each 8 fun u b => b.modNet (8 * c + u) fun n => { n with frozen := b.flag (R.FC_CH_STATUS_ON (8 * c + u)) }
  ((b.setB (R.FC_CELL_LS_FREEZE c) v).modCell c fun k => { k with freeze := v }).resolveCell c

def execFreezeWrite (c : Fin 24) (v : Bool) (s : State) : Result := s.ask (s.blk.unitRefusal (fcOrigin c)) fun b => (b.ripen c).freeze c v

/-- No write of NET_BIT or FORCE for REFRESH_MS sets NET_SILENT and sends an EVENT; the output does not change (R196). -/
def execNetSilent (ch : Fin 192) (s : State) : Result := s.go fun b =>
  let r := b.get (R.FC_CH_LS_SILENT_REFRESH_MS ch)
  if b.fn ch ≠ 1 || b.lead ch ≠ ch || r = 0 || b.flag (R.FC_CH_LS_STATUS_NET_SILENT ch) then b
  else (b.reach ((b.ch ch).net.writeAt + r * ms)).raise (chOrigin ch) (R.FC_CH_LS_STATUS_NET_SILENT ch)

end Sys2Proof.Machine
end

