-- ==== Sys2Proof/Machine/RegTableCtl.lean ====
section
/-! DEFINITION. The register tables of the spec as data (Ctl group): where each register lies, its fields, their access, change class, reset value and read-back rule.
Reserved bits are not listed: they read 0 and a write to them has no effect (R569). -/

namespace Sys2Proof.Machine.T

open RegAcc Cls

/-- Registers of chapter 11, part 0. -/
def rows11_0 : List RegRow := [
  -- LE_CTRL
  ⟨0x43000000, [], [⟨0, 1, [0], wo, L, []⟩, ⟨1, 1, [0], wo, L, []⟩, ⟨2, 1, [0], wo, L, []⟩]⟩,
  -- LE_STATUS
  ⟨0x43000004, [], [⟨0, 2, [0], ro, L, []⟩, ⟨8, 4, [0], ro, L, []⟩]⟩,
  -- LE_INFO
  ⟨0x43000008, [], [⟨0, 11, [0], ro, L, []⟩, ⟨16, 13, [0], ro, L, []⟩]⟩,
  -- LE_GRAPH_EN0
  ⟨0x43000010, [], [⟨0, 32, [1], ro, L, []⟩]⟩,
  -- LE_GRAPH_EN1
  ⟨0x43000014, [], [⟨0, 32, [0], ro, L, []⟩]⟩,
  -- LE_GRPg_FRAME
  ⟨0x43000100, [(4, 0x20)], [⟨0, 32, [0], ro, L, []⟩]⟩,
  -- LE_GRPg_LAST
  ⟨0x43000104, [(4, 0x20)], [⟨0, 32, [0], ro, L, []⟩]⟩,
  -- LE_GRPg_MAX
  ⟨0x43000108, [(4, 0x20)], [⟨0, 32, [0], ro, L, []⟩]⟩,
  -- LE_GRPg_BUDGET
  ⟨0x4300010C, [(4, 0x20)], [⟨0, 32, [0], ro, L, []⟩]⟩,
  -- LE_GRPg_OVR
  ⟨0x43000110, [(4, 0x20)], [⟨0, 16, [0], ro, L, []⟩, ⟨16, 1, [0], w1c, L, []⟩, ⟨17, 1, [0], ro, L, []⟩, ⟨24, 8, [0], ro, L, []⟩]⟩,
  -- LE_GRPg_REALIGN
  ⟨0x43000114, [(4, 0x20)], [⟨0, 16, [0], ro, L, []⟩]⟩,
  -- LE_GRPg_OBS
  ⟨0x43000118, [(4, 0x20)], [⟨0, 16, [0], ro, L, []⟩]⟩,
  -- LE_PROBEn
  ⟨0x43000400, [(64, 0x4)], [⟨0, 12, [0], rw, S, []⟩, ⟨12, 1, [0], rw, S, []⟩, ⟨15, 1, [0], rw, S, []⟩]⟩,
  -- LE_INSTi_W0
  ⟨0x43100000, [(4096, 0x80)], [⟨0, 8, [0], rw, H, []⟩, ⟨8, 2, [0], rw, H, []⟩, ⟨10, 6, [0], rw, H, []⟩, ⟨16, 11, [0], rw, H, []⟩]⟩,
  -- LE_INSTi_W1
  ⟨0x43100004, [(4096, 0x80)], [⟨0, 8, [0], rw, H, []⟩, ⟨8, 8, [0], rw, H, []⟩, ⟨16, 2, [0], rw, H, [.deny 3 3 0x68]⟩]⟩,
  -- LE_INSTi_W2
  ⟨0x43100008, [(4096, 0x80)], [⟨0, 8, [1], rw, S, [.remap 0 0 1]⟩, ⟨8, 8, [255], rw, S, [.remap 0 0 1]⟩, ⟨16, 8, [255], rw, S, []⟩, ⟨24, 1, [1], rw, S, []⟩]⟩,
  -- LE_INSTi_W3
  ⟨0x4310000C, [(4096, 0x80)], []⟩,
  -- LE_INSTi_Wk
  ⟨0x43100010, [(4096, 0x80), (4, 0x4)], [⟨0, 12, [0], rw, H, []⟩, ⟨12, 1, [0], rw, H, []⟩, ⟨13, 1, [0], rw, H, []⟩, ⟨15, 1, [0], rw, H, []⟩, ⟨16, 16, [0], rw, H, []⟩]⟩,
  -- LE_SIGi_VAL0
  ⟨0x43300000, [(4096, 0x10)], [⟨0, 32, [0], rs, L, []⟩]⟩,
  -- LE_SIGi_STAT0
  ⟨0x43300004, [(4096, 0x10)], [⟨0, 8, [0], ro, L, []⟩, ⟨8, 1, [0], ro, L, []⟩, ⟨9, 1, [1], ro, L, []⟩, ⟨10, 1, [0], ro, L, []⟩, ⟨11, 1, [0], ro, L, []⟩, ⟨16, 16, [0], ro, L, []⟩]⟩
]

/-- Registers of chapter 11, part 1. -/
def rows11_1 : List RegRow := [
  -- LE_SIGi_STAT1
  ⟨0x4330000C, [(4096, 0x10)], [⟨0, 8, [0], ro, L, []⟩, ⟨8, 1, [0], ro, L, []⟩, ⟨9, 1, [1], ro, L, []⟩, ⟨10, 1, [0], ro, L, []⟩, ⟨11, 1, [0], ro, L, []⟩, ⟨16, 16, [0], ro, L, []⟩]⟩,
  -- LE_SIGi_VAL1
  ⟨0x43300008, [(4096, 0x10)], [⟨0, 32, [0], ro, L, []⟩]⟩,
  -- LE_EVTi
  ⟨0x43340000, [(4096, 0x4)], [⟨0, 1, [0], w1c, L, []⟩, ⟨1, 1, [0], w1c, L, []⟩, ⟨2, 1, [0], w1c, L, []⟩, ⟨3, 1, [0], w1c, L, []⟩, ⟨4, 1, [0], w1c, L, []⟩, ⟨5, 1, [0], w1c, L, []⟩, ⟨6, 1, [0], w1c, L, []⟩, ⟨7, 1, [0], w1c, L, []⟩, ⟨8, 1, [0], w1c, L, []⟩, ⟨9, 3, [0], ro, L, []⟩, ⟨16, 16, [0], ro, L, []⟩]⟩,
  -- loop engine instance parameters P0 to P23 (words 8 to 31 of an instance)
  ⟨0x43100020, [(4096, 0x80), (24, 0x4)], [⟨0, 32, [0], rw, S, []⟩]⟩,
  -- loop engine table memory
  ⟨0x43200000, [(65536, 0x4)], [⟨0, 32, [0], rw, S, []⟩]⟩
]

/-- Registers of chapter 12, part 0. -/
def rows12_0 : List RegRow := [
  -- SOL_CTRL
  ⟨0x43800000, [], [⟨0, 1, [0], wo, L, []⟩, ⟨1, 1, [0], wo, L, []⟩, ⟨2, 1, [0], wo, L, []⟩, ⟨3, 1, [0], wo, L, []⟩]⟩,
  -- SOL_STATUS
  ⟨0x43800004, [], [⟨0, 2, [0], ro, L, []⟩, ⟨8, 6, [0], ro, L, []⟩, ⟨16, 7, [0], ro, L, []⟩, ⟨24, 4, [0], ro, L, []⟩]⟩,
  -- SOL_CFG
  ⟨0x43800008, [], [⟨0, 7, [64], rw, S, [.clamp 1 64]⟩, ⟨8, 5, [30], rw, S, [.clamp 5 30]⟩]⟩,
  -- SOL_HOLD
  ⟨0x4380000C, [], [⟨0, 8, [16], rw, S, []⟩, ⟨8, 8, [16], rw, S, []⟩]⟩,
  -- SOL_RES_STAT
  ⟨0x43800010, [], [⟨0, 3, [0], rs, L, []⟩, ⟨3, 1, [1], ro, L, []⟩, ⟨4, 7, [0], ro, L, []⟩, ⟨12, 7, [0], ro, L, []⟩, ⟨20, 3, [0], ro, L, []⟩, ⟨24, 8, [0], ro, L, []⟩]⟩,
  -- SOL_RES_SEQ
  ⟨0x43800014, [], [⟨0, 32, [0], ro, L, []⟩]⟩,
  -- SOL_RES_TIME
  ⟨0x43800018, [], [⟨0, 16, [0], ro, L, []⟩, ⟨16, 7, [0], ro, L, []⟩, ⟨24, 7, [0], ro, L, []⟩]⟩,
  -- SOL_RES_VIOL
  ⟨0x4380001C, [], [⟨0, 7, [0], ro, L, []⟩, ⟨8, 24, [0], ro, L, []⟩]⟩,
  -- SOL_CNT_A
  ⟨0x43800020, [], [⟨0, 16, [0], ro, L, []⟩, ⟨16, 16, [0], ro, L, []⟩]⟩,
  -- SOL_CNT_B
  ⟨0x43800024, [], [⟨0, 16, [0], ro, L, []⟩, ⟨16, 16, [0], ro, L, []⟩]⟩,
  -- SOL_CNT_MODEL
  ⟨0x43800028, [], [⟨0, 16, [0], ro, L, []⟩, ⟨16, 16, [0], ro, L, []⟩]⟩,
  -- SOL_MAX_T
  ⟨0x4380002C, [], [⟨0, 16, [0], ro, L, []⟩]⟩,
  -- SOL_BUDGET
  ⟨0x43800030, [], [⟨0, 16, [0], ro, L, []⟩]⟩,
  -- SOL_FF
  ⟨0x43800040, [], [⟨0, 8, [128], rw, S, []⟩, ⟨8, 8, [16], rw, S, []⟩]⟩,
  -- SOL_FF_STAT
  ⟨0x43800044, [], [⟨0, 16, [4096], ro, L, []⟩, ⟨16, 8, [0], ro, L, []⟩, ⟨24, 8, [0], ro, L, []⟩]⟩,
  -- SOL_FEED
  ⟨0x43800048, [], [⟨0, 16, [0], rw, H, []⟩, ⟨16, 5, [0], rw, H, []⟩]⟩,
  -- SOL_VARi_CFG
  ⟨0x43800200, [(32, 0x40)], [⟨0, 8, [0], rw, H, []⟩, ⟨8, 5, [0], rw, H, []⟩]⟩,
  -- SOL_VARi_LO
  ⟨0x43800204, [(32, 0x40)], [⟨0, 32, [0], rw, H, []⟩]⟩,
  -- SOL_VARi_HI
  ⟨0x43800208, [(32, 0x40)], [⟨0, 32, [0], rw, H, []⟩]⟩,
  -- SOL_VARi_OPLO
  ⟨0x4380020C, [(32, 0x40)], [⟨0, 32, [0], rw, S, []⟩]⟩
]

/-- Registers of chapter 12, part 1. -/
def rows12_1 : List RegRow := [
  -- SOL_VARi_OPHI
  ⟨0x43800210, [(32, 0x40)], [⟨0, 32, [0], rw, S, []⟩]⟩,
  -- SOL_VARi_MOVE
  ⟨0x43800214, [(32, 0x40)], [⟨0, 32, [1], rw, S, [.remap 0 0 1]⟩]⟩,
  -- SOL_VARi_W
  ⟨0x43800218, [(32, 0x40)], [⟨0, 16, [256], rw, S, [.remap 0 0 1]⟩, ⟨16, 16, [0], rw, S, []⟩]⟩,
  -- SOL_VARi_REF
  ⟨0x4380021C, [(32, 0x40)], [⟨0, 32, [0], rw, S, []⟩]⟩,
  -- SOL_VARi_STATE
  ⟨0x43800220, [(32, 0x40)], [⟨0, 1, [0], ro, L, []⟩, ⟨1, 3, [0], ro, L, []⟩, ⟨4, 2, [0], ro, L, []⟩]⟩,
  -- SOL_VARi_FIX
  ⟨0x43800224, [(32, 0x40)], [⟨0, 1, [0], rw, S, []⟩]⟩,
  -- SOL_VARi_FIXVAL
  ⟨0x43800228, [(32, 0x40)], [⟨0, 32, [0], rw, S, []⟩]⟩,
  -- SOL_RES_Xi
  ⟨0x43800100, [(32, 0x4)], [⟨0, 32, [0], ro, L, []⟩]⟩,
  -- SOL_MEASm_CFG
  ⟨0x43800A00, [(8, 0x40)], [⟨0, 8, [0], rw, H, []⟩, ⟨8, 1, [0], rw, H, []⟩, ⟨9, 1, [0], rw, H, []⟩, ⟨10, 1, [0], rw, H, []⟩, ⟨16, 6, [0], rw, H, [.clamp 0 50]⟩, ⟨24, 4, [0], rw, H, []⟩]⟩,
  -- SOL_MEASm_MASK
  ⟨0x43800A04, [(8, 0x40)], [⟨0, 32, [0], rw, H, []⟩]⟩,
  -- SOL_MEASm_W
  ⟨0x43800A08, [(8, 0x40)], [⟨0, 16, [0], rw, S, []⟩, ⟨16, 8, [0], rw, S, []⟩, ⟨24, 8, [0], rw, H, []⟩]⟩,
  -- SOL_MEASm_NORM
  ⟨0x43800A0C, [(8, 0x40)], [⟨0, 32, [1], rw, S, [.remap 0 0 1]⟩]⟩,
  -- SOL_MEASm_TARGET
  ⟨0x43800A10, [(8, 0x40)], [⟨0, 32, [0], rw, S, []⟩]⟩,
  -- SOL_MEASm_EST
  ⟨0x43800A14, [(8, 0x40)], [⟨0, 16, [65208], rw, S, [.clamp 58982 65536]⟩, ⟨16, 8, [8], rw, S, []⟩, ⟨24, 8, [64], rw, S, []⟩]⟩,
  -- SOL_MEASm_STATE
  ⟨0x43800A18, [(8, 0x40)], [⟨0, 8, [0], ro, L, []⟩, ⟨8, 8, [0], ro, L, []⟩, ⟨16, 16, [0], ro, L, []⟩]⟩,
  -- SOL_MEASm_SQ
  ⟨0x43800A1C, [(8, 0x40)], [⟨0, 32, [0], ro, L, []⟩]⟩,
  -- SOL_MEASm_Sk
  ⟨0x43800A20, [(8, 0x40), (8, 0x4)], [⟨0, 32, [0], ro, L, []⟩]⟩,
  -- SOL_ROWj_CFG
  ⟨0x43820000, [(96, 0x10)], [⟨0, 2, [0], rw, H, [.deny 3 3 0x6A]⟩, ⟨2, 3, [0], rw, H, []⟩, ⟨5, 1, [0], rw, S, []⟩, ⟨8, 3, [0], rw, H, []⟩]⟩,
  -- SOL_ROWj_B
  ⟨0x43820004, [(96, 0x10)], [⟨0, 32, [0], rw, S, []⟩]⟩,
  -- SOL_ROWj_NORM
  ⟨0x43820008, [(96, 0x10)], [⟨0, 32, [1], rw, S, [.remap 0 0 1]⟩]⟩
]

/-- Registers of chapter 12, part 2. -/
def rows12_2 : List RegRow := [
  -- SOL_ROWj_STATE
  ⟨0x4382000C, [(96, 0x10)], [⟨0, 1, [0], ro, L, []⟩, ⟨1, 1, [0], ro, L, []⟩]⟩,
  -- SOL_INk_SRC
  ⟨0x43830000, [(64, 0x10)], [⟨0, 16, [0], rw, H, []⟩, ⟨16, 12, [0], rw, H, []⟩, ⟨28, 4, [0], rw, H, []⟩]⟩,
  -- SOL_INk_CFG
  ⟨0x43830004, [(64, 0x10)], [⟨0, 5, [0], rw, H, []⟩, ⟨8, 8, [10], rw, H, [.remap 0 0 1]⟩, ⟨16, 4, [0], rw, H, [.deny 9 15 0x6A]⟩, ⟨20, 7, [0], rw, H, []⟩, ⟨28, 2, [0], rw, H, []⟩]⟩,
  -- SOL_INk_STAT
  ⟨0x43830008, [(64, 0x10)], [⟨0, 8, [0], ro, L, []⟩, ⟨8, 1, [0], ro, L, []⟩, ⟨9, 1, [1], ro, L, []⟩, ⟨10, 1, [0], ro, L, []⟩, ⟨11, 1, [0], w1c, L, []⟩]⟩,
  -- solver row coefficients
  ⟨0x43810000, [(96, 0x80), (32, 0x4)], [⟨0, 32, [0], rw, H, []⟩]⟩
]

/-- Registers of chapter 13, part 0. -/
def rows13_0 : List RegRow := [
  -- FUS_CTRL
  ⟨0x44000000, [], [⟨0, 1, [0], wo, L, []⟩, ⟨1, 1, [0], wo, L, []⟩, ⟨2, 1, [0], wo, L, []⟩, ⟨3, 1, [0], wo, L, []⟩]⟩,
  -- FUS_STATUS
  ⟨0x44000004, [], [⟨0, 3, [0], ro, L, []⟩, ⟨16, 9, [0], ro, L, []⟩]⟩,
  -- FUS_CFG
  ⟨0x44000008, [], [⟨0, 3, [1], rw, H, [.remap 5 7 4]⟩, ⟨16, 11, [250], rw, S, [.clamp 5 2000]⟩]⟩,
  -- FUS_MASKED
  ⟨0x4400000C, [], [⟨0, 16, [0], ro, L, []⟩]⟩,
  -- FUS_TIMERS
  ⟨0x44000010, [], [⟨0, 13, [1000], rw, S, [.clamp 100 5000]⟩, ⟨16, 13, [5000], rw, S, [.clamp 1000 8000]⟩]⟩,
  -- FUS_CONF_DOWN
  ⟨0x44000014, [], [⟨0, 8, [32], rw, S, []⟩, ⟨8, 8, [4], rw, S, [.remap 0 0 1]⟩]⟩,
  -- FUS_INIT
  ⟨0x44000018, [], [⟨0, 16, [500], rw, S, [.remap 0 0 1]⟩]⟩,
  -- FUS_CONFMAPg
  ⟨0x44000020, [(4, 0x4)], [⟨0, 16, [20, 20, 17, 17], rw, S, []⟩, ⟨16, 16, [2000, 1000, 870, 870], rw, S, [.atLeast 0 0 16 1]⟩]⟩,
  -- FUS_ST_STAT
  ⟨0x44000040, [], [⟨0, 1, [1], ro, L, []⟩]⟩,
  -- FUS_ST_Wn
  ⟨0x44000044, [(20, 0x4)], [⟨0, 32, [0], rs, L, []⟩]⟩,
  -- FUS_CNT_EPOCH
  ⟨0x440000A0, [], [⟨0, 16, [0], ro, L, []⟩, ⟨16, 8, [0], ro, L, []⟩, ⟨24, 8, [0], ro, L, []⟩]⟩,
  -- FUS_CNT_REINIT
  ⟨0x440000A4, [], [⟨0, 16, [0], ro, L, []⟩]⟩,
  -- FUS_MAX_LAT
  ⟨0x440000A8, [], [⟨0, 16, [0], ro, L, []⟩]⟩,
  -- FUS_INi_SRC
  ⟨0x44000400, [(16, 0x40)], [⟨0, 16, [0], rw, H, []⟩, ⟨16, 4, [0], rw, H, []⟩, ⟨20, 2, [0], rw, H, []⟩]⟩,
  -- FUS_INi_TIME
  ⟨0x44000404, [(16, 0x40)], [⟨0, 16, [100], rw, H, [.remap 0 0 1]⟩, ⟨16, 16, [0], rw, H, []⟩]⟩,
  -- FUS_INi_DROP
  ⟨0x44000408, [(16, 0x40)], [⟨0, 13, [200], rw, S, [.clamp 10 5000]⟩]⟩,
  -- FUS_INi_CHK
  ⟨0x4400040C, [(16, 0x40)], [⟨0, 8, [64], rw, S, [.remap 0 0 1]⟩, ⟨8, 8, [64], rw, S, []⟩, ⟨16, 8, [8], rw, S, []⟩, ⟨24, 8, [128], rw, S, [.remap 0 0 1]⟩]⟩,
  -- FUS_INi_REJOIN
  ⟨0x44000410, [(16, 0x40)], [⟨0, 16, [50], rw, S, [.remap 0 0 1]⟩, ⟨16, 8, [1], rw, S, [.remap 0 0 1]⟩]⟩,
  -- FUS_INi_SIGMA
  ⟨0x44000414, [(16, 0x40)], [⟨0, 16, [0], rw, S, [.remap 0 0 1]⟩]⟩,
  -- FUS_INi_SCALE
  ⟨0x44000418, [(16, 0x40)], [⟨0, 32, [0], rw, S, []⟩]⟩
]

/-- Registers of chapter 13, part 1. -/
def rows13_1 : List RegRow := [
  -- FUS_INi_ARM_X
  ⟨0x4400041C, [(16, 0x40)], [⟨0, 32, [0], rw, H, []⟩]⟩,
  -- FUS_INi_ARM_Y
  ⟨0x44000420, [(16, 0x40)], [⟨0, 32, [0], rw, H, []⟩]⟩,
  -- FUS_INi_ARM_Z
  ⟨0x44000424, [(16, 0x40)], [⟨0, 32, [0], rw, H, []⟩]⟩,
  -- FUS_INi_ROT_RP
  ⟨0x44000428, [(16, 0x40)], [⟨0, 16, [0], rw, H, []⟩, ⟨16, 16, [0], rw, H, []⟩]⟩,
  -- FUS_INi_ROT_Y
  ⟨0x4400042C, [(16, 0x40)], [⟨0, 16, [0], rw, H, []⟩]⟩,
  -- FUS_INi_STAT
  ⟨0x44000430, [(16, 0x40)], [⟨0, 8, [255], ro, L, []⟩, ⟨8, 1, [0], ro, L, []⟩, ⟨9, 2, [0], ro, L, []⟩, ⟨11, 1, [0], w1c, L, []⟩, ⟨12, 1, [0], w1c, L, []⟩, ⟨13, 1, [0], w1c, L, []⟩, ⟨16, 16, [0], ro, L, []⟩]⟩,
  -- FUS_INi_CNT
  ⟨0x44000434, [(16, 0x40)], [⟨0, 16, [0], ro, L, []⟩, ⟨16, 16, [0], ro, L, []⟩]⟩,
  -- FUS_INi_CTRL
  ⟨0x44000438, [(16, 0x40)], [⟨0, 1, [0], rw, L, []⟩]⟩
]

/-- All rows of the group. -/
def rowsCtl : List RegRow :=
  rows11_0 ++ rows11_1 ++ rows12_0 ++ rows12_1 ++ rows12_2 ++ rows13_0 ++ rows13_1

end Sys2Proof.Machine.T
end

