-- ==== Sys2Proof/Machine/RegTableField.lean ====
section
/-! DEFINITION. The register tables of the spec as data (Field group): where each register lies, its fields, their access, change class, reset value and read-back rule.
Reserved bits are not listed: they read 0 and a write to them has no effect (R569). -/

namespace Sys2Proof.Machine.T

open RegAcc Cls

/-- Registers of chapter 06, part 0. -/
def rows06_0 : List RegRow := [
  -- FC_CH_FUNC
  ⟨0x41000000, [(24, 0x10000), (8, 0x100)], [⟨0, 4, [0], rw, H, []⟩, ⟨4, 2, [0], rw, H, [.deny 3 3 0x52]⟩, ⟨8, 2, [3], rw, L, []⟩]⟩,
  -- FC_CH_PROT
  ⟨0x41000004, [(24, 0x10000), (8, 0x100)], [⟨0, 8, [240], rw, S, [.clamp 10 240]⟩, ⟨8, 5, [5], rw, S, [.clamp 0 20]⟩, ⟨16, 2, [0], rw, S, [.remap 3 3 2]⟩, ⟨18, 4, [4], rw, S, [.remap 0 0 1]⟩, ⟨24, 6, [5], rw, S, [.clamp 1 50]⟩]⟩,
  -- FC_CH_GEYSER
  ⟨0x41000008, [(24, 0x10000), (8, 0x100)], [⟨0, 11, [0], rw, S, [.clamp 0 2000]⟩, ⟨16, 6, [10], rw, S, [.clamp 1 50]⟩]⟩,
  -- FC_CH_CMD
  ⟨0x4100000C, [(24, 0x10000), (8, 0x100)], [⟨0, 10, [100], rw, S, [.clamp 1 1000]⟩, ⟨16, 8, [1], rw, L, [.remap 0 0 1]⟩]⟩,
  -- FC_CH_SAFE
  ⟨0x41000010, [(24, 0x10000), (8, 0x100)], [⟨0, 16, [0], rw, S, []⟩]⟩,
  -- FC_CH_REPORT
  ⟨0x41000014, [(24, 0x10000), (8, 0x100)], [⟨0, 10, [100], rw, S, [.clamp 1 1000]⟩, ⟨16, 4, [1], rw, S, [.remap 0 0 1]⟩]⟩,
  -- FC_CH_HOLD
  ⟨0x41000018, [(24, 0x10000), (8, 0x100)], [⟨0, 16, [0], rw, S, []⟩, ⟨16, 1, [0], rw, S, []⟩]⟩,
  -- FC_CH_STATUS
  ⟨0x41000020, [(24, 0x10000), (8, 0x100)], [⟨0, 1, [0], ro, L, []⟩, ⟨1, 1, [0], ro, L, []⟩, ⟨2, 1, [0], ro, L, []⟩, ⟨3, 1, [0], ro, L, []⟩, ⟨4, 1, [0], ro, L, []⟩, ⟨5, 1, [0], ro, L, []⟩, ⟨6, 1, [0], ro, L, []⟩, ⟨7, 1, [0], ro, L, []⟩, ⟨8, 1, [0], ro, L, []⟩, ⟨9, 1, [0], ro, L, []⟩, ⟨10, 1, [0], ro, L, []⟩, ⟨16, 1, [0], w1c, L, []⟩, ⟨17, 1, [0], w1c, L, []⟩, ⟨18, 1, [0], w1c, L, []⟩, ⟨19, 1, [0], w1c, L, []⟩, ⟨20, 1, [0], w1c, L, []⟩, ⟨21, 1, [0], w1c, L, []⟩, ⟨22, 1, [0], w1c, L, []⟩, ⟨23, 1, [0], w1c, L, []⟩]⟩,
  -- FC_CH_CLEAR
  ⟨0x41000024, [(24, 0x10000), (8, 0x100)], [⟨0, 1, [0], wo, L, []⟩, ⟨1, 1, [0], wo, L, []⟩, ⟨2, 1, [0], wo, L, []⟩, ⟨3, 1, [0], wo, L, []⟩]⟩,
  -- FC_CH_MEAS_I
  ⟨0x41000030, [(24, 0x10000), (8, 0x100)], [⟨0, 16, [0], rs, L, []⟩, ⟨16, 8, [0], ro, L, []⟩, ⟨24, 1, [1], ro, L, []⟩, ⟨25, 1, [0], ro, L, []⟩]⟩,
  -- FC_CH_MEAS_V
  ⟨0x41000034, [(24, 0x10000), (8, 0x100)], [⟨0, 16, [0], ro, L, []⟩, ⟨16, 16, [0], ro, L, []⟩]⟩,
  -- FC_CH_CNT_EV
  ⟨0x41000040, [(24, 0x10000), (8, 0x100)], [⟨0, 16, [0], ro, L, []⟩, ⟨16, 16, [0], ro, L, []⟩]⟩,
  -- FC_CH_CNT_TRIP
  ⟨0x41000044, [(24, 0x10000), (8, 0x100)], [⟨0, 8, [0], ro, L, []⟩, ⟨8, 8, [0], ro, L, []⟩, ⟨16, 8, [0], ro, L, []⟩, ⟨24, 8, [0], ro, L, []⟩]⟩,
  -- FC_CH_CNT_CMD
  ⟨0x41000048, [(24, 0x10000), (8, 0x100)], [⟨0, 16, [0], ro, L, []⟩, ⟨16, 16, [0], ro, L, []⟩]⟩,
  -- FC_CELL_CTRL
  ⟨0x41000800, [(24, 0x10000)], [⟨0, 1, [0], wo, L, []⟩, ⟨1, 1, [0], wo, L, []⟩]⟩,
  -- FC_CELL_STATUS
  ⟨0x41000804, [(24, 0x10000)], [⟨0, 1, [1], ro, L, []⟩, ⟨1, 1, [0], ro, L, []⟩, ⟨2, 1, [0], ro, L, []⟩, ⟨8, 8, [0], ro, L, []⟩, ⟨16, 8, [0], ro, L, []⟩, ⟨24, 8, [0], ro, L, []⟩]⟩,
  -- FC_CELL_BOOST
  ⟨0x41000808, [(24, 0x10000)], [⟨0, 8, [0], ro, L, []⟩, ⟨8, 8, [192], ro, L, []⟩]⟩,
  -- FC_CELL_CURRENT
  ⟨0x4100080C, [(24, 0x10000)], [⟨0, 16, [0], ro, L, []⟩, ⟨16, 16, [0], ro, L, []⟩]⟩,
  -- FC_STUD_I
  ⟨0x41200000, [(8, 0x10)], [⟨0, 16, [0], ro, L, []⟩, ⟨16, 16, [0], ro, L, []⟩]⟩,
  -- FC_STUD_STAT
  ⟨0x41200004, [(8, 0x10)], [⟨0, 16, [0], ro, L, []⟩, ⟨16, 1, [0], ro, L, []⟩, ⟨17, 1, [0], ro, L, []⟩, ⟨18, 2, [0], ro, L, []⟩]⟩
]

/-- Registers of chapter 06, part 1. -/
def rows06_1 : List RegRow := [
  -- FC_MOD_I
  ⟨0x41200100, [], [⟨0, 16, [0], ro, L, []⟩, ⟨16, 16, [0], ro, L, []⟩]⟩,
  -- FC_MOD_STAT
  ⟨0x41200104, [], [⟨16, 1, [0], ro, L, []⟩, ⟨18, 2, [0], ro, L, []⟩]⟩
]

/-- Registers of chapter 07, part 0. -/
def rows07_0 : List RegRow := [
  -- FC_CH_PWM
  ⟨0x41000050, [(24, 0x10000), (8, 0x100)], [⟨0, 21, [50000], rw, S, [.clamp 4000 2000000]⟩, ⟨21, 3, [0], rw, S, [.clamp 0 5]⟩, ⟨24, 1, [1], rw, S, []⟩, ⟨25, 7, [10], rw, S, [.clamp 5 100]⟩]⟩,
  -- FC_CH_LOOP
  ⟨0x41000054, [(24, 0x10000), (8, 0x100)], [⟨0, 16, [512], rw, S, []⟩, ⟨16, 16, [256], rw, S, []⟩]⟩,
  -- FC_CH_DITHER
  ⟨0x41000058, [(24, 0x10000), (8, 0x100)], [⟨0, 10, [0], rw, S, [.clamp 0 1000]⟩, ⟨16, 9, [100], rw, S, [.clamp 25 400]⟩, ⟨28, 1, [0], rw, S, []⟩]⟩,
  -- FC_CH_DUTY
  ⟨0x4100005C, [(24, 0x10000), (8, 0x100)], [⟨0, 6, [10], rw, H, [.clamp 1 60]⟩, ⟨8, 8, [230], rw, S, [.remap 0 0 1]⟩, ⟨16, 1, [1], rw, S, []⟩, ⟨24, 8, [230], ro, L, []⟩]⟩,
  -- FC_CH_VALVE
  ⟨0x41000060, [(24, 0x10000), (8, 0x100)], [⟨0, 8, [40], rw, S, [.clamp 10 200]⟩, ⟨8, 8, [12], rw, S, [.clamp 2 80]⟩, ⟨16, 8, [30], rw, S, [.clamp 1 200]⟩, ⟨24, 6, [10], rw, S, [.clamp 1 40]⟩, ⟨30, 1, [0], rw, S, []⟩]⟩,
  -- FC_CH_KINK
  ⟨0x41000064, [(24, 0x10000), (8, 0x100)], [⟨0, 8, [30], rw, S, []⟩, ⟨8, 8, [2], rw, S, [.clamp 0 100]⟩, ⟨16, 6, [20], rw, S, [.clamp 0 50]⟩]⟩,
  -- FC_CH_VALVE_RES
  ⟨0x41000068, [(24, 0x10000), (8, 0x100)], [⟨0, 16, [65535], ro, L, []⟩, ⟨16, 8, [0], ro, L, []⟩, ⟨24, 1, [1], ro, L, []⟩, ⟨25, 1, [0], ro, L, []⟩, ⟨26, 1, [0], ro, L, []⟩, ⟨27, 1, [0], ro, L, []⟩]⟩,
  -- FC_CH_ECHO
  ⟨0x4100006C, [(24, 0x10000), (8, 0x100)], [⟨0, 21, [0], rs, L, []⟩, ⟨21, 1, [0], ro, L, []⟩, ⟨22, 1, [0], ro, L, []⟩, ⟨23, 1, [0], ro, L, []⟩, ⟨24, 1, [0], ro, L, []⟩, ⟨25, 1, [0], ro, L, []⟩, ⟨26, 1, [1], ro, L, []⟩]⟩,
  -- FC_CH_ECHO_SEQ
  ⟨0x41000070, [(24, 0x10000), (8, 0x100)], [⟨0, 16, [0], ro, L, []⟩, ⟨16, 16, [0], ro, L, []⟩]⟩,
  -- FC_CH_DRV_STATUS
  ⟨0x41000074, [(24, 0x10000), (8, 0x100)], [⟨0, 1, [1], ro, L, []⟩, ⟨1, 1, [0], ro, L, []⟩, ⟨2, 2, [0], ro, L, []⟩, ⟨4, 1, [0], ro, L, []⟩, ⟨8, 1, [0], w1c, L, []⟩, ⟨9, 1, [0], w1c, L, []⟩, ⟨10, 1, [0], w1c, L, []⟩]⟩,
  -- FC_CH_DRV_CTRL
  ⟨0x41000078, [(24, 0x10000), (8, 0x100)], [⟨0, 1, [0], wo, L, []⟩]⟩,
  -- FC_CH_CNT_DRV
  ⟨0x4100007C, [(24, 0x10000), (8, 0x100)], [⟨0, 16, [0], ro, L, []⟩, ⟨16, 8, [0], ro, L, []⟩, ⟨24, 8, [0], ro, L, []⟩]⟩,
  -- FC_CH_DUTY_MEAN
  ⟨0x41000080, [(24, 0x10000), (8, 0x100)], [⟨0, 16, [0], ro, L, []⟩]⟩
]

/-- Registers of chapter 08, part 0. -/
def rows08_0 : List RegRow := [
  -- FC_CH_NET
  ⟨0x41000090, [(24, 0x10000), (8, 0x100)], [⟨0, 3, [0], rw, H, [.deny 4 7 0x54]⟩, ⟨3, 1, [0], rw, H, []⟩, ⟨8, 8, [0], rw, H, []⟩, ⟨16, 7, [10], rw, H, [.clamp 5 100]⟩]⟩,
  -- FC_CH_LS_CTRL
  ⟨0x41000094, [(24, 0x10000), (8, 0x100)], [⟨0, 1, [0], rw, L, []⟩, ⟨1, 2, [0], rw, L, [.remap 3 3 0]⟩]⟩,
  -- FC_CH_LS_STATUS
  ⟨0x41000098, [(24, 0x10000), (8, 0x100)], [⟨0, 1, [0], ro, L, []⟩, ⟨1, 1, [0], ro, L, []⟩, ⟨2, 1, [0], ro, L, []⟩, ⟨3, 1, [0], ro, L, []⟩, ⟨4, 1, [0], ro, L, []⟩, ⟨5, 1, [0], ro, L, []⟩, ⟨8, 1, [0], w1c, L, []⟩, ⟨9, 1, [0], w1c, L, []⟩, ⟨10, 1, [0], w1c, L, []⟩, ⟨16, 8, [0], ro, L, []⟩]⟩,
  -- FC_CH_LS_SILENT
  ⟨0x4100009C, [(24, 0x10000), (8, 0x100)], [⟨0, 16, [0], rw, L, [.remap 1 9 10, .clamp 0 60000]⟩]⟩,
  -- FC_CH_CNT_LS
  ⟨0x410000A0, [(24, 0x10000), (8, 0x100)], [⟨0, 8, [0], ro, L, []⟩, ⟨8, 8, [0], ro, L, []⟩, ⟨16, 8, [0], ro, L, []⟩]⟩,
  -- FC_CH_LS_ONCNT
  ⟨0x410000A4, [(24, 0x10000), (8, 0x100)], [⟨0, 32, [0], ro, L, []⟩]⟩,
  -- FC_CELL_LS
  ⟨0x41000810, [(24, 0x10000)], [⟨0, 1, [0], rw, L, []⟩]⟩
]

/-- Registers of chapter 09, part 0. -/
def rows09_0 : List RegRow := [
  -- FC_CH_DIN
  ⟨0x410000B0, [(24, 0x10000), (8, 0x100)], [⟨0, 8, [20], rw, S, [.remap 0 0 1]⟩, ⟨16, 10, [10], rw, S, [.clamp 1 1000]⟩]⟩,
  -- FC_CH_DIN_STATE
  ⟨0x410000B4, [(24, 0x10000), (8, 0x100)], [⟨0, 1, [0], ro, L, []⟩, ⟨1, 1, [1], ro, L, []⟩, ⟨2, 1, [0], ro, L, []⟩, ⟨3, 2, [2], ro, L, []⟩, ⟨8, 8, [0], ro, L, []⟩]⟩,
  -- FC_CH_DIN_CNT
  ⟨0x410000B8, [(24, 0x10000), (8, 0x100)], [⟨0, 32, [0], ro, L, []⟩]⟩,
  -- FC_CH_DOUT_STATE
  ⟨0x410000BC, [(24, 0x10000), (8, 0x100)], [⟨0, 1, [0], ro, L, []⟩, ⟨1, 1, [0], ro, L, []⟩]⟩,
  -- FC_CELL_DIO
  ⟨0x41000814, [(24, 0x10000)], [⟨0, 1, [0], w1c, L, []⟩, ⟨16, 16, [0], ro, L, []⟩]⟩,
  -- FC_DCP_CFG
  ⟨0x41300000, [(48, 0x20)], [⟨0, 8, [0], rw, H, [.deny 192 255 0x55]⟩, ⟨8, 8, [0], rw, H, [.deny 192 255 0x55]⟩, ⟨16, 1, [0], rw, H, []⟩, ⟨17, 1, [0], rw, H, []⟩, ⟨18, 1, [0], rw, H, []⟩]⟩,
  -- FC_DCP_TDISC
  ⟨0x41300004, [(48, 0x20)], [⟨0, 14, [100], rw, H, [.clamp 10 10000]⟩]⟩,
  -- FC_DCP_CTRL
  ⟨0x41300008, [(48, 0x20)], [⟨0, 1, [0], rw, L, []⟩]⟩,
  -- FC_DCP_STATUS
  ⟨0x4130000C, [(48, 0x20)], [⟨0, 3, [0], ro, L, []⟩, ⟨3, 1, [0], ro, L, []⟩, ⟨4, 1, [0], ro, L, []⟩, ⟨8, 1, [0], w1c, L, []⟩, ⟨16, 16, [0], ro, L, []⟩]⟩,
  -- FC_DCP_CNT
  ⟨0x41300010, [(48, 0x20)], [⟨0, 16, [0], ro, L, []⟩, ⟨16, 16, [0], ro, L, []⟩]⟩,
  -- ETH_EVT_FILTx
  ⟨0x47800F00, [(2, 0x4)], [⟨0, 10, [1], rw, S, [.clamp 1 1000]⟩, ⟨16, 8, [20], rw, S, [.remap 0 0 1]⟩]⟩,
  -- ETH_EVT_STATEx
  ⟨0x47800F10, [(2, 0x4)], [⟨0, 1, [0], ro, L, []⟩, ⟨1, 1, [1], ro, L, []⟩, ⟨8, 8, [0], ro, L, []⟩, ⟨16, 16, [0], ro, L, []⟩]⟩
]

/-- Registers of chapter 10, part 0. -/
def rows10_0 : List RegRow := [
  -- FC_CH_AIN
  ⟨0x410000C0, [(24, 0x10000), (8, 0x100)], [⟨0, 3, [1], rw, H, [.deny 4 7 0x56]⟩, ⟨4, 1, [0], rw, H, []⟩, ⟨8, 3, [0], rw, H, []⟩]⟩,
  -- FC_CH_AIN_BAND
  ⟨0x410000C4, [(24, 0x10000), (8, 0x100)], [⟨0, 12, [0], rw, S, []⟩, ⟨16, 12, [4095], rw, S, [.atLeast 0 0 12 0]⟩]⟩,
  -- FC_CH_AIN_VAL
  ⟨0x410000C8, [(24, 0x10000), (8, 0x100)], [⟨0, 32, [0], rs, L, []⟩]⟩,
  -- FC_CH_AIN_STAT
  ⟨0x410000CC, [(24, 0x10000), (8, 0x100)], [⟨0, 8, [0], ro, L, []⟩, ⟨8, 1, [1], ro, L, []⟩, ⟨9, 1, [0], ro, L, []⟩, ⟨10, 1, [0], ro, L, []⟩, ⟨11, 1, [0], ro, L, []⟩, ⟨12, 1, [0], ro, L, []⟩, ⟨16, 12, [0], ro, L, []⟩]⟩,
  -- FC_CH_FIN
  ⟨0x410000D0, [(24, 0x10000), (8, 0x100)], [⟨0, 2, [0], rw, H, []⟩, ⟨2, 2, [0], rw, S, [.remap 3 3 0]⟩, ⟨4, 2, [0], rw, H, [.remap 3 3 0]⟩, ⟨8, 8, [50], rw, S, [.clamp 5 200]⟩, ⟨16, 5, [5], rw, S, [.clamp 1 20]⟩, ⟨24, 8, [20], rw, S, [.remap 0 0 1]⟩]⟩,
  -- FC_CH_FIN_ZERO
  ⟨0x410000D4, [(24, 0x10000), (8, 0x100)], [⟨0, 13, [500], rw, S, [.clamp 10 5000]⟩]⟩,
  -- FC_CH_FIN_VAL
  ⟨0x410000D8, [(24, 0x10000), (8, 0x100)], [⟨0, 32, [0], rs, L, []⟩]⟩,
  -- FC_CH_FIN_POS
  ⟨0x410000DC, [(24, 0x10000), (8, 0x100)], [⟨0, 32, [0], ro, L, []⟩]⟩,
  -- FC_CH_FIN_STAT
  ⟨0x410000E0, [(24, 0x10000), (8, 0x100)], [⟨0, 8, [0], ro, L, []⟩, ⟨8, 1, [1], ro, L, []⟩, ⟨9, 1, [1], ro, L, []⟩, ⟨10, 1, [0], ro, L, []⟩, ⟨16, 16, [0], ro, L, []⟩]⟩,
  -- FC_CH_FIN_CNT
  ⟨0x410000E4, [(24, 0x10000), (8, 0x100)], [⟨0, 16, [0], ro, L, []⟩, ⟨16, 16, [0], ro, L, []⟩]⟩,
  -- FC_CH_SUP
  ⟨0x410000F0, [(24, 0x10000), (8, 0x100)], [⟨0, 3, [1], rw, S, [.deny 5 7 0x56]⟩]⟩,
  -- FC_CH_SUP_STAT
  ⟨0x410000F4, [(24, 0x10000), (8, 0x100)], [⟨0, 1, [0], ro, L, []⟩, ⟨16, 16, [0], ro, L, []⟩]⟩,
  -- TARN_CTRL
  ⟨0x42000000, [(16, 0x1000)], [⟨0, 1, [0], wo, L, []⟩, ⟨1, 1, [0], wo, L, []⟩, ⟨2, 1, [0], wo, L, []⟩, ⟨3, 1, [0], wo, L, []⟩, ⟨4, 1, [0], wo, L, []⟩]⟩,
  -- TARN_CFG
  ⟨0x42000004, [(16, 0x1000)], [⟨0, 14, [2000], rw, S, [.clamp 100 10000]⟩, ⟨16, 6, [0], rw, H, [.deny 33 63 0x58]⟩, ⟨22, 2, [0], rw, H, []⟩, ⟨24, 1, [0], rw, H, []⟩]⟩,
  -- TARN_PHASE
  ⟨0x42000008, [(16, 0x1000)], [⟨0, 14, [0], rw, S, [.atMost (-4) 0 14 (-1)]⟩]⟩,
  -- TARN_STATUS
  ⟨0x4200000C, [(16, 0x1000)], [⟨0, 3, [0], ro, L, []⟩, ⟨3, 1, [0], ro, L, []⟩, ⟨4, 1, [0], ro, L, []⟩, ⟨8, 6, [0], ro, L, []⟩, ⟨16, 6, [0], ro, L, []⟩, ⟨24, 6, [0], ro, L, []⟩]⟩,
  -- TARN_PWR
  ⟨0x42000010, [(16, 0x1000)], [⟨0, 16, [0], ro, L, []⟩, ⟨16, 16, [0], ro, L, []⟩]⟩,
  -- TARN_SWEEP
  ⟨0x42000014, [(16, 0x1000)], [⟨0, 16, [0], rs, L, []⟩, ⟨16, 6, [0], ro, L, []⟩, ⟨24, 1, [1], ro, L, []⟩]⟩,
  -- TARN_SWEEP_INFO
  ⟨0x42000018, [(16, 0x1000)], [⟨0, 16, [0], ro, L, []⟩, ⟨16, 8, [0], ro, L, []⟩]⟩,
  -- TARN_EV
  ⟨0x42000020, [(16, 0x1000)], [⟨0, 1, [0], w1c, L, []⟩, ⟨1, 1, [0], w1c, L, []⟩, ⟨2, 1, [0], w1c, L, []⟩, ⟨3, 1, [0], w1c, L, []⟩, ⟨4, 1, [0], w1c, L, []⟩, ⟨5, 1, [0], w1c, L, []⟩]⟩
]

/-- Registers of chapter 10, part 1. -/
def rows10_1 : List RegRow := [
  -- TARN_CNT_LINK
  ⟨0x42000024, [(16, 0x1000)], [⟨0, 16, [0], ro, L, []⟩, ⟨16, 16, [0], ro, L, []⟩]⟩,
  -- TARN_CNT_SWEEP
  ⟨0x42000028, [(16, 0x1000)], [⟨0, 16, [0], ro, L, []⟩, ⟨16, 8, [0], ro, L, []⟩, ⟨24, 8, [0], ro, L, []⟩]⟩,
  -- TARN_CAL_T
  ⟨0x4200002C, [(16, 0x1000)], [⟨0, 32, [0], ro, L, []⟩]⟩,
  -- TARN_HEAD_ID
  ⟨0x42000100, [(16, 0x1000), (32, 0x20)], [⟨0, 8, [0], ro, L, []⟩, ⟨8, 8, [0], ro, L, []⟩, ⟨16, 8, [0], rw, H, []⟩, ⟨24, 8, [0], rw, H, []⟩]⟩,
  -- TARN_HEAD_SERIAL
  ⟨0x42000104, [(16, 0x1000), (32, 0x20)], [⟨0, 32, [0], ro, L, []⟩]⟩,
  -- TARN_HEAD_STAT
  ⟨0x42000108, [(16, 0x1000), (32, 0x20)], [⟨0, 3, [6], ro, L, []⟩, ⟨3, 1, [0], ro, L, []⟩, ⟨4, 1, [0], ro, L, []⟩, ⟨5, 1, [0], ro, L, []⟩, ⟨6, 1, [1], ro, L, []⟩, ⟨8, 8, [0], ro, L, []⟩, ⟨16, 8, [0], ro, L, []⟩]⟩,
  -- TARN_HEAD_CFG
  ⟨0x4200010C, [(16, 0x1000), (32, 0x20)], [⟨0, 32, [0], rw, S, []⟩]⟩,
  -- TARN_LOSS_CAL
  ⟨0x42000110, [(16, 0x1000), (32, 0x20)], [⟨0, 16, [0], rw, L, []⟩, ⟨16, 16, [0], rw, L, []⟩]⟩,
  -- TARN_LOSS_TKW
  ⟨0x42000114, [(16, 0x1000), (32, 0x20)], [⟨0, 12, [450], rw, L, []⟩, ⟨16, 16, [0], ro, L, []⟩]⟩,
  -- TARN_HEAD_CNT
  ⟨0x42000118, [(16, 0x1000), (32, 0x20)], [⟨0, 8, [0], ro, L, []⟩, ⟨8, 8, [0], ro, L, []⟩, ⟨16, 8, [0], ro, L, []⟩, ⟨24, 8, [0], ro, L, []⟩]⟩,
  -- TARN_CAL_ACC
  ⟨0x4200011C, [(16, 0x1000), (32, 0x20)], [⟨0, 32, [0], ro, L, []⟩]⟩,
  -- TARN_FRAMEn_Wm
  ⟨0x42000800, [(16, 0x1000), (32, 0x10), (4, 0x4)], [⟨0, 32, [0], rs, L, []⟩]⟩
]

/-- All rows of the group. -/
def rowsField : List RegRow :=
  rows06_0 ++ rows06_1 ++ rows07_0 ++ rows08_0 ++ rows09_0 ++ rows10_0 ++ rows10_1

end Sys2Proof.Machine.T
end

