-- ==== Sys2Proof/Machine/RegTableNav.lean ====
section
/-! DEFINITION. The register tables of the spec as data (Nav group): where each register lies, its fields, their access, change class, reset value and read-back rule.
Reserved bits are not listed: they read 0 and a write to them has no effect (R569). -/

namespace Sys2Proof.Machine.T

open RegAcc Cls

/-- Registers of chapter 14, part 0. -/
def rows14_0 : List RegRow := [
  -- GNS_CTRL
  ⟨0x44800000, [], [⟨0, 1, [0], wo, L, []⟩, ⟨1, 1, [0], wo, L, []⟩, ⟨2, 1, [0], wo, L, []⟩, ⟨3, 1, [0], wo, L, []⟩]⟩,
  -- GNS_STATUS
  ⟨0x44800004, [], [⟨0, 3, [0], ro, L, []⟩, ⟨3, 2, [0], ro, L, []⟩, ⟨8, 9, [0], ro, L, []⟩, ⟨24, 8, [0], ro, L, []⟩]⟩,
  -- GNS_CFG
  ⟨0x44800008, [], [⟨0, 3, [4], rw, S, [.remap 5 7 4]⟩, ⟨3, 3, [3], rw, S, [.clamp 0 4, .atMost 0 0 3 0]⟩, ⟨8, 5, [10], rw, S, [.clamp 0 30]⟩, ⟨16, 6, [30], rw, S, [.clamp 20 45]⟩]⟩,
  -- GNS_SIG_EN
  ⟨0x4480000C, [], [⟨0, 32, [81599], rw, H, []⟩]⟩,
  -- GNS_HDG_SIG
  ⟨0x44800010, [], [⟨0, 32, [537], rw, H, []⟩]⟩,
  -- GNS_ANTa
  ⟨0x44800014, [(2, 0x4)], [⟨0, 1, [1], rw, L, []⟩, ⟨1, 2, [0], ro, L, []⟩, ⟨16, 16, [0], ro, L, []⟩]⟩,
  -- GNS_BASELINE
  ⟨0x4480001C, [], [⟨0, 16, [0], rw, H, []⟩, ⟨16, 8, [20], rw, S, [.remap 0 0 1]⟩]⟩,
  -- GNS_TRK
  ⟨0x44800020, [], [⟨0, 5, [15], rw, S, [.clamp 5 30]⟩, ⟨8, 7, [20], rw, S, [.clamp 5 100]⟩, ⟨16, 8, [50], rw, S, [.clamp 5 200]⟩, ⟨27, 5, [20], rw, S, [.clamp 1 20]⟩]⟩,
  -- GNS_DLL
  ⟨0x44800024, [], [⟨0, 2, [2], rw, S, [.remap 3 3 2]⟩, ⟨8, 5, [10], rw, H, [.clamp 5 20]⟩, ⟨16, 8, [28], rw, S, []⟩, ⟨24, 8, [22], rw, S, [.atMost 0 16 8 0]⟩]⟩,
  -- GNS_ACQ
  ⟨0x44800028, [], [⟨0, 7, [10], rw, S, [.clamp 1 100]⟩]⟩,
  -- GNS_RTK
  ⟨0x4480002C, [], [⟨0, 6, [10], rw, S, [.clamp 1 60]⟩]⟩,
  -- GNS_CHK_A
  ⟨0x44800030, [], [⟨0, 8, [20], rw, S, []⟩, ⟨8, 8, [50], rw, S, []⟩, ⟨16, 8, [8], rw, S, []⟩, ⟨24, 8, [80], rw, S, [.remap 0 0 1]⟩]⟩,
  -- GNS_CHK_B
  ⟨0x44800034, [], [⟨0, 8, [15], rw, S, []⟩, ⟨16, 16, [100], rw, S, []⟩]⟩,
  -- GNS_CHK_C
  ⟨0x44800038, [], [⟨0, 16, [100], rw, S, []⟩, ⟨16, 16, [50], rw, S, []⟩]⟩,
  -- GNS_EXCL
  ⟨0x4480003C, [], [⟨0, 10, [60], rw, S, [.clamp 10 600]⟩, ⟨16, 4, [6], rw, S, [.clamp 3 15]⟩]⟩,
  -- GNS_PARK
  ⟨0x44800040, [], [⟨0, 8, [60], rw, L, [.remap 1 9 10, .clamp 0 240]⟩, ⟨16, 9, [120], rw, L, [.clamp 30 300]⟩]⟩,
  -- GNS_CONFMAP
  ⟨0x44800044, [], [⟨0, 16, [10], rw, S, []⟩, ⟨16, 16, [1000], rw, S, []⟩]⟩,
  -- GNS_HDGMAP
  ⟨0x44800048, [], [⟨0, 16, [17], rw, S, []⟩, ⟨16, 16, [870], rw, S, [.atLeast 0 0 16 1]⟩]⟩,
  -- GNS_EV
  ⟨0x44800050, [], [⟨0, 1, [0], w1c, L, []⟩, ⟨1, 1, [0], w1c, L, []⟩, ⟨2, 1, [0], w1c, L, []⟩, ⟨3, 1, [0], w1c, L, []⟩, ⟨4, 1, [0], w1c, L, []⟩]⟩,
  -- GNS_CNT_A
  ⟨0x44800054, [], [⟨0, 16, [0], ro, L, []⟩, ⟨16, 16, [0], ro, L, []⟩]⟩
]

/-- Registers of chapter 14, part 1. -/
def rows14_1 : List RegRow := [
  -- GNS_CNT_B
  ⟨0x44800058, [], [⟨0, 16, [0], ro, L, []⟩, ⟨16, 16, [0], ro, L, []⟩]⟩,
  -- GNS_CNT_C
  ⟨0x4480005C, [], [⟨0, 16, [0], ro, L, []⟩, ⟨16, 16, [0], ro, L, []⟩]⟩,
  -- GNS_JAM
  ⟨0x44800060, [], [⟨0, 30, [0], ro, L, []⟩]⟩,
  -- GNS_TIME_OFS
  ⟨0x44800064, [], [⟨0, 32, [0], ro, L, []⟩]⟩,
  -- GNS_TIME_STAT
  ⟨0x44800068, [], [⟨0, 16, [0], ro, L, []⟩, ⟨16, 1, [0], ro, L, []⟩, ⟨17, 1, [0], ro, L, []⟩]⟩,
  -- GNS_PVT_STAT
  ⟨0x4480006C, [], [⟨0, 1, [1], ro, L, []⟩, ⟨8, 8, [0], ro, L, []⟩]⟩,
  -- GNS_PVT_Wn
  ⟨0x44800070, [(16, 0x4)], [⟨0, 32, [0], rs, L, []⟩]⟩,
  -- GNS_HDG_Wn
  ⟨0x448000B0, [(6, 0x4)], [⟨0, 32, [0], rs, L, []⟩]⟩,
  -- GNS_HDG_STAT
  ⟨0x448000C8, [], [⟨0, 1, [1], ro, L, []⟩, ⟨8, 8, [0], ro, L, []⟩]⟩,
  -- GNS_CHn_STAT
  ⟨0x44800400, [(384, 0x10)], [⟨0, 8, [0], ro, L, []⟩, ⟨8, 8, [0], ro, L, []⟩, ⟨16, 3, [0], ro, L, []⟩, ⟨20, 4, [0], ro, L, []⟩, ⟨24, 8, [0], ro, L, []⟩]⟩,
  -- GNS_CHn_LOCK
  ⟨0x44800404, [(384, 0x10)], [⟨0, 16, [0], ro, L, []⟩, ⟨16, 8, [0], ro, L, []⟩, ⟨24, 8, [0], ro, L, []⟩]⟩,
  -- ETH_PPSx_CFG
  ⟨0x47800E00, [(2, 0x4)], [⟨0, 1, [0], rw, L, []⟩, ⟨1, 2, [1], rw, L, [.remap 3 3 2]⟩, ⟨3, 1, [0], rw, L, []⟩, ⟨16, 9, [100], rw, L, [.clamp 1 500]⟩]⟩,
  -- ETH_PPS_HOLDMAX
  ⟨0x47800E08, [], [⟨0, 32, [10000], rw, L, []⟩]⟩,
  -- ETH_PPSB_DELAY
  ⟨0x47800E0C, [], [⟨0, 32, [0], rw, L, [.sclamp 50000]⟩]⟩,
  -- ETH_PPSA_QERR
  ⟨0x47800E10, [], [⟨0, 32, [0], rs, L, []⟩]⟩,
  -- ETH_PPSA_QSEQ
  ⟨0x47800E14, [], [⟨0, 32, [0], ro, L, []⟩]⟩,
  -- ETH_PPS_STAT
  ⟨0x47800E18, [], [⟨0, 1, [0], ro, L, []⟩, ⟨1, 1, [0], ro, L, []⟩, ⟨16, 16, [0], ro, L, []⟩]⟩
]

/-- Registers of chapter 15, part 0. -/
def rows15_0 : List RegRow := [
  -- STR_CTRL
  ⟨0x45000000, [], [⟨0, 1, [0], wo, L, []⟩, ⟨1, 1, [0], wo, L, []⟩]⟩,
  -- STR_STATUS
  ⟨0x45000004, [], [⟨0, 2, [0], ro, L, []⟩, ⟨2, 1, [0], ro, L, []⟩, ⟨3, 1, [0], ro, L, []⟩, ⟨4, 1, [0], ro, L, []⟩, ⟨16, 16, [0], ro, L, []⟩]⟩,
  -- STR_GEOM
  ⟨0x45000008, [], [⟨0, 16, [3800], rw, H, [.remap 0 0 1]⟩, ⟨16, 1, [1], rw, H, []⟩]⟩,
  -- STR_CP
  ⟨0x4500000C, [], [⟨0, 32, [0], rw, H, []⟩]⟩,
  -- STR_GAIN
  ⟨0x45000010, [], [⟨0, 16, [1000], rw, S, [.remap 0 0 1]⟩, ⟨16, 16, [2000], rw, S, [.remap 0 0 1]⟩]⟩,
  -- STR_LIM
  ⟨0x45000014, [], [⟨0, 16, [7000], rw, H, [.clamp 1000 12000]⟩, ⟨16, 16, [3500], rw, S, [.remap 0 0 1]⟩]⟩,
  -- STR_SPEED
  ⟨0x45000018, [], [⟨0, 16, [1000], rw, S, [.remap 0 0 1]⟩, ⟨16, 8, [5], rw, S, [.clamp 1 50]⟩]⟩,
  -- STR_LEAD
  ⟨0x4500001C, [], [⟨0, 10, [200], rw, S, [.clamp 0 1000]⟩]⟩,
  -- STR_USE
  ⟨0x45000020, [], [⟨0, 8, [230], rw, S, [.remap 0 0 1]⟩, ⟨8, 8, [128], rw, S, [.remap 0 0 1]⟩, ⟨16, 9, [100], rw, S, [.clamp 20 500]⟩]⟩,
  -- STR_GRACE
  ⟨0x45000024, [], [⟨0, 11, [300], rw, S, [.clamp 0 2000]⟩]⟩,
  -- STR_ENGAGE
  ⟨0x45000028, [], [⟨0, 16, [300], rw, S, []⟩, ⟨16, 8, [10], rw, S, []⟩, ⟨24, 8, [30], rw, S, [.remap 0 0 1]⟩]⟩,
  -- STR_OVR_SRC
  ⟨0x4500002C, [], [⟨0, 16, [0], rw, H, []⟩, ⟨16, 12, [0], rw, H, []⟩, ⟨28, 4, [0], rw, H, []⟩]⟩,
  -- STR_OVR_CFG
  ⟨0x45000030, [], [⟨0, 16, [65535], rw, S, []⟩, ⟨16, 8, [5], rw, S, [.remap 0 0 1]⟩]⟩,
  -- STR_OUT
  ⟨0x45000034, [], [⟨0, 1, [0], rw, H, []⟩, ⟨8, 8, [255], rw, H, []⟩, ⟨16, 8, [255], rw, H, []⟩, ⟨24, 5, [0], rw, H, []⟩]⟩,
  -- STR_OUT_FB
  ⟨0x45000038, [], [⟨0, 16, [0], rw, H, []⟩, ⟨16, 8, [5], rw, S, [.remap 0 0 1]⟩]⟩,
  -- STR_PATH_SEL
  ⟨0x45000040, [], [⟨0, 2, [0], rw, S, []⟩, ⟨2, 1, [0], rw, S, []⟩]⟩,
  -- STR_PATH_CTRL
  ⟨0x45000044, [], [⟨0, 2, [0], wo, L, []⟩, ⟨2, 1, [0], wo, L, []⟩, ⟨3, 1, [0], wo, L, []⟩]⟩,
  -- STR_PATHb_STAT
  ⟨0x45000048, [(4, 0x4)], [⟨0, 1, [0], ro, L, []⟩, ⟨8, 8, [0], ro, L, []⟩, ⟨16, 16, [0], ro, L, []⟩]⟩,
  -- STR_ERR
  ⟨0x45000060, [], [⟨0, 32, [0], rs, L, []⟩]⟩,
  -- STR_ERR2
  ⟨0x45000064, [], [⟨0, 16, [0], ro, L, []⟩, ⟨16, 16, [0], ro, L, []⟩]⟩
]

/-- Registers of chapter 15, part 1. -/
def rows15_1 : List RegRow := [
  -- STR_ERR3
  ⟨0x45000068, [], [⟨0, 32, [0], ro, L, []⟩]⟩,
  -- STR_EV
  ⟨0x45000070, [], [⟨0, 1, [0], w1c, L, []⟩, ⟨1, 1, [0], w1c, L, []⟩, ⟨2, 1, [0], w1c, L, []⟩, ⟨3, 1, [0], w1c, L, []⟩, ⟨4, 1, [0], w1c, L, []⟩, ⟨5, 1, [0], w1c, L, []⟩, ⟨6, 1, [0], w1c, L, []⟩]⟩,
  -- STR_CNT
  ⟨0x45000074, [], [⟨0, 16, [0], ro, L, []⟩, ⟨16, 16, [0], ro, L, []⟩]⟩,
  -- STR_CNT_B
  ⟨0x45000078, [], [⟨0, 16, [0], ro, L, []⟩, ⟨16, 16, [0], ro, L, []⟩]⟩,
  -- STR_SPT_PIVOT
  ⟨0x45000200, [], [⟨0, 16, [0], rw, H, []⟩, ⟨16, 16, [0], rw, H, []⟩]⟩,
  -- STR_SPT_REACH
  ⟨0x45000204, [], [⟨0, 16, [0], rw, H, []⟩]⟩,
  -- STR_SPT_SWING
  ⟨0x45000208, [], [⟨0, 16, [0], rw, H, []⟩, ⟨16, 16, [0], rw, H, []⟩]⟩,
  -- STR_SPT_ANT
  ⟨0x4500020C, [], [⟨0, 16, [0], rw, H, []⟩, ⟨16, 16, [0], rw, H, []⟩]⟩,
  -- STR_SPT_BIN
  ⟨0x45000210, [], [⟨0, 16, [0], rw, S, []⟩, ⟨16, 16, [0], rw, S, []⟩]⟩,
  -- STR_SPT_SIZE
  ⟨0x45000214, [], [⟨0, 16, [0], rw, S, []⟩, ⟨16, 16, [0], rw, S, []⟩]⟩,
  -- STR_SPT_AIM
  ⟨0x45000218, [], [⟨0, 16, [0], rw, L, []⟩, ⟨16, 16, [400], rw, S, []⟩]⟩,
  -- STR_SPT_LEAD
  ⟨0x4500021C, [], [⟨0, 16, [400], rw, S, [.clamp 0 2000]⟩, ⟨16, 8, [200], rw, S, [.remap 0 0 1]⟩]⟩,
  -- STR_SPT_STAT
  ⟨0x45000220, [], [⟨0, 1, [0], ro, L, []⟩, ⟨1, 1, [0], ro, L, []⟩, ⟨2, 1, [0], ro, L, []⟩, ⟨3, 1, [0], ro, L, []⟩, ⟨16, 16, [0], ro, L, []⟩]⟩,
  -- STR_CVY_CTRL
  ⟨0x45080000, [], [⟨0, 1, [0], wo, L, []⟩, ⟨1, 1, [0], wo, L, []⟩]⟩,
  -- STR_CVY_CFG
  ⟨0x45080004, [], [⟨0, 2, [3], rw, S, []⟩, ⟨8, 8, [150], rw, S, [.clamp 20 250]⟩, ⟨16, 10, [300], rw, S, [.clamp 0 1000]⟩]⟩,
  -- STR_CVY_LOSS
  ⟨0x45080008, [], [⟨0, 13, [1000], rw, S, [.clamp 200 5000]⟩]⟩,
  -- STR_CVY_MAP
  ⟨0x4508000C, [], [⟨0, 16, [10], rw, S, []⟩, ⟨16, 16, [500], rw, S, [.atLeast 0 0 16 1]⟩]⟩,
  -- STR_CVY_STAT
  ⟨0x45080010, [], [⟨0, 2, [0], ro, L, []⟩, ⟨2, 1, [0], ro, L, []⟩, ⟨3, 1, [1], ro, L, []⟩, ⟨8, 8, [0], ro, L, []⟩, ⟨16, 16, [0], ro, L, []⟩]⟩,
  -- STR_CVY_EV
  ⟨0x45080014, [], [⟨0, 1, [0], w1c, L, []⟩, ⟨1, 1, [0], w1c, L, []⟩, ⟨2, 1, [0], w1c, L, []⟩, ⟨3, 1, [0], w1c, L, []⟩]⟩,
  -- STR_CVY_CNT
  ⟨0x45080018, [], [⟨0, 16, [0], ro, L, []⟩, ⟨16, 16, [0], ro, L, []⟩]⟩
]

/-- Registers of chapter 15, part 2. -/
def rows15_2 : List RegRow := [
  -- STR_CVY_Wn
  ⟨0x45080020, [(12, 0x4)], [⟨0, 32, [0], rs, L, []⟩]⟩
]

/-- Registers of chapter 16, part 0. -/
def rows16_0 : List RegRow := [
  -- YLD_CTRL
  ⟨0x46000000, [], [⟨0, 1, [0], wo, L, []⟩, ⟨1, 1, [0], wo, L, []⟩, ⟨2, 1, [0], wo, L, []⟩, ⟨3, 1, [0], wo, L, []⟩, ⟨4, 1, [0], wo, L, []⟩]⟩,
  -- YLD_STATUS
  ⟨0x46000004, [], [⟨0, 3, [0], ro, L, []⟩, ⟨3, 2, [0], ro, L, []⟩, ⟨8, 8, [0], ro, L, []⟩, ⟨16, 16, [0], ro, L, []⟩]⟩,
  -- YLD_TM
  ⟨0x46000008, [], [⟨0, 16, [0], rs, L, []⟩, ⟨16, 16, [0], ro, L, []⟩]⟩,
  -- YLD_TM_B
  ⟨0x4600000C, [], [⟨0, 16, [0], ro, L, []⟩, ⟨16, 1, [1], ro, L, []⟩]⟩,
  -- YLD_TM_FIX
  ⟨0x46000010, [], [⟨0, 12, [120], rw, S, [.clamp 0 500]⟩, ⟨16, 8, [51], rw, S, []⟩]⟩,
  -- YLD_TM_STAGEs
  ⟨0x46000014, [(4, 0x4)], [⟨0, 16, [1000], rw, S, [.remap 0 0 1]⟩, ⟨16, 8, [26], rw, S, []⟩]⟩,
  -- YLD_TM_REFs
  ⟨0x46000024, [(4, 0x4)], [⟨0, 16, [0], ro, L, []⟩, ⟨16, 1, [0], ro, L, []⟩]⟩,
  -- YLD_DEC
  ⟨0x46000034, [], [⟨0, 10, [256], rw, S, [.clamp 64 512]⟩, ⟨16, 8, [16], rw, S, []⟩]⟩,
  -- YLD_DEC_THR
  ⟨0x46000038, [], [⟨0, 8, [128], rw, S, []⟩, ⟨8, 8, [64], rw, S, [.atMost 0 0 8 0]⟩, ⟨16, 8, [96], rw, S, []⟩]⟩,
  -- YLD_MF_CFG
  ⟨0x4600003C, [], [⟨0, 20, [0], rw, S, []⟩]⟩,
  -- YLD_MF_REF
  ⟨0x46000040, [], [⟨0, 16, [420], rw, H, [.remap 0 0 1]⟩, ⟨16, 16, [4096], rw, S, []⟩]⟩,
  -- YLD_MF_Sk
  ⟨0x46000044, [(8, 0x8)], [⟨0, 20, [0], rw, S, []⟩]⟩,
  -- YLD_MF_Qk
  ⟨0x46000048, [(8, 0x8)], [⟨0, 32, [0], rw, S, []⟩]⟩,
  -- YLD_MOIST_A
  ⟨0x46000084, [], [⟨0, 16, [4000], rw, S, []⟩, ⟨16, 16, [500], rw, S, []⟩]⟩,
  -- YLD_MOIST_B
  ⟨0x46000088, [], [⟨0, 16, [20000], rw, S, []⟩, ⟨16, 16, [2500], rw, S, []⟩]⟩,
  -- YLD_HDR
  ⟨0x4600008C, [], [⟨0, 16, [1220], rw, H, []⟩, ⟨16, 5, [16], rw, H, []⟩, ⟨24, 4, [8], rw, H, []⟩]⟩,
  -- YLD_HDR_X
  ⟨0x46000090, [], [⟨0, 32, [0], rw, H, []⟩]⟩,
  -- YLD_HDR_Y
  ⟨0x46000094, [], [⟨0, 32, [0], rw, H, []⟩]⟩,
  -- YLD_LAT
  ⟨0x46000098, [], [⟨0, 12, [150], rw, S, []⟩, ⟨16, 8, [12], rw, S, []⟩, ⟨24, 8, [5], rw, S, []⟩]⟩,
  -- YLD_LAT_T
  ⟨0x4600009C, [], [⟨0, 16, [50], rw, S, []⟩]⟩
]

/-- Registers of chapter 16, part 1. -/
def rows16_1 : List RegRow := [
  -- YLD_PLACE
  ⟨0x460000A0, [], [⟨0, 8, [128], rw, S, [.remap 0 0 1]⟩, ⟨8, 8, [10], rw, S, [.clamp 1 60]⟩, ⟨16, 8, [5], rw, S, [.clamp 1 120]⟩]⟩,
  -- YLD_EV
  ⟨0x460000A4, [], [⟨0, 1, [0], w1c, L, []⟩, ⟨1, 1, [0], w1c, L, []⟩, ⟨2, 1, [0], w1c, L, []⟩, ⟨3, 1, [0], w1c, L, []⟩]⟩,
  -- YLD_UNPLACED
  ⟨0x460000A8, [], [⟨0, 32, [0], ro, L, []⟩]⟩,
  -- YLD_DROPPED
  ⟨0x460000AC, [], [⟨0, 32, [0], ro, L, []⟩]⟩,
  -- YLD_CNT_LATE
  ⟨0x460000B0, [], [⟨0, 32, [0], ro, L, []⟩]⟩,
  -- YLD_LEDGER_A
  ⟨0x460000B4, [], [⟨0, 32, [0], rs, L, []⟩]⟩,
  -- YLD_LEDGER_F
  ⟨0x460000B8, [], [⟨0, 32, [0], ro, L, []⟩]⟩,
  -- YLD_CAL_STAT
  ⟨0x460000C0, [], [⟨0, 2, [0], ro, L, []⟩, ⟨2, 1, [0], ro, L, []⟩]⟩,
  -- YLD_CAL_ACC
  ⟨0x460000C4, [], [⟨0, 32, [0], ro, L, []⟩]⟩,
  -- YLD_CAL_W
  ⟨0x460000C8, [], [⟨0, 32, [0], rw, L, []⟩]⟩,
  -- YLD_CAL_CAND
  ⟨0x460000CC, [], [⟨0, 16, [0], ro, L, []⟩, ⟨16, 16, [0], ro, L, []⟩]⟩,
  -- YLD_SECs
  ⟨0x46000100, [(16, 0x4)], [⟨0, 6, [0], rw, H, []⟩]⟩,
  -- YLD_INk_SRC
  ⟨0x46000200, [(16, 0x10)], [⟨0, 16, [0], rw, H, []⟩, ⟨16, 12, [0], rw, H, []⟩, ⟨28, 4, [0], rw, H, []⟩]⟩,
  -- YLD_INk_CFG
  ⟨0x46000204, [(16, 0x10)], [⟨0, 5, [0], rw, H, []⟩, ⟨8, 8, [10], rw, H, [.remap 0 0 1]⟩, ⟨16, 4, [0], rw, H, [.deny 13 15 0x78]⟩]⟩,
  -- YLD_INk_SPAN
  ⟨0x46000208, [(16, 0x10)], [⟨0, 16, [0], rw, H, []⟩]⟩,
  -- YLD_INk_STAT
  ⟨0x4600020C, [(16, 0x10)], [⟨0, 8, [0], ro, L, []⟩, ⟨8, 1, [0], ro, L, []⟩, ⟨9, 1, [1], ro, L, []⟩, ⟨10, 1, [0], ro, L, []⟩]⟩,
  -- YLD_T_CTRL
  ⟨0x46080000, [], [⟨0, 1, [0], wo, L, []⟩, ⟨1, 1, [0], wo, L, []⟩, ⟨2, 1, [0], wo, L, []⟩, ⟨3, 1, [0], wo, L, []⟩]⟩,
  -- YLD_T_STATUS
  ⟨0x46080004, [], [⟨0, 1, [0], ro, L, []⟩, ⟨8, 6, [0], ro, L, []⟩, ⟨16, 6, [0], ro, L, []⟩, ⟨24, 4, [0], ro, L, []⟩]⟩,
  -- YLD_T_GRID
  ⟨0x46080008, [], [⟨0, 6, [1], rw, H, [.deny 0 0 0x79, .deny 61 63 0x79]⟩, ⟨6, 1, [0], rw, H, []⟩]⟩,
  -- YLD_T_E0
  ⟨0x4608000C, [], [⟨0, 32, [0], rw, H, []⟩]⟩
]

/-- Registers of chapter 16, part 2. -/
def rows16_2 : List RegRow := [
  -- YLD_T_N0
  ⟨0x46080010, [], [⟨0, 32, [0], rw, H, []⟩]⟩,
  -- YLD_T_SEASON
  ⟨0x46080014, [], [⟨0, 32, [0], rw, H, []⟩]⟩,
  -- YLD_T_PRIOR
  ⟨0x46080018, [], [⟨0, 32, [0], rw, H, []⟩]⟩,
  -- YLD_T_TIMES
  ⟨0x4608001C, [], [⟨0, 9, [10], rw, S, [.clamp 1 300]⟩, ⟨16, 9, [30], rw, S, [.clamp 5 300]⟩]⟩,
  -- YLD_T_FF
  ⟨0x46080020, [], [⟨0, 8, [96], rw, S, []⟩, ⟨8, 8, [10], rw, S, []⟩, ⟨16, 8, [3], rw, S, [.remap 0 0 1]⟩]⟩,
  -- YLD_T_FF_STAT
  ⟨0x46080024, [], [⟨0, 16, [4096], rs, L, []⟩, ⟨16, 8, [0], ro, L, []⟩, ⟨24, 8, [0], ro, L, []⟩]⟩,
  -- YLD_T_FF_STAT2
  ⟨0x46080028, [], [⟨0, 16, [0], ro, L, []⟩, ⟨16, 1, [1], ro, L, []⟩]⟩,
  -- YLD_T_EV
  ⟨0x4608002C, [], [⟨0, 1, [0], w1c, L, []⟩]⟩,
  -- YLD_T_CNT_A
  ⟨0x46080030, [], [⟨0, 16, [0], ro, L, []⟩, ⟨16, 16, [0], ro, L, []⟩]⟩,
  -- YLD_T_CNT_B
  ⟨0x46080034, [], [⟨0, 16, [0], ro, L, []⟩, ⟨16, 16, [0], ro, L, []⟩]⟩,
  -- YLD_T_CNT_C
  ⟨0x46080038, [], [⟨0, 16, [0], ro, L, []⟩, ⟨16, 8, [0], ro, L, []⟩, ⟨24, 8, [0], ro, L, []⟩]⟩,
  -- YLD_T_ACK
  ⟨0x4608003C, [], [⟨0, 32, [0], ro, L, []⟩]⟩,
  -- YLD_T_QTILE
  ⟨0x46080040, [], [⟨0, 16, [0], rw, L, []⟩, ⟨16, 16, [0], rw, L, []⟩]⟩,
  -- YLD_T_QCELL
  ⟨0x46080044, [], [⟨0, 18, [0], rw, L, []⟩, ⟨24, 4, [0], rw, L, [.remap 9 14 15]⟩]⟩,
  -- YLD_T_QSTAT
  ⟨0x46080048, [], [⟨0, 2, [0], ro, L, []⟩]⟩,
  -- YLD_T_QWn
  ⟨0x4608004C, [(4, 0x4)], [⟨0, 32, [0], rs, L, []⟩]⟩
]

/-- Registers of chapter 17, part 0. -/
def rows17_0 : List RegRow := [
  -- SST_CTRL
  ⟨0x46800000, [], [⟨0, 1, [0], wo, L, []⟩, ⟨1, 1, [0], wo, L, []⟩, ⟨2, 1, [0], wo, L, []⟩, ⟨3, 1, [0], wo, L, []⟩, ⟨4, 1, [0], wo, L, []⟩]⟩,
  -- SST_STATUS
  ⟨0x46800004, [], [⟨0, 3, [0], ro, L, []⟩, ⟨3, 2, [0], ro, L, []⟩, ⟨8, 4, [0], ro, L, []⟩]⟩,
  -- SST_POLICY
  ⟨0x46800008, [], [⟨0, 2, [0], rw, H, [.deny 3 3 0x7A]⟩, ⟨2, 1, [0], rw, H, []⟩, ⟨8, 4, [15], rw, H, []⟩]⟩,
  -- SST_TIMES
  ⟨0x4680000C, [], [⟨0, 9, [150], rw, S, [.clamp 50 400]⟩, ⟨16, 9, [250], rw, S, [.clamp 100 400]⟩]⟩,
  -- SST_TIMES2
  ⟨0x46800010, [], [⟨0, 14, [2000], rw, S, [.clamp 500 10000]⟩, ⟨16, 6, [10], rw, S, [.clamp 1 60]⟩, ⟨24, 6, [20], rw, S, [.clamp 1 60]⟩]⟩,
  -- SST_T01
  ⟨0x46800014, [], [⟨0, 5, [4], rw, S, [.clamp 1 16]⟩]⟩,
  -- SST_EV
  ⟨0x46800018, [], [⟨0, 1, [0], w1c, L, []⟩, ⟨1, 1, [0], w1c, L, []⟩, ⟨2, 1, [0], w1c, L, []⟩, ⟨3, 1, [0], w1c, L, []⟩, ⟨4, 1, [0], w1c, L, []⟩]⟩,
  -- SST_FMT
  ⟨0x4680001C, [], [⟨0, 16, [0], wo, L, []⟩, ⟨16, 4, [0], wo, L, []⟩]⟩,
  -- SST_TIERt_BLK
  ⟨0x46800020, [(4, 0x8)], [⟨0, 32, [0], ro, L, []⟩]⟩,
  -- SST_TIERt_DROP
  ⟨0x46800024, [(4, 0x8)], [⟨0, 32, [0], ro, L, []⟩]⟩,
  -- SST_BACKLOG
  ⟨0x46800040, [], [⟨0, 16, [0], ro, L, []⟩, ⟨16, 16, [0], ro, L, []⟩]⟩,
  -- SST_MP
  ⟨0x46800044, [], [⟨0, 16, [0], ro, L, []⟩, ⟨16, 16, [0], ro, L, []⟩]⟩,
  -- SST_FREE
  ⟨0x46800048, [], [⟨0, 32, [0], ro, L, []⟩]⟩,
  -- SST_CNT_FAULT
  ⟨0x4680004C, [], [⟨0, 16, [0], ro, L, []⟩, ⟨16, 8, [0], ro, L, []⟩, ⟨24, 8, [0], ro, L, []⟩]⟩,
  -- SST_Dd_STAT
  ⟨0x46800100, [(4, 0x10)], [⟨0, 3, [0], ro, L, []⟩, ⟨8, 2, [0], ro, L, []⟩, ⟨16, 14, [0], ro, L, []⟩]⟩,
  -- SST_Dd_CAP
  ⟨0x46800104, [(4, 0x10)], [⟨0, 32, [0], ro, L, []⟩]⟩,
  -- SST_Dd_CNT
  ⟨0x46800108, [(4, 0x10)], [⟨0, 16, [0], ro, L, []⟩, ⟨16, 8, [0], ro, L, []⟩, ⟨24, 8, [0], ro, L, []⟩]⟩,
  -- SST_Dd_DEBT
  ⟨0x4680010C, [(4, 0x10)], [⟨0, 32, [0], ro, L, []⟩]⟩,
  -- SST_RP_FROM_LO
  ⟨0x46800200, [], [⟨0, 32, [0], rw, H, []⟩]⟩,
  -- SST_RP_FROM_HI
  ⟨0x46800204, [], [⟨0, 32, [0], rw, H, []⟩]⟩
]

/-- Registers of chapter 17, part 1. -/
def rows17_1 : List RegRow := [
  -- SST_RP_TO_LO
  ⟨0x46800208, [], [⟨0, 32, [0], rw, H, []⟩]⟩,
  -- SST_RP_TO_HI
  ⟨0x4680020C, [], [⟨0, 32, [0], rw, H, []⟩]⟩,
  -- SST_RP_CTRL
  ⟨0x46800210, [], [⟨0, 1, [0], wo, L, []⟩, ⟨1, 1, [0], wo, L, []⟩]⟩,
  -- SST_RP_STAT
  ⟨0x46800214, [], [⟨0, 3, [0], ro, L, []⟩, ⟨3, 1, [0], w1c, L, []⟩, ⟨4, 1, [0], w1c, L, []⟩, ⟨8, 8, [0], ro, L, []⟩, ⟨16, 16, [0], ro, L, []⟩]⟩,
  -- SST_RP_LAG
  ⟨0x46800218, [], [⟨0, 32, [0], ro, L, []⟩]⟩
]

/-- All rows of the group. -/
def rowsNav : List RegRow :=
  rows14_0 ++ rows14_1 ++ rows15_0 ++ rows15_1 ++ rows15_2 ++ rows16_0 ++ rows16_1 ++ rows16_2 ++ rows17_0 ++ rows17_1

end Sys2Proof.Machine.T
end

