-- ==== Sys2Proof/Machine/RegTableNet.lean ====
section
/-! DEFINITION. The register tables of the spec as data (Net group): where each register lies, its fields, their access, change class, reset value and read-back rule.
Reserved bits are not listed: they read 0 and a write to them has no effect (R569). -/

namespace Sys2Proof.Machine.T

open RegAcc Cls

/-- Registers of chapter 18, part 0. -/
def rows18_0 : List RegRow := [
  -- MB_CTRL
  ⟨0x47000000, [(24, 0x1000)], [⟨0, 1, [0], wo, L, []⟩, ⟨1, 1, [0], wo, L, []⟩, ⟨2, 1, [0], wo, L, []⟩, ⟨3, 1, [0], wo, L, []⟩, ⟨4, 1, [0], wo, L, []⟩, ⟨5, 1, [0], wo, L, []⟩]⟩,
  -- MB_STATUS
  ⟨0x47000004, [(24, 0x1000)], [⟨0, 3, [0], ro, L, []⟩, ⟨3, 2, [0], ro, L, []⟩, ⟨5, 1, [0], ro, L, []⟩, ⟨6, 1, [0], ro, L, []⟩, ⟨7, 1, [0], ro, L, []⟩, ⟨8, 2, [0], ro, L, []⟩, ⟨16, 10, [0], ro, L, []⟩, ⟨26, 6, [0], ro, L, []⟩]⟩,
  -- MB_CFG
  ⟨0x47000008, [(24, 0x1000)], [⟨0, 1, [0], rw, H, []⟩, ⟨1, 1, [1], rw, H, []⟩, ⟨2, 1, [0], rw, S, []⟩, ⟨3, 1, [0], rw, S, []⟩]⟩,
  -- MB_NBT
  ⟨0x4700000C, [(24, 0x1000)], [⟨0, 5, [3], rw, H, []⟩, ⟨5, 6, [38], rw, H, []⟩, ⟨11, 6, [29], rw, H, []⟩, ⟨17, 6, [9], rw, H, [.deny 0 0 0x59]⟩, ⟨23, 6, [9], rw, H, []⟩]⟩,
  -- MB_DBT
  ⟨0x47000010, [(24, 0x1000)], [⟨0, 5, [1], rw, H, []⟩, ⟨5, 5, [7], rw, H, []⟩, ⟨10, 5, [6], rw, H, []⟩, ⟨15, 4, [4], rw, H, []⟩, ⟨19, 4, [4], rw, H, []⟩, ⟨23, 1, [1], rw, H, []⟩, ⟨24, 7, [30], rw, H, []⟩]⟩,
  -- MB_PHY
  ⟨0x47000014, [(24, 0x1000)], [⟨0, 1, [0], rw, L, []⟩, ⟨1, 1, [0], rw, L, []⟩, ⟨2, 1, [0], rw, L, []⟩]⟩,
  -- MB_ERRCNT
  ⟨0x47000018, [(24, 0x1000)], [⟨0, 8, [0], ro, L, []⟩, ⟨8, 8, [0], ro, L, []⟩, ⟨16, 3, [0], ro, L, []⟩, ⟨24, 3, [0], ro, L, []⟩]⟩,
  -- MB_WARN
  ⟨0x4700001C, [(24, 0x1000)], [⟨0, 8, [96], rw, L, [.remap 0 0 1]⟩, ⟨8, 8, [96], rw, L, [.remap 0 0 1]⟩, ⟨16, 8, [0], rw, L, []⟩]⟩,
  -- MB_BUSOFF
  ⟨0x47000020, [(24, 0x1000)], [⟨0, 16, [0], rw, L, [.clamp 0 60000]⟩, ⟨16, 1, [0], rw, L, []⟩]⟩,
  -- MB_TXCFG
  ⟨0x47000024, [(24, 0x1000)], [⟨0, 4, [15], rw, S, []⟩]⟩,
  -- MB_EV
  ⟨0x47000028, [(24, 0x1000)], [⟨0, 1, [0], w1c, L, []⟩, ⟨1, 1, [0], w1c, L, []⟩, ⟨2, 1, [0], w1c, L, []⟩, ⟨3, 1, [0], w1c, L, []⟩, ⟨4, 1, [0], w1c, L, []⟩, ⟨5, 1, [0], w1c, L, []⟩, ⟨6, 1, [0], w1c, L, []⟩, ⟨7, 1, [0], w1c, L, []⟩, ⟨8, 1, [0], w1c, L, []⟩, ⟨9, 1, [0], w1c, L, []⟩, ⟨10, 1, [0], w1c, L, []⟩]⟩,
  -- MB_SCHED
  ⟨0x4700002C, [(24, 0x1000)], [⟨0, 14, [1000], rw, H, [.clamp 10 10000]⟩, ⟨14, 2, [0], rw, H, [.deny 3 3 0x5C]⟩, ⟨16, 3, [0], rw, H, [.deny 7 7 0x5C]⟩, ⟨20, 4, [3], rw, H, []⟩]⟩,
  -- MB_REF
  ⟨0x47000030, [(24, 0x1000)], [⟨0, 29, [0], rw, H, []⟩, ⟨29, 1, [0], rw, H, []⟩]⟩,
  -- MB_REF2
  ⟨0x47000034, [(24, 0x1000)], [⟨0, 14, [1000], rw, H, [.clamp 10 10000]⟩, ⟨16, 14, [0], rw, H, [.atMost (-8) 0 14 (-1)]⟩]⟩,
  -- MB_CYCLE
  ⟨0x47000038, [(24, 0x1000)], [⟨0, 6, [0], ro, L, []⟩, ⟨8, 8, [0], ro, L, []⟩, ⟨16, 16, [0], ro, L, []⟩]⟩,
  -- MB_CNT_RX
  ⟨0x47000040, [(24, 0x1000)], [⟨0, 32, [0], ro, L, []⟩]⟩,
  -- MB_CNT_TX
  ⟨0x47000044, [(24, 0x1000)], [⟨0, 32, [0], ro, L, []⟩]⟩,
  -- MB_CNT_ERR
  ⟨0x47000048, [(24, 0x1000)], [⟨0, 16, [0], ro, L, []⟩, ⟨16, 16, [0], ro, L, []⟩]⟩,
  -- MB_CNT_DROP
  ⟨0x4700004C, [(24, 0x1000)], [⟨0, 32, [0], ro, L, []⟩]⟩,
  -- MB_CNT_NOMATCH
  ⟨0x47000050, [(24, 0x1000)], [⟨0, 32, [0], ro, L, []⟩]⟩
]

/-- Registers of chapter 18, part 1. -/
def rows18_1 : List RegRow := [
  -- MB_CNT_ABANDON
  ⟨0x47000054, [(24, 0x1000)], [⟨0, 16, [0], ro, L, []⟩, ⟨16, 16, [0], ro, L, []⟩]⟩,
  -- MB_CNT_MISC
  ⟨0x47000058, [(24, 0x1000)], [⟨0, 8, [0], ro, L, []⟩, ⟨8, 8, [0], ro, L, []⟩, ⟨16, 8, [0], ro, L, []⟩, ⟨24, 8, [0], ro, L, []⟩]⟩,
  -- MB_RXSTRk
  ⟨0x47000060, [(24, 0x1000), (8, 0x4)], [⟨0, 16, [0], rw, H, []⟩]⟩,
  -- MB_QSTRk
  ⟨0x47000080, [(24, 0x1000), (8, 0x4)], [⟨0, 16, [0], rw, H, []⟩]⟩,
  -- MB_FLTf_ID
  ⟨0x47000100, [(24, 0x1000), (64, 0x8)], [⟨0, 29, [0], rw, S, []⟩, ⟨29, 1, [0], rw, S, []⟩, ⟨30, 1, [0], rw, S, []⟩, ⟨31, 1, [0], rw, S, []⟩]⟩,
  -- MB_FLTf_MASK
  ⟨0x47000104, [(24, 0x1000), (64, 0x8)], [⟨0, 29, [0], rw, S, []⟩, ⟨29, 3, [0], rw, S, []⟩]⟩,
  -- MB_WINw
  ⟨0x47000300, [(24, 0x1000), (32, 0x4)], [⟨0, 14, [0], rw, S, []⟩, ⟨14, 2, [0], rw, S, []⟩, ⟨16, 5, [0], rw, S, []⟩, ⟨21, 3, [0], rw, S, [.deny 7 7 0x5C]⟩, ⟨24, 6, [0], rw, S, []⟩]⟩,
  -- MB_OBJo_ID
  ⟨0x47000400, [(24, 0x1000), (32, 0x40)], [⟨0, 29, [0], rw, S, []⟩, ⟨29, 1, [0], rw, S, []⟩, ⟨30, 1, [0], rw, S, []⟩, ⟨31, 1, [0], rw, S, []⟩]⟩,
  -- MB_OBJo_CFG
  ⟨0x47000404, [(24, 0x1000), (32, 0x40)], [⟨0, 4, [8], rw, S, []⟩, ⟨4, 2, [0], rw, H, [.remap 3 3 0]⟩, ⟨6, 1, [0], rw, S, []⟩, ⟨8, 10, [0], rw, S, [.clamp 0 1000]⟩, ⟨24, 8, [1], rw, S, [.remap 0 0 1]⟩]⟩,
  -- MB_OBJo_STREAM
  ⟨0x47000408, [(24, 0x1000), (32, 0x40)], [⟨0, 16, [0], rw, H, []⟩]⟩,
  -- MB_OBJo_STAT
  ⟨0x4700040C, [(24, 0x1000), (32, 0x40)], [⟨0, 1, [0], ro, L, []⟩, ⟨1, 1, [0], ro, L, []⟩, ⟨16, 16, [0], ro, L, []⟩]⟩,
  -- MB_OBJo_CNT
  ⟨0x47000410, [(24, 0x1000), (32, 0x40)], [⟨0, 16, [0], ro, L, []⟩, ⟨16, 16, [0], ro, L, []⟩]⟩,
  -- MB_OBJo_SIGk
  ⟨0x47000420, [(24, 0x1000), (32, 0x40), (8, 0x4)], [⟨0, 9, [0], rw, S, []⟩, ⟨10, 5, [0], rw, S, []⟩, ⟨15, 1, [0], rw, S, []⟩, ⟨16, 1, [0], rw, S, []⟩, ⟨17, 1, [0], rw, S, []⟩, ⟨18, 1, [0], rw, S, []⟩]⟩,
  -- default data of transmit objects
  ⟨0x47100000, [(24, 0x800), (32, 0x40), (16, 0x4)], [⟨0, 32, [0], rw, S, []⟩]⟩
]

/-- Registers of chapter 19, part 0. -/
def rows19_0 : List RegRow := [
  -- ETH_CTRL
  ⟨0x47800000, [], [⟨0, 1, [0], wo, L, []⟩, ⟨1, 1, [0], wo, L, []⟩]⟩,
  -- ETH_STATUS
  ⟨0x47800004, [], [⟨0, 16, [0], ro, L, []⟩, ⟨16, 1, [0], ro, L, []⟩]⟩,
  -- ETH_SW_CFG
  ⟨0x47800008, [], [⟨0, 10, [300], rw, S, [.clamp 10 1000]⟩]⟩,
  -- ETH_TS_CFG
  ⟨0x4780000C, [], [⟨0, 3, [2], rw, H, [.clamp 0 5]⟩, ⟨3, 3, [5], rw, H, [.clamp 0 5]⟩, ⟨8, 8, [246], rw, H, []⟩, ⟨16, 8, [0], rw, H, []⟩, ⟨24, 8, [10], rw, H, [.remap 0 0 1]⟩]⟩,
  -- ETH_TS_STAT
  ⟨0x47800010, [], [⟨0, 8, [248], ro, L, []⟩, ⟨8, 8, [254], ro, L, []⟩, ⟨16, 8, [0], ro, L, []⟩]⟩,
  -- ETH_HOST
  ⟨0x47800014, [], [⟨0, 10, [0], ro, L, []⟩]⟩,
  -- ETH_HOST_DROP
  ⟨0x47800018, [], [⟨0, 32, [0], ro, L, []⟩]⟩,
  -- ETH_TQ_CFG
  ⟨0x4780001C, [], [⟨0, 1, [0], rw, L, []⟩, ⟨1, 3, [6], rw, L, []⟩, ⟨4, 12, [0], rw, L, [.deny 4095 4095 0x62]⟩, ⟨16, 16, [0], rw, L, []⟩]⟩,
  -- ETH_TQ_DA_LO
  ⟨0x47800020, [], [⟨0, 32, [3], rw, L, []⟩]⟩,
  -- ETH_TQ_DA_HI
  ⟨0x47800024, [], [⟨0, 16, [10777], rw, L, []⟩]⟩,
  -- ETH_TQ_SEQ
  ⟨0x47800028, [], [⟨0, 32, [0], ro, L, []⟩]⟩,
  -- ETH_EV
  ⟨0x47800030, [], [⟨0, 1, [0], w1c, L, []⟩, ⟨1, 1, [0], w1c, L, []⟩, ⟨2, 1, [0], w1c, L, []⟩, ⟨3, 1, [0], w1c, L, []⟩]⟩,
  -- ETH_VLANv
  ⟨0x47800600, [(64, 0x4)], [⟨0, 12, [0], rw, L, [.deny 0 0 0x62, .deny 4095 4095 0x62]⟩, ⟨12, 17, [0], rw, L, []⟩, ⟨29, 1, [0], rw, L, []⟩]⟩,
  -- ETH_EVTCAPx_LO
  ⟨0x47800F20, [(2, 0x8)], [⟨0, 32, [0], rs, L, []⟩]⟩,
  -- ETH_EVTCAPx_HI
  ⟨0x47800F24, [(2, 0x8)], [⟨0, 32, [0], ro, L, []⟩]⟩,
  -- ETH_Pp_CFG
  ⟨0x47800100, [(16, 0x40)], [⟨0, 1, [0], rw, L, []⟩, ⟨1, 1, [0], rw, H, []⟩, ⟨2, 1, [0], rw, L, []⟩, ⟨3, 1, [1], rw, H, []⟩, ⟨4, 1, [0], rw, H, []⟩, ⟨5, 3, [0], rw, S, []⟩, ⟨8, 12, [1], rw, H, [.deny 0 0 0x62, .deny 4095 4095 0x62]⟩, ⟨20, 2, [0], rw, H, [.remap 3 3 0]⟩]⟩,
  -- ETH_Pp_STAT
  ⟨0x47800104, [(16, 0x40)], [⟨0, 1, [0], ro, L, []⟩, ⟨1, 3, [0], ro, L, []⟩, ⟨4, 1, [0], ro, L, []⟩, ⟨16, 16, [0], ro, L, []⟩]⟩,
  -- ETH_Pp_CNT_RX
  ⟨0x47800108, [(16, 0x40)], [⟨0, 32, [0], ro, L, []⟩]⟩,
  -- ETH_Pp_CNT_TX
  ⟨0x4780010C, [(16, 0x40)], [⟨0, 32, [0], ro, L, []⟩]⟩,
  -- ETH_Pp_CNT_DROP
  ⟨0x47800110, [(16, 0x40)], [⟨0, 16, [0], ro, L, []⟩, ⟨16, 16, [0], ro, L, []⟩]⟩
]

/-- Registers of chapter 19, part 1. -/
def rows19_1 : List RegRow := [
  -- ETH_Pp_CNT_ERR
  ⟨0x47800114, [(16, 0x40)], [⟨0, 16, [0], ro, L, []⟩, ⟨16, 16, [0], ro, L, []⟩]⟩,
  -- ETH_Pp_GCL_CFG
  ⟨0x47800118, [(16, 0x40)], [⟨0, 7, [0], rw, S, [.deny 65 127 0x62]⟩, ⟨12, 20, [1000], rw, S, [.clamp 100 1000000]⟩]⟩,
  -- ETH_Pp_GCL_BASE_LO
  ⟨0x4780011C, [(16, 0x40)], [⟨0, 32, [0], rw, S, []⟩]⟩,
  -- ETH_Pp_GCL_BASE_HI
  ⟨0x47800120, [(16, 0x40)], [⟨0, 32, [0], rw, S, []⟩]⟩,
  -- ETH_Pp_GCL_STAT
  ⟨0x47800124, [(16, 0x40)], [⟨0, 16, [0], ro, L, []⟩]⟩,
  -- EHR_CTRL
  ⟨0x47880000, [], [⟨0, 1, [0], wo, L, []⟩, ⟨1, 1, [0], wo, L, []⟩, ⟨2, 1, [0], wo, L, []⟩]⟩,
  -- EHR_STATUS
  ⟨0x47880004, [], [⟨0, 2, [0], ro, L, []⟩, ⟨8, 5, [0], ro, L, []⟩]⟩,
  -- EHR_CFG
  ⟨0x47880008, [], [⟨0, 16, [47621], rw, H, [.remap 0 0 47621]⟩, ⟨16, 2, [0], rw, H, []⟩, ⟨20, 4, [0], rw, H, []⟩]⟩,
  -- EHR_TIMERS
  ⟨0x4788000C, [], [⟨0, 13, [200], rw, S, [.clamp 50 5000]⟩, ⟨16, 6, [10], rw, S, [.clamp 3 60]⟩, ⟨24, 7, [10], rw, S, [.clamp 1 120]⟩]⟩,
  -- EHR_KEYUPD
  ⟨0x47880010, [], [⟨0, 8, [60], rw, S, [.clamp 1 240]⟩]⟩,
  -- EHR_SENDER_LO
  ⟨0x47880014, [], [⟨0, 32, [0], ro, L, []⟩]⟩,
  -- EHR_SENDER_HI
  ⟨0x47880018, [], [⟨0, 32, [0], ro, L, []⟩]⟩,
  -- EHR_LOCALm
  ⟨0x4788001C, [(4, 0x4)], [⟨0, 32, [0], ro, L, []⟩]⟩,
  -- EHR_EV
  ⟨0x47880030, [], [⟨0, 1, [0], w1c, L, []⟩, ⟨1, 1, [0], w1c, L, []⟩, ⟨2, 1, [0], w1c, L, []⟩, ⟨3, 1, [0], w1c, L, []⟩, ⟨4, 1, [0], w1c, L, []⟩]⟩,
  -- EHR_CNT_A
  ⟨0x47880034, [], [⟨0, 16, [0], ro, L, []⟩, ⟨16, 16, [0], ro, L, []⟩]⟩,
  -- EHR_CNT_B
  ⟨0x47880038, [], [⟨0, 16, [0], ro, L, []⟩, ⟨16, 16, [0], ro, L, []⟩]⟩,
  -- EHR_CNT_C
  ⟨0x4788003C, [], [⟨0, 16, [0], ro, L, []⟩, ⟨16, 16, [0], ro, L, []⟩]⟩,
  -- EHR_CNT_D
  ⟨0x47880040, [], [⟨0, 16, [0], ro, L, []⟩, ⟨16, 16, [0], ro, L, []⟩]⟩,
  -- EHR_PEERn_ADDRm
  ⟨0x47880100, [(16, 0x40), (4, 0x4)], [⟨0, 32, [0], rw, H, []⟩]⟩,
  -- EHR_PEERn_CFG
  ⟨0x47880110, [(16, 0x40)], [⟨0, 1, [0], rw, L, []⟩, ⟨1, 5, [0], rw, H, []⟩, ⟨16, 16, [47621], rw, H, []⟩]⟩
]

/-- Registers of chapter 19, part 2. -/
def rows19_2 : List RegRow := [
  -- EHR_PEERn_UID_LO
  ⟨0x47880114, [(16, 0x40)], [⟨0, 32, [0], rw, H, []⟩]⟩,
  -- EHR_PEERn_UID_HI
  ⟨0x47880118, [(16, 0x40)], [⟨0, 32, [0], rw, H, []⟩]⟩,
  -- EHR_PEERn_STAT
  ⟨0x4788011C, [(16, 0x40)], [⟨0, 2, [0], ro, L, []⟩, ⟨2, 1, [0], ro, L, []⟩, ⟨8, 8, [0], ro, L, []⟩, ⟨16, 16, [0], ro, L, []⟩]⟩,
  -- EHR_PEERn_RX
  ⟨0x47880120, [(16, 0x40)], [⟨0, 32, [0], ro, L, []⟩]⟩,
  -- EHR_PEERn_TX
  ⟨0x47880124, [(16, 0x40)], [⟨0, 32, [0], ro, L, []⟩]⟩,
  -- EHR_PEERn_AGE
  ⟨0x47880128, [(16, 0x40)], [⟨0, 32, [0], ro, L, []⟩]⟩,
  -- gate control list of port p, entry e
  ⟨0x47801000, [(16, 0x200), (64, 0x4)], [⟨0, 8, [0], rw, S, []⟩, ⟨8, 24, [0], rw, S, [.remap 0 0 1]⟩]⟩
]

/-- Reset of the gamma tables: ⌊i × 1,023 / 255 + 0.5⌋ (chapter 20, Registers). -/
def gammaReset : List Nat := (List.range 256).map (fun i => (i * 2046 + 255) / 510)

/-- Registers of chapter 20, part 0. -/
def rows20_0 : List RegRow := [
  -- DSP_CTRL
  ⟨0x48000000, [], [⟨0, 1, [0], rw, H, []⟩, ⟨1, 1, [0], wo, L, []⟩]⟩,
  -- DSP_Pn_CTRL
  ⟨0x48000100, [(2, 0x100)], [⟨0, 1, [0], rw, L, []⟩, ⟨1, 1, [0], rw, L, []⟩, ⟨2, 1, [1], rw, L, []⟩]⟩,
  -- DSP_Pn_STATUS
  ⟨0x48000104, [(2, 0x100)], [⟨0, 3, [0], ro, L, []⟩, ⟨3, 1, [0], ro, L, []⟩, ⟨8, 1, [0], w1c, L, []⟩, ⟨9, 1, [0], w1c, L, []⟩]⟩,
  -- DSP_Pn_CLK
  ⟨0x48000108, [(2, 0x100)], [⟨0, 17, [77000], rw, H, []⟩, ⟨17, 2, [1], rw, H, [.deny 3 3 0x63]⟩, ⟨19, 2, [2], rw, S, [.deny 3 3 0x63]⟩]⟩,
  -- DSP_Pn_H1
  ⟨0x4800010C, [(2, 0x100)], [⟨0, 12, [1920], rw, S, []⟩, ⟨16, 8, [48], rw, S, []⟩]⟩,
  -- DSP_Pn_H2
  ⟨0x48000110, [(2, 0x100)], [⟨0, 8, [32], rw, S, []⟩, ⟨8, 8, [80], rw, S, []⟩]⟩,
  -- DSP_Pn_V1
  ⟨0x48000114, [(2, 0x100)], [⟨0, 12, [1200], rw, S, []⟩, ⟨16, 8, [3], rw, S, []⟩]⟩,
  -- DSP_Pn_V2
  ⟨0x48000118, [(2, 0x100)], [⟨0, 8, [6], rw, S, []⟩, ⟨8, 8, [26], rw, S, []⟩]⟩,
  -- DSP_Pn_FB
  ⟨0x4800011C, [(2, 0x100)], [⟨0, 32, [0], rw, S, []⟩]⟩,
  -- DSP_Pn_STRIDE
  ⟨0x48000120, [(2, 0x100)], [⟨0, 16, [7680], rw, S, [.roundUp 64]⟩]⟩,
  -- DSP_Pn_INV
  ⟨0x48000124, [(2, 0x100)], [⟨0, 2, [0], rw, S, []⟩, ⟨2, 1, [0], rw, H, []⟩]⟩,
  -- DSP_Pn_SEQ1
  ⟨0x48000128, [(2, 0x100)], [⟨0, 8, [20], rw, L, [.clamp 0 200]⟩, ⟨16, 10, [200], rw, L, [.clamp 0 1000]⟩]⟩,
  -- DSP_Pn_SEQ2
  ⟨0x4800012C, [(2, 0x100)], [⟨0, 8, [10], rw, L, [.clamp 0 200]⟩, ⟨8, 8, [10], rw, L, [.clamp 0 200]⟩, ⟨16, 11, [500], rw, L, [.clamp 0 2000]⟩]⟩,
  -- DSP_Pn_BL
  ⟨0x48000130, [(2, 0x100)], [⟨0, 15, [200], rw, L, [.deny 0 99 0x63, .deny 20001 32767 0x63]⟩, ⟨16, 10, [1023], rw, L, []⟩]⟩,
  -- DSP_Pn_NTC
  ⟨0x48000134, [(2, 0x100)], [⟨0, 16, [1000], rw, L, [.remap 0 0 1]⟩, ⟨16, 16, [3950], rw, L, [.remap 0 0 1]⟩]⟩,
  -- DSP_Pn_TEMP
  ⟨0x48000138, [(2, 0x100)], [⟨0, 16, [0], ro, L, []⟩, ⟨16, 1, [1], ro, L, []⟩]⟩,
  -- DSP_Pn_VCOM
  ⟨0x4800013C, [(2, 0x100)], [⟨0, 13, [0], ro, L, []⟩, ⟨16, 13, [3400], rw, L, [.clamp 2000 6000]⟩]⟩,
  -- DSP_Pn_VCFG
  ⟨0x48000140, [(2, 0x100)], [⟨0, 8, [20], rw, L, [.remap 0 0 1]⟩]⟩,
  -- DSP_Pn_CNT
  ⟨0x48000144, [(2, 0x100)], [⟨0, 16, [0], ro, L, []⟩, ⟨16, 16, [0], ro, L, []⟩]⟩,
  -- DSP_Pn_VTk
  ⟨0x48000180, [(2, 0x100), (16, 0x4)], [⟨0, 16, [65136, 65216, 65296, 65376, 65456, 0, 80, 160, 240, 320, 400, 480, 560, 640, 720, 800], rw, S, []⟩, ⟨16, 16, [3400], rw, S, [.clamp 2000 6000]⟩]⟩
]

/-- Registers of chapter 20, part 1. -/
def rows20_1 : List RegRow := [
  -- gamma table, port 0, colour 0
  ⟨0x48010000, [(256, 0x4)], [⟨0, 10, gammaReset, rw, S, []⟩]⟩,
  -- gamma table, port 0, colour 1
  ⟨0x48010400, [(256, 0x4)], [⟨0, 10, gammaReset, rw, S, []⟩]⟩,
  -- gamma table, port 0, colour 2
  ⟨0x48010800, [(256, 0x4)], [⟨0, 10, gammaReset, rw, S, []⟩]⟩,
  -- gamma table, port 1, colour 0
  ⟨0x48011000, [(256, 0x4)], [⟨0, 10, gammaReset, rw, S, []⟩]⟩,
  -- gamma table, port 1, colour 1
  ⟨0x48011400, [(256, 0x4)], [⟨0, 10, gammaReset, rw, S, []⟩]⟩,
  -- gamma table, port 1, colour 2
  ⟨0x48011800, [(256, 0x4)], [⟨0, 10, gammaReset, rw, S, []⟩]⟩
]

/-- All rows of the group. -/
def rowsNet : List RegRow :=
  rows18_0 ++ rows18_1 ++ rows19_0 ++ rows19_1 ++ rows19_2 ++ rows20_0 ++ rows20_1

end Sys2Proof.Machine.T
end

