-- ==== Sys2Proof/Machine/RegTableSys.lean ====
section
/-! DEFINITION. The register tables of the spec as data (Sys group): where each register lies, its fields, their access, change class, reset value and read-back rule.
Reserved bits are not listed: they read 0 and a write to them has no effect (R569). -/

namespace Sys2Proof.Machine.T

open RegAcc Cls

/-- Registers of chapter 01, part 0. -/
def rows01_0 : List RegRow := [
  -- SUP_MTIME_LO
  ⟨0x40000100, [], [⟨0, 32, [0], rs, L, []⟩]⟩,
  -- SUP_MTIME_HI
  ⟨0x40000104, [], [⟨0, 32, [0], ro, L, []⟩]⟩,
  -- SUP_MTIME_STATUS
  ⟨0x40000108, [], [⟨0, 3, [0], ro, L, []⟩, ⟨3, 1, [0], w1c, L, []⟩, ⟨16, 16, [0], ro, L, []⟩]⟩,
  -- SUP_MTIME_ERR
  ⟨0x4000010C, [], [⟨0, 32, [4294967295], ro, L, []⟩]⟩,
  -- SUP_MTIME_STEP
  ⟨0x40000110, [], [⟨0, 32, [0], ro, L, []⟩]⟩,
  -- SUP_ISL_STATUS
  ⟨0x40000120, [], [⟨0, 9, [0], ro, L, []⟩, ⟨16, 9, [0], ro, L, []⟩]⟩,
  -- SUP_CELL_HELDk
  ⟨0x40000130, [(9, 0x4)], [⟨0, 31, [0], ro, L, []⟩]⟩
]

/-- Registers of chapter 02, part 0. -/
def rows02_0 : List RegRow := [
  -- FAB_CTRL
  ⟨0x40100000, [], [⟨0, 1, [0], wo, L, []⟩]⟩,
  -- FAB_STATUS
  ⟨0x40100004, [], [⟨0, 9, [0], ro, L, []⟩, ⟨9, 1, [0], ro, L, []⟩]⟩,
  -- FAB_ERR_STAT
  ⟨0x40100010, [], [⟨0, 1, [0], w1c, L, []⟩, ⟨1, 1, [0], w1c, L, []⟩, ⟨2, 1, [0], w1c, L, []⟩, ⟨3, 1, [0], w1c, L, []⟩, ⟨4, 1, [0], w1c, L, []⟩, ⟨5, 1, [0], w1c, L, []⟩, ⟨6, 1, [0], w1c, L, []⟩, ⟨7, 1, [0], w1c, L, []⟩, ⟨8, 1, [0], w1c, L, []⟩]⟩,
  -- FAB_ERR_CNT
  ⟨0x40100014, [], [⟨0, 32, [0], ro, L, []⟩]⟩,
  -- FAB_LATE_CNT
  ⟨0x40100018, [], [⟨0, 32, [0], ro, L, []⟩]⟩,
  -- FAB_EDGE_SUMMARY
  ⟨0x40100020, [], [⟨0, 1, [0], w1c, L, []⟩, ⟨1, 1, [0], w1c, L, []⟩, ⟨2, 1, [0], w1c, L, []⟩, ⟨3, 1, [0], w1c, L, []⟩, ⟨4, 1, [0], w1c, L, []⟩, ⟨5, 1, [0], w1c, L, []⟩, ⟨6, 1, [0], w1c, L, []⟩, ⟨7, 1, [0], w1c, L, []⟩]⟩,
  -- FAB_TAG_WAIT_LIMIT
  ⟨0x40100030, [], [⟨0, 10, [50], rw, L, [.clamp 1 1000]⟩]⟩,
  -- FAB_RSP_TIMEOUT
  ⟨0x40100034, [], [⟨0, 10, [200], rw, S, [.clamp 1 1000]⟩]⟩,
  -- FAB_TAG_STORE_LIVE
  ⟨0x40100038, [], [⟨0, 17, [0], ro, L, []⟩]⟩,
  -- FAB_TAG_WAIT_CNT
  ⟨0x4010003C, [], [⟨0, 32, [0], ro, L, []⟩]⟩,
  -- FAB_TAG_ISLk
  ⟨0x40100040, [(9, 0x4)], [⟨0, 14, [0], rw, H, []⟩, ⟨16, 14, [0], ro, L, []⟩]⟩,
  -- FAB_LINKk
  ⟨0x40100100, [(36, 0x4)], [⟨0, 1, [0], ro, L, []⟩, ⟨1, 4, [2, 2, 2, 2, 2, 2, 2, 2, 2, 2, 4, 8, 2, 2, 2, 2, 2, 2, 2, 2, 2, 2, 2, 2, 2, 2, 2, 2, 2, 2, 2, 2, 2, 2, 2, 2], ro, L, []⟩, ⟨8, 8, [0], ro, L, []⟩, ⟨16, 16, [0], ro, L, []⟩]⟩
]

/-- Registers of chapter 03, part 0. -/
def rows03_0 : List RegRow := [
  -- IMG_CTRL
  ⟨0x40200000, [], [⟨0, 1, [0], wo, L, []⟩, ⟨1, 1, [0], wo, L, []⟩]⟩,
  -- IMG_STATUS
  ⟨0x40200004, [], [⟨0, 3, [0], ro, L, []⟩, ⟨8, 8, [0], ro, L, []⟩, ⟨16, 9, [0], ro, L, []⟩]⟩,
  -- IMG_ERR_DETAIL
  ⟨0x40200008, [], [⟨0, 10, [0], ro, L, []⟩, ⟨16, 2, [0], ro, L, []⟩]⟩,
  -- IMG_VERSION
  ⟨0x4020000C, [], [⟨0, 32, [0], ro, L, []⟩]⟩,
  -- IMG_EPOCH
  ⟨0x40200010, [], [⟨0, 32, [0], ro, L, []⟩]⟩,
  -- IMG_RETAINED_FMT
  ⟨0x40200014, [], [⟨0, 16, [0], ro, L, []⟩, ⟨16, 16, [0], ro, L, []⟩]⟩,
  -- IMG_PR_TIMEOUT
  ⟨0x40200020, [], [⟨0, 10, [200], rw, L, [.clamp 10 1000]⟩]⟩,
  -- IMG_PR_STATUS
  ⟨0x40200024, [], [⟨0, 3, [0], ro, L, []⟩, ⟨8, 8, [0], ro, L, []⟩, ⟨16, 3, [0], ro, L, []⟩]⟩,
  -- IMG_RELOAD_CNT
  ⟨0x40200028, [], [⟨0, 16, [0], ro, L, []⟩, ⟨16, 16, [0], ro, L, []⟩]⟩,
  -- IMG_PR_LISTn
  ⟨0x40200040, [(8, 0x4)], [⟨0, 10, [0], rw, H, []⟩, ⟨31, 1, [0], rw, H, []⟩]⟩,
  -- IMG_SELECTEDk
  ⟨0x40200080, [(32, 0x4)], [⟨0, 32, [0], ro, L, []⟩]⟩
]

/-- Registers of chapter 04, part 0. -/
def rows04_0 : List RegRow := [
  -- MODE_ACTIVE
  ⟨0x40000400, [], [⟨0, 12, [0], ro, L, []⟩, ⟨16, 16, [0], ro, L, []⟩]⟩,
  -- MODE_REQ_SET
  ⟨0x40000404, [], [⟨0, 12, [0], wo, L, []⟩]⟩,
  -- MODE_REQ_CLR
  ⟨0x40000408, [], [⟨0, 12, [0], wo, L, []⟩]⟩,
  -- MODE_SUPPRESSED
  ⟨0x4000040C, [], [⟨0, 12, [0], ro, L, []⟩]⟩,
  -- MODE_STATE
  ⟨0x40000410, [], [⟨0, 24, [0], ro, L, []⟩]⟩,
  -- MODE_CONFIRM
  ⟨0x40000414, [], [⟨0, 12, [0], wo, L, []⟩]⟩,
  -- MODE_LIMITS
  ⟨0x40000418, [], [⟨0, 10, [60], rw, L, [.clamp 1 600]⟩, ⟨16, 10, [300], rw, L, [.clamp 1 600]⟩]⟩,
  -- MODE_DL_SUPERVISION
  ⟨0x4000041C, [], [⟨0, 13, [500], rw, S, [.clamp 100 5000]⟩]⟩,
  -- MODE_LAST_CAUSE
  ⟨0x40000420, [], [⟨0, 8, [0], ro, L, []⟩, ⟨8, 3, [0], ro, L, []⟩, ⟨16, 8, [255], ro, L, []⟩]⟩,
  -- MODE_DROP_CNT
  ⟨0x40000424, [], [⟨0, 32, [0], ro, L, []⟩]⟩,
  -- MODE_RESTORE
  ⟨0x40000428, [], [⟨0, 1, [0], w1c, L, []⟩, ⟨1, 1, [0], w1c, L, []⟩]⟩,
  -- MODE_CAL
  ⟨0x4000042C, [], [⟨0, 8, [0], rw, H, []⟩, ⟨8, 1, [0], wo, L, []⟩]⟩,
  -- MODE_PERM_SRCs
  ⟨0x40000440, [(4, 0x8)], [⟨0, 12, [0], rw, H, []⟩, ⟨16, 12, [0], rw, H, []⟩]⟩,
  -- MODE_CONF_SRCs
  ⟨0x40000444, [(4, 0x8)], [⟨0, 12, [0], rw, H, []⟩]⟩
]

/-- Registers of chapter 05, part 0. -/
def rows05_0 : List RegRow := [
  -- PWR_STATE
  ⟨0x40000200, [], [⟨0, 2, [1], ro, L, []⟩, ⟨8, 8, [255], ro, L, []⟩]⟩,
  -- PWR_CTRL
  ⟨0x40000204, [], [⟨0, 2, [0], wo, L, []⟩, ⟨8, 1, [0], wo, L, []⟩]⟩,
  -- PWR_CFG
  ⟨0x40000208, [], [⟨0, 1, [1], rw, L, []⟩, ⟨4, 12, [30], rw, L, [.clamp 0 3600]⟩, ⟨16, 10, [60], rw, L, [.clamp 10 600]⟩]⟩,
  -- PWR_PARK
  ⟨0x4000020C, [], [⟨0, 10, [72], rw, L, [.clamp 1 720]⟩, ⟨16, 8, [0], rw, L, [.remap 1 89 90]⟩]⟩,
  -- PWR_WAKE_EN
  ⟨0x40000210, [], [⟨0, 1, [1], ro, L, []⟩, ⟨1, 8, [7], rw, L, []⟩]⟩,
  -- PWR_STATUS
  ⟨0x40000214, [], [⟨0, 1, [0], ro, L, []⟩, ⟨1, 1, [0], ro, L, []⟩, ⟨2, 1, [0], ro, L, []⟩, ⟨3, 1, [0], ro, L, []⟩, ⟨4, 1, [0], ro, L, []⟩, ⟨5, 1, [0], ro, L, []⟩, ⟨8, 1, [0], w1c, L, []⟩, ⟨9, 1, [0], w1c, L, []⟩, ⟨10, 1, [0], w1c, L, []⟩, ⟨16, 1, [0], ro, L, []⟩, ⟨17, 1, [0], ro, L, []⟩, ⟨18, 1, [0], ro, L, []⟩]⟩,
  -- PWR_PF_CFG
  ⟨0x40000218, [], [⟨0, 8, [60], rw, L, [.clamp 50 80]⟩, ⟨8, 5, [20], rw, L, [.clamp 12 20]⟩]⟩,
  -- PWR_PF_CNT
  ⟨0x4000021C, [], [⟨0, 16, [0], ro, L, []⟩, ⟨16, 16, [0], ro, L, []⟩]⟩,
  -- PWR_RES
  ⟨0x40000220, [], [⟨0, 16, [0], ro, L, []⟩, ⟨16, 8, [0], ro, L, []⟩, ⟨24, 8, [0], ro, L, []⟩]⟩,
  -- PWR_SUPPLY
  ⟨0x40000224, [], [⟨0, 16, [0], ro, L, []⟩, ⟨16, 16, [0], ro, L, []⟩]⟩,
  -- PWR_LAST_SHUT
  ⟨0x40000228, [], [⟨0, 4, [0], ro, L, []⟩, ⟨4, 4, [0], ro, L, []⟩, ⟨8, 8, [0], ro, L, []⟩, ⟨16, 16, [0], ro, L, []⟩]⟩,
  -- SUP_RST_CTRL
  ⟨0x40000300, [], [⟨0, 16, [0], wo, L, []⟩, ⟨16, 1, [0], wo, L, []⟩, ⟨17, 1, [0], wo, L, []⟩, ⟨18, 1, [0], wo, L, []⟩]⟩,
  -- SUP_RST_TARGET
  ⟨0x40000304, [], [⟨0, 16, [65535], rw, L, []⟩]⟩,
  -- SUP_RST_CAUSE
  ⟨0x40000308, [], [⟨0, 8, [1], ro, L, []⟩, ⟨16, 16, [0], ro, L, []⟩]⟩,
  -- SUP_RST_ISLk
  ⟨0x40000314, [(8, 0x4)], [⟨0, 8, [0], ro, L, []⟩, ⟨16, 16, [0], ro, L, []⟩]⟩,
  -- SUP_RST_CELL_LAST
  ⟨0x40000340, [], [⟨0, 16, [65535], ro, L, []⟩, ⟨16, 8, [0], ro, L, []⟩]⟩,
  -- SUP_DEF_FLAGS
  ⟨0x40000344, [], [⟨0, 9, [511], w1c, L, []⟩, ⟨15, 1, [1], w1c, L, []⟩, ⟨16, 1, [0], w1c, L, []⟩]⟩,
  -- SUP_DEF_CELLk
  ⟨0x40000360, [(9, 0x4)], [⟨0, 31, [127, 31, 7, 65535, 127, 15, 255, 65280, 16711680], w1c, L, []⟩]⟩
]

/-- Registers of chapter 21, part 0. -/
def rows21_0 : List RegRow := [
  -- BKP_CTRL
  ⟨0x49000000, [], [⟨0, 1, [0], wo, L, []⟩]⟩,
  -- BKP_STATUS
  ⟨0x49000004, [], [⟨0, 1, [0], ro, L, []⟩, ⟨1, 1, [0], ro, L, []⟩, ⟨2, 1, [1], w1c, L, []⟩, ⟨3, 1, [0], w1c, L, []⟩, ⟨4, 1, [0], w1c, L, []⟩, ⟨5, 1, [0], w1c, L, []⟩, ⟨16, 16, [0], ro, L, []⟩]⟩,
  -- BKP_RTC_TIME
  ⟨0x49000008, [], [⟨0, 6, [0], rs, L, []⟩, ⟨8, 6, [0], ro, L, []⟩, ⟨16, 5, [0], ro, L, []⟩]⟩,
  -- BKP_RTC_DATE
  ⟨0x4900000C, [], [⟨0, 5, [1], ro, L, []⟩, ⟨8, 4, [1], ro, L, []⟩, ⟨16, 8, [0], ro, L, []⟩, ⟨24, 3, [2], ro, L, []⟩]⟩,
  -- BKP_RTC_SUB
  ⟨0x49000010, [], [⟨0, 15, [0], ro, L, []⟩]⟩,
  -- BKP_RTC_BOUND
  ⟨0x49000014, [], [⟨0, 32, [4294967295], ro, L, []⟩]⟩,
  -- BKP_RTC_SET_TIME
  ⟨0x49000018, [], [⟨0, 21, [0], rw, L, []⟩]⟩,
  -- BKP_RTC_SET_DATE
  ⟨0x4900001C, [], [⟨0, 24, [257], rw, L, []⟩]⟩,
  -- BKP_RTC_SET_BOUND
  ⟨0x49000020, [], [⟨0, 16, [1000], rw, L, []⟩]⟩,
  -- BKP_RTC_CAL
  ⟨0x49000024, [], [⟨0, 9, [0], rw, L, []⟩, ⟨16, 1, [1], rw, L, []⟩, ⟨24, 8, [20], rw, L, [.remap 0 0 1]⟩]⟩,
  -- BKP_CFG
  ⟨0x49000028, [], [⟨0, 1, [0], rw, L, []⟩]⟩,
  -- BKP_ALMa_TIME
  ⟨0x49000030, [(2, 0x10)], [⟨0, 6, [0], rw, S, []⟩, ⟨8, 6, [0], rw, S, []⟩, ⟨16, 5, [0], rw, S, []⟩, ⟨24, 3, [1], rw, S, []⟩]⟩,
  -- BKP_ALMa_DATE
  ⟨0x49000034, [(2, 0x10)], [⟨0, 5, [1], rw, S, []⟩, ⟨8, 4, [1], rw, S, []⟩, ⟨16, 8, [0], rw, S, []⟩]⟩,
  -- BKP_ALMa_CFG
  ⟨0x49000038, [(2, 0x10)], [⟨0, 7, [127], rw, S, []⟩, ⟨8, 1, [0], rw, S, []⟩, ⟨9, 1, [0], rw, S, []⟩, ⟨16, 1, [0], w1c, L, []⟩]⟩,
  -- BKP_PWRREQ
  ⟨0x49000050, [], [⟨0, 1, [0], wo, L, []⟩, ⟨1, 1, [0], wo, L, []⟩, ⟨2, 1, [0], ro, L, []⟩, ⟨3, 1, [0], rw, L, []⟩, ⟨4, 1, [0], rw, L, []⟩, ⟨8, 8, [50], rw, L, [.remap 0 0 1]⟩, ⟨16, 10, [120], rw, L, [.clamp 1 600]⟩]⟩
]

/-- Registers of chapter 22, part 0. -/
def rows22_0 : List RegRow := [
  -- UPD_CTRL
  ⟨0x4A000000, [], [⟨0, 16, [0], wo, L, []⟩, ⟨16, 1, [0], wo, L, []⟩, ⟨17, 1, [0], wo, L, []⟩, ⟨18, 1, [0], wo, L, []⟩]⟩,
  -- UPD_STATUS
  ⟨0x4A000004, [], [⟨0, 4, [0], ro, L, []⟩, ⟨4, 4, [0], ro, L, []⟩, ⟨8, 8, [0], ro, L, []⟩, ⟨16, 1, [0], ro, L, []⟩, ⟨17, 1, [0], ro, L, []⟩, ⟨18, 1, [0], ro, L, []⟩, ⟨19, 1, [0], ro, L, []⟩, ⟨20, 1, [0], w1c, L, []⟩]⟩,
  -- UPD_SLOTs_INFO
  ⟨0x4A000010, [(3, 0x10)], [⟨0, 2, [0], ro, L, []⟩, ⟨2, 2, [0], ro, L, []⟩]⟩,
  -- UPD_SLOTs_VER
  ⟨0x4A000014, [(3, 0x10)], [⟨0, 32, [0], ro, L, []⟩]⟩,
  -- UPD_SLOTs_EPOCH
  ⟨0x4A000018, [(3, 0x10)], [⟨0, 32, [0], ro, L, []⟩]⟩,
  -- UPD_SLOTs_LEN
  ⟨0x4A00001C, [(3, 0x10)], [⟨0, 32, [0], ro, L, []⟩]⟩,
  -- UPD_SCHED_LO
  ⟨0x4A000040, [], [⟨0, 32, [0], rw, L, []⟩]⟩,
  -- UPD_SCHED_HI
  ⟨0x4A000044, [], [⟨0, 32, [0], rw, L, []⟩]⟩,
  -- UPD_SCHED_ID
  ⟨0x4A000048, [], [⟨0, 32, [0], rw, L, []⟩]⟩,
  -- UPD_WINDOW
  ⟨0x4A00004C, [], [⟨0, 8, [30], rw, L, [.clamp 1 240]⟩, ⟨8, 8, [24], rw, L, [.clamp 1 72]⟩]⟩,
  -- UPD_RUN
  ⟨0x4A000050, [], [⟨0, 32, [0], ro, L, []⟩]⟩,
  -- UPD_CONFIRM
  ⟨0x4A000054, [], [⟨0, 16, [0], wo, L, []⟩, ⟨16, 1, [0], wo, L, []⟩, ⟨17, 1, [0], wo, L, []⟩, ⟨18, 1, [0], wo, L, []⟩]⟩,
  -- UPD_MIN_EPOCH
  ⟨0x4A000058, [], [⟨0, 32, [0], ro, L, []⟩]⟩,
  -- UPD_REVOKED
  ⟨0x4A00005C, [], [⟨0, 4, [0], ro, L, []⟩]⟩,
  -- UPD_RET_FMT
  ⟨0x4A000060, [], [⟨0, 16, [0], ro, L, []⟩]⟩,
  -- UPD_CNT
  ⟨0x4A000064, [], [⟨0, 16, [0], ro, L, []⟩, ⟨16, 8, [0], ro, L, []⟩, ⟨24, 8, [0], ro, L, []⟩]⟩,
  -- WHD_CTRL
  ⟨0x4D000000, [], [⟨0, 1, [0], wo, L, []⟩]⟩,
  -- WHD_STATUS
  ⟨0x4D000004, [], [⟨0, 1, [0], ro, L, []⟩, ⟨1, 1, [0], ro, L, []⟩, ⟨2, 2, [0], ro, L, []⟩, ⟨4, 1, [0], ro, L, []⟩, ⟨5, 1, [0], w1c, L, []⟩, ⟨8, 8, [0], ro, L, []⟩]⟩,
  -- WHD_CFG
  ⟨0x4D000008, [], [⟨0, 10, [120], rw, L, [.clamp 10 600]⟩, ⟨16, 8, [60], rw, L, [.remap 0 0 1]⟩, ⟨24, 8, [13], rw, L, []⟩]⟩,
  -- WHD_LOCKa
  ⟨0x4D00000C, [(2, 0x4)], [⟨0, 1, [0], ro, L, []⟩, ⟨1, 3, [0], ro, L, []⟩, ⟨16, 16, [0], ro, L, []⟩]⟩
]

/-- Registers of chapter 22, part 1. -/
def rows22_1 : List RegRow := [
  -- WHD_CNT
  ⟨0x4D000014, [], [⟨0, 16, [0], ro, L, []⟩, ⟨16, 8, [0], ro, L, []⟩, ⟨24, 8, [0], ro, L, []⟩]⟩,
  -- WHD_CNT_B
  ⟨0x4D000018, [], [⟨0, 16, [0], ro, L, []⟩, ⟨16, 16, [0], ro, L, []⟩]⟩,
  -- WHD_TOOLn
  ⟨0x4D000020, [(4, 0x4)], [⟨0, 32, [0], ro, L, []⟩]⟩,
  -- WHD_MAC_LO
  ⟨0x4D000030, [], [⟨0, 32, [0], ro, L, []⟩]⟩,
  -- WHD_MAC_HI
  ⟨0x4D000034, [], [⟨0, 16, [0], ro, L, []⟩]⟩,
  -- CRY_STATUS
  ⟨0x4A000800, [], [⟨0, 8, [0], ro, L, []⟩, ⟨8, 8, [0], ro, L, []⟩]⟩,
  -- CRY_CNT
  ⟨0x4A000804, [], [⟨0, 16, [0], ro, L, []⟩, ⟨16, 16, [0], ro, L, []⟩]⟩,
  -- CRY_Ck_CTRL
  ⟨0x4A001000, [(8, 0x40)], [⟨0, 1, [0], wo, L, []⟩, ⟨8, 4, [0], rw, H, []⟩, ⟨12, 2, [0], rw, H, []⟩]⟩,
  -- CRY_Ck_SRC
  ⟨0x4A001004, [(8, 0x40)], [⟨0, 32, [0], rw, H, []⟩]⟩,
  -- CRY_Ck_LEN
  ⟨0x4A001008, [(8, 0x40)], [⟨0, 25, [0], rw, H, []⟩]⟩,
  -- CRY_Ck_DST
  ⟨0x4A00100C, [(8, 0x40)], [⟨0, 32, [0], rw, H, []⟩]⟩,
  -- CRY_Ck_KEY
  ⟨0x4A001010, [(8, 0x40)], [⟨0, 32, [0], rw, H, []⟩]⟩,
  -- CRY_Ck_AUX
  ⟨0x4A001014, [(8, 0x40)], [⟨0, 24, [0], rw, H, []⟩]⟩,
  -- CRY_Ck_STAT
  ⟨0x4A001018, [(8, 0x40)], [⟨0, 2, [0], ro, L, []⟩, ⟨8, 3, [0], ro, L, []⟩, ⟨16, 16, [0], ro, L, []⟩]⟩,
  -- CRY_Ck_TIME
  ⟨0x4A00101C, [(8, 0x40)], [⟨0, 32, [0], ro, L, []⟩]⟩
]

/-- Registers of chapter 23, part 0. -/
def rows23_0 : List RegRow := [
  -- EVR_CTRL
  ⟨0x4B000000, [], [⟨0, 1, [0], wo, L, []⟩, ⟨1, 1, [0], wo, L, []⟩, ⟨2, 1, [0], wo, L, []⟩, ⟨3, 1, [0], wo, L, []⟩, ⟨4, 1, [0], wo, L, []⟩, ⟨5, 1, [0], wo, L, []⟩, ⟨8, 6, [0], wo, L, []⟩]⟩,
  -- EVR_STATUS
  ⟨0x4B000004, [], [⟨0, 1, [0], ro, L, []⟩, ⟨1, 1, [0], ro, L, []⟩, ⟨2, 1, [0], ro, L, []⟩, ⟨3, 1, [0], ro, L, []⟩, ⟨8, 1, [0], w1c, L, []⟩, ⟨9, 1, [0], w1c, L, []⟩, ⟨10, 1, [0], w1c, L, []⟩, ⟨16, 11, [0], ro, L, []⟩]⟩,
  -- EVR_FREEZE
  ⟨0x4B000008, [], [⟨0, 1, [0], rw, L, []⟩, ⟨16, 10, [60], rw, L, [.clamp 1 600]⟩]⟩,
  -- EVR_CFG
  ⟨0x4B00000C, [], [⟨0, 8, [10], rw, L, [.remap 0 0 1]⟩, ⟨8, 1, [1], rw, L, []⟩]⟩,
  -- EVR_WRITTEN
  ⟨0x4B000010, [], [⟨0, 32, [0], ro, L, []⟩]⟩,
  -- EVR_EXPORTED
  ⟨0x4B000014, [], [⟨0, 32, [0], ro, L, []⟩]⟩,
  -- EVR_NEXT
  ⟨0x4B000018, [], [⟨0, 32, [0], ro, L, []⟩]⟩,
  -- EVR_GEN
  ⟨0x4B00001C, [], [⟨0, 32, [0], ro, L, []⟩]⟩,
  -- EVR_CNT_MISSED
  ⟨0x4B000020, [], [⟨0, 16, [0], ro, L, []⟩, ⟨16, 16, [0], ro, L, []⟩]⟩,
  -- EVR_CNT_FULL
  ⟨0x4B000024, [], [⟨0, 16, [0], ro, L, []⟩, ⟨16, 16, [0], ro, L, []⟩]⟩,
  -- EVR_CNT_UNMATCHED
  ⟨0x4B000028, [], [⟨0, 32, [0], ro, L, []⟩]⟩,
  -- EVR_CNT_WORDS
  ⟨0x4B00002C, [], [⟨0, 32, [0], ro, L, []⟩]⟩,
  -- EVR_CLEAR
  ⟨0x4B000030, [], [⟨0, 16, [0], wo, L, []⟩, ⟨16, 1, [0], wo, L, []⟩, ⟨17, 1, [0], wo, L, []⟩]⟩,
  -- EVR_CURSOR
  ⟨0x4B000040, [], [⟨0, 19, [0], rw, L, [.clamp 0 349524]⟩]⟩,
  -- EVR_WIN_STAT
  ⟨0x4B000044, [], [⟨0, 1, [1], ro, L, []⟩, ⟨8, 8, [0], ro, L, []⟩]⟩,
  -- EVR_WINn
  ⟨0x4B001000, [(1024, 0x4)], [⟨0, 32, [0], ro, L, []⟩]⟩,
  -- EVR_Tt_ORIGIN
  ⟨0x4B004000, [(64, 0x100)], [⟨0, 16, [0], rw, H, []⟩, ⟨16, 16, [0], rw, H, []⟩]⟩,
  -- EVR_Tt_CODE
  ⟨0x4B004004, [(64, 0x100)], [⟨0, 16, [0], rw, H, []⟩, ⟨16, 16, [0], rw, H, []⟩]⟩,
  -- EVR_Tt_CFG
  ⟨0x4B004008, [(64, 0x100)], [⟨0, 1, [0], rw, H, []⟩, ⟨1, 1, [0], rw, H, []⟩, ⟨8, 6, [0], rw, H, [.deny 33 63 0x57]⟩, ⟨16, 14, [0], rw, H, [.clamp 0 10000]⟩]⟩,
  -- EVR_Tt_CNT
  ⟨0x4B00400C, [(64, 0x100)], [⟨0, 32, [0], ro, L, []⟩]⟩
]

/-- Registers of chapter 23, part 1. -/
def rows23_1 : List RegRow := [
  -- EVR_Tt_ADDRw
  ⟨0x4B004010, [(64, 0x100), (32, 0x4)], [⟨0, 32, [0], rw, H, [.mult 4 0x57]⟩]⟩
]

/-- Registers of chapter 24, part 0. -/
def rows24_0 : List RegRow := [
  -- HLT_CTRL
  ⟨0x4C000000, [], [⟨0, 1, [0], wo, L, []⟩, ⟨1, 1, [0], wo, L, []⟩, ⟨2, 1, [0], wo, L, []⟩]⟩,
  -- HLT_STATUS
  ⟨0x4C000004, [], [⟨0, 2, [0], ro, L, []⟩, ⟨2, 1, [0], ro, L, []⟩]⟩,
  -- HLT_CFG
  ⟨0x4C000008, [], [⟨0, 10, [100], rw, S, [.clamp 10 1000]⟩]⟩,
  -- HLT_EV
  ⟨0x4C00000C, [], [⟨0, 1, [0], w1c, L, []⟩, ⟨1, 1, [0], w1c, L, []⟩, ⟨2, 1, [0], w1c, L, []⟩, ⟨3, 1, [0], w1c, L, []⟩, ⟨4, 1, [0], w1c, L, []⟩, ⟨5, 1, [0], w1c, L, []⟩]⟩,
  -- HLT_PLAN_CFG
  ⟨0x4C000010, [], [⟨0, 8, [10], rw, S, []⟩, ⟨8, 8, [10], rw, S, [.clamp 0 20]⟩, ⟨16, 9, [192], rw, S, [.clamp 128 256]⟩]⟩,
  -- HLT_LIFE_CFG
  ⟨0x4C000014, [], [⟨0, 16, [60000], rw, S, [.remap 0 0 1]⟩, ⟨16, 8, [255], rw, S, [.remap 0 0 1]⟩, ⟨24, 8, [30], rw, S, [.remap 0 0 1]⟩]⟩,
  -- HLT_LIFE
  ⟨0x4C000018, [], [⟨0, 16, [65535], ro, L, []⟩, ⟨16, 3, [0], ro, L, []⟩]⟩,
  -- HLT_USED
  ⟨0x4C00001C, [], [⟨0, 16, [0], ro, L, []⟩]⟩,
  -- HLT_HOURS
  ⟨0x4C000020, [], [⟨0, 32, [0], ro, L, []⟩]⟩,
  -- HLT_PSEQ
  ⟨0x4C000024, [], [⟨0, 32, [0], ro, L, []⟩]⟩,
  -- HLT_Tn
  ⟨0x4C000100, [(40, 0x4)], [⟨0, 16, [0], ro, L, []⟩, ⟨16, 1, [0], ro, L, []⟩, ⟨17, 1, [0], ro, L, []⟩]⟩,
  -- HLT_TLIMn
  ⟨0x4C000200, [(40, 0x4)], [⟨0, 16, [1050], rw, S, []⟩, ⟨16, 8, [50], rw, S, [.remap 0 0 1]⟩]⟩,
  -- HLT_Vn
  ⟨0x4C000300, [(64, 0x4)], [⟨0, 16, [0], ro, L, []⟩, ⟨16, 1, [0], ro, L, []⟩, ⟨17, 1, [0], ro, L, []⟩, ⟨18, 1, [0], ro, L, []⟩]⟩,
  -- HLT_VLIMn
  ⟨0x4C000400, [(64, 0x4)], [⟨0, 16, [0], rw, S, []⟩, ⟨16, 16, [65535], rw, S, [.atLeast 0 0 16 0]⟩]⟩,
  -- HLT_ROn
  ⟨0x4C000500, [(18, 0x4)], [⟨0, 24, [0], ro, L, []⟩]⟩,
  -- HLT_AVSk
  ⟨0x4C000560, [(9, 0x4)], [⟨0, 8, [0], ro, L, []⟩, ⟨8, 8, [0], ro, L, []⟩]⟩,
  -- HLT_CYCk_A
  ⟨0x4C000600, [(9, 0x8)], [⟨0, 16, [0], ro, L, []⟩, ⟨16, 16, [0], ro, L, []⟩]⟩,
  -- HLT_CYCk_B
  ⟨0x4C000604, [(9, 0x8)], [⟨0, 16, [0], ro, L, []⟩, ⟨16, 16, [0], ro, L, []⟩]⟩,
  -- HLT_CHc
  ⟨0x4C001000, [(192, 0x4)], [⟨0, 16, [0], ro, L, []⟩, ⟨16, 9, [256], ro, L, []⟩, ⟨25, 1, [0], ro, L, []⟩]⟩,
  -- HLT_CHR0c
  ⟨0x4C001400, [(192, 0x4)], [⟨0, 16, [0], ro, L, []⟩]⟩
]

/-- Registers of chapter 24, part 1. -/
def rows24_1 : List RegRow := [
  -- HLT_BSTc
  ⟨0x4C001800, [(24, 0x4)], [⟨0, 16, [0], ro, L, []⟩, ⟨16, 1, [0], ro, L, []⟩]⟩,
  -- HLT_MRAMr_PAGE
  ⟨0x4C001900, [(3, 0x8)], [⟨0, 17, [0], ro, L, []⟩]⟩,
  -- HLT_MRAMr_WEAR
  ⟨0x4C001904, [(3, 0x8)], [⟨0, 16, [0], ro, L, []⟩]⟩
]

/-- Registers of chapter 25, part 0. -/
def rows25_0 : List RegRow := [
  -- SUP_ID_PART
  ⟨0x40000000, [], [⟨0, 16, [402], ro, L, []⟩, ⟨16, 8, [65], ro, L, []⟩, ⟨24, 4, [1], ro, L, []⟩]⟩,
  -- SUP_ID_UNITn
  ⟨0x40000004, [(4, 0x4)], [⟨0, 32, [0], ro, L, []⟩]⟩,
  -- SUP_ID_ROM
  ⟨0x40000014, [], [⟨0, 16, [0], ro, L, []⟩, ⟨16, 8, [0], ro, L, []⟩, ⟨24, 8, [0], ro, L, []⟩]⟩,
  -- SUP_ID_KEYS
  ⟨0x40000018, [], [⟨0, 4, [15], ro, L, []⟩]⟩,
  -- SUP_ID_TEST
  ⟨0x4000001C, [], [⟨0, 16, [0], ro, L, []⟩]⟩,
  -- SUP_ID_CAPS
  ⟨0x40000020, [], [⟨0, 8, [24], ro, L, []⟩, ⟨8, 8, [24], ro, L, []⟩, ⟨16, 8, [16], ro, L, []⟩, ⟨24, 8, [16], ro, L, []⟩]⟩,
  -- SUP_ID_CAPS2
  ⟨0x40000024, [], [⟨0, 9, [384], ro, L, []⟩, ⟨9, 3, [4], ro, L, []⟩, ⟨12, 4, [9], ro, L, []⟩]⟩,
  -- SUP_ID_LAYOUT
  ⟨0x40000028, [], [⟨0, 16, [1], ro, L, []⟩]⟩,
  -- SUP_MBXk_CTRL
  ⟨0x40000800, [(8, 0x40)], [⟨0, 1, [0], wo, L, []⟩, ⟨8, 8, [0], rw, H, []⟩]⟩,
  -- SUP_MBXk_ARGn
  ⟨0x40000804, [(8, 0x40), (4, 0x4)], [⟨0, 32, [0], rw, H, []⟩]⟩,
  -- SUP_MBXk_STAT
  ⟨0x40000814, [(8, 0x40)], [⟨0, 1, [0], ro, L, []⟩, ⟨8, 8, [0], ro, L, []⟩, ⟨16, 16, [0], ro, L, []⟩]⟩,
  -- SUP_MBXk_RETn
  ⟨0x40000818, [(8, 0x40), (4, 0x4)], [⟨0, 32, [0], ro, L, []⟩]⟩,
  -- SUP_PART_STATUS
  ⟨0x40000A00, [], [⟨0, 8, [0], ro, L, []⟩, ⟨8, 8, [0], ro, L, []⟩]⟩,
  -- SUP_PART_RESTARTk
  ⟨0x40000A08, [(7, 0x4)], [⟨0, 16, [0], ro, L, []⟩]⟩
]

/-- All rows of the group. -/
def rowsSys : List RegRow :=
  rows01_0 ++ rows02_0 ++ rows03_0 ++ rows04_0 ++ rows05_0 ++ rows21_0 ++ rows22_0 ++ rows22_1 ++ rows23_0 ++ rows23_1 ++ rows24_0 ++ rows24_1 ++ rows25_0

end Sys2Proof.Machine.T
end

