-- ==== Sys2Proof/Machine/AddressMap.lean ====
section
/-! DEFINITION. The control space map (chapter 25, Table 25.1), its writer classes, and which words exist (R568, R569). -/

namespace Sys2Proof.Machine

open Sys2Proof

/-- A row of Table 25.1: first and last byte, serving island, writer classes by bit: 0 S, 1 M, 2 A, 3 W, 4 Y. -/
structure MapRow where
  lo      : Nat
  hi      : Nat
  island  : Nat
  writers : Nat
  deriving DecidableEq, Repr

/-- Table 25.1, rows 0 to 22. -/
def mapRowsA : List MapRow := [
  ⟨0x40000000, 0x400000FF, 0, 0⟩, ⟨0x40000100, 0x400001FF, 0, 1⟩, ⟨0x40000200, 0x400002FF, 0, 15⟩, ⟨0x40000300, 0x400003FF, 0, 11⟩, ⟨0x40000400, 0x400004FF, 0, 15⟩, ⟨0x40000800, 0x40000AFF, 0, 0⟩,
  ⟨0x40100000, 0x401001FF, 0, 11⟩, ⟨0x40200000, 0x402000FF, 0, 3⟩, ⟨0x41000000, 0x4107FFFF, 6, 15⟩, ⟨0x41080000, 0x410FFFFF, 7, 15⟩, ⟨0x41100000, 0x4117FFFF, 8, 15⟩, ⟨0x41200000, 0x412001FF, 0, 1⟩,
  ⟨0x41300000, 0x413005FF, 2, 3⟩, ⟨0x42000000, 0x4200FFFF, 4, 15⟩, ⟨0x43000000, 0x430004FF, 2, 15⟩, ⟨0x43100000, 0x4317FFFF, 2, 15⟩, ⟨0x43200000, 0x4323FFFF, 2, 15⟩, ⟨0x43300000, 0x4330FFFF, 2, 1⟩,
  ⟨0x43340000, 0x43343FFF, 2, 15⟩, ⟨0x43800000, 0x43800BFF, 2, 15⟩, ⟨0x43810000, 0x43812FFF, 2, 15⟩, ⟨0x43820000, 0x438205FF, 2, 15⟩, ⟨0x43830000, 0x438303FF, 2, 15⟩]

/-- Table 25.1, rows 23 to 44. -/
def mapRowsB : List MapRow := [
  ⟨0x44000000, 0x440007FF, 3, 31⟩, ⟨0x44800000, 0x44801FFF, 3, 31⟩, ⟨0x45000000, 0x450002FF, 2, 15⟩, ⟨0x45080000, 0x450800FF, 3, 31⟩, ⟨0x45100000, 0x451FFFFF, 2, 15⟩, ⟨0x46000000, 0x460002FF, 1, 31⟩,
  ⟨0x46080000, 0x460800FF, 5, 31⟩, ⟨0x46800000, 0x468002FF, 5, 31⟩, ⟨0x47000000, 0x47017FFF, 4, 15⟩, ⟨0x47100000, 0x4710BFFF, 4, 15⟩, ⟨0x47800000, 0x47802FFF, 4, 15⟩, ⟨0x47880000, 0x478804FF, 1, 3⟩,
  ⟨0x48000000, 0x480002FF, 1, 31⟩, ⟨0x48010000, 0x48011FFF, 1, 31⟩, ⟨0x49000000, 0x490000FF, 0, 15⟩, ⟨0x49010000, 0x4901FFFF, 0, 7⟩, ⟨0x4A000000, 0x4A0007FF, 0, 3⟩, ⟨0x4A000800, 0x4A0011FF, 1, 7⟩,
  ⟨0x4B000000, 0x4B007FFF, 0, 31⟩, ⟨0x4C000000, 0x4C001FFF, 0, 31⟩, ⟨0x4D000000, 0x4D0000FF, 0, 3⟩, ⟨0x50000000, 0x6FFFFFFF, 0, 7⟩]

/-- Table 25.1. -/
def mapRows : List MapRow := mapRowsA ++ mapRowsB

/-- Row of an address. -/
def rowOf (a : Nat) : Option Nat := mapRows.findIdx? fun r => decide (r.lo ≤ a) && decide (a ≤ r.hi)

/-- Island that serves an address; island 0 answers for an address in no row. -/
def islandOf (a : Nat) : Nat := ((rowOf a).bind fun k => mapRows[k]?.map (·.island)).getD 0

/-! ## Mapping (R568, R569) -/

/-- Register tables of a row of Table 25.1. -/
def tablesOf (k : Nat) : List RegRow :=
  if k < 8 then T.rowsSys else if k < 14 then T.rowsField else if k < 24 then T.rowsCtl else if k < 31 then T.rowsNav
  else if k = 33 then T.rowsNet ++ T.rowsNav ++ T.rowsField else if k < 37 then T.rowsNet else T.rowsSys

/-- Rows whose words are plain memory: path buffers, backup SRAM, retained store. -/
def memoryRow (k : Nat) : Bool := k == 27 || k == 38 || k == 44

/-- The fields of the word at an address, with the last index of its register; nothing where no register is listed. A word of reserved bits has no fields. -/
def wordAt (a : Nat) : Option (List FieldRow × Nat) :=
  if a % 4 ≠ 0 then none
  else match rowOf a with
    | none => none
    | some k =>
      if memoryRow k || (k == 15 && a % 0x80 == 0x0C) then some ([], 0)
      else (regIn (tablesOf k) a).map fun (r, i) => (r.fields, i)

/-- Index of the first word of a request that is not mapped, or lies in another row than the first. -/
def unmappedAt (a n : Nat) : Option Nat := (List.range n).find? fun j => (wordAt (a + 4 * j)).isNone || rowOf (a + 4 * j) != rowOf a

/-! ## Read-back values -/

/-- Value of the field at a distance from a word that is being written: of the word itself, or as it stands. -/
def Block.otherField (b : Block) (a v : Nat) (d : Int) (lo wid : Nat) : Nat :=
  if d = 0 then v / 2 ^ lo % 2 ^ wid
  else
    let a' := ((a : Int) + d).toNat
    match wordAt a' with
    | some (l, i) => match l.find? fun f => f.lo == lo with | some f => b.get (f.fld a' i) | none => 0
    | none => 0

/-- The value a written word gives a field, with the bounds that other registers set. -/
def Block.fieldTaken (b : Block) (a v : Nat) (f : FieldRow) : Nat :=
  let n := f.taken (b.otherField a v) v
  if 0x43800A08 ≤ a ∧ a < 0x43800C00 ∧ a % 0x40 = 0x08 ∧ f.lo = (R.SOL_MEASm_W_OPS 0).lo then
    let m : Int := (R.SOL_MEASm_W_OPS_MAX 0).of v
    lowBits f.wid (clampI (-m) m (signed f.wid n))
  else if a = 0x44800044 ∧ f.lo = R.GNS_CONFMAP_SZ_CM.lo then max n (R.GNS_CONFMAP_SF_MM.of v / 10 + 1)
  else if a = 0x45080004 ∧ f.lo = R.STR_CVY_CFG_RATE.lo then min n (b.get R.GNS_CFG_MEAS_RATE)
  else if a = 0x45000208 ∧ f.lo = R.STR_SPT_SWING_TH_MAX.lo then lowBits f.wid (max (signed f.wid n) (signed f.wid (R.STR_SPT_SWING_TH_MIN.of v)))
  else if 0x47000000 ≤ a ∧ a < 0x47018000 ∧ 0x300 ≤ a % 0x1000 ∧ a % 0x1000 < 0x380 ∧ f.lo = (R.MB_WINw_BASE 0 0).lo then n % 2 ^ (R.MB_WINw_REPEAT 0 0).of v
  else if 0x47000000 ≤ a ∧ a < 0x47018000 ∧ a % 0x1000 = 0x14 ∧ f.lo = (R.MB_PHY_TBC_EN 0).lo ∧ 0x47004000 ≤ a then 0
  else n

end Sys2Proof.Machine
end

