-- ==== Sys2Proof/Machine/Fabric.lean ====
section
/-! DEFINITION. The Leust fabric: routing, links and credit, tags, error responses and recovery (chapter 2). -/

namespace Sys2Proof.Machine

open Sys2Proof

/-! ## Answers (R57, R603, R604) -/

/-- Response kind of a tagged request. -/
def rspKind : Kind → Option Kind
  | .readReq => some .readRsp | .writeReq => some .writeRsp | .storeReq => some .storeRsp | .load => some .loadRsp
  | .sample | .setpoint | .event | .beacon | .mode | .readRsp | .writeRsp | .storeRsp | .loadRsp | .errorNote | .reserved _ => none

/-- A response kind or an ERROR_NOTE. -/
def isAnswer : Kind → Bool
  | .readRsp | .writeRsp | .storeRsp | .loadRsp | .errorNote => true
  | .sample | .setpoint | .event | .beacon | .mode | .readReq | .writeReq | .storeReq | .load | .reserved _ => false

/-- An error response to a packet: in the response kind of a tagged request, as ERROR_NOTE otherwise; nothing answers an answer, which is counted (R57, R603). -/
def Block.refuse (b : Block) (origin code : Nat) (p : Packet) (index : Nat := 0) : Block :=
  match rspKind p.kind with
  | some k => b.send { kind := k, stream := 0, origin := origin, tag := p.tag, conf := 0, valid := false, error := true, stamp := b.stamp, data := errorPayload code p (oIsland origin) index }
  | none => if isAnswer p.kind then b.inc R.FAB_ERR_CNT_COUNT else b.errorNote origin code p

/-- The response that answers success (R604). -/
def Block.answer (b : Block) (origin : Nat) (p : Packet) (data : List Nat) : Block :=
  match rspKind p.kind with
  | some k => b.send { kind := k, stream := 0, origin := origin, tag := p.tag, stamp := b.stamp, data := data }
  | none => b

/-- Origin of the supervisor's image loader. -/
def loaderOrigin : Nat := org 0 0 127

/-- A target answers a LOAD packet: LOAD_RSP of LENGTH 0, or an error response (R68). -/
def Block.loadAnswer (b : Block) (m : LoadMsg) (code : Nat) : Block :=
  let p : Packet := { kind := .load, stream := 0, origin := loaderOrigin, tag := m.tag }
  if code = 0 then b.answer m.target p [] else b.refuse m.target code p

/-- A target has come to rest and answers the QUIESCE it owes (R82). -/
def Block.quiesceDone (b : Block) (t : Nat) : Block :=
  let l := b.img.owing.filter fun m => m.target == t
  if l.isEmpty then b else ({ b with img := { b.img with owing := b.img.owing.filter fun m => m.target != t } }).eachOf l fun m b => b.loadAnswer m 0

/-- `n` bytes of the DRAM from an address on; a byte that nothing has written is a free value. -/
def Block.dramRead (b : Block) (a n : Nat) : List Nat := (List.range n).map fun i => b.dram.find (a + i) ((b.fresh (a + i)).toNat % 256)

/-! ## The switch's ports (R455) -/

/-- The host port, as number 16. -/
def hostPort : Nat := 16

def Block.parked (b : Block) : Bool := b.get R.PWR_STATE_STATE == 2
def Block.ethRuns (b : Block) : Bool := (b.island 4).run == .running && !b.cellOff (org 4 3 127)

/-- A port carries frames: in PARKED only with WAKE_EN (R455). -/
def Block.portUp (b : Block) (p : Nat) : Bool :=
  b.ethRuns && (p == hostPort || (b.flag (R.ETH_Pp_CFG_EN p) && b.flag (R.ETH_Pp_STAT_LINK p) && (!b.parked || b.flag (R.ETH_Pp_CFG_WAKE_EN p))))

/-- FLAGS of a packet (Table 2.2). -/
def Packet.flags (p : Packet) : Nat :=
  b2n p.valid + 2 * b2n p.stale + 4 * b2n p.masked + 8 * b2n p.resync + 16 * b2n p.error + 32 * b2n p.replay

/-- The 16 header bytes and the payload of a packet (Table 2.1). -/
def packetBytes (p : Packet) : List Nat :=
  [kindCode p.kind, Packet.flags p] ++ le 2 p.stream ++ le 2 p.tag ++ [p.seq, p.conf] ++ le 2 p.origin ++ le 2 p.data.length ++ le 4 p.stamp ++ p.data

/-- One bit of the CRC-32 of IEEE 802.3, reflected. -/
def crcBit (c : Nat) : Nat := if c % 2 = 1 then (c / 2) ^^^ 0xEDB88320 else c / 2

/-- CRC-32 (IEEE 802.3) of bytes. -/
def crc32 (l : List Nat) : Nat :=
  (l.foldl (fun c x => (List.range 8).foldl (fun c _ => crcBit c) (c ^^^ (x % 256))) 0xFFFFFFFF) ^^^ 0xFFFFFFFF

/-- One bit of CRC-16, polynomial 0x1021. -/
def crc16Bit (c : Nat) : Nat := if c < 0x8000 then 2 * c else (2 * c - 0x10000) ^^^ 0x1021

/-- CRC-16 with initial value 0xFFFF. -/
def crc16 (l : List Nat) : Nat := l.foldl (fun c x => (List.range 8).foldl (fun c _ => crc16Bit c) (c ^^^ (x % 256 * 256))) 0xFFFF

/-- The link check of a packet, over header and payload (R47). -/
def linkCheck (p : Packet) : Nat := crc16 (packetBytes p)

/-! ## Links (R44 to R50) -/

/-- The link between two islands. -/
def linkOf (i j : Nat) : Nat :=
  let a := min i j
  let b := max i j
  a * (17 - a) / 2 + (b - a - 1)

/-- The two islands of a link, lower first. -/
def linkEnds (k : Nat) : Nat × Nat :=
  (((List.range 9).flatMap fun a => ((List.range 9).filter (a < ·)).map fun b => (a, b)).find? fun e => linkOf e.1 e.2 == k).getD (0, 0)

def Block.link (b : Block) (k : Nat) : Link := b.fab.links.getD k {}
def Block.modFab (b : Block) (f : Fabric → Fabric) : Block := { b with fab := f b.fab }
def Block.modLink (b : Block) (k : Nat) (f : Link → Link) : Block := b.modFab fun x => { x with links := updAt x.links k f }

/-- An island that takes no packet: declared lost, or powered down (R60, R606). -/
def Block.shut (b : Block) (i : Nat) : Bool := b.isLost i || (b.island i).run == .poweredDown

/-- A cell or core of island 1 that PARKED powers down: the display cell, and cores 1 to 7 (R110, R606). -/
def Block.unitDown (b : Block) (o : Nat) : Bool :=
  b.get R.PWR_STATE_STATE == 2 && oIsland o == 1 && (oCell o == 2 || (oCell o == 0 && decide (1 ≤ oUnit o) && decide (oUnit o ≤ 7)))

/-- A unit, cell or island that takes no packet. -/
def Block.barred (b : Block) (o : Nat) : Bool := b.shut (oIsland o) || b.unitDown o

/-- The lane of a packet on a link (R46). -/
def Block.laneOf (b : Block) (k : Nat) (p : Packet) : Nat :=
  let n := max 1 (b.get (R.FAB_LINKk_LANES k))
  let tagged := (rspKind p.kind).isSome || p.kind == .storeRsp
  if tagged && p.tag < 0x8000 then p.tag / 1024 % n
  else if tagged || isAnswer p.kind then 0
  else p.stream % n

def dirOf (lane : Nat) (up : Bool) : Nat := 2 * lane + b2n up

def Held.sent (h : Held) : Bool := h.lseq.isSome

/-- The member of a list that follows `last` in ascending order, or else the first: the order of a round-robin (log entry 126). -/
def nextAfter (last : Nat) (l : List Nat) : Option Nat := (l.filter (last < ·)).min? <|> l.min?

/-- A declared periodic stream (R51). -/
def Block.isPeriodic (b : Block) (p : Packet) : Bool := (p.kind == .sample || p.kind == .setpoint) && b.fab.periodic.any fun e => e.1 == p.stream

/-- The held packet that a lane transmitter serves next: the periodic streams first, round-robin among them, then the rest, round-robin by source island (R51). -/
def Block.served (b : Block) (k lane : Nat) (up : Bool) : Option Nat :=
  let d := dirOf lane up
  let mine := fun (h : Held) => h.link == k && h.lane == lane && h.up == up && !h.sent
  let periodic := b.fab.held.filter fun h => mine h && b.isPeriodic h.packet
  match nextAfter ((b.link k).rrStream.getD d 0) (periodic.map (·.packet.stream)) with
  | some st => b.fab.held.findIdx? fun h => mine h && b.isPeriodic h.packet && h.packet.stream == st
  | none =>
    (nextAfter ((b.link k).rrIsland.getD d 0) ((b.fab.held.filter mine).map fun h => oIsland h.packet.origin)).bind fun i =>
      b.fab.held.findIdx? fun h => mine h && oIsland h.packet.origin == i

/-- A held packet takes a credit of its lane where one is free, and the lane's next link sequence number (R47, R50). -/
def Block.transmit (b : Block) (k lane : Nat) (up : Bool) : Block :=
  let d := dirOf lane up
  if b.get (R.FAB_LINKk_UP k) = 0 || 4 ≤ (b.link k).used.getD d 0 then b
  else match b.served k lane up with
    | none => b
    | some i =>
      let p := (b.fab.held[i]?).map (·.packet)
      let n := (b.link k).next.getD d 0
      let periodic := (p.map b.isPeriodic).getD false
      (b.modFab fun x => { x with held := updAt x.held i fun h => { h with lseq := some n } }).modLink k fun l => { l with
        used := updAt l.used d (· + 1)
        next := updAt l.next d fun _ => (n + 1) % 256
        rrStream := if periodic then updAt l.rrStream d fun _ => (p.map (·.stream)).getD 0 else l.rrStream
        rrIsland := if periodic then l.rrIsland else updAt l.rrIsland d fun _ => (p.map fun q => oIsland q.origin).getD 0 }

/-- A packet waits on its link for a credit (R50). -/
def Block.enqueue (b : Block) (src dst : Nat) (p : Packet) : Block :=
  let k := linkOf src dst
  let lane := b.laneOf k p
  let up := decide (src < dst)
  (b.modFab fun x => { x with held := x.held ++ [{ link := k, lane := lane, up := up, packet := p }] }).transmit k lane up

/-- A lane receiver empties a buffer: a waiting sender transmits (R50). -/
def Block.creditReturn (b : Block) (k lane : Nat) (up : Bool) : Block :=
  (b.modLink k fun l => { l with used := updAt l.used (dirOf lane up) (· - 1) }).transmit k lane up

def execCreditReturn (link : Fin 36) (lane : Fin 8) (up : Bool) (s : State) : Result := s.go fun b => b.creditReturn link lane up

/-! ## Resynchronisation (R61) -/

/-- Stream `st` from `origin` crosses the link between islands `i` and `j`, in either direction. -/
def Block.crosses (b : Block) (st origin i j : Nat) : Bool :=
  let reaches := fun (x : Nat) => if st == 0xFF01 then x == 0 else if st == 0xFF02 then x == 0 || x == 2 else st == 0xFF00 || b.fab.dests.any fun d => d.1 == st && oIsland d.2 == x
  (oIsland origin == i && reaches j) || (oIsland origin == j && reaches i)

/-- Every stream that crosses a link restarts at SEQ 0 with RESYNC; a net's source sends its level with it (R61, R190). -/
def Block.resyncLink (b : Block) (k : Nat) : Block :=
  let (i, j) := linkEnds k
  (b.modFab fun x => { x with seqs := x.seqs.filter fun e => !b.crosses (e.1 / 65536) (e.1 % 65536) i j }).netsRestart fun st o => b.crosses st o i j

/-- Every stream that begins or ends in an island restarts at SEQ 0 with RESYNC. -/
def Block.resyncIsland (b : Block) (i : Nat) : Block :=
  let restarts := fun (st o : Nat) => oIsland o == i || (List.range 9).any fun j => j != i && b.crosses st o i j
  (b.modFab fun x => { x with seqs := x.seqs.filter fun e => !restarts (e.1 / 65536) (e.1 % 65536) }).netsRestart restarts

/-! ## Link resets (R47, R48, R60) -/

/-- A link goes down: its buffers clear, its credit is restored, and every stream that crosses it restarts (R48, R61). RESETS also counts when the link was down before: DESIGN CHOICE (log entry 127). -/
def Block.linkDown (b : Block) (k : Nat) : Block :=
  (((b.set (R.FAB_LINKk_UP k) 0).inc (R.FAB_LINKk_RESETS k)).modLink k fun _ => { downAt := some b.now }).resyncLink k

/-- The oldest packet in flight on a lane: the one that carries the link sequence number the receiver accepts next. -/
def Block.inFlight (b : Block) (k lane : Nat) (up : Bool) : Option Nat :=
  b.fab.held.findIdx? fun h => h.link == k && h.lane == lane && h.up == up && h.lseq == some ((b.link k).expect.getD (dirOf lane up) 0)

/-- A copy fails its check: it is sent again; after the fifth failure the link resets. -/
def Block.checkFail (b : Block) (k lane : Nat) (up : Bool) : Block :=
  match b.inFlight k lane up with
  | none => b
  | some i =>
    if 5 ≤ (b.fab.held[i]?.map (·.attempts)).getD 0 then (b.linkDown k).set R.FAB_ERR_STAT_LINK_RETRY 1
    else (b.inc (R.FAB_LINKk_RETRIES k)).modFab fun x => { x with held := updAt x.held i fun h => { h with attempts := h.attempts + 1 } }

def execLinkCheckFail (link : Fin 36) (lane : Fin 8) (up : Bool) (s : State) : Result := s.go fun b => b.checkFail link lane up

/-- An island is out of reset: its routers answer. -/
def Block.released (b : Block) (i : Nat) : Bool := (b.island i).run == .reloading || (b.island i).run == .running

/-! ## Tags (R53 to R56) -/

/-- First tag of an island's range. -/
def Block.tagBase (b : Block) (i : Nat) : Nat := 0x8000 + ((List.range i).map fun k => b.get (R.FAB_TAG_ISLk_QUOTA k)).foldl (· + ·) 0

/-- The island that owns a tag; storage tags belong to island 5. -/
def Block.tagOwner (b : Block) (tag : Nat) : Option Nat :=
  if tag < 0x8000 then some 5
  else (List.range 9).find? fun i => decide (b.tagBase i ≤ tag) && decide (tag < b.tagBase i + b.get (R.FAB_TAG_ISLk_QUOTA i))

/-- LIVE of every island and TAG_WAITING, as the tags and the waiting sources stand. -/
def Block.tagCounts (b : Block) : Block :=
  let b := b.each 9 fun i b => b.set (R.FAB_TAG_ISLk_LIVE i) (b.fab.tags.filter fun t => b.tagOwner t.tag == some i).length
  b.set R.FAB_STATUS_TAG_WAITING (((List.range 9).filter fun i => b.fab.waiting.any fun w => oIsland w.source == i).map (2 ^ ·) |>.foldl (· + ·) 0)

/-- FAB_RSP_TIMEOUT in use: a written value from the next 1 ms boundary of module time (Table 3.8). -/
def Block.rspTimeoutMs (b : Block) : Nat := if b.sys.mtime / ms = b.fab.timeoutAt / ms then b.use R.FAB_RSP_TIMEOUT_TIMEOUT_MS else b.get R.FAB_RSP_TIMEOUT_TIMEOUT_MS

/-- A storage tag that the season store engine has given to a drive command (Table 2.6). -/
def Block.storeTagLive (b : Block) (tag : Nat) : Bool := b.sst.cmds.any fun c => 8192 * c.drive + 1024 * c.queue + c.entry == tag

/-- A tag goes live; storage tags have no fabric timeout (R53, R56). -/
def Block.liveTag (b : Block) (p : Packet) (dest : Nat) : Block :=
  (b.modFab fun x => { x with tags := x.tags ++ [{ tag := p.tag, source := p.origin, target := dest, kind := p.kind, expires := b.now + b.rspTimeoutMs * ms }] }).tagCounts

/-- A request leaves its source with its tag live, or its tag is not free for its island and it waits for one (R53, R55). -/
def Block.takeTag (b : Block) (p : Packet) (dest : Nat) : Option Block :=
  let i := oIsland p.origin
  if p.tag < 0x8000 && i = 5 && b.storeTagLive p.tag then some b
  else if b.tagOwner p.tag ≠ some i || b.fab.tags.any fun t => t.tag == p.tag then none
  else some (b.liveTag p dest)

/-- A request begins to wait for a tag; its source is counted when it did not wait before (R55). -/
def Block.waitTag (b : Block) (w : TagWait) : Block :=
  let first := !b.fab.waiting.any fun x => x.source == w.source
  ((b.modFab fun x => { x with waiting := x.waiting ++ [w] }).when first fun b => b.inc R.FAB_TAG_WAIT_CNT_COUNT).tagCounts

/-- A request that waited leaves with a tag. -/
def Block.grant (b : Block) (w : TagWait) (tag : Nat) : Block :=
  let p := { w.packet with tag := tag, stamp := if w.own then b.stamp else w.packet.stamp }
  let b := b.liveTag p w.dest
  match w.load with
  | some m => { b with img := { b.img with sent := b.img.sent ++ [{ m with tag := tag }] } }
  | none => if w.own then b.send p else if oIsland w.source = w.dest then b else b.enqueue (oIsland w.source) w.dest p

/-- A tag is freed; the request of its island that has waited longest takes it. -/
def Block.freeTag (b : Block) (tag : Nat) : Block :=
  if !b.fab.tags.any fun t => t.tag == tag then b
  else
    let i := b.tagOwner tag
    let b := b.modFab fun x => { x with tags := x.tags.filter fun t => t.tag != tag }
    match b.fab.waiting.findIdx? fun w => some (oIsland w.source) == i with
    | none => b.tagCounts
    | some k =>
      match b.fab.waiting[k]? with
      | some w => (b.modFab fun x => { x with waiting := x.waiting.eraseIdx k }).grant w tag
      | none => b.tagCounts

/-- A held packet is answered by its sender's router, and the tag it carries is freed (R57, R60). -/
def Block.answerOne (b : Block) (code : Nat) (h : Held) : Block :=
  let b := b.refuse (islOrigin (oIsland h.packet.origin)) code h.packet
  if (rspKind h.packet.kind).isSome then b.freeTag h.packet.tag else b

/-- The held packets that satisfy `p` are dropped, each answered with a code. -/
def Block.answerHeld (b : Block) (p : Held → Bool) (code : Nat) : Block :=
  (b.modFab fun x => { x with held := x.held.filter fun h => !p h }).eachOf (b.fab.held.filter p) fun h b => b.answerOne code h

/-- A held packet is on its way to island `i`. -/
def heldTo (i : Nat) (h : Held) : Bool :=
  let (x, y) := linkEnds h.link
  (if h.up then y else x) == i

/-- A link trains: full credit; what was in flight when it reset is answered with LINK_RESET, and what waited for it is sent (R48, R50, R60). -/
def Block.retrain (b : Block) (k : Nat) : Block :=
  let (i, j) := linkEnds k
  if !b.flag (R.FAB_LINKk_UP k) && b.released i && b.released j then
    let b := ((b.set (R.FAB_LINKk_UP k) 1).modLink k fun _ => {}).answerHeld (fun h => h.link == k && h.sent) LINK_RESET
    b.eachOf (b.fab.held.filter fun h => h.link == k) fun h b => b.transmit k h.lane h.up
  else b

def execLinkRetrainDone (link : Fin 36) (s : State) : Result := s.go fun b => b.retrain link

def execTagWaitLimit (source : Fin 65536) (s : State) : Result := s.go fun b =>
  match b.fab.waiting.find? fun w => w.source == source.val with
  | some w => (b.reach (w.since + b.get R.FAB_TAG_WAIT_LIMIT_LIMIT_MS * ms)).raise (islOrigin (oIsland source)) R.FAB_ERR_STAT_TAG_STARVED
  | none => b

/-- The error response that a source's router delivers for a live tag. -/
def Block.failTag (b : Block) (t : TagRec) (code : Nat) : Block :=
  b.refuse (islOrigin (oIsland t.source)) code { kind := t.kind, stream := 0, origin := t.source, tag := t.tag }

/-- A response timeout has expired: the source gets TIMEOUT and the tag goes into quarantine. -/
def Block.timeOut (b : Block) (t : TagRec) : Block :=
  ((b.failTag t TIMEOUT).set R.FAB_ERR_STAT_TIMEOUT 1).modFab fun x => { x with tags := x.tags.map fun u => if u.tag = t.tag then { u with quarantined := true } else u }

/-- The response timeout of tag 0x8000 + `tag` expires. -/
def execRspTimeout (tag : Fin 8192) (s : State) : Result := s.go fun b =>
  match b.fab.tags.find? fun t => t.tag == 0x8000 + tag.val && !t.quarantined with
  | some t => (b.reach t.expires).timeOut t
  | none => b

/-- Every outstanding tagged request to an island is answered with ISLAND_LOST and its tag freed; tags in quarantine for it are freed (R56, R61). -/
def Block.failTagsTo (b : Block) (i : Nat) : Block :=
  b.eachOf (b.fab.tags.filter fun t => t.target == i) fun t b => (if t.quarantined then b else b.failTag t ISLAND_LOST).freeTag t.tag

/-! ## Forwarding (R38, R41, R43, R49) -/

/-- A packet is discarded and counted, with a FAB_ERR_STAT bit. -/
def Block.discardPacket (b : Block) (f : Fld) : Block := (b.inc R.FAB_ERR_CNT_COUNT).set f 1

/-- The stage at island `at_` refuses a packet under R43, R38, R53 or R41; otherwise nothing. The order in which several that apply are judged is a DESIGN CHOICE (log entry 128). -/
def Block.badPacket (b : Block) (at_ : Nat) (p : Packet) (length : Nat) : Option Block :=
  let here := islOrigin at_
  let tagged := (rspKind p.kind).isSome
  let reserved := match p.kind with | .reserved _ => true | _ => false
  if 0xB ≤ oIsland p.origin % 16 then
    let b := b.discardPacket R.FAB_ERR_STAT_BAD_ORIGIN
    some (if tagged && (b.tagOwner p.tag).isSome then b.refuse here BAD_ORIGIN p else b)
  else if reserved then some ((b.discardPacket R.FAB_ERR_STAT_BAD_KIND).refuse here BAD_KIND p)
  else if 4096 < length || length ≠ p.data.length then
    let b := b.discardPacket R.FAB_ERR_STAT_BAD_LENGTH
    some (if isAnswer p.kind then b else b.refuse here BAD_LENGTH p)
  else if tagged && 0xA000 ≤ p.tag then some (b.discardPacket R.FAB_ERR_STAT_BAD_TAG)
  else if (p.kind == .sample || p.kind == .setpoint) && !b.fab.routes.any fun e => e.2 == p.stream then
    some ((b.discardPacket R.FAB_ERR_STAT_BAD_STREAM).refuse here BAD_STREAM p)
  else none

/-- The unit that serves an address: the display cell for its rows, else the row's island. -/
def rowUnit (a : Nat) : Nat := if 0x48000000 ≤ a ∧ a < 0x48012000 then org 1 2 127 else islOrigin (islandOf a)

/-- The units a packet goes to (Table 2.3); `note` is the island of the packet that an ERROR_NOTE answers, which its header does not name. -/
def Block.unitsOf (b : Block) (p : Packet) (note : Nat) : List Nat :=
  match p.kind with
  | .sample | .setpoint => (b.fab.dests.filter fun d => d.1 == p.stream).map (·.2)
  | .event => [org 0 4 127]
  | .beacon => (List.range 9).map islOrigin
  | .mode => [org 0 2 127, org 2 2 127]
  | .readReq | .writeReq => [rowUnit (bytesAt p.data 0 4)]
  | .storeReq => [org 5 1 127]
  | .load => [bytesAt p.data 0 2]
  | .readRsp | .writeRsp | .storeRsp | .loadRsp => ((b.tagOwner p.tag).map islOrigin).toList
  | .errorNote => [islOrigin note]
  | .reserved _ => []

/-- The backup domain and the shared memories attach to the router of island 0. -/
def routerOf (o : Nat) : Nat := if 8 < oIsland o then 0 else oIsland o

/-- The router of the source's island sends a packet towards the units of one island: those that take no packet are answered for with ISLAND_LOST (R606); a request waits for its tag; the rest goes onto the link. -/
def Block.departTo (b : Block) (src : Nat) (p : Packet) (units : List Nat) (dest : Nat) : Block :=
  let mine := units.filter fun u => routerOf u == dest
  let b := b.when (mine.any b.barred) fun b => b.refuse (islOrigin src) ISLAND_LOST p
  if mine.all b.barred then b
  else match (if (rspKind p.kind).isSome then b.takeTag p dest else some b) with
    | none => b.waitTag { source := p.origin, since := b.now, packet := p, dest := dest }
    | some b => if src = dest then b else b.enqueue src dest p

/-- A packet leaves its source's router for every island that holds a unit it goes to. -/
def Block.depart (b : Block) (src note : Nat) (p : Packet) : Block :=
  let units := b.unitsOf p note
  b.eachOf (units.map routerOf).eraseDups fun dest b => b.departTo src p units dest

/-- A stage accepts a packet whole: at its source's router, or from the link, whose sender then drops its copy. A copy whose check is wrong is sent again; one out of the lane's sequence, accepted before or not yet due, is discarded (R47, R49, R58). -/
def Block.forward_ (b : Block) (at_ note : Nat) (p : Packet) (length check lseq : Nat) : Block :=
  let src := routerOf p.origin
  if at_ = src then
    match b.badPacket at_ p length with
    | some b => b
    | none => b.depart at_ note p
  else
    let k := linkOf src at_
    let lane := b.laneOf k p
    let up := decide (src < at_)
    match b.inFlight k lane up with
    | none => b
    | some i =>
      if !b.flag (R.FAB_LINKk_UP k) || (b.fab.held[i]?).map (·.lseq) ≠ some (some lseq) then b
      else if check ≠ linkCheck p || (b.fab.held[i]?).map (·.packet) ≠ some p then b.checkFail k lane up
      else (b.modFab fun x => { x with held := x.held.eraseIdx i }).modLink k fun l => { l with expect := updAt l.expect (dirOf lane up) fun n => (n + 1) % 256 }

def execPacketForward (at_ dest : Fin 9) (p : Packet) (length : Nat) (check : BitVec 16) (lseq : Fin 256) (s : State) : Result := s.go fun b => b.forward_ at_ dest p length check.toNat lseq

/-- A response reaches the router of the island that owns its tag, which delivers it to the unit that issued the request; one that comes after the expiry instant finds its tag in quarantine, one without a live tag is counted (R42, R56, R603). -/
def Block.response (b : Block) (p : Packet) : Block :=
  match b.fab.tags.find? fun t => t.tag == p.tag with
  | none => if b.storeTagLive p.tag then b else b.inc R.FAB_ERR_CNT_COUNT
  | some t =>
    if t.quarantined then (b.inc R.FAB_LATE_CNT_COUNT).freeTag p.tag
    else if 0x8000 ≤ t.tag && t.expires < b.now then ((b.timeOut t).inc R.FAB_LATE_CNT_COUNT).freeTag p.tag
    else (b.modFab fun x => { x with delivered := x.delivered ++ [(t.source, p)] }).freeTag p.tag

def execResponseArrival (p : Packet) (s : State) : Result := s.go fun b => b.response p

/-- An ERROR_NOTE reaches the island of the packet it answers; at a shut island it is discarded and counted (R603). -/
def Block.noteArrives (b : Block) (dest : Nat) : Block := if b.shut dest then b.inc R.FAB_ERR_CNT_COUNT else b

def execErrorNoteArrival (dest : Fin 9) (p : Packet) (s : State) : Result := s.go fun b => if p.kind = .errorNote then b.noteArrives dest else b

/-! ## Islands -/

/-- What an island's reset does to the fabric: its links go down, its own sources lose their unsent packets, tags and waits, and packets in flight from it or to it are answered with ISLAND_LOST (R48, R60). -/
def Block.fabricReset (b : Block) (i : Nat) : Block :=
  let b := b.each 36 fun k b =>
    let (x, y) := linkEnds k
    if x = i || y = i then b.linkDown k else b
  let b := b.modFab fun x => { x with held := x.held.filter (fun h => oIsland h.packet.origin != i || h.sent), tags := x.tags.filter fun t => oIsland t.source != i, waiting := x.waiting.filter fun w => oIsland w.source != i }
  (b.answerHeld (fun h => heldTo i h || oIsland h.packet.origin == i) ISLAND_LOST).tagCounts

/-- The first free tag of an island's range. -/
def Block.nextTag (b : Block) (i : Nat) : Option Nat :=
  ((List.range (b.get (R.FAB_TAG_ISLk_QUOTA i))).map (b.tagBase i + ·)).find? fun t => !b.fab.tags.any fun x => x.tag == t

/-- A block's own request leaves with a tag of its island, or its source waits for one (R55); its router answers at once for an island that takes no packet (R606). -/
def Block.request (b : Block) (p : Packet) (dest : Nat) : Block :=
  if b.shut dest then b.refuse (islOrigin (oIsland p.origin)) ISLAND_LOST { p with tag := (b.nextTag (oIsland p.origin)).getD 0xFFFF }
  else match b.nextTag (oIsland p.origin) with
  | none => b.waitTag { source := p.origin, since := b.now, packet := p, dest := dest, own := true }
  | some t =>
    let p := { p with tag := t }
    match b.takeTag p dest with
    | none => b
    | some b => b.send { p with stamp := b.stamp }

/-- A read of `n` words of control space. -/
def Block.readReq (b : Block) (origin addr n : Nat) : Block :=
  b.request { kind := .readReq, stream := 0, origin := origin, data := le 4 addr ++ le 2 n ++ [0, 0] } (islandOf addr)

def Block.clrCounters (b : Block) : Block :=
  (b.clear [R.FAB_ERR_CNT_COUNT, R.FAB_LATE_CNT_COUNT, R.FAB_TAG_WAIT_CNT_COUNT]).each 36 fun k b => b.clear [R.FAB_LINKk_RESETS k, R.FAB_LINKk_RETRIES k]

def execClrCounters (s : State) : Result := s.ask none (·.clrCounters)

end Sys2Proof.Machine
end

