-- ==== Sys2Proof/Machine/Cipher.lean ====
section
/-! DEFINITION. What the symmetric unit of the crypto engine computes: SHA-384 (FIPS 180-4), HMAC over it (FIPS 198-1) and AES-256-GCM (FIPS 197, SP 800-38D). The spec names these operations and leaves them to their standards (Table 22.10); their constants are PRESUMED from there (log entry 123). Byte strings are lists of numbers below 256. -/

namespace Sys2Proof.Machine

open Sys2Proof

/-- The number that a big-endian byte string spells, and the `n` bytes of a number. -/
def beNat (l : List Nat) : Nat := l.foldl (fun x c => x * 256 + c % 256) 0
def beBytes (n v : Nat) : List Nat := (List.range n).map fun i => v / 256 ^ (n - 1 - i) % 256

/-- The first `n` bytes of a string, zeros where it is shorter. -/
def padBytes (n : Nat) (l : List Nat) : List Nat := (l ++ List.replicate (n - l.length) 0).take n

/-- Blocks of `k` bytes; the last one filled with zeros. -/
def blocksOf (k : Nat) (l : List Nat) : List (List Nat) := (List.range ((l.length + k - 1) / k)).map fun i => padBytes k (l.drop (k * i))

/-! ## SHA-384 -/

/-- Round constants of SHA-384 (FIPS 180-4; PRESUMED, log entry 123): the first 64 fraction bits of the cube roots of the first 80 primes. -/
def shaK : List Nat :=
  [0x428A2F98D728AE22, 0x7137449123EF65CD, 0xB5C0FBCFEC4D3B2F, 0xE9B5DBA58189DBBC, 0x3956C25BF348B538, 0x59F111F1B605D019, 0x923F82A4AF194F9B, 0xAB1C5ED5DA6D8118] ++
  [0xD807AA98A3030242, 0x12835B0145706FBE, 0x243185BE4EE4B28C, 0x550C7DC3D5FFB4E2, 0x72BE5D74F27B896F, 0x80DEB1FE3B1696B1, 0x9BDC06A725C71235, 0xC19BF174CF692694] ++
  [0xE49B69C19EF14AD2, 0xEFBE4786384F25E3, 0x0FC19DC68B8CD5B5, 0x240CA1CC77AC9C65, 0x2DE92C6F592B0275, 0x4A7484AA6EA6E483, 0x5CB0A9DCBD41FBD4, 0x76F988DA831153B5] ++
  [0x983E5152EE66DFAB, 0xA831C66D2DB43210, 0xB00327C898FB213F, 0xBF597FC7BEEF0EE4, 0xC6E00BF33DA88FC2, 0xD5A79147930AA725, 0x06CA6351E003826F, 0x142929670A0E6E70] ++
  [0x27B70A8546D22FFC, 0x2E1B21385C26C926, 0x4D2C6DFC5AC42AED, 0x53380D139D95B3DF, 0x650A73548BAF63DE, 0x766A0ABB3C77B2A8, 0x81C2C92E47EDAEE6, 0x92722C851482353B] ++
  [0xA2BFE8A14CF10364, 0xA81A664BBC423001, 0xC24B8B70D0F89791, 0xC76C51A30654BE30, 0xD192E819D6EF5218, 0xD69906245565A910, 0xF40E35855771202A, 0x106AA07032BBD1B8] ++
  [0x19A4C116B8D2D0C8, 0x1E376C085141AB53, 0x2748774CDF8EEB99, 0x34B0BCB5E19B48A8, 0x391C0CB3C5C95A63, 0x4ED8AA4AE3418ACB, 0x5B9CCA4F7763E373, 0x682E6FF3D6B2B8A3] ++
  [0x748F82EE5DEFB2FC, 0x78A5636F43172F60, 0x84C87814A1F0AB72, 0x8CC702081A6439EC, 0x90BEFFFA23631E28, 0xA4506CEBDE82BDE9, 0xBEF9A3F7B2C67915, 0xC67178F2E372532B] ++
  [0xCA273ECEEA26619C, 0xD186B8C721C0C207, 0xEADA7DD6CDE0EB1E, 0xF57D4F7FEE6ED178, 0x06F067AA72176FBA, 0x0A637DC5A2C898A6, 0x113F9804BEF90DAE, 0x1B710B35131C471B] ++
  [0x28DB77F523047D84, 0x32CAAB7B40C72493, 0x3C9EBE0A15C9BEBC, 0x431D67C49C100D4C, 0x4CC5D4BECB3E42B6, 0x597F299CFC657E2A, 0x5FCB6FAB3AD6FAEC, 0x6C44198C4A475817]

/-- Initial hash of SHA-384: the first 64 fraction bits of the square roots of the 9th to the 16th prime. -/
def shaInit : List Nat :=
  [0xCBBB9D5DC1059ED8, 0x629A292A367CD507, 0x9159015A3070DD17, 0x152FECD8F70E5939, 0x67332667FFC00B31, 0x8EB44A8768581511, 0xDB0C2E0D64F98FA7, 0x47B5481DBEFA4FA4]

def rotR (n x : Nat) : Nat := (x / 2 ^ n) ||| (x * 2 ^ (64 - n) % 2 ^ 64)

/-- The next word of the schedule, which is kept with its newest word first. -/
def shaNext (w : List Nat) : Nat :=
  let g := fun (i : Nat) => w.getD i 0
  let s0 := rotR 1 (g 14) ^^^ rotR 8 (g 14) ^^^ (g 14 / 2 ^ 7)
  let s1 := rotR 19 (g 1) ^^^ rotR 61 (g 1) ^^^ (g 1 / 2 ^ 6)
  (s1 + g 6 + s0 + g 15) % 2 ^ 64

/-- The 80 words of a block of 128 bytes. -/
def shaSchedule (blk : List Nat) : List Nat :=
  ((List.range 64).foldl (fun w _ => shaNext w :: w) ((blocksOf 8 blk).map beNat).reverse).reverse

/-- One round with its constant and word. -/
def shaRound (v : List Nat) (kw : Nat × Nat) : List Nat :=
  match v with
  | [a, b, c, d, e, f, g, h] =>
    let t1 := h + (rotR 14 e ^^^ rotR 18 e ^^^ rotR 41 e) + ((e &&& f) ^^^ ((2 ^ 64 - 1 - e) &&& g)) + kw.1 + kw.2
    let t2 := (rotR 28 a ^^^ rotR 34 a ^^^ rotR 39 a) + ((a &&& b) ^^^ (a &&& c) ^^^ (b &&& c))
    [(t1 + t2) % 2 ^ 64, a, b, c, (d + t1) % 2 ^ 64, e, f, g]
  | v => v

/-- One block taken into the hash. -/
def shaBlock (h : List Nat) (blk : List Nat) : List Nat := List.zipWith (fun x y => (x + y) % 2 ^ 64) h ((shaK.zip (shaSchedule blk)).foldl shaRound h)

/-- SHA-384 of a byte string. -/
def sha384 (l : List Nat) : List Nat :=
  let zeros := (111 + 128 - l.length % 128) % 128
  let padded := l ++ [0x80] ++ List.replicate zeros 0 ++ beBytes 16 (8 * l.length)
  (((blocksOf 128 padded).foldl shaBlock shaInit).take 6).flatMap (beBytes 8)

/-- HMAC with SHA-384. -/
def hmac384 (key msg : List Nat) : List Nat :=
  let k := padBytes 128 (if 128 < key.length then sha384 key else key)
  sha384 (k.map (· ^^^ 0x5C) ++ sha384 (k.map (· ^^^ 0x36) ++ msg))

/-! ## AES-256 -/

def xtime (b : Nat) : Nat := if 128 ≤ b then (2 * b) ^^^ 0x11B else 2 * b

/-- Product in the field of AES. -/
def gfMul (a b : Nat) : Nat := ((List.range 8).foldl (fun (x : Nat × Nat) i => (if bit b i then x.1 ^^^ x.2 else x.1, xtime x.2)) (0, a)).1

/-- The S-box: the inverse, as a power with exponent 254, and the affine map. -/
def subByte (x : Nat) : Nat :=
  let sq := fun (y : Nat) => gfMul y y
  let p := (List.range 7).foldl (fun (a : Nat × Nat) _ => let y := sq a.2; (gfMul a.1 y, y)) (1, x)
  let r := fun (n : Nat) => (p.1 * 2 ^ n % 256) ||| (p.1 / 2 ^ (8 - n))
  p.1 ^^^ r 1 ^^^ r 2 ^^^ r 3 ^^^ r 4 ^^^ 0x63

def xorBytes (a b : List Nat) : List Nat := List.zipWith (· ^^^ ·) a b

/-- The 60 words of the expanded key, oldest last while it grows. -/
def aesWords (key : List Nat) : List (List Nat) :=
  let grow := fun (w : List (List Nat)) (n : Nat) =>
    let i := n + 8
    let t := w.headD []
    let t := if i % 8 = 0 then xorBytes ((t.drop 1 ++ t.take 1).map subByte) [(List.range (i / 8 - 1)).foldl (fun c _ => xtime c) 1, 0, 0, 0] else if i % 8 = 4 then t.map subByte else t
    xorBytes t (w.getD 7 []) :: w
  ((List.range 52).foldl grow (blocksOf 4 (padBytes 32 key)).reverse).reverse

/-- ShiftRows over 16 bytes in columns. -/
def shiftRows (s : List Nat) : List Nat := (List.range 16).map fun i => s.getD ((i + 4 * (i % 4)) % 16) 0

/-- MixColumns. -/
def mixColumns (s : List Nat) : List Nat := (List.range 16).map fun i =>
  let c := i / 4 * 4
  let g := fun (k : Nat) => s.getD (c + (i + k) % 4) 0
  gfMul (g 0) 2 ^^^ gfMul (g 1) 3 ^^^ g 2 ^^^ g 3

/-- A block encrypted under an expanded key. -/
def aesBlock (w : List (List Nat)) (blk : List Nat) : List Nat :=
  let rk := fun (r : Nat) => ((w.drop (4 * r)).take 4).flatten
  let s := (List.range 13).foldl (fun s r => xorBytes (mixColumns (shiftRows (s.map subByte))) (rk (r + 1))) (xorBytes blk (rk 0))
  xorBytes (shiftRows (s.map subByte)) (rk 14)

/-! ## GCM -/

/-- Product in the field of GHASH; bit 127 is the first bit of a block. -/
def ghMul (x y : Nat) : Nat :=
  ((List.range 128).foldl (fun (a : Nat × Nat) i => (if bit x (127 - i) then a.1 ^^^ a.2 else a.1, if a.2 % 2 = 1 then (a.2 / 2) ^^^ (0xE1 * 2 ^ 120) else a.2 / 2)) (0, y)).1

def ghash (h : Nat) (l : List Nat) : Nat := (blocksOf 16 l).foldl (fun x b => ghMul (x ^^^ beNat b) h) 0

/-- A string filled with zeros to whole blocks of 16 bytes. -/
def wholeBlocks (l : List Nat) : List Nat := l ++ List.replicate ((16 - l.length % 16) % 16) 0

/-- Counter mode from counter 2 on: encryption and decryption alike. -/
def gcmStream (w : List (List Nat)) (iv data : List Nat) : List Nat :=
  xorBytes data ((List.range ((data.length + 15) / 16)).flatMap fun i => aesBlock w (iv ++ beBytes 4 (i + 2)))

/-- The tag over the associated data and the encrypted data. -/
def gcmTag (w : List (List Nat)) (iv aad ct : List Nat) : List Nat :=
  let h := beNat (aesBlock w (List.replicate 16 0))
  let s := ghash h (wholeBlocks aad ++ wholeBlocks ct ++ beBytes 8 (8 * aad.length) ++ beBytes 8 (8 * ct.length))
  xorBytes (beBytes 16 s) (aesBlock w (iv ++ [0, 0, 0, 1]))

end Sys2Proof.Machine
end

