-- ==== Sys2Proof/Machine/Curve.lean ====
section
/-! DEFINITION. What the public-key unit of the crypto engine computes: ECDSA and ECDH over P-384 (SEC 1, FIPS 186-4) with the deterministic nonce of RFC 6979 (Table 22.10, R538). The curve's constants are PRESUMED from those standards (log entry 123). -/

namespace Sys2Proof.Machine

open Sys2Proof

/-- Field prime and group order of P-384. -/
def p384 : Nat := 2 ^ 384 - 2 ^ 128 - 2 ^ 96 + 2 ^ 32 - 1
def n384 : Nat := 0xFFFFFFFFFFFFFFFFFFFFFFFFFFFFFFFFFFFFFFFFFFFFFFFFC7634D81F4372DDF581A0DB248B0A77AECEC196ACCC52973

/-- The curve is y² = x³ - 3x + b. -/
def b384 : Nat := 0xB3312FA7E23EE7E4988E056BE3F82D19181D9C6EFE8141120314088F5013875AC656398D8A2ED19D2A85C8EDD3EC2AEF

/-- The base point. -/
def g384 : Nat × Nat :=
  (0xAA87CA22BE8B05378EB1C71EF320AD746E1D3B628BA79B9859F741E082542A385502F25DBF55296C3A545E3872760AB7,
   0x3617DE4A96262C6F5D9E98BF9292DC29F8F41DBD289A147CE9DA3113B5F0B8C00A60B1CE1D7E819D7A431D7C90EA0E5F)

/-- `b ^ e` modulo `m`, for an exponent below 2^384: eight bits of the exponent at a time. -/
def powMod (m b e : Nat) : Nat := (List.range 48).foldl (fun r i => r ^ 256 % m * (b ^ (e / 2 ^ (376 - 8 * i) % 256) % m) % m) (1 % m)

/-- Inverse modulo a prime. -/
def invMod (m a : Nat) : Nat := powMod m (a % m) (m - 2)

/-- A point lies on the curve. -/
def onCurve (q : Nat × Nat) : Bool := q.2 * q.2 % p384 == (q.1 * q.1 * q.1 + (p384 - 3) * q.1 + b384) % p384

/-- The point on the line of slope `k` through a point and a second one with abscissa `x2`. -/
def chord (k : Nat) (p : Nat × Nat) (x2 : Nat) : Nat × Nat :=
  let x := (k * k + 2 * p384 - p.1 - x2) % p384
  (x, (k * (p.1 + p384 - x) + p384 - p.2) % p384)

/-- Sum of two points; none is the point at infinity. -/
def ecAdd : Option (Nat × Nat) → Option (Nat × Nat) → Option (Nat × Nat)
  | none, q => q
  | p, none => p
  | some p, some q =>
    if p.1 = q.1 then
      if (p.2 + q.2) % p384 = 0 then none
      else some (chord ((3 * p.1 * p.1 + p384 - 3) * invMod p384 (2 * p.2) % p384) p p.1)
    else some (chord ((q.2 + p384 - p.2) * invMod p384 (q.1 + p384 - p.1) % p384) p q.1)

/-- A point in Jacobian coordinates: (X, Y, Z) stands for (X / Z², Y / Z³), and Z = 0 for the point at infinity. -/
abbrev Jacobian := Nat × Nat × Nat

/-- Difference modulo the field prime of two numbers below it. -/
def subP (a b : Nat) : Nat := (a + p384 - b) % p384

/-- The double of a point in Jacobian coordinates, on a curve with coefficient -3. -/
def jacDouble (q : Jacobian) : Jacobian :=
  let (x, y, z) := q
  let d := z * z % p384
  let g := y * y % p384
  let b := x * g % p384
  let a := 3 * (subP x d * (x + d)) % p384
  let x3 := subP (a * a % p384) (8 * b % p384)
  (x3, subP (a * subP (4 * b % p384) x3 % p384) (8 * (g * g) % p384), 2 * y * z % p384)

/-- The sum of a point in Jacobian coordinates and one of the curve. -/
def jacAdd (q : Jacobian) (p : Nat × Nat) : Jacobian :=
  let (x, y, z) := q
  if z = 0 then (p.1, p.2, 1)
  else
    let zz := z * z % p384
    let h := subP (p.1 * zz % p384) x
    let r := subP (p.2 * zz % p384 * z % p384) y
    if h = 0 then (if r = 0 then jacDouble q else (1, 1, 0))
    else
      let hh := h * h % p384
      let h3 := hh * h % p384
      let v := x * hh % p384
      let x3 := subP (r * r % p384) ((h3 + 2 * v) % p384)
      (x3, subP (r * subP v x3 % p384) (y * h3 % p384), z * h % p384)

/-- The point that Jacobian coordinates stand for. -/
def jacPoint (q : Jacobian) : Option (Nat × Nat) :=
  let (x, y, z) := q
  if z = 0 then none
  else
    let i := invMod p384 z
    some (x * (i * i % p384) % p384, y * (i * i % p384 * i % p384) % p384)

/-- A multiple of a point, by doubling and adding from the highest bit. -/
def ecMul (k : Nat) (p : Nat × Nat) : Option (Nat × Nat) :=
  jacPoint ((List.range 384).foldl (fun r i => let d := jacDouble r; if bit k (383 - i) then jacAdd d p else d) (1, 1, 0))

/-- A scalar that R536 calls valid. -/
def scalarOk (k : Nat) : Bool := decide (0 < k) && decide (k < n384)

/-- The point of 97 bytes, uncompressed; none where R536 names INVALID_POINT. -/
def pointOf (l : List Nat) : Option (Nat × Nat) :=
  let q := (beNat ((l.drop 1).take 48), beNat ((l.drop 49).take 48))
  if l.getD 0 0 = 4 && q.1 < p384 && q.2 < p384 && onCurve q then some q else none

/-- A signature verifies under a public key. -/
def ecVerify (e r s : Nat) (q : Nat × Nat) : Bool :=
  let w := invMod n384 s
  match ecAdd (ecMul (e * w % n384) g384) (ecMul (r * w % n384) q) with
  | none => false
  | some x => x.1 % n384 == r

/-- A signature of 96 bytes, r then s, over a digest verifies under a public key of 97 bytes (R66). -/
def sigOk (key digest sig : List Nat) : Bool :=
  let r := beNat (sig.take 48)
  let s := beNat (sig.drop 48)
  key.length == 97 && sig.length == 96 && scalarOk r && scalarOk s && (match pointOf key with | some q => ecVerify (beNat digest) r s q | none => false)

/-- The nonces of RFC 6979, tried in order: the first that gives a signature. -/
def signWith (d e : Nat) : Nat → List Nat → List Nat → Nat × Nat
  | 0, _, _ => (0, 0)
  | fuel + 1, key, v =>
    let v := hmac384 key v
    let k := beNat v
    let r := ((ecMul k g384).map (·.1)).getD 0 % n384
    let s := invMod n384 k * (e + r * d) % n384
    if scalarOk k && r ≠ 0 && s ≠ 0 then (r, s)
    else
      let key := hmac384 key (v ++ [0])
      signWith d e fuel key (hmac384 key v)

/-- The signature of a digest of 48 bytes under a key. -/
def ecSign (d : Nat) (digest : List Nat) : Nat × Nat :=
  let seed := beBytes 48 d ++ beBytes 48 (beNat digest % n384)
  let v := List.replicate 48 1
  let key := hmac384 (List.replicate 48 0) (v ++ [0] ++ seed)
  let v := hmac384 key v
  let key := hmac384 key (v ++ [1] ++ seed)
  signWith d (beNat digest) 16 key (hmac384 key v)

end Sys2Proof.Machine
end

