-- ==== Sys2Proof/Machine/Image.lean ====
section
/-! DEFINITION. The Gliuryel image: its acceptance, its selection map and the installing of a section (chapter 3; R577, R578). -/

namespace Sys2Proof.Machine

open Sys2Proof

/-! ## Status codes (Table 3.10) -/

def BAD_MAGIC : Nat := 0x40
def BAD_FORMAT : Nat := 0x41
def WRONG_HARDWARE : Nat := 0x42
def WRONG_UNIT : Nat := 0x43
def SIG_LAYOUT : Nat := 0x44
def KEY_UNKNOWN : Nat := 0x45
def SIG_INVALID : Nat := 0x46
def SECTION_BAD : Nat := 0x47
def LOAD_BUDGET : Nat := 0x48
def DIGEST_MISMATCH : Nat := 0x49
def CONFIG_LIMIT : Nat := 0x4A
def RETAINED_UNMIGRATABLE : Nat := 0x4B
def NOT_PARTIAL : Nat := 0x4C
def RELOAD_BUSY : Nat := 0x4D
def IN_USE : Nat := 0x4E
def PR_TIMED_OUT : Nat := 0x4F

/-- Origin of the supervisor's reset controller. -/
def supOrigin : Nat := org 0 1 127

/-! ## Section types (Table 3.2) -/

/-- Phase of a section type, its island, lowest and highest cell (31 the island itself), and its highest unit; `none` for a section that names cells. -/
def sectionKind (t : Nat) : Option (Nat × Nat × Nat × Nat × Option (Nat × Nat)) :=
  match t with
  | 0x10 => some (0, 0, 31, 31, none)
  | 0x11 => some (0, 0, 1, 1, none)
  | 0x12 => some (0, 0, 2, 2, none)
  | 0x13 => some (0, 0, 4, 4, none)
  | 0x14 => some (0, 0, 5, 5, none)
  | 0x20 => some (1, 1, 0, 0, some (0, 0))
  | 0x21 => some (4, 1, 0, 0, some (1, 7))
  | 0x22 => some (4, 1, 2, 2, none)
  | 0x23 => some (4, 1, 4, 4, none)
  | 0x30 => some (3, 2, 0, 0, none)
  | 0x31 => some (3, 2, 1, 1, none)
  | 0x32 => some (3, 2, 2, 2, none)
  | 0x40 => some (3, 3, 0, 11, none)
  | 0x41 => some (3, 3, 13, 14, none)
  | 0x42 => some (3, 3, 15, 15, none)
  | 0x50 => some (2, 4, 0, 2, some (0, 7))
  | 0x51 => some (3, 4, 0, 2, some (0, 7))
  | 0x52 => some (3, 4, 3, 3, none)
  | 0x53 => some (3, 4, 4, 5, some (0, 7))
  | 0x54 => some (3, 4, 6, 6, none)
  | 0x60 => some (3, 5, 1, 1, none)
  | 0x61 => some (3, 5, 2, 2, none)
  | _ => none

/-- TARGET and CELL_SPAN name cells or units of the section's type that exist, and PHASE is that of Table 3.2 (R65). -/
def targetOk (x : Section) : Bool :=
  let c := oCell x.target
  let last := c + x.span - 1
  1 ≤ x.span && x.span ≤ 31 &&
  (if x.type = 0x70 || x.type = 0x71 then
    6 ≤ oIsland x.target && oIsland x.target ≤ 8 && oUnit x.target == 127 && x.phase == 3 &&
      8 * (oIsland x.target - 6) ≤ c && last < 8 * (oIsland x.target - 5)
  else match sectionKind x.type with
    | none => false
    | some (ph, isl, lo, hi, units) =>
      x.phase == ph && oIsland x.target == isl && lo ≤ c && last ≤ hi &&
        (match units with
         | none => oUnit x.target == 127
         | some (a, z) => a ≤ oUnit x.target && oUnit x.target ≤ z))

/-- Two entries stand for the same (TYPE, TARGET, CELL_SPAN). -/
def sameTarget (x y : Section) : Bool := x.type == y.type && x.target == y.target && x.span == y.span

/-- Origins a section applies to: CELL_SPAN consecutive cells with the same unit (R65). -/
def sectionTargets (x : Section) : List Nat := (List.range x.span).map fun k => x.target + 128 * k

/-- Every number of a list is 0. -/
def allZero (l : List Nat) : Bool := l.all (· == 0)

/-- The entry at index `i` obeys R65 within its table. -/
def entryOk (l : List Section) (i : Nat) (x : Section) : Bool :=
  let peers := (l.zipIdx).filter fun e => sameTarget e.1 x
  targetOk x && x.flagsRest == 0 && allZero x.reserved && (peers.filter fun e => e.1.isDefault).length == 1 &&
    (x.isDefault || (x.partialOk && peers.all fun e => e.2 == i || e.1.isDefault || e.1.variant != x.variant))

/-! ## The bytes of an image (R64 to R66) -/

/-- The 256 bytes of the header (Table 3.1). -/
def headerBytes (g : Image) : List Nat :=
  padBytes 8 g.magic ++ [g.major, g.minor] ++ le 2 g.headerLen ++ le 4 g.length ++ le 4 g.version ++ le 4 g.epoch ++ le 2 g.part ++ [g.hw, g.grades] ++ le 2 g.retFmt ++ le 2 g.minFmt ++
    le 4 g.bindFlags ++ padBytes 16 g.unitId ++ le 8 g.buildTime ++ le 2 g.sections.length ++ le 2 g.blocks.length ++ le 4 g.tableOffset ++ le 4 g.sigArea ++ le 4 g.composer ++ le 4 g.loadBytes ++
    padBytes 32 g.name ++ padBytes 144 g.reserved

/-- The 80 bytes of a section table entry (Table 3.3). -/
def entryBytes (x : Section) : List Nat :=
  le 2 x.type ++ le 2 x.target ++ [x.span, x.phase, b2n x.isDefault + 2 * b2n x.partialOk + 4 * x.flagsRest, x.variant] ++ le 4 x.offset ++ le 4 x.length ++ le 2 x.guard ++ padBytes 14 x.reserved ++ padBytes 48 x.digest

/-- The manifest: header and section table. -/
def manifest (g : Image) : List Nat := headerBytes g ++ g.sections.flatMap entryBytes

/-- SHA-384 of the manifest, and the number that its bytes spell. -/
def manifestHash (g : Image) : List Nat := sha384 (manifest g)
def imageDigest (g : Image) : Nat := leNat (manifestHash g)

/-- The 512 bytes of a signature block (Table 3.4). -/
def blockBytes (k : SigBlock) : List Nat :=
  [k.kind, k.format] ++ le 2 k.length ++ padBytes 16 k.keyId ++ padBytes 16 k.unitId ++ padBytes 97 k.publicKey ++ padBytes 96 k.endorsement ++ padBytes 96 k.signature ++ padBytes 187 k.reserved

/-- The bytes of a staging hold an image: its manifest, its sections at their offsets and its signature blocks. -/
def imageIn (l : List Nat) (g : Image) : Bool :=
  l.take (256 + 80 * g.sections.length) == manifest g && (g.sections.all fun x => (l.drop x.offset).take x.length == x.bytes) && l.drop g.sigArea == g.blocks.flatMap blockBytes

/-- The section's bytes match its entry (step 12 of R67). -/
def digestOk (x : Section) : Bool := sha384 x.bytes == x.digest

/-- UNIT_BOUND. -/
def unitBound (g : Image) : Bool := g.bindFlags % 2 == 1

/-! ## Acceptance (R67) -/

/-- Total LENGTH of the sections a test picks. -/
def imageTotal (g : Image) (p : Section → Bool) : Nat := ((g.sections.filter p).map (·.length)).foldl (· + ·) 0

/-- The lengths and offsets obey R64, and the reserved header bytes and bits are 0. -/
def imageLayoutOk (g : Image) : Bool :=
  let n := g.sections.length
  let table := 256 + 80 * n
  1 ≤ n && n ≤ 1024 && (g.blocks.length == 2 || g.blocks.length == 3) && g.tableOffset == 256 && g.sigArea % 64 == 0 && table ≤ g.sigArea &&
  g.length == g.sigArea + 512 * g.blocks.length && g.length ≤ 268435456 && allZero g.reserved && g.bindFlags < 2 &&
  (g.sections.zipIdx).all fun (x, i) => x.offset % 64 == 0 && table ≤ x.offset && x.offset + x.length ≤ g.sigArea &&
    (g.sections.zipIdx).all fun (y, j) => i == j || x.length == 0 || y.length == 0 || x.offset + x.length ≤ y.offset || y.offset + y.length ≤ x.offset

/-- A mebibyte. -/
def mib : Nat := 1048576

/-- A section exceeds a budget of Table 3.7; LOAD_BYTES is judged as the header states it and as the sections give it. -/
def imageOverBudget (g : Image) : Bool :=
  64 * mib < g.loadBytes || 64 * mib < imageTotal g (fun x => x.isDefault && (x.phase == 2 || x.phase == 3)) || 16 * mib < imageTotal g (·.phase == 1) || 128 * mib < imageTotal g (·.phase == 4) ||
  (List.range 7).any fun k => 32 * mib < imageTotal g fun x => x.isDefault && oIsland x.target == k + 2

/-- The unit identifier, byte 0 in bits 7:0 (R575). -/
def Block.unitId (b : Block) : Nat := (List.range 4).foldl (fun v n => v + b.get (R.SUP_ID_UNITn_BYTES n) * 2 ^ (32 * n)) 0

/-- Why an image is rejected: status code, signature block and section index. -/
structure ImageVerdict where
  code    : Nat := 0
  block   : Nat := 0
  section_ : Nat := 0
  deriving DecidableEq, Repr

/-- KEY_ID of a public key (R66). -/
def keyIdOf (key : List Nat) : List Nat := (sha384 key).take 16

/-- Index of the boot-ROM vendor key that a KEY_ID names. -/
def Block.vendorIndex (b : Block) (id : List Nat) : Option Nat := b.upd.vendorKeys.findIdx? fun k => keyIdOf k == id

/-- Vendor key `k` is held in the boot ROM and not revoked (R513). -/
def Block.vendorLive (b : Block) (k : Nat) : Bool := !b.bitOf R.UPD_REVOKED_MASK k && b.bitOf R.SUP_ID_KEYS_PRESENT k

/-- The endorsement message of an OEM block (R66). -/
def endorsementText (g : Image) (o : SigBlock) : List Nat := 2 :: padBytes 16 o.keyId ++ padBytes 97 o.publicKey ++ le 2 g.part ++ [g.hw]

/-- The OEM endorsement verifies under the vendor key, and its KEY_ID is the hash of its key. -/
def endorsed (g : Image) (v o : SigBlock) : Bool := sigOk v.publicKey (sha384 (endorsementText g o)) o.endorsement && keyIdOf o.publicKey == o.keyId

/-- Kinds, formats and number of the blocks are those of R66. -/
def sigLayoutOk (g : Image) : Bool :=
  (g.blocks.map (·.kind) == if unitBound g then [1, 2, 3] else [1, 2]) && g.blocks.all fun k => k.format == 1 && k.length == 512

/-- Steps 5 to 10 of R67: the signature area. -/
def Block.signatures (b : Block) (g : Image) : ImageVerdict :=
  if !sigLayoutOk g then { code := SIG_LAYOUT }
  else match g.blocks with
  | v :: o :: rest =>
    if !((b.vendorIndex v.keyId).any b.vendorLive) || keyIdOf v.publicKey != v.keyId then { code := KEY_UNKNOWN }
    else if !sigOk v.publicKey (manifestHash g) v.signature then { code := SIG_INVALID, block := 1 }
    else if !endorsed g v o then { code := KEY_UNKNOWN }
    else if !sigOk o.publicKey (manifestHash g) o.signature then { code := SIG_INVALID, block := 2 }
    else match rest with
      | [] => {}
      | u :: _ => if u.keyId == o.keyId && u.unitId == g.unitId && sigOk o.publicKey (sha384 (manifest g ++ padBytes 16 g.unitId)) u.signature then {} else { code := SIG_INVALID, block := 3 }
  | _ => { code := SIG_LAYOUT }

/-- Steps 1 to 11 of R67, in order. -/
def Block.imageVerdict (b : Block) (g : Image) : ImageVerdict :=
  if g.magic != ({} : Image).magic then { code := BAD_MAGIC }
  else if g.major ≠ 1 || g.headerLen ≠ 256 || !imageLayoutOk g then { code := BAD_FORMAT }
  else if g.part ≠ b.get R.SUP_ID_PART_PART || g.hw ≠ b.get R.SUP_ID_PART_REV || !bit g.grades (b.get R.SUP_ID_PART_GRADE) then { code := WRONG_HARDWARE }
  else if unitBound g && leNat (padBytes 16 g.unitId) ≠ b.unitId then { code := WRONG_UNIT }
  else
    let s := b.signatures g
    if s.code ≠ 0 then s
    else match (g.sections.zipIdx).find? fun e => !entryOk g.sections e.2 e.1 with
      | some e => { code := SECTION_BAD, section_ := e.2 }
      | none => if imageOverBudget g then { code := LOAD_BUDGET } else {}

/-! ## Selection (R72, R81) -/

/-- Section `i` is selected. -/
def Block.isSelected (b : Block) (i : Nat) : Bool := b.bitOf (R.IMG_SELECTEDk_SEL (i / 32)) (i % 32)

/-- Select section `i` of its target, and deselect the others. -/
def Block.select (b : Block) (i : Nat) : Block :=
  match b.img.active.sections[i]? with
  | none => b
  | some x => b.eachOf b.img.active.sections.zipIdx fun e b => b.when (sameTarget e.1 x) fun b => b.setBit (R.IMG_SELECTEDk_SEL (e.2 / 32)) (e.2 % 32) (e.2 == i)

/-- The DEFAULT map. -/
def Block.selectDefaults (b : Block) : Block :=
  (b.each 32 fun k b => b.set (R.IMG_SELECTEDk_SEL k) 0).eachOf b.img.active.sections.zipIdx fun e b => b.when e.1.isDefault fun b => b.setBit (R.IMG_SELECTEDk_SEL (e.2 / 32)) (e.2 % 32) true

/-- Selected sections with their indices, in phase order, then island and cell order (R72, Table 3.6). -/
def Block.selectedSections (b : Block) (p : Section → Bool) : List (Section × Nat) :=
  let l := b.img.active.sections.zipIdx.filter fun e => p e.1 && b.isSelected e.2
  (List.range 5).flatMap fun ph => (List.range 9).flatMap fun isl => (List.range 32).flatMap fun c => l.filter fun e => e.1.phase == ph && oIsland e.1.target == isl && oCell e.1.target == c

/-! ## Content (R63, Table 3.2) -/

/-- Addresses from a first one up to a last one. -/
abbrev Span := Nat × Nat
def Span.has (s : Span) (a : Nat) : Bool := decide (s.1 ≤ a) && decide (a < s.2)

/-- The registers that a section of a type sets at one of its targets: those Table 3.2 names, in its target's own block. -/
def sectionSpans (t target : Nat) : List Span :=
  let u := oUnit target
  let c := oCell target
  let mb := 8 * c + u
  let tarn := 8 * (c - 4) + u
  let port := 0x47000000 + 0x1000 * mb
  match t with
  | 0x10 => [(0x40100030, 0x40100064)]
  | 0x11 => [(0x40000208, 0x4000021C)]
  | 0x12 => [(0x40000418, 0x40000420), (0x40000440, 0x40000460)]
  | 0x13 => [(0x4B00000C, 0x4B000010), (0x4B004000, 0x4B008000)]
  | 0x14 => [(0x4C000008, 0x4C000018), (0x4C000200, 0x4C000600)]
  | 0x22 => [(0x48000000, 0x48000004), (0x48000100, 0x48000300), (0x48010000, 0x48012000)]
  | 0x23 => [(0x46000010, 0x46000300)]
  | 0x30 => [(0x43000000, 0x43000400), (0x43100000, 0x43240000), (0x45000008, 0x45000040), (0x45000200, 0x45000220)]
  | 0x31 => [(0x43800008, 0x43840000)]
  | 0x32 => [(0x40000418, 0x40000420), (0x41300000, 0x41300600)]
  | 0x40 => [(0x44800008, 0x4480004C)]
  | 0x41 => [(0x44000008, 0x44000800)]
  | 0x42 => [(0x45080004, 0x45080010)]
  | 0x50 => [(port + 0x08, port + 0x2C), (port + 0x60, port + 0x300)]
  | 0x51 => [(port + 0x08, port + 0x0C), (port + 0x24, port + 0x60), (port + 0x300, port + 0x1000), (0x47100000 + 0x800 * mb, 0x47100800 + 0x800 * mb)]
  | 0x52 => [(0x47800000, 0x47800E00), (0x47801000, 0x47803000)]
  | 0x53 => [(0x42000000 + 0x1000 * tarn, 0x42001000 + 0x1000 * tarn)]
  | 0x54 => [(0x47800E00, 0x47801000)]
  | 0x60 => [(0x46800008, 0x46800018)]
  | 0x61 => [(0x46080008, 0x46080024)]
  | 0x71 => [(0x41000000 + 0x10000 * c, 0x41010000 + 0x10000 * c)]
  | _ => []

/-- Read-only figures that Gliuryel Composer puts into the image (R254, R286). -/
def composerField (a lo : Nat) : Bool := (a == R.LE_INFO_TILES.addr && lo == R.LE_INFO_TILES.lo) || (a == R.SOL_BUDGET_T.addr && lo == R.SOL_BUDGET_T.lo) ||
  (List.range 4).any fun g => lo == 0 && (a == (R.LE_GRPg_BUDGET_T g).addr || a == (R.LE_GRPg_OBS_STREAM g).addr)

/-- The register field that a section sets, with its row. -/
def fieldRow (v : FieldVal) : Option (Fld × FieldRow) :=
  (wordAt v.addr).bind fun (l, i) => (l.find? fun f => f.lo == v.lo && (f.acc == .rw || composerField v.addr v.lo)).map fun f => (f.fld v.addr i, f)

/-- A field of the section lies within what its type sets at one of the section's targets, and holds a value that the field takes (R63). -/
def fieldOk (x : Section) (v : FieldVal) : Bool :=
  ((sectionTargets x).any fun t => (sectionSpans x.type t).any fun s => s.has v.addr) &&
    ((fieldRow v).any fun (f, r) => decide (v.val < 2 ^ f.wid) && (r.rules.findSome? (Rule.refusal v.val)).isNone)

/-- A field put into force at once; a calibration field of the mapper yields to its retained record (R401). -/
def Block.installField (b : Block) (v : FieldVal) : Block :=
  match fieldRow v with
  | none => b
  | some (f, r) =>
    if b.sys.calKept && yldRetained.any (·.key == f.key) then b
    else { (b.set f (b.fieldTaken v.addr (v.val * 2 ^ v.lo) r)) with inuse := b.inuse.filter fun e => e.1 != f.key }

/-- The fields that a section sets at one target. -/
def fieldsFor (x : Section) (t : Nat) : List FieldVal := x.fields.filter fun v => (sectionSpans x.type t).any fun s => s.has v.addr

/-- Fields of a section put into force at one of its targets. -/
def Block.installFields (b : Block) (x : Section) (t : Nat) : Block := b.eachOf (fieldsFor x t) fun v b => b.installField v

/-! ## Partition headers (R577) -/

/-- A partition's header, read from its bytes; `sound` when MAGIC, FORMAT and the reserved bytes and bits are right. -/
structure PartHeader where
  sound       : Bool
  core        : Nat
  flags       : Nat
  entry       : Nat
  loadLength  : Nat
  dramBase    : Nat
  dramSize    : Nat
  writeMask   : Nat
  serviceMask : Nat
  hbMs        : Nat
  deriving DecidableEq, Repr

def isPartition (t : Nat) : Bool := t == 0x20 || t == 0x21

def partHeader (l : List Nat) : PartHeader :=
  { sound := decide (64 ≤ l.length) && l.take 4 == [0x53, 0x48, 0x56, 0x50] && bytesAt l 4 2 == 1 && decide (bytesAt l 7 1 < 4) && allZero ((l.drop 41).take 1) && allZero ((l.drop 44).take 20)
    core := bytesAt l 6 1, flags := bytesAt l 7 1, entry := bytesAt l 8 4, loadLength := bytesAt l 12 4, dramBase := bytesAt l 16 8, dramSize := bytesAt l 24 8
    writeMask := bytesAt l 32 8, serviceMask := bytesAt l 40 1, hbMs := bytesAt l 42 2 }

/-- Two regions of the DRAM overlap. -/
def overlap (a n b k : Nat) : Bool := decide (a < b + k) && decide (b < a + n)

/-- The selected STORE section's regions, or those in force. -/
def Block.millpondBytes (b : Block) : Nat :=
  let l := (b.selectedSections fun y => y.type == 0x60).findSome? fun e => e.1.regions
  ((l.getD b.sst.regions).foldl (· + ·) 0) * mib

/-- What R578 refuses. -/
def Block.partBad (b : Block) (x : Section) : Bool :=
  let h := partHeader x.bytes
  let others := b.selectedSections fun y => isPartition y.type && y.target != x.target
  !h.sound || h.core ≠ oUnit x.target || (h.flags % 2 == 1) ≠ (h.core == 0) || h.loadLength ≤ h.entry ||
  h.dramBase % 4096 ≠ 0 || h.dramSize % 4096 ≠ 0 || h.dramSize < h.loadLength ||
  (h.core ≠ 0 && h.hbMs ≠ 0 && (h.hbMs < 10 || 10000 < h.hbMs)) || overlap h.dramBase h.dramSize Config.millpondBase b.millpondBytes ||
  others.any fun e => let y := partHeader e.1.bytes; overlap h.dramBase h.dramSize y.dramBase y.dramSize

/-! ## Limits checked at the COMMIT (R69, R75, R578, Table 3.7) -/

/-- Value that a section gives a field, if it names it. -/
def valueOf (x : Section) (f : Fld) : Option Nat := (x.fields.find? fun v => v.addr == f.addr && v.lo == f.lo).map (·.val)

/-- The streams of a FABRIC section: each in the range of image-assigned streams, from one source unit, to at most four destinations; and the quotas. -/
def fabricOk (x : Section) : Bool :=
  let quotas := ((List.range 9).map fun k => (valueOf x (R.FAB_TAG_ISLk_QUOTA k)).getD 0).foldl (· + ·) 0
  let sources := fun (st : Nat) => ((x.routes.filter fun e => e.2 == st).map fun e => e.1 / 64).eraseDups.length
  decide (quotas ≤ 8192) && (x.routes.all fun e => decide (1 ≤ e.2) && decide (e.2 ≤ 0xFEFF) && decide (sources e.2 ≤ 1)) &&
    x.dests.all fun d => decide ((x.dests.filter fun e => e.1 == d.1).length ≤ 4)

/-- The configured currents of a cell stay within Table 6.4: 4 A a channel, 8 A a pair, 16 A a quad, 32 A the cell. -/
def Block.currentsOk (b : Block) (c : Nat) (l : List Nat) : Bool :=
  (List.range 8).all (fun u => decide (l.getD u 0 ≤ match b.get (R.FC_CH_FUNC_BOND (8 * c + u)) with | 1 => 8000 | 2 => 16000 | _ => 4000)) && decide (l.foldl (· + ·) 0 ≤ 32000)

/-- Instances that a LOOP_GRAPH section places: their tiles exist, and none holds more than 32 (R249). -/
def graphOk (x : Section) : Bool :=
  let f := R.LE_INSTi_W0_TILE 0
  let tiles := (x.fields.filter fun v => decide (0x43100000 ≤ v.addr) && decide (v.addr < 0x43180000) && v.addr % 0x80 == f.addr % 0x80 && v.lo == f.lo).map (·.val)
  (tiles.all fun t => decide (t < 1536)) && tiles.eraseDups.all fun t => decide ((tiles.filter (· == t)).length ≤ 32)

/-- The limit check of a target before it answers a COMMIT: 0, SECTION_BAD or CONFIG_LIMIT. -/
def Block.limitCode (b : Block) (x : Section) : Nat :=
  let after := b.eachOf (sectionTargets x) fun t b => b.installFields x t
  let fits := x.fields.all (fieldOk x) && (match x.type with
    | 0x20 | 0x21 => !b.partBad x
    | 0x30 => graphOk x
    | 0x31 => (valueOf x R.SOL_CFG_ITER_MAX).all fun n => decide (n ≤ 64)
    | 0x51 => decide (oUnit x.target < 8) && (valueOf x (R.MB_SCHED_CYCLES (8 * oCell x.target + oUnit x.target))).all fun n => decide (n ≤ 6)
    | 0x53 => (valueOf x (R.TARN_CFG_HEADS (8 * (oCell x.target - 4) + oUnit x.target))).all fun n => decide (n ≤ 32)
    | 0x60 => decide ((x.regions.getD b.sst.regions).foldl (· + ·) 0 ≤ 2048)
    | 0x71 => (sectionTargets x).all fun t => after.groupOk (oCell t) && after.currentsOk (oCell t) x.currents
    | _ => true)
  if x.type = 0x10 && !fabricOk x then SECTION_BAD else if fits then 0 else CONFIG_LIMIT

/-! ## Installing a section -/

/-- The authority of a partition in force from its commit (R578). -/
def Block.installPart (b : Block) (h : PartHeader) : Block :=
  let i := h.core
  { b with sys := { b.sys with parts := updAt b.sys.parts i fun p => { p with
      writeMask := h.writeMask, serviceMask := h.serviceMask, hbMs := h.hbMs, flags := h.flags, dramBase := h.dramBase, dramSize := h.dramSize } } }

/-- A section becomes the configuration of one of its targets. -/
def Block.installFor (b : Block) (x : Section) (t : Nat) : Block :=
  let b := b.installFields x t
  let b := b.when (x.type == 0x10) fun b => { b with fab := { b.fab with routes := x.routes, dests := x.dests, periodic := x.periodic } }
  let b := b.when (x.type == 0x11) fun b => { b with sys := { b.sys with watchdog := x.watchdog, rings := x.records } }
  let b := b.when (isPartition x.type) fun b => b.installPart (partHeader x.bytes)
  let b := match x.policy with | some p => { b with mode := { b.mode with policy := if x.type = 0x12 then { b.mode.policy with origins := p.origins } else if x.type = 0x32 then { p with origins := b.mode.policy.origins } else b.mode.policy } } | none => b
  let b := match x.problem with | some p => b.when (x.type == 0x31) fun b => { b with solver := { b.solver with problem := p } } | none => b
  b.when (x.type == 0x60) fun b => { b with sst := { b.sst with streams := x.streams, regions := x.regions.getD b.sst.regions } }

/-- A section becomes the configuration of its targets that satisfy `p`. -/
def Block.install (b : Block) (x : Section) (p : Nat → Bool := fun _ => true) : Block := b.eachOf ((sectionTargets x).filter p) fun t b => b.installFor x t

/-- Every selected section a test picks, installed in phase order at the targets of a scope. -/
def Block.loadSections (b : Block) (p : Section → Bool) (scope : Nat → Bool := fun _ => true) : Block := b.eachOf (b.selectedSections p) fun e b => b.install e.1 scope

/-- Targets of the selected sections a test picks, in a scope. -/
def Block.targetsOf (b : Block) (p : Section → Bool) (scope : Nat → Bool := fun _ => true) : List Nat := ((b.selectedSections p).flatMap fun e => (sectionTargets e.1).filter scope).eraseDups

/-- The first selected section of a scope that the loader or its target refuses: code and index (R71 to R73). -/
def Block.loadFault (b : Block) (p : Section → Bool) : Option (Nat × Nat) :=
  (b.selectedSections p).findSome? fun e =>
    if !digestOk e.1 then some (DIGEST_MISMATCH, e.2)
    else
      let c := b.limitCode e.1
      if c = 0 then none else some (c, e.2)

/-! ## The loader's packets (R68) -/

/-- The payload of a LOAD packet (Table 3.5). -/
def loadPayload (m : LoadMsg) : List Nat := le 2 m.target ++ le 2 m.section_ ++ [m.op, 0, 0, 0] ++ le 4 m.offset ++ le 4 m.total ++ le 8 m.instant ++ m.data

/-- DATA packets of a section for one target, in ascending offset. -/
def dataMsgs (t i : Nat) (x : Section) : List LoadMsg :=
  (List.range ((x.length + 4071) / 4072)).map fun k => { op := 1, target := t, section_ := i, offset := 4072 * k, total := x.length, data := (x.bytes.drop (4072 * k)).take 4072 }

/-- The loader sends a LOAD packet with a tag of island 0, or waits for one (R55); the router of island 0 answers at once for an island or cell that takes no packet (R606). -/
def Block.sendLoad (b : Block) (m : LoadMsg) : Block :=
  let p : Packet := { kind := .load, stream := 0, origin := loaderOrigin, tag := 0, data := loadPayload m }
  if b.barred m.target then b.refuse (islOrigin 0) ISLAND_LOST { p with tag := (b.nextTag 0).getD 0xFFFF }
  else match b.nextTag 0 with
    | none => b.waitTag { source := loaderOrigin, since := b.now, packet := p, dest := oIsland m.target, load := some m }
    | some t => { b.liveTag { p with tag := t } (oIsland m.target) with img := { b.img with sent := b.img.sent ++ [{ m with tag := t }] } }

def Block.sendLoads (b : Block) (l : List LoadMsg) : Block := b.eachOf l fun m b => b.sendLoad m

/-- The packets of a load that is complete, each with a tag that was free again: DATA, COMMIT at `commit_` and START at `start` (R70, R72). -/
def Block.loadTrail (b : Block) (l : List (Section × Nat)) (scope : Nat → Bool) (commit_ start : Nat) : Block :=
  let pairs := l.flatMap fun e => ((sectionTargets e.1).filter scope).map fun t => (t, e)
  let msgs : List LoadMsg := pairs.flatMap (fun e => dataMsgs e.1 e.2.2 e.2.1) ++ pairs.map (fun e => { op := 2, target := e.1, section_ := e.2.2, total := e.2.1.length, instant := commit_ }) ++
    (pairs.map (·.1)).eraseDups.map fun t => { op := 5, target := t, instant := start }
  let tag := (b.nextTag 0).getD 0x8000
  { b with img := { b.img with sent := b.img.sent ++ msgs.map fun (m : LoadMsg) => { m with tag := tag } } }

/-- An answer with an error ends a load: the loader sends ABORT to each of its targets, and none installs (R70). -/
def Block.loadAborts (b : Block) (targets : List Nat) : Block :=
  let b := { b with img := { b.img with staged := b.img.staged.filter fun y => !targets.contains y.target } }
  b.sendLoads (targets.map fun t => { op := 3, target := t })

/-- IMG_STATUS.CODE, IMG_ERR_DETAIL and the EVENT of a section that cannot be loaded. -/
def Block.loadError (b : Block) (code i : Nat) : Block :=
  ((b.set R.IMG_STATUS_CODE code).set R.IMG_ERR_DETAIL_SECTION i).set R.IMG_ERR_DETAIL_SIG_BLOCK 0

end Sys2Proof.Machine
end

