-- ==== Sys2Proof/Machine/Session.lean ====
section
/-! DEFINITION. What the slots, a staging and the service sessions show, and how a session ends (chapter 22: R508, R509, R514, R532). -/

namespace Sys2Proof.Machine

open Sys2Proof

/-! ## Status codes (Table 22.13) -/

def UPD_STATE : Nat := 0x66
def LOCKED_OUT : Nat := 0x67
def ROLLBACK : Nat := 0x6C
def AUTH_FAILED : Nat := 0x6E
def BAD_MESSAGE : Nat := 0x72

def Block.modUpd (b : Block) (f : Upd → Upd) : Block := { b with upd := f b.upd }
def Block.modWhd (b : Block) (f : Whd → Whd) : Block := { b with whd := f b.whd }
def Block.whdPath (b : Block) (p : Nat) : WhdPath := b.whd.paths.getD p {}
def Block.modPath (b : Block) (p : Nat) (f : WhdPath → WhdPath) : Block := b.modWhd fun w => { w with paths := updAt w.paths p f }

/-! ## Slots -/

/-- The slot of a role. -/
def Block.slotOf (b : Block) (role : Nat) : Option Nat := b.upd.slots.findIdx? fun s => s.role == role

/-- The image of a role. -/
def Block.imageOf (b : Block) (role : Nat) : Option Image := (b.upd.slots.find? fun s => s.role == role).map (·.image)

/-- Vendor key index of an image. -/
def Block.vendorOf (b : Block) (g : Image) : Nat := ((g.blocks.head?).bind fun k => b.vendorIndex k.keyId).getD 0

/-! ## The directory (R508, R509) -/

/-- Bytes 0 to 4,091 of a directory record (Table 22.2). -/
def dirBytes (r : DirRecord) : List Nat := le 4 r.gen ++ padBytes 3 r.roles ++ [r.flags] ++ le 8 r.actAt ++ (List.range 3).flatMap (fun s => padBytes 48 (r.digests.getD s [])) ++ List.replicate 3932 0

/-- The place and content of the current record: the highest GEN among the copies whose CRC holds. -/
def Block.currentDir (b : Block) : Option (Nat × DirRecord) :=
  (b.upd.dirs.zipIdx).foldl (fun (m : Option (Nat × DirRecord)) e => match e.1 with
    | some r => if r.crc == crc32 (dirBytes r) && m.all (fun x => decide (x.2.gen < r.gen)) then some (e.2, r) else m
    | none => m) none

/-- The record that the roles and flags of this moment make. -/
def Block.dirRecord (b : Block) (gen : Nat) : DirRecord :=
  let r : DirRecord := { gen := gen, roles := b.upd.slots.map (·.role), flags := b.get R.UPD_STATUS_PENDING_CONFIRM + 2 * b.get R.UPD_STATUS_FALL_DUE + 4 * b.get R.UPD_STATUS_SNAPSHOT_HELD, actAt := b.upd.actAt
                         digests := b.upd.slots.map fun s => if s.role = 0 then List.replicate 48 0 else manifestHash s.image }
  { r with crc := crc32 (dirBytes r) }

/-- A new record is written at the position that does not hold the current one, on both devices. -/
def Block.dirWrite (b : Block) : Block :=
  let cur := b.currentDir
  let pos := match cur with | some (k, _) => 1 - k % 2 | none => 0
  let r := b.dirRecord ((cur.map (·.2.gen)).getD 0 + 1)
  b.modUpd fun u => { u with dirs := u.dirs.zipIdx.map fun e => if e.2 % 2 = pos then some r else e.1 }

/-- Roles and flags follow the current record, as the supervisor finds it at a start (R509, R510). -/
def Block.dirRead (b : Block) : Block :=
  match b.currentDir with
  | none => b
  | some (_, r) =>
    let b := b.modUpd fun u => { u with actAt := r.actAt, slots := u.slots.zipIdx.map fun e => { e.1 with role := r.roles.getD e.2 0 } }
    (((b.setB R.UPD_STATUS_PENDING_CONFIRM (bit r.flags 0)).setB R.UPD_STATUS_FALL_DUE (bit r.flags 1)).setB R.UPD_STATUS_SNAPSHOT_HELD (bit r.flags 2))

/-- State that UPD_STATUS shows. -/
def Block.updState (b : Block) : Nat :=
  if b.upd.safeHold then 8
  else if b.upd.activating then 6
  else match b.upd.stage with
    | some s => if s.verify then 2 else 1
    | none =>
      if b.flag R.UPD_STATUS_PENDING_CONFIRM then 7
      else match b.upd.sched with
        | some s => if s.first.isSome then 5 else 4
        | none => if (b.slotOf 2).isSome then 3 else 0

/-- The registers of the update block follow its state. -/
def Block.updShow (b : Block) : Block :=
  let b := b.set R.UPD_STATUS_STATE b.updState
  b.each 3 fun s b =>
    let x := b.upd.slots.getD s {}
    let g := if x.role = 0 then {} else x.image
    (((b.set (R.UPD_SLOTs_INFO_ROLE s) x.role).set (R.UPD_SLOTs_INFO_VKEY s) (if x.role = 0 then 0 else b.vendorOf g)).set (R.UPD_SLOTs_VER_VERSION s) g.version).set (R.UPD_SLOTs_EPOCH_EPOCH s) g.epoch |>.set (R.UPD_SLOTs_LEN_BYTES s) g.length

/-- One directory write: roles change together (R509). -/
def Block.commit_ (b : Block) (f : List UpdSlot → List UpdSlot) : Block := (b.modUpd fun u => { u with slots := f u.slots }).dirWrite.updShow

/-- FALL_DUE is set by a commit while the image is unconfirmed, and an EVENT is sent (R522). -/
def Block.fallDue (b : Block) : Block :=
  if b.flag R.UPD_STATUS_PENDING_CONFIRM && !b.flag R.UPD_STATUS_FALL_DUE then (b.raise supOrigin R.UPD_STATUS_FALL_DUE).commit_ id else b

/-- A slot of a role becomes FREE. -/
def freeRole (role : Nat) (l : List UpdSlot) : List UpdSlot := l.map fun s => if s.role = role then {} else s

/-- A staging in progress is discarded; its slot stays FREE. -/
def Block.dropStage (b : Block) : Block := (b.modUpd fun u => { u with stage := none }).updShow

/-! ## Sessions -/

/-- WHD_STATUS follows the sessions. -/
def Block.whdShow (b : Block) : Block :=
  match b.whd.active with
  | some p => (b.set R.WHD_STATUS_SESSION 2).set R.WHD_STATUS_PATH p
  | none =>
    let pend := (List.range 2).find? fun p => (b.whdPath p).helloAt.isSome || (b.whdPath p).auth.isSome
    ((b.set R.WHD_STATUS_SESSION (b2n pend.isSome)).set R.WHD_STATUS_PATH (pend.getD 0)).set R.WHD_STATUS_PERM 0

/-- The session of a path ends, with its connection where `close`: a staging in progress is discarded (R532). -/
def Block.whdEnd (b : Block) (p : Nat) (close : Bool := true) : Block :=
  let b := b.when (b.upd.stage.any fun s => s.path == p) (·.dropStage)
  let b := b.modPath p fun x => { x with conn := x.conn && !close, helloAt := none, nonce := none, auth := none }
  (b.modWhd fun w => { w with active := if w.active = some p then none else w.active }).whdShow

/-- Both sessions end: a reset of island 0 or island 1, entry into STANDBY or BACKUP. -/
def Block.whdEndAll (b : Block) : Block := (b.whdEnd 0).whdEnd 1

/-- The relay that a peer carries ends (R480). -/
def Block.relayEnds (b : Block) (peer : Nat) : Block := if (b.whdPath 1).conn && (b.whdPath 1).peer == peer then b.whdEnd 1 else b

/-- WHD_CTRL.CLOSE ends the ACTIVE session (R532). -/
def Block.whdCtrlClose (b : Block) : Block := match b.whd.active with | some p => b.whdEnd p | none => b

def execWhdCtrlClose (s : State) : Result := s.ask none (·.whdCtrlClose)

end Sys2Proof.Machine
end

