-- ==== Sys2Proof/Machine/Fleet.lean ====
section
/-! DEFINITION. The sending half of the Ehrondost endpoint: sessions, frames, heartbeats and alarms (chapter 19). What the crypto engine and the certificates decide arrives as operands. -/

namespace Sys2Proof.Machine

open Sys2Proof

def FLEET_ABANDONED : Nat := 0x5D
def BAD_PEER : Nat := 0x5E
def NO_SESSION : Nat := 0x5F

/-- Endpoint states and session states. -/
def eSTOPPED : Nat := 0
def eRUNNING : Nat := 1
def ePARKED : Nat := 2
def pDOWN : Nat := 0
def pHANDSHAKE : Nat := 1
def pUP : Nat := 2
def pBACKOFF : Nat := 3

/-- Origin of every packet the endpoint sends: the main partition on core 0. -/
def ehrOrigin : Nat := org 1 0 0

def Block.ehrState (b : Block) : Nat := b.get R.EHR_STATUS_STATE
def Block.modEhr (b : Block) (f : Ehr → Ehr) : Block := { b with ehr := f b.ehr }
def Block.session (b : Block) (n : Nat) : EhrSession := b.ehr.sessions.getD n {}
def Block.modSession (b : Block) (n : Nat) (f : EhrSession → EhrSession) : Block := b.modEhr fun e => { e with sessions := updAt e.sessions n f }
def Block.peerState (b : Block) (n : Nat) : Nat := b.get (R.EHR_PEERn_STAT_STATE n)
def Block.ehrRefusal (b : Block) : Option Nat := if b.isLost 1 then some ISLAND_LOST else none

/-- SENDER of this module and of a peer, as the number that its 8 bytes spell. -/
def Block.ownSender (b : Block) : Nat := b.get R.EHR_SENDER_LO_SENDER + 2 ^ 32 * b.get R.EHR_SENDER_HI_SENDER
def Block.peerUid (b : Block) (n : Nat) : Nat := b.get (R.EHR_PEERn_UID_LO_SENDER n) + 2 ^ 32 * b.get (R.EHR_PEERn_UID_HI_SENDER n)

/-- The module is the client of a session: its SENDER is the lower one (R468). -/
def Block.isClient (b : Block) (n : Nat) : Bool := decide (b.ownSender < b.peerUid n)

/-- A session enters a state; EHR_STATUS.UP counts those UP. -/
def Block.peerGo (b : Block) (n st : Nat) : Block :=
  let b := (b.set (R.EHR_PEERn_STAT_STATE n) st).setB (R.EHR_PEERn_STAT_CLIENT n) (b.isClient n)
  b.set R.EHR_STATUS_UP ((List.range 16).filter fun k => b.peerState k == pUP).length

/-- Delivery of a class (Table 19.5): 0 LATEST, 1 ALL, 2 RELIABLE. -/
def classKind (c : Nat) : Nat := if c ≤ 3 then 0 else if c = 4 then 1 else 2

/-- Bit of ROLE that a class is sent to, none for every peer; and that it is accepted from. -/
def classTo (c : Nat) : Option Nat := match c with | 1 => none | 2 => some 0 | 3 => some 0 | 4 => some 4 | 5 => some 2 | 6 => some 1 | _ => some 3
def classFrom (c : Nat) : Option Nat := match c with | 1 => none | 2 => some 0 | 3 => some 0 | 4 => some 4 | 5 => some 2 | 6 => none | _ => some 3

/-- A peer's ROLE permits a class, in one direction; classes 2 and 3 run with CVY_PEER alone (R472). -/
def Block.roleOk (b : Block) (n c : Nat) (role : Option Nat) : Bool :=
  (match role with | none => true | some r => b.bitOf (R.EHR_PEERn_CFG_ROLE n) r) && (!(c == 2 || c == 3) || b.get R.EHR_CFG_CVY_PEER == n)

/-- TIME_LOCKED. -/
def Block.lockedFlag (b : Block) : Nat := 8 * b2n (b.get R.SUP_MTIME_STATUS_STATE == 2)

/-- The Ethernet port of the radio router carries datagrams (R465); records stop while island 4 is lost. -/
def Block.ehrLinked (b : Block) : Bool := b.portUp (12 + b.get R.EHR_CFG_PORT)

/-- The records of a frame: one, or its fragments in ascending order (R470). -/
def frameRecords (f : EhrFrame) : List EhrFrame :=
  let k := (f.payload.length + 1151) / 1152
  if k ≤ 1 then [f] else (List.range k).map fun i => { f with flags := f.flags + 4 + 256 * i + 4096 * (k - 1), payload := (f.payload.drop (1152 * i)).take 1152 }

/-- A frame leaves on a session. -/
def Block.emit (b : Block) (n c seq flags : Nat) (payload : List Nat) : Block :=
  if !b.ehrLinked then b else
  let l := frameRecords { peer := n, cls := c, seq := seq, flags := flags + b.lockedFlag, mtime := b.counter, total := payload.length, payload := payload }
  let b := b.modSession n fun s => { s with records := s.records + l.length }
  (b.inc (R.EHR_PEERn_TX_COUNT n)).modEhr fun e => { e with out := e.out ++ l }

/-- A new frame of a class on a session: RELIABLE frames are kept until acknowledged. -/
def Block.sendFrame (b : Block) (n c : Nat) (payload : List Nat) (src : Option Packet) (once : Bool) : Block :=
  let seq := (b.session n).txSeq.getD c 0
  let rel := classKind c == 2
  let b := (b.modSession n fun s => { s with txSeq := updAt s.txSeq c fun v => (v + 1) % 2 ^ 32 }).emit n c seq (b2n (rel && !once)) payload
  if rel && !once then b.modSession n fun s => { s with held := s.held ++ [{ cls := c, seq := seq, payload := payload, src := src, sentAt := b.now }] } else b

/-- UP sessions with a peer to which a class is sent. -/
def Block.peersFor (b : Block) (c : Nat) : List Nat := (List.range 16).filter fun n => b.peerState n == pUP && b.roleOk n c (classTo c)

/-- A RELIABLE payload goes to its peers, or to one; it waits while one of them holds 64 unacknowledged frames of the class, or others of the class wait (R482). -/
def Block.reliableOut (b : Block) (c : Nat) (payload : List Nat) (src : Option Packet) (only : Option Nat := none) : Block :=
  let ps := match only with | some n => if b.peerState n = pUP then [n] else [] | none => b.peersFor c
  if ps.isEmpty then
    let b := b.inc R.EHR_CNT_D_NO_SESSION
    match src with | some p => b.errorNote ehrOrigin NO_SESSION p | none => b
  else if (ps.any fun n => 64 ≤ ((b.session n).held.filter fun h => h.cls == c).length) || b.ehr.waiting.any (·.1 == c) then b.modEhr fun e => { e with waiting := e.waiting ++ [(c, payload, src, only)] }
  else b.eachOf ps fun n b => b.sendFrame n c payload src false

/-- Payloads that waited are sent in order while there is room. -/
def Block.sendWaiting (b : Block) : Block :=
  let l := b.ehr.waiting
  (b.modEhr fun e => { e with waiting := [] }).eachOf l fun w b => b.reliableOut w.1 w.2.1 w.2.2.1 w.2.2.2

/-- An alarm goes to every supervisor; without one it is only counted. -/
def Block.sendAlarm (b : Block) (code origin : Nat) (detail : Nat) (once : Bool) : Block :=
  if b.ehrState = eSTOPPED || (b.island 1).run ≠ .running then b
  else
    let ps := b.peersFor 6
    let severity := (Config.freeReal 1910 [code]).toNat % 3
    let data := le 2 code ++ [severity, 0] ++ le 2 origin ++ [0, 0] ++ le 8 b.counter ++ le 16 detail
    if !once then b.reliableOut 6 data none
    else if ps.isEmpty then b.inc R.EHR_CNT_D_NO_SESSION else b.eachOf ps fun n b => b.sendFrame n 6 data none true

/-- A frame is given up: counted, reported, its source answered (R482). -/
def Block.abandon (b : Block) (h : EhrHeld) : Block :=
  let b := (b.inc R.EHR_CNT_C_ABANDONED).set R.EHR_EV_ABANDON_EV 1
  match h.src with | some p => b.errorNote ehrOrigin FLEET_ABANDONED p | none => b

/-- The session leaves UP: its unacknowledged frames are given up, reassembly and frames held ahead are lost; a relay it carries ends. -/
def Block.sessionEnds (b : Block) (n : Nat) : Block :=
  let l := (b.session n).held
  ((b.modSession n fun s => { s with held := [] }).eachOf l fun h b => b.abandon h).relayEnds n |>.modSession n fun s => { s with held := [], ahead := [], frags := [], renew := false, top := none, seen := [] }

/-- Update reports that wait go to every SCHEDULER peer once one is UP (R520). -/
def Block.sendReports (b : Block) : Block :=
  let ps := b.peersFor 5
  if ps.isEmpty then b
  else
    let l := b.upd.reports
    b.eachOf l (fun d b => b.reliableOut 5 d none) |>.modUpd fun u => { u with reports := [] }

/-- The client starts a handshake; none starts while module time is UNSEEDED (R467). -/
def Block.hello (b : Block) (n : Nat) : Block :=
  if b.get R.SUP_MTIME_STATUS_STATE = 0 || b.ehrState = eSTOPPED || !b.flag (R.EHR_PEERn_CFG_EN n) then b
  else (b.peerGo n pHANDSHAKE).modSession n fun s => { s with hsAt := b.now, flight := 0, flightAt := b.now }

/-- After a failure or a loss: BACKOFF at a client, DOWN at a server. -/
def Block.fallBack (b : Block) (n : Nat) (failed : Bool) : Block :=
  if b.isClient n then (b.peerGo n pBACKOFF).modSession n fun s => { s with backAt := b.now, fails := if failed then s.fails + 1 else s.fails }
  else b.peerGo n pDOWN

/-- The session is closed with close_notify where it was UP. -/
def Block.closeSession (b : Block) (n : Nat) : Block := (b.sessionEnds n).peerGo n pDOWN

/-- The heartbeat payload of a machine to a peer (Table 19.6). -/
def Block.heartbeat (b : Block) (n : Nat) : List Nat :=
  let d := b.fusion.last
  le 2 (b.get R.MODE_ACTIVE_FLAGS) ++ le 2 (b.get R.MODE_ACTIVE_SEQ) ++ le 4 (b.get R.MODE_STATE_STATE) ++ [b.get R.PWR_STATE_STATE, 0, b.get R.SUP_MTIME_STATUS_STATE, b.fusion.conf] ++
    (d.drop 8).take 16 ++ (d.drop 44).take 2 ++ le 2 (lowBits 16 (satS 16 (signed 32 (bytesAt d 58 4)))) ++ le 4 (b.get R.IMG_VERSION_VERSION) ++ List.replicate 12 0 ++ le 4 (b.session n).reqSeq ++ [0, 0, 0, 0]

end Sys2Proof.Machine
end

