-- ==== Sys2Proof/Machine/FieldDio.lean ====
section
/-! DEFINITION. Digital inputs, the event inputs' filters, and dual-channel pairs (chapter 9). -/

namespace Sys2Proof.Machine

open Sys2Proof

/-! ## The counter filter (R203 to R207) -/

/-- Verdict of the comparator: inside the band the last it gave; 2 is NONE. -/
def verdict (pin : PinBand) (last : Nat) : Nat :=
  match pin with | .low => 0 | .high => 1 | .inside => last

/-- One tick of the counter filter: count, state and unsettled after it. -/
def filterTick (cmp top count : Nat) (state unsettled : Bool) : Nat × Bool × Bool :=
  let count := min count top
  match cmp with
  | 1 => let c := min top (count + 1); if c = top then (c, true, false) else (c, state, unsettled)
  | 0 => let c := count - 1; if c = 0 then (c, false, false) else (c, state, unsettled)
  | _ => (count, state, unsettled)

/-- Load switches of the same field island whose net is this input receive its level over the net bus (Table 8.1). -/
def Block.localNets (b : Block) (src : Nat) (level unsettled : Bool) : Block :=
  b.each 64 fun k b =>
    let ch := src / 64 * 64 + k
    if b.fn ch = 1 && b.lead ch = ch && b.get (R.FC_CH_NET_SRC ch) = 1 && b.get (R.FC_CH_NET_SRC_CH ch) = src then
      b.modNet ch fun n => { n with queue := n.queue ++ [(b.now + 22 * us, level, unsettled)] }
    else b

/-- A filter tick of a field channel in function 0x5. -/
def Block.dinTick (b : Block) (ch : Nat) (pin : PinBand) (ov : Bool) : Block :=
  if b.fn ch ≠ 5 || !b.runs (ch / 8) then b
  else
    let b := (b.reach ((b.ch ch).inp.tickAt + b.use (R.FC_CH_REPORT_TICK ch) * 10 * us)).chBoundary ch
    let b := b.modIn ch fun i => { i with tickAt := b.now }
    let st := b.flag (R.FC_CH_DIN_STATE_STATE ch)
    let un := b.flag (R.FC_CH_DIN_STATE_UNSETTLED ch)
    let wasOv := b.flag (R.FC_CH_DIN_STATE_OV ch)
    let cmp := verdict pin (b.get (R.FC_CH_DIN_STATE_CMP ch))
    let (count, st', un') := filterTick cmp (b.use (R.FC_CH_DIN_TOP ch)) (b.get (R.FC_CH_DIN_STATE_COUNT ch)) st un
    let b := ((b.set (R.FC_CH_DIN_STATE_CMP ch) cmp).set (R.FC_CH_DIN_STATE_COUNT ch) count).setB (R.FC_CH_DIN_STATE_STATE ch) st'
    let b := (b.setB (R.FC_CH_DIN_STATE_UNSETTLED ch) un').when (st != st') fun b => b.inc (R.FC_CH_DIN_CNT_CHANGES ch)
    let b := b.when ov fun b => ((b.set (R.FC_CH_DIN_STATE_OV ch) 1).modIn ch fun i => { i with ovAt := some b.now }).when (!wasOv) fun b => b.dioFault (ch / 8)
    let changed := st != st' || un != un'
    let b := b.when (changed || (ov && !wasOv)) fun b => (b.modIn ch fun i => { i with bornAt := b.sys.mtime }).dinSample ch
    b.when changed fun b => (b.netSample ch).localNets ch st' un'

/-- The event inputs start: nothing is settled, and each begins its stream with a packet of its level (R190, R205, R217). -/
def Block.evtStart (b : Block) : Block := b.each 2 fun x b =>
  let b := ((b.set (R.ETH_EVT_STATEx_STATE x) 0).set (R.ETH_EVT_STATEx_UNSETTLED x) 1).set (R.ETH_EVT_STATEx_COUNT x) 0
  let b := { b with evtIn := updAt b.evtIn x fun e => { e with cmp := 2, tickAt := b.now } }
  (b.resync (· == org 4 6 (2 + x))).evtSample x

/-- STATE changes: the stamp of the transition that began the run is captured and sent as an event (R464). -/
def Block.evtCapture (b : Block) (x : Nat) : Block :=
  let t := (b.evtIn.getD x {}).runAt
  let b := { b with evtIn := updAt b.evtIn x fun e => { e with capNs := t } }
  let conf := if b.get R.SUP_MTIME_STATUS_STATE = 0 then 0 else 255
  b.sample (org 4 6 (2 + x)) 1 (le 8 t ++ [b2n (b.flag (R.ETH_EVT_STATEx_STATE x)), 0, 0, 0] ++ le 4 (b.get (R.ETH_EVT_STATEx_EDGES x))) conf (stamp := some (stampOf t))

/-- A filter tick of an event input. A change of STATE is stamped with the comparator transition that began its run of ticks (R464). -/
def Block.evtTick (b : Block) (x : Nat) (pin : PinBand) : Block :=
  if (b.island 4).run ≠ .running || b.cellOff (org 4 6 127) then b
  else
    let b := (b.reach ((b.evtIn.getD x {}).tickAt + b.use (R.ETH_EVT_FILTx_TICK x) * 10 * us)).boundary (0x47800F00 + 4 * x) (0x47800F04 + 4 * x)
    let b := { b with evtIn := updAt b.evtIn x fun e => { e with tickAt := b.now } }
    let e := b.evtIn.getD x {}
    let st := b.flag (R.ETH_EVT_STATEx_STATE x)
    let un := b.flag (R.ETH_EVT_STATEx_UNSETTLED x)
    let cmp := verdict pin e.cmp
    let (count, st', un') := filterTick cmp (b.use (R.ETH_EVT_FILTx_TOP x)) (b.get (R.ETH_EVT_STATEx_COUNT x)) st un
    let b := ((b.set (R.ETH_EVT_STATEx_COUNT x) count).setB (R.ETH_EVT_STATEx_STATE x) st').setB (R.ETH_EVT_STATEx_UNSETTLED x) un'
    let b := b.when (st != st') fun b => b.inc (R.ETH_EVT_STATEx_EDGES x)
    let b := { b with evtIn := updAt b.evtIn x fun e => { e with cmp := cmp, runAt := if cmp = e.cmp then e.runAt else b.sys.mtime / 4 * 4 } }
    (b.when (st != st') fun b => b.evtCapture x).when (st != st' || un != un') fun b => b.evtSample x

def execDinTick (i : DinInput) (pin : PinBand) (ov : Bool) (s : State) : Result := s.go fun b =>
  match i with
  | .chan ch => b.dinTick ch pin ov
  | .evt x => b.evtTick x pin

/-- HEART_MS passes without a packet and a state SAMPLE is sent (R206). -/
def execDinHeartbeat (ch : Fin 192) (s : State) : Result := s.go fun b =>
  if b.fn ch ≠ 5 || !b.runs (ch.val / 8) then b
  else (b.reach ((b.ch ch).inp.sentAt + b.use (R.FC_CH_DIN_HEART_MS ch) * ms)).dinSample ch

/-- OV clears after 1 ms without an over-voltage sample (R207). -/
def execOvClear (ch : Fin 192) (s : State) : Result := s.go fun b =>
  if b.fn ch ≠ 5 || !b.flag (R.FC_CH_DIN_STATE_OV ch) then b
  else
    let b := (b.reach ((b.ch ch).inp.ovAt.getD b.now + ms)).set (R.FC_CH_DIN_STATE_OV ch) 0
    (b.modIn ch fun i => { i with ovAt := none, bornAt := b.sys.mtime }).dinSample ch

/-! ## Dual-channel pairs (R211 to R216) -/

/-- Origin of the unit that evaluates pairs. -/
def pairOrigin : Nat := org 2 2 1

/-- A pair's state. -/
def Block.pair (b : Block) (n : Nat) : Pair := b.pairs.getD n {}
def Block.modPair (b : Block) (n : Nat) (f : Pair → Pair) : Block := { b with pairs := updAt b.pairs n f }

/-- Channel of a pair, and its safe level. -/
def Block.pairCh (b : Block) (n : Nat) (second : Bool) : Nat := if second then b.get (R.FC_DCP_CFG_CH_B n) else b.get (R.FC_DCP_CFG_CH_A n)
def Block.pairSafe (b : Block) (n : Nat) (second : Bool) : Bool := if second then b.flag (R.FC_DCP_CFG_SAFE_B n) else b.flag (R.FC_DCP_CFG_SAFE_A n)

/-- The last sample of a pair's channel. -/
def PairChan.cur (c : PairChan) : PairSample := c.hist.headD {}

/-- Condition of one channel of a pair as it stands at elapsed time `at_`: 0 SAFE_LVL, 1 RUN_LVL, 2 UNDETERMINED (R213). -/
def Block.pairCond (b : Block) (n : Nat) (second : Bool) (x : PairSample) (at_ : Nat) : Nat :=
  let ch := b.pairCh n second
  if x.unsettled || x.bad || !x.delivered || b.fn ch ≠ 5 || b.isLost (6 + ch / 64) ||
     decide (x.at_ + 3 * b.get (R.FC_CH_DIN_HEART_MS ch) * ms ≤ at_) then 2
  else if x.state = b.pairSafe n second then 0 else 1

/-- The verdict of a pair at elapsed time `at_`: 0 agrees safe, 1 agrees run, 2 disagrees. -/
def Block.pairVerdict (b : Block) (n : Nat) (x y : PairSample) (at_ : Nat) : Nat :=
  let p := b.pairCond n false x at_
  let q := b.pairCond n true y at_
  if p = 0 && q = 0 then 0 else if p = 1 && q = 1 then 1 else 2

/-- The output SAMPLE of a pair (R215). -/
def Block.pairSample (b : Block) (n : Nat) : Block :=
  let data := [b2n (b.flag (R.FC_DCP_STATUS_OUTPUT n)) + 2 * b.get (R.FC_DCP_STATUS_STATE n) + 16 * b2n (b.flag (R.FC_DCP_STATUS_ARMED n)), n, 0, 0]
  (b.sample pairOrigin n data).modPair n fun p => { p with sentAt := b.now, silent := false }

/-- A pair enters a state with ARMED as given; a change of either is sent. -/
def Block.pairGo (b : Block) (n st : Nat) (armed : Bool) : Block :=
  let same := b.get (R.FC_DCP_STATUS_STATE n) = st && b.flag (R.FC_DCP_STATUS_ARMED n) = armed
  let b := ((b.set (R.FC_DCP_STATUS_STATE n) st).setB (R.FC_DCP_STATUS_OUTPUT n) (st == 3)).setB (R.FC_DCP_STATUS_ARMED n) armed
  if same then b else b.pairSample n

/-- A disagreement that began at module time `t` takes a pair to DISC. -/
def Block.pairDisc (b : Block) (n t : Nat) (armed : Bool) : Block :=
  (b.modPair n fun p => { p with since := t, overdue := false }).pairGo n 2 armed

/-- One evaluation of a pair (Table 9.3); a disagreement whose end is stamped TDISC or more after its beginning faults at the next check: its verdict, whether a sample arrived (else a check), the instant a disagreement begins, and the module time the check judges. -/
def Block.pairEval (b : Block) (n v : Nat) (arrival : Bool) (begin_ judged : Nat) : Block :=
  let armed := b.flag (R.FC_DCP_STATUS_ARMED n)
  match b.get (R.FC_DCP_STATUS_STATE n) with
  | 1 => if v = 2 then b.pairDisc n begin_ armed else b
  | 2 =>
    if arrival && v != 2 && (b.pair n).since + b.get (R.FC_DCP_TDISC_TDISC_MS n) * ms ≤ judged then b.modPair n fun p => { p with overdue := true }
    else if arrival && v = 0 then (b.inc (R.FC_DCP_CNT_DISC n)).pairGo n 1 true
    else if arrival && v = 1 then (b.inc (R.FC_DCP_CNT_DISC n)).pairGo n (if armed then 3 else 4) armed
    else if !arrival && (v == 2 || (b.pair n).overdue) && (b.pair n).since + b.get (R.FC_DCP_TDISC_TDISC_MS n) * ms ≤ judged then
      ((b.inc (R.FC_DCP_CNT_FAULTS n)).raise pairOrigin (R.FC_DCP_STATUS_FAULT_EV n)).sendAlarm 0x0006 pairOrigin n false |>.pairGo n 5 false
    else b
  | 3 => if v = 2 then b.pairDisc n begin_ false else b
  | 4 => if v = 2 then b.pairDisc n begin_ armed else b
  | 5 => if arrival && v = 0 then b.pairGo n 1 true else b
  | _ => b

/-- Evaluation of a pair starts through the OFF row: ARMED takes RESTART and a disagreement begins at this instant, then at once as the DISC rows (R214, R216). -/
def Block.pairStart (b : Block) (n : Nat) : Block :=
  if !b.flag (R.FC_DCP_CTRL_EN n) then b
  else
    let b := b.pairDisc n b.sys.mtime (b.flag (R.FC_DCP_CFG_RESTART n))
    b.pairEval n (b.pairVerdict n (b.pair n).a.cur (b.pair n).b.cur b.now) true b.sys.mtime b.sys.mtime

/-- Evaluation of every enabled pair starts. -/
def Block.pairsStart (b : Block) : Block := b.each 48 fun n b => b.pairStart n

/-- Cell 2 of island 2 is reset: pairs lose their states and their registers' settings (R130, R212, R216). -/
def Block.pairsReset (b : Block) : Block :=
  { b.resetRegs 0x41300000 0x41300600 with pairs := List.replicate 48 {} }

/-- Module time in ns of a STAMP not later than now. -/
def Block.stampTime (b : Block) (st : Nat) : Nat :=
  b.sys.mtime / 1000 * 1000 - ((b.stamp + 2 ^ 32 - st % 2 ^ 32) % 2 ^ 32) * 1000

/-- What a state SAMPLE says. -/
def Block.pairSampleOf (b : Block) (p : Packet) : PairSample :=
  let x := bytesAt p.data 0 1
  { state := bit x 0, unsettled := bit x 1, bad := p.masked || p.error || p.conf == 0, delivered := true, stamp := b.stampTime p.stamp, at_ := b.now }

/-- A state SAMPLE of a pair channel arrives and the pair is evaluated; a packet that is no state SAMPLE of that channel is none of the pair's. -/
def Block.pairArrival (b : Block) (n : Nat) (second : Bool) (p : Packet) : Block :=
  if p.kind ≠ .sample || p.origin ≠ chOrigin (b.pairCh n second) || some p.stream ≠ b.route? p.origin 3 || p.data.length ≠ 4 then b
  else
    let x := b.pairSampleOf p
    let put := fun (c : PairChan) => { hist := (x :: c.hist).take 8 : PairChan }
    let b := b.modPair n fun q => if second then { q with b := put q.b } else { q with a := put q.a }
    if !b.flag (R.FC_DCP_CTRL_EN n) then b
    else b.pairEval n (b.pairVerdict n (b.pair n).a.cur (b.pair n).b.cur b.now) true x.stamp x.stamp

/-- The sample a check judges: the last one stamped no later than the judged instant; none while the stream had not delivered by then. -/
def judgedSample (c : PairChan) (judged : Nat) : PairSample := (c.hist.find? fun x => decide (x.stamp ≤ judged)).getD {}

/-- At each 0.5 ms boundary every enabled pair is judged as it stood 50 µs before. -/
def Block.pairCheck (b : Block) : Block :=
  let judged := b.sys.mtime - 50 * us
  b.each 48 fun n b =>
    if b.flag (R.FC_DCP_CTRL_EN n) then
      b.pairEval n (b.pairVerdict n (judgedSample (b.pair n).a judged) (judgedSample (b.pair n).b judged) (b.now - 50 * us)) false b.sys.mtime judged
    else b

/-- A pair's output SAMPLE is sent every 10 ms without a change. -/
def execDcpOutputHeartbeat (n : Fin 48) (s : State) : Result := s.go fun b =>
  if (b.island 2).run ≠ .running then b else (b.reach ((b.pair n).sentAt + 10 * ms)).pairSample n

/-- Consumers receive no sample of a pair for 30 ms and treat its output as SAFE. -/
def execDcpConsumerTimeout (n : Fin 48) (s : State) : Result := s.go fun b =>
  (b.reach ((b.pair n).sentAt + 30 * ms)).modPair n fun p => { p with silent := true }

/-- The output of a pair as its consumers take it (R215). -/
def Block.pairRuns (b : Block) (n : Nat) : Bool := b.flag (R.FC_DCP_STATUS_OUTPUT n) && !(b.pair n).silent && (b.route? pairOrigin n).isSome

/-- A write of FC_DCP_CTRL.EN starts or ends a pair's evaluation; a pair that leaves RUN is no longer armed. -/
def Block.pairEn (b : Block) (n : Nat) (en : Bool) : Block :=
  let was := b.flag (R.FC_DCP_CTRL_EN n)
  let b := b.setB (R.FC_DCP_CTRL_EN n) en
  if en && !was then b.pairStart n
  else if !en && was then b.pairGo n 0 (b.flag (R.FC_DCP_STATUS_ARMED n) && b.get (R.FC_DCP_STATUS_STATE n) != 3)
  else b

def execDcpEnWrite (n : Fin 48) (en : Bool) (s : State) : Result :=
  s.ask (s.blk.unitRefusal (org 2 2 127)) fun b => b.pairEn n en

end Sys2Proof.Machine
end

