-- ==== Sys2Proof/Machine/Analog.lean ====
section
/-! DEFINITION. Analog inputs, frequency and encoder inputs, and sensor supplies (chapter 10). -/

namespace Sys2Proof.Machine

open Sys2Proof

def BAD_INPUT : Nat := 0x56

/-! ## Analog inputs (R219 to R222) -/

/-- Span of an analog range in µV, or in nA for I20 (Table 10.2). -/
def ainSpan (range : Nat) : Nat :=
  match range with | 0 => 5120000 | 1 => 10240000 | 2 => 40000000 | _ => 25600000

/-- The reference unit of a ratiometric input is not a sensor supply, is off, or reports SUP_LOW (R221). -/
def Block.supplyBad (b : Block) (ch : Nat) : Bool :=
  let r := ch / 8 * 8 + b.get (R.FC_CH_AIN_REF_UNIT ch)
  b.flag (R.FC_CH_AIN_RATIO ch) && (b.fn r != 9 || !b.flag (R.FC_CH_STATUS_ON r) || b.flag (R.FC_CH_SUP_STAT_SUP_LOW r))

/-- An analog interval completes with its mean in µV or nA, its peak-to-peak in range steps, and the reference's mean in µV over the same interval. -/
def Block.ainInterval (b : Block) (ch : Nat) (mean : Int) (p2p vref : Nat) (ovr : Bool) : Block :=
  if b.fn ch ≠ 7 || !b.runs (ch / 8) then b
  else
    let start := (b.ch ch).inp.intAt
    let b := b.reach (start + b.interval ch)
    let span := ainSpan (b.get (R.FC_CH_AIN_RANGE ch))
    let band := decide (mean * 4096 < b.use (R.FC_CH_AIN_BAND_LO ch) * span) || decide (b.use (R.FC_CH_AIN_BAND_HI ch) * span < mean * 4096)
    let short := (b.ch ch).inp.shuntAt.isSome || (b.ch ch).inp.short
    let bad := b.supplyBad ch
    let value : Int :=
      if b.flag (R.FC_CH_AIN_RATIO ch) then (if vref = 0 then Config.ratioOfZero mean else roundDiv (1000000 * mean) vref) else mean
    let flags := b2n ovr + 2 * b2n band + 4 * b2n short + 8 * b2n bad
    let conf := if band || short || bad then 0 else if ovr then 128 else 255
    let seq := b.seqFor (chOrigin ch) 5 (if b.flag (R.FC_CH_AIN_STAT_STALE ch) then none else some ((b.ch ch).inp.ainStat % 256))
    let b := b.sample (chOrigin ch) 5 (le 4 (lowBits 32 value) ++ le 2 (min 65535 p2p) ++ [flags, 0]) conf true (some (stampOf (b.sys.mtime - (b.now - start))))
    let b := (b.seti (R.FC_CH_AIN_VAL_VALUE ch) value).set (R.FC_CH_AIN_STAT_STALE ch) 0
    (b.modIn ch fun i => { i with ainStat := seq + 256 * flags + 65536 * min 4095 p2p, intAt := b.now, short := false }).chBoundary ch

def execAinInterval (ch : Fin 192) (mean : Int) (p2p vref : Nat) (ovr : Bool) (s : State) : Result := s.go fun b => b.ainInterval ch mean p2p vref ovr

/-- I20 current above 25.6 mA for 1 ms opens the shunt; SHORT is set in every interval that it touches (R220, log entry 150). -/
def execShuntOpen (ch : Fin 192) (s : State) : Result := s.go fun b =>
  if b.fn ch ≠ 7 || b.get (R.FC_CH_AIN_RANGE ch) ≠ 3 || !b.runs (ch / 8) || (b.ch ch).inp.shuntAt.isSome then b
  else b.modIn ch fun i => { i with shuntAt := some b.now, short := true }

/-- After 100 ms the shunt closes and the channel measures again. -/
def execShuntClose (ch : Fin 192) (s : State) : Result := s.go fun b =>
  match (b.ch ch).inp.shuntAt with
  | none => b
  | some t => (b.reach (t + 100 * ms)).modIn ch fun i => { i with shuntAt := none }

/-- A read of FC_CH_AIN_VAL latches FC_CH_AIN_STAT (R222). -/
def Block.ainLatch (b : Block) (ch : Nat) : Block :=
  let w := (b.ch ch).inp.ainStat
  let b := ((b.set (R.FC_CH_AIN_STAT_SEQ ch) w).setB (R.FC_CH_AIN_STAT_OVR ch) (bit w 8)).setB (R.FC_CH_AIN_STAT_BAND ch) (bit w 9)
  ((b.setB (R.FC_CH_AIN_STAT_SHORT ch) (bit w 10)).setB (R.FC_CH_AIN_STAT_SUPPLY_BAD ch) (bit w 11)).set (R.FC_CH_AIN_STAT_P2P ch) (w / 65536)

def execAinValRead (ch : Fin 192) (s : State) : Result := s.go fun b => b.ainLatch ch

/-! ## Frequency and encoder inputs (R223 to R226) -/

/-- A counted edge at `t`, in 10 ns of the cell clock. -/
def countEdge (i : ChanIn) (t : Nat) : ChanIn :=
  { i with prevAt := i.edgeAt, edgeAt := some t, edges := i.edges + 1, total := (i.total + 1) % 2 ^ 32 }

/-- Position of a phase pair in its cycle: A leads B through 00, 10, 11, 01. -/
def quadPhase (a c : Bool) : Nat := match a, c with | false, false => 0 | true, false => 1 | true, true => 2 | false, true => 3

/-- A transition of one phase moves POSITION by one count. -/
def quadStep (i : ChanIn) (a c : Bool) (t : Nat) : ChanIn :=
  let fwd := (quadPhase a c + 4 - quadPhase i.levelA i.levelB) % 4 == 1
  let up := fwd == Config.quadALeads
  { countEdge i t with levelA := a, levelB := c, position := if up then i.position + 1 else i.position - 1, dirUp := up }

/-- Instant of a transition in 10 ns; a glitch and a double change name none. -/
def edgeInstant : Edge → Nat | .up t | .down t => t | .glitch | .both => 0

/-- A transition on a frequency or encoder input, stamped to the 10 ns of the cell clock. -/
def Block.freqEdge (b : Block) (ch : Nat) (e : Edge) : Block :=
  if b.fn ch ≠ 8 || !b.runs (ch / 8) then b
  else
    let mode := b.get (R.FC_CH_FIN_MODE ch)
    let lead := if mode = 3 then ch - 1 else ch
    let b := b.reach (10 * edgeInstant e)
    let t := b.now / 10
    match e with
    | .glitch => (b.inc (R.FC_CH_FIN_CNT_GLITCH ch)).modIn lead fun i => { i with glitch := true }
    | .both => if mode < 2 then b else (b.inc (R.FC_CH_FIN_CNT_QUAD_ERR lead)).modIn lead fun i => { i with quadErr := true }
    | .up _ =>
      if mode = 2 then b.modIn ch fun i => quadStep i true i.levelB t
      else if mode = 3 then b.modIn lead fun i => quadStep i i.levelA true t
      else if b.use (R.FC_CH_FIN_EDGE ch) = 1 then b else b.modIn ch fun i => countEdge i t
    | .down _ =>
      if mode = 2 then b.modIn ch fun i => quadStep i false i.levelB t
      else if mode = 3 then b.modIn lead fun i => quadStep i i.levelA false t
      else if b.use (R.FC_CH_FIN_EDGE ch) = 0 then b else b.modIn ch fun i => countEdge i t

def execFreqEdge (ch : Fin 192) (e : Edge) (s : State) : Result := s.go fun b => b.freqEdge ch e

/-- Frequency in mHz at an interval end `t` (10 ns), and whether ZERO is set (R224); rounded down. -/
def finValue (i : ChanIn) (zeroMs t : Nat) : Nat × Bool :=
  match i.edgeAt with
  | none => (0, true)
  | some en =>
    if i.edges ≠ 0 then
      match i.e0 with
      | some e0 => (if en ≤ e0 then Config.firstFrequency i.edges 0 else i.edges * 100000000000 / (en - e0), false)
      | none => (Config.firstFrequency i.edges (en - i.prevAt.getD en), false)
    else if zeroMs * 100000 ≤ t - en then (0, true)
    else (min i.fPrev (if t ≤ en then i.fPrev else 100000000000 / (t - en)), false)

/-- An interval ends: the value is computed and sent (Table 10.4). -/
def Block.finInterval (b : Block) (ch : Nat) (ovr : Bool) : Block :=
  let mode := b.get (R.FC_CH_FIN_MODE ch)
  if b.fn ch ≠ 8 || mode = 3 || !b.runs (ch / 8) then b
  else
    let i := (b.ch ch).inp
    let b := b.reach (i.intAt + b.interval ch)
    let t := b.now / 10
    let (f, zero) := finValue i (b.use (R.FC_CH_FIN_ZERO_ZERO_MS ch)) t
    let value : Int :=
      match mode with
      | 1 => if i.edges < 2 && zero then 0 else (match i.edgeAt, i.prevAt with | some x, some y => ((x - y : Nat) : Int) | _, _ => Config.firstFrequency i.edges 0)
      | 2 => if i.dirUp then f else -(f : Int)
      | _ => f
    let pos : Nat := if mode = 2 then lowBits 32 i.position else i.total
    let seq := b.seqFor (chOrigin ch) 6 (if b.flag (R.FC_CH_FIN_STAT_STALE ch) then none else some (i.finStat % 256))
    let flags := b2n zero + 2 * b2n (mode == 2 && i.dirUp) + 4 * b2n i.glitch + 8 * b2n i.quadErr
    let b := b.sample (chOrigin ch) 6 (le 4 (lowBits 32 value) ++ le 4 pos ++ le 2 (min 65535 i.edges) ++ [flags, 0]) (if ovr then 0 else 255) true
      (some (stampOf (b.sys.mtime - (b.now - i.intAt))))
    let b := (b.seti (R.FC_CH_FIN_VAL_VALUE ch) value).set (R.FC_CH_FIN_STAT_STALE ch) 0
    (b.modIn ch fun i => { i with
      finPos := pos, finStat := seq + 256 * flags + 65536 * min 65535 i.edges, fPrev := f, intAt := b.now, e0 := i.edgeAt, edges := 0, glitch := false, quadErr := false }).chBoundary ch

def execFinInterval (ch : Fin 192) (ovr : Bool) (s : State) : Result := s.go fun b => b.finInterval ch ovr

/-- A read of FC_CH_FIN_VAL latches FC_CH_FIN_POS and FC_CH_FIN_STAT. -/
def Block.finLatch (b : Block) (ch : Nat) : Block :=
  let w := (b.ch ch).inp.finStat
  let b := ((b.set (R.FC_CH_FIN_POS_COUNT ch) (b.ch ch).inp.finPos).set (R.FC_CH_FIN_STAT_SEQ ch) w).setB (R.FC_CH_FIN_STAT_ZERO ch) (bit w 8)
  (b.setB (R.FC_CH_FIN_STAT_DIR ch) (bit w 9)).set (R.FC_CH_FIN_STAT_EDGES ch) (w / 65536)

def execFinValRead (ch : Fin 192) (s : State) : Result := s.go fun b => b.finLatch ch

/-! ## Sensor supplies (R227, R228) -/

/-- Regulation limit in force in mA: min(300 mA, 2 W / (V_stud - VSET)), three times that inside the Geyser window. -/
def Block.iReg (b : Block) (ch : Nat) : Nat :=
  let v := vsetMv (b.use (R.FC_CH_SUP_VSET ch))
  let stud := b.get (R.FC_STUD_STAT_VOLT_MV (studOf (ch / 8)))
  let i := if stud ≤ v then 300 else min 300 (2000000 / (stud - v))
  if v = 0 then 0 else if b.flag (R.FC_CH_STATUS_GEYSER ch) then 3 * i else i

/-- A regulated supply held at its limit for 10 ms turns off and sets the current-limit latch. -/
def execSupRegLimit (ch : Fin 192) (s : State) : Result := s.go fun b =>
  if b.fn ch ≠ 9 || b.use (R.FC_CH_SUP_VSET ch) = 0 || !b.flag (R.FC_CH_STATUS_ON ch) then b
  else (b.set (R.FC_CH_SUP_STAT_I_REG_MA ch) (b.iReg ch)).latchLim ch (limBit ch)

/-- The output has stood below 95 % of VSET for 1 ms, or at 97 % or above for 1 ms; SUP_LOW stays set while the stud stands below VSET + 1.0 V. -/
def execSupLow (ch : Fin 192) (low : Bool) (s : State) : Result := s.go fun b =>
  if b.fn ch ≠ 9 then b else b.setB (R.FC_CH_SUP_STAT_SUP_LOW ch) (low || b.studShort ch)

end Sys2Proof.Machine
end

