-- ==== Sys2Proof/Machine/Tarn.lean ====
section
/-! DEFINITION. Tarn sensor chains: power, enumeration, sweeps, rings and loss rates (chapter 10). Position n of a chain is index n - 1. -/

namespace Sys2Proof.Machine

open Sys2Proof

/-- Port states (TARN_STATUS.STATE). -/
def tOFF : Nat := 0
def tPOWERING : Nat := 1
def tENUM : Nat := 2
def tSWEEP : Nat := 3
def tSPLIT : Nat := 4
def tSTOPPED : Nat := 5
def tFAULT : Nat := 6
def tSECONDARY : Nat := 7

/-- Origin of a Tarn port. -/
def tarnOrigin (p : Nat) : Nat := org 4 (4 + p / 8) (p % 8)

/-- A port's state behind its registers. -/
def Block.tarnPort (b : Block) (p : Nat) : TarnPort := b.tarn.getD p {}
def Block.modTarn (b : Block) (p : Nat) (f : TarnPort → TarnPort) : Block := { b with tarn := updAt b.tarn p f }

/-- A port's state code, heads configured and ring role. -/
def Block.tState (b : Block) (p : Nat) : Nat := b.get (R.TARN_STATUS_STATE p)
def Block.tHeads (b : Block) (p : Nat) : Nat := b.get (R.TARN_CFG_HEADS p)
def Block.tRing (b : Block) (p : Nat) : Bool := b.get (R.TARN_CFG_RING p) == 1 && b.get (R.TARN_CFG_RING (p + 1)) == 2 && p % 2 == 0 && b.tHeads p == b.tHeads (p + 1)

/-- Period of the sweep in µs. -/
def Block.tPeriod (b : Block) (p : Nat) : Nat := b.use (R.TARN_CFG_PERIOD p) * 10

/-- The primary of a port. -/
def Block.tPrimary (b : Block) (p : Nat) : Nat := if p % 2 == 1 && b.tRing (p - 1) then p - 1 else p

/-! ## Frames (R231, R232) -/

/-- A frame from its header on: TYPE with DIR, ADDR, payload, CRC-16 low byte first. -/
def tarnFrame (head : Bool) (type addr : Nat) (payload : List Nat) : List Nat :=
  let l := (type + 16 * b2n head) :: addr :: payload
  l ++ le 2 (crc16 l)

/-- The payload of an answer of a type with `n` payload bytes from a position; none for a frame that a receiver discards (bad CRC, another length) or that answers nothing asked of that position. -/
def tarnAnswer (type n pos : Nat) (f : List Nat) : Option (List Nat) :=
  let l := (f.drop 2).take n
  if f = tarnFrame true type pos l && l.length == n then some l else none

/-- The SYNC of a sweep from the near or the far end, and RESET. -/
def Block.tSyncFrame (b : Block) (p : Nat) (far : Bool) : List Nat := tarnFrame false 1 0x3F [(b.tarnPort p).syncSeq % 256, b.tHeads p + 64 * b2n far]
def tarnResetFrame : List Nat := tarnFrame false 5 0x3F []

/-- The frame that an end of port `p` has sent last, to which an answer is due: POLL, ENUM, or the CONFIG of the first head due. -/
def Block.tAsked (b : Block) (p : Nat) (far : Bool) : List Nat :=
  let t := b.tarnPort p
  match t.stage with
  | .polling => tarnFrame false 2 (if far then t.far else t.near) []
  | .healing => tarnFrame false 2 (b.get (R.TARN_STATUS_BREAK_LO p) + 1) []
  | .enumNear => tarnFrame false 3 t.near []
  | .enumFar => tarnFrame false 3 (t.far - 1) []
  | .probing => tarnFrame false 3 (b.get (R.TARN_STATUS_FOUND p) + 1) []
  | .idle | .waiting => match t.configs with
    | [] => []
    | n :: _ => tarnFrame false 4 (n + 1) (le 4 (b.get (R.TARN_HEAD_CFG_CFG p n)))

/-! ## Power (R230, R241) -/

/-- The chain of a port, and of both ports of a ring, is powered: 50 ms of POWERING begin. -/
def Block.tPowerOn (b : Block) (p : Nat) : Block :=
  let b := b.when (b.tRing p) fun b => (b.set (R.TARN_STATUS_PWR_ON (p + 1)) 1).set (R.TARN_STATUS_STATE (p + 1)) tSECONDARY
  let b := ((b.set (R.TARN_STATUS_PWR_ON p) 1).set (R.TARN_STATUS_PWR_LATCH p) 0).set (R.TARN_STATUS_STATE p) tPOWERING
  b.modTarn p fun t => { t with pwrEnd := some (b.now + 50 * ms), retryEnd := none, stage := .idle, goes := none }

/-- One second after an unlatched power fault the port powers the chain again. -/
def execTarnPwrRetry (p : Fin 16) (s : State) : Result := s.go fun b =>
  match (b.tarnPort p).retryEnd with
  | none => b
  | some t => if b.tState p = tFAULT then (b.reach t).tPowerOn p else b

/-- TARN_CTRL.PWR_CLR ends a latched power fault and powers the chain. -/
def Block.tPwrClr (b : Block) (p : Nat) : Block :=
  if b.tState p = tFAULT && b.flag (R.TARN_STATUS_PWR_LATCH p) then (b.tPowerOn p).modTarn p fun t => { t with faults := [] } else b

/-! ## Enumeration (R235 to R237) -/

/-- Enumeration ends: FOUND is recorded, a CONFIG goes to each head, and sweeping begins at the next sweep instant. -/
def Block.tEnumEnd (b : Block) (p : Nat) : Block :=
  let found := b.get (R.TARN_STATUS_FOUND p)
  let heads := if b.tRing p then (List.range (b.tHeads p)).filter fun n => n < found || (b.tarnPort p).far ≤ n + 1 else List.range found
  b.modTarn p fun t => { t with stage := .idle, goes := some tSWEEP, configs := heads, cfgTried := false, changed := false, reenum := false }

/-- RESET is broadcast and enumeration begins at position 1. -/
def Block.tEnumerate (b : Block) (p : Nat) : Block :=
  let b := ((b.set (R.TARN_STATUS_STATE p) tENUM).set (R.TARN_STATUS_FOUND p) 0).set (R.TARN_STATUS_BREAK_LO p) 0
  let b := (b.set (R.TARN_STATUS_BREAK_HI p) 0).modTarn p fun t => { t with stage := .enumNear, near := 1, far := b.tHeads p + 1, wrong := [], configs := [], reenum := false, goes := none }
  if b.tHeads p = 0 then b.tEnumEnd p else b

/-- The far end of a ring is enumerated next, or enumeration ends. -/
def Block.tEnumTurn (b : Block) (p : Nat) : Block :=
  let found := b.get (R.TARN_STATUS_FOUND p)
  if b.tRing p && found < b.tHeads p then b.modTarn p fun t => { t with stage := .enumFar, far := b.tHeads p + 1 } else b.tEnumEnd p

/-- The 50 ms powering timer ends. -/
def execTarnPoweringDone (p : Fin 16) (s : State) : Result := s.go fun b =>
  match (b.tarnPort p).pwrEnd with
  | none => b
  | some t => if b.tState p = tPOWERING then ((b.reach t).modTarn p fun t => { t with pwrEnd := none }).tEnumerate p else b

/-- A head takes position n + 1: its identity is recorded and checked against the chain description. -/
def Block.tIdentify (b : Block) (p n : Nat) (f : List Nat) : Block :=
  let ty := bytesAt f 0 1
  let sub := bytesAt f 1 1
  let b := ((b.set (R.TARN_HEAD_ID_TYPE p n) ty).set (R.TARN_HEAD_ID_SUBTYPE p n) sub).set (R.TARN_HEAD_SERIAL_SERIAL p n) (bytesAt f 4 4)
  let es := b.get (R.TARN_HEAD_ID_EXP_SUB p n)
  let bad := ty != b.get (R.TARN_HEAD_ID_EXP_TYPE p n) || (es != 0 && es != sub)
  let b := b.modTarn p fun t => { t with wrong := (t.wrong.filter (· != n)) ++ (if bad then [n] else []) }
  b.when bad fun b => b.set (R.TARN_EV_TYPE_EV p) 1

/-- Reason and confidence of a head after a sweep (Table 10.15). -/
def headConf (reason : Nat) (f : List Nat) (seq periodUs : Nat) : Nat × Nat :=
  if reason ≠ 0 then (reason, 0)
  else if bytesAt f 2 1 ≠ seq % 256 then (4, 0)
  else
    let st := bytesAt f 1 1
    let iv := bytesAt f 3 1 * 500
    let dev := if iv < periodUs then periodUs - iv else iv - periodUs
    if bit st 2 || !bit st 0 then (0, 0)
    else if bit st 1 || bit st 4 || bit st 5 || periodUs < 10 * dev then (0, 128)
    else (0, 255)

/-- Loss mass rate of a head's strip in mg/s (R246). -/
def lossMgs (g k bg tkw interval periodUs : Nat) : Nat :=
  let j := max 1 (roundDiv (interval * 500) periodUs).toNat
  let net := g * 10000000 / (periodUs * j) - bg
  min 65535 ((2 * k * net * tkw + 25600) / 51200)

/-- Reason an entry without a frame carries in a port state that does not sweep. -/
def Block.tReason (b : Block) (p : Nat) : Nat := if b.flag (R.TARN_STATUS_PWR_ON p) then 6 else 7

/-- One entry is judged, recorded in its head's registers, and laid out (Table 10.14). -/
def Block.tEntry (b : Block) (p n : Nat) : Block × Nat × List Nat × Option (List Nat) :=
  let e := (b.tarnPort p).entries.getD n {}
  let r0 := if e.reason = 0 && (b.tarnPort p).wrong.contains n then 3 else e.reason
  let (r, conf) := headConf r0 e.frame (b.tarnPort p).syncSeq (b.tPeriod p)
  let cfgFail := b.flag (R.TARN_HEAD_STAT_CFG_FAIL p n)
  let b := ((b.set (R.TARN_HEAD_STAT_REASON p n) r).setB (R.TARN_HEAD_STAT_FAR p n) e.far).setB (R.TARN_HEAD_STAT_RETRIED p n) e.retried
  let b := ((b.setB (R.TARN_HEAD_STAT_STALE p n) (r != 0)).set (R.TARN_HEAD_STAT_HSTATUS p n) (bytesAt e.frame 1 1)).set (R.TARN_HEAD_STAT_CONF p n) conf
  let b := ((b.when (r == 4) fun b => b.inc (R.TARN_HEAD_CNT_STALE p n)).when (r == 3) fun b => b.inc (R.TARN_HEAD_CNT_WRONG p n)).when (r == 5) fun b => b.inc (R.TARN_CNT_SWEEP_NOT_POLLED p)
  let frame := if e.frame.isEmpty then b.get (R.TARN_HEAD_ID_EXP_TYPE p n) :: List.replicate 15 0 else e.frame
  let b := (b.set (R.TARN_FRAMEn_Wm_BYTES p n 0) (bytesAt frame 0 4)).modTarn p fun t => { t with frames := updAt t.frames n fun _ => frame }
  let lossy := bytesAt frame 0 1 == 1 && conf != 0
  let g := bytesAt frame 6 2
  let k := (b.tarnPort p).kHeld.find n (b.get (R.TARN_LOSS_CAL_K p n))
  let mgs := lossMgs g k (b.get (R.TARN_LOSS_CAL_BG p n)) (b.get (R.TARN_LOSS_TKW_TKW p n)) (bytesAt frame 3 1) (b.tPeriod p)
  let b := b.when lossy fun b => b.set (R.TARN_LOSS_TKW_LOSS_MGS p n) mgs
  let b := b.when (lossy && (b.tarnPort p).calAt.isSome) fun b => b.incW (R.TARN_CAL_ACC_G p n) g
  let loss := if b.get (R.TARN_HEAD_ID_EXP_TYPE p n) = 1 then some (le 2 (if lossy then mgs else 0) ++ [if k = 0 then 0 else conf, n + 1]) else none
  (b, conf, frame ++ [conf, r, b2n e.retried + 2 * b2n e.far + 4 * b2n cfgFail, 0], loss)

/-- The sweep result is sent. -/
def Block.tResult (b : Block) (p : Nat) : Block :=
  let heads := b.tHeads p
  let t := b.tarnPort p
  let dur := max t.nearUs t.farUs / 10
  let (b, confs, body, loss) := (List.range heads).foldl (fun (acc : Block × List Nat × List Nat × List (List Nat)) n =>
    let (b, c, d, l) := acc.1.tEntry p n
    (b, acc.2.1 ++ [c], acc.2.2.1 ++ d, acc.2.2.2 ++ (match l with | some x => [x] | none => []))) (b, [], [], [])
  let valid := (confs.filter (· != 0)).length
  let conf := if heads = 0 then 0 else 255 * valid / heads
  let st := b.tState p
  let flags := b2n (b.tRing p) + 2 * b2n (st == tSPLIT) + 4 * b2n (st == tFAULT) + 8 * b2n t.healed
  let hdr := le 2 t.syncSeq ++ [heads, valid, b.get (R.TARN_STATUS_BREAK_LO p), b.get (R.TARN_STATUS_BREAK_HI p), st, flags] ++ le 2 dur ++
    le 2 (b.get (R.TARN_PWR_VOLT_MV p) / 10) ++ le 2 (b.get (R.TARN_PWR_CUR_MA p)) ++ [0, 0]
  let b := b.sample (tarnOrigin p) 0 (hdr ++ body) conf (valid != 0) (some t.tk)
  let lv := (loss.filter fun x => x.getD 2 0 != 0).length
  let b := b.when (!loss.isEmpty) fun b => b.sample (tarnOrigin p) 1 loss.flatten (255 * lv / loss.length) (lv != 0) (some t.tk)
  let b := ((b.set (R.TARN_SWEEP_SWEEP_SEQ p) t.syncSeq).set (R.TARN_SWEEP_VALID_COUNT p) valid).set (R.TARN_SWEEP_STALE p) 0
  let b := b.when t.calAt.isSome fun b => b.set (R.TARN_CAL_T_RUN_MS p) ((b.now - t.calAt.getD b.now) / ms)
  b.modTarn p fun t => { t with lastUs := dur, lastConf := conf }

/-- A power fault: the port, and both ports of a ring, turn off; the fourth within 60 s latches. A sweep in progress closes with its unreached positions POWER_OFF (log entry 151). -/
def Block.tPowerFault (b : Block) (p : Nat) : Block :=
  let q := b.tPrimary p
  if !b.flag (R.TARN_STATUS_PWR_ON p) then b
  else
    let swept := (b.tarnPort q).stage == .polling || (b.tarnPort q).stage == .probing || (b.tarnPort q).stage == .healing || (b.tarnPort q).stage == .waiting
    let stops := (b.tarnPort q).stopping
    let l := b.now :: recent b.now (60 * sec) (b.tarnPort q).faults
    let latch := decide (4 ≤ l.length)
    let b := (b.set (R.TARN_EV_PWR_EV p) 1).inc (R.TARN_CNT_SWEEP_PWR_FAULTS p)
    let b := b.when (b.tRing q) fun b => b.set (R.TARN_STATUS_PWR_ON (q + 1)) 0
    let b := ((b.set (R.TARN_STATUS_PWR_ON q) 0).set (R.TARN_STATUS_STATE q) tFAULT).setB (R.TARN_STATUS_PWR_LATCH q) latch
    let b := b.modTarn q fun t => { t with faults := l, retryEnd := if latch then none else some (b.now + sec), pwrEnd := none, stage := .idle, goes := none, stopping := false
                                           entries := t.entries.map fun e => if e.reason = 5 then { e with reason := 7 } else e }
    (b.when swept (·.tResult q)).when stops fun b => b.quiesceDone (tarnOrigin q)

def execTarnPowerFault (p : Fin 16) (s : State) : Result := s.go fun b => b.tPowerFault p

/-- All ports above 60 W for 1 s: the highest-numbered powered port turns off. -/
def execTarnOverload60w (s : State) : Result := s.go fun b =>
  match ((List.range 16).filter fun p => b.flag (R.TARN_STATUS_PWR_ON p)).getLast? with
  | none => b
  | some p => b.tPowerFault p

/-- The sweep closes: its result is sent, and the port stops; or it splits or heals from the next sweep (Table 10.12). -/
def Block.tClose (b : Block) (p : Nat) : Block :=
  let b := b.tResult p
  let t := b.tarnPort p
  let b := b.modTarn p fun t => { t with stage := .idle, near := 0, far := 0 }
  let b := b.modTarn p fun t => { t with goes := if t.healed then some tSWEEP else if t.broke && b.tRing p then some tSPLIT else none }
  if t.stopping then ((b.set (R.TARN_STATUS_STATE p) tSTOPPED).modTarn p fun t => { t with stopping := false, goes := none }).quiesceDone (tarnOrigin p) else b

/-- A poll of position n of `us` µs more can complete 50 µs before the next SYNC (R239). -/
def Block.tFits (b : Block) (p elapsed n : Nat) : Bool := decide (elapsed + 119 + 2 * (n - 1) + 50 ≤ b.tPeriod p)

/-- Last position the near end polls in this sweep. -/
def Block.tNearEnd (b : Block) (p : Nat) : Nat :=
  if b.tState p = tSPLIT then b.get (R.TARN_STATUS_BREAK_LO p) else if b.tRing p then b.tHeads p else b.get (R.TARN_STATUS_FOUND p)

/-- When both ends are done: the heal probe of a ring, the probe of a short linear chain, or the close. -/
def Block.tPollsDone (b : Block) (p : Nat) : Block :=
  let t := b.tarnPort p
  if t.near ≠ 0 || t.far ≠ 0 then b
  else if b.tState p = tSPLIT then
    (if b.tFits p (max t.nearUs t.farUs) (b.get (R.TARN_STATUS_BREAK_LO p) + 1) then b.modTarn p fun t => { t with stage := .healing } else b.tClose p)
  else if !b.tRing p && b.get (R.TARN_STATUS_FOUND p) < b.tHeads p && b.tFits p t.nearUs (b.get (R.TARN_STATUS_FOUND p) + 1) then b.modTarn p fun t => { t with stage := .probing }
  else b.tClose p

/-- The near or the far end turns to its next position, or is done. -/
def Block.tAdvance (b : Block) (p : Nat) (far : Bool) : Block :=
  let t := b.tarnPort p
  let b := if far then
      let lo := b.get (R.TARN_STATUS_BREAK_LO p)
      let nx := if t.far ≤ lo + 1 then 0 else if b.tFits p t.farUs (b.tHeads p + 2 - t.far) then t.far - 1 else 0
      b.modTarn p fun t => { t with far := nx, farTry := 0 }
    else
      let nx := if b.tNearEnd p ≤ t.near then 0 else if b.tFits p t.nearUs (t.near + 1) then t.near + 1 else 0
      b.modTarn p fun t => { t with near := nx, nearTry := 0 }
  b.tPollsDone p

/-- An entry of the sweep in progress is set. -/
def Block.tSetEntry (b : Block) (p pos : Nat) (e : HeadEntry) : Block :=
  b.modTarn p fun t => { t with entries := updAt t.entries (pos - 1) fun _ => e }

/-- A position is ABSENT: on a linear chain or from the primary it ends the polls, and every later position is ABSENT too (R239). -/
def Block.tAbsent (b : Block) (p : Nat) (far : Bool) : Block :=
  let t := b.tarnPort p
  if far then (b.tSetEntry p t.far { reason := 1, retried := true, far := true }).tAdvance p true
  else
    let pos := t.near
    let b := b.modTarn p fun t => { t with
      entries := t.entries.mapIdx fun i e => if pos ≤ i + 1 && (b.tState p != tSPLIT || i + 1 ≤ b.get (R.TARN_STATUS_BREAK_LO p)) then { reason := 1, retried := i + 1 == pos } else e
      broke := b.tState p != tSPLIT, near := 0, nearTry := 0 }
    let b := b.when (b.tState p != tSPLIT) fun b => ((b.set (R.TARN_EV_BREAK_EV p) 1).set (R.TARN_STATUS_BREAK_LO p) (pos - 1)).inc (R.TARN_CNT_SWEEP_BREAKS p)
    let b := b.when (!b.tRing p) fun b => b.set (R.TARN_STATUS_FOUND p) (pos - 1)
    b.tPollsDone p

/-- The result of the previous sweep has not left the port's buffer (R240). -/
def Block.tHeld (b : Block) (p : Nat) : Bool := b.fab.held.any fun h => h.up && h.packet.origin == tarnOrigin p

/-- Polls that waited begin once the previous result has left; the time since the SYNC has run on (R240). -/
def Block.tUnwait (b : Block) (p : Nat) : Block :=
  let t := b.tarnPort p
  if t.stage = .waiting && !b.tHeld p then
    let d := max 35 ((b.now - t.syncAt) / us)
    b.modTarn p fun t => { t with stage := .polling, nearUs := d, farUs := d, near := if b.tFits p d t.near then t.near else 0, far := if b.tFits p d 1 then t.far else 0 }
  else b

/-- A poll's answer, or its absence, at one end; `kind` is 0 good, 1 bad CRC, 2 missing. A second poll that would not end in time is not made: the position and those after it stay NOT_POLLED. The time taken is bounded by the distance polled over, counted from the polling end (R239). -/
def Block.tPolled (b : Block) (p : Nat) (far : Bool) (kind : Nat) (f : List Nat) (took : Nat) : Block :=
  let b := b.tUnwait p
  let t := b.tarnPort p
  let pos := if t.stage = .healing then b.get (R.TARN_STATUS_BREAK_LO p) + 1 else if far then t.far else t.near
  let hops := if far then b.tHeads p - pos else pos - 1
  let took := min took ((if kind = 2 then 30 else 119) + 2 * hops)
  let counted := fun (b : Block) => (b.when (kind == 2) fun b => (b.inc (R.TARN_CNT_LINK_NO_REPLY p)).inc (R.TARN_HEAD_CNT_NO_REPLY p (pos - 1))).when (kind == 1)
    fun b => (b.inc (R.TARN_CNT_LINK_CRC p)).inc (R.TARN_HEAD_CNT_CRC p (pos - 1))
  if t.stage = .healing && !far then
    let b := (counted b).modTarn p fun t => { t with nearUs := max t.nearUs t.farUs + took, healed := kind == 0 }
    let b := b.when (kind == 0) fun b => ((b.set (R.TARN_STATUS_BREAK_LO p) 0).set (R.TARN_STATUS_BREAK_HI p) 0).set (R.TARN_EV_HEAL_EV p) 1
    (b.reach (t.syncAt + (b.tarnPort p).nearUs * us)).tClose p
  else if t.stage ≠ .polling || pos = 0 then b
  else
    let tries := if far then t.farTry else t.nearTry
    let b := b.modTarn p fun t => if far then { t with farUs := t.farUs + took, farTry := tries + 1 } else { t with nearUs := t.nearUs + took, nearTry := tries + 1 }
    let b := (counted b).reach (t.syncAt + (if far then t.farUs + took else t.nearUs + took) * us)
    if kind = 0 then
      let b := b.tSetEntry p pos { frame := f, reason := 0, retried := tries != 0, far := far }
      let hi := b.get (R.TARN_STATUS_BREAK_HI p)
      let b := b.when (far && (hi == 0 || decide (pos < hi))) fun b => b.set (R.TARN_STATUS_BREAK_HI p) pos
      b.tAdvance p far
    else if tries = 0 then
      let t := b.tarnPort p
      if b.tFits p (if far then t.farUs else t.nearUs) (if far then b.tHeads p + 1 - pos else pos) then b
      else (b.modTarn p fun t => if far then { t with far := 0, farTry := 0 } else { t with near := 0, nearTry := 0 }).tPollsDone p
    else if kind = 1 then (b.tSetEntry p pos { reason := 2, retried := true, far := far }).tAdvance p far
    else b.tAbsent p far

/-- A head's frame answers a poll; a frame that is not the SAMPLE of the position polled is a bad answer (R231, log entry 151). -/
def execTarnPollAnswer (p : Fin 16) (far : Bool) (frame : List Nat) (took : Nat) (s : State) : Result := s.go fun b =>
  match tarnAnswer 2 16 (bytesAt ((b.tUnwait p).tAsked p far) 1 1) frame with
  | some f => b.tPolled p far 0 f took
  | none => b.tPolled p far 1 [] took

def execTarnPollTimeout (p : Fin 16) (far : Bool) (took : Nat) (s : State) : Result := s.go fun b => b.tPolled p far 2 [] took

/-- An IDENT answers ENUM; one that a receiver discards answers nothing: in enumeration, or as the probe for one more head (R236, R237). -/
def Block.tIdent (b : Block) (p : Nat) (f : List Nat) : Block :=
  let t := b.tarnPort p
  match t.stage with
  | .enumNear =>
    let b := (b.tIdentify p (t.near - 1) f).set (R.TARN_STATUS_FOUND p) t.near
    if b.tHeads p ≤ t.near then b.tEnumEnd p else b.modTarn p fun t => { t with near := t.near + 1 }
  | .enumFar =>
    let b := (b.tIdentify p (t.far - 2) f).modTarn p fun t => { t with far := t.far - 1 }
    if (b.tarnPort p).far ≤ b.get (R.TARN_STATUS_FOUND p) + 1 then b.tEnumEnd p else b
  | .probing =>
    let n := b.get (R.TARN_STATUS_FOUND p)
    let b := ((b.tIdentify p n f).set (R.TARN_STATUS_FOUND p) (n + 1)).set (R.TARN_EV_ENUM_EV p) 1
    let b := b.set (R.TARN_STATUS_BREAK_LO p) (if b.get (R.TARN_STATUS_BREAK_LO p) = 0 || b.tHeads p ≤ n + 1 then 0 else n + 1)
    (b.modTarn p fun t => { t with configs := t.configs ++ [n] }).tClose p
  | _ => b

def execTarnIdent (p : Fin 16) (frame : List Nat) (s : State) : Result := s.go fun b =>
  match tarnAnswer 3 16 (bytesAt (b.tAsked p false) 1 1) frame with
  | some f => b.tIdent p f
  | none => b

/-- A position gives no IDENT after two ENUMs: enumeration ends, or the probe of a sweep fails. -/
def execTarnEnumNoAnswer (p : Fin 16) (s : State) : Result := s.go fun b =>
  match (b.tarnPort p).stage with
  | .enumNear => b.tEnumTurn p
  | .enumFar => b.tEnumEnd p
  | .probing => b.tClose p
  | _ => b

/-- An ACK answers the CONFIG of the first head due; a missing (empty) or bad one triggers the retry, or CFG_FAIL (R235). -/
def execTarnAck (p : Fin 16) (frame : List Nat) (s : State) : Result := s.go fun b =>
  match (b.tarnPort p).configs with
  | [] => b
  | n :: rest =>
    let ok := (tarnAnswer 4 0 (n + 1) frame).isSome
    if ok then (b.set (R.TARN_HEAD_STAT_CFG_FAIL p n) 0).modTarn p fun t => { t with configs := rest, cfgTried := false }
    else if (b.tarnPort p).cfgTried then (b.set (R.TARN_HEAD_STAT_CFG_FAIL p n) 1).modTarn p fun t => { t with configs := rest, cfgTried := false }
    else b.modTarn p fun t => { t with cfgTried := true }

/-- A write of TARN_HEAD_CFG: a CONFIG goes out after the next SYNC. -/
def Block.tHeadCfg (b : Block) (p n v : Nat) : Block :=
  let f := R.TARN_HEAD_CFG_CFG p n
  let b := { b with inuse := if (b.inuse.find? f.key).isSome then b.inuse else b.inuse.put f.key (b.get f) }
  (b.set f v).modTarn p fun t => { t with configs := (t.configs.filter (· != n)) ++ [n], changed := t.changed || b.tState p == tSTOPPED }

/-- The target of a Tarn port is quiesced (R79). -/
def Block.tRefusal (b : Block) (p : Nat) : Option Nat :=
  b.unitRefusal (tarnOrigin p)

def execTarnPwrClr (p : Fin 16) (s : State) : Result := s.ask (s.blk.tRefusal p) fun b => b.tPwrClr p

def execTarnHeadCfgWrite (p : Fin 16) (n : Fin 32) (v : BitVec 32) (s : State) : Result := s.ask (s.blk.tRefusal p) fun b => b.tHeadCfg p n v.toNat

/-! ## The sweep (R238 to R241) -/

/-- A sweep that has not closed when the next begins: what it did not reach is NOT_POLLED, and its result is sent unless the one before has not left (R239, R240). -/
def Block.tUnfinished (b : Block) (p : Nat) : Block :=
  let t := b.tarnPort p
  if t.stage = .polling || t.stage = .healing || t.stage = .probing then b.tClose p
  else if t.stage = .waiting then
    (if b.tHeld p then (b.inc (R.TARN_CNT_SWEEP_NOT_POLLED p) ((List.range (b.tHeads p)).filter fun n => (t.entries.getD n {}).reason == 5).length).modTarn p fun t => { t with stage := .idle } else b.tClose p)
  else b

/-- Module time moves to the next t_k - 39 µs, with t_k = k × PERIOD + PHASE (R238). -/
def Block.toSync (b : Block) (p : Nat) : Block :=
  let per := b.tPeriod p * us
  let x := b.sys.mtime + 39000 + per - b.use (R.TARN_PHASE_PHASE p) * 10 * us % per
  b.toModule (b.sys.mtime + (if (b.tarnPort p).syncAt = b.now then per - x % per else (per - x % per) % per))

/-- At t_k - 39 µs the port sends SYNC and begins sweep k; `mv` and `ma` are its head supply and current. While the previous result has not left, the polls wait. A port that does not sweep, or turns to enumeration by REENUM, sends a result with the reason of its state (R241). -/
def Block.tSync (b : Block) (p mv ma : Nat) : Block :=
  if !(b.tarnPort p).started || (b.tState p = tSTOPPED && (b.tarnPort p).goes.isNone) || b.tState p = tSECONDARY then b
  else
    let b := (b.toSync p).tUnfinished p
    let t := b.tarnPort p
    let b := (b.set (R.TARN_STATUS_STATE p) (t.goes.getD (b.tState p))).modTarn p fun t => { t with goes := none }
    let st := b.tState p
    let b := b.boundary (0x42000000 + 0x1000 * p) (0x42001000 + 0x1000 * p)
    let b := (b.set (R.TARN_PWR_VOLT_MV p) mv).set (R.TARN_PWR_CUR_MA p) ma
    let cal := b.calKind == 1
    let b := b.when (cal && t.calAt.isNone) fun b => (b.each 32 fun n b => b.set (R.TARN_CAL_ACC_G p n) 0).set (R.TARN_CAL_T_RUN_MS p) 0
    let sweeping := (st == tSWEEP || st == tSPLIT) && !t.reenum
    let b := b.modTarn p fun t => { t with
      syncSeq := (t.syncSeq + 1) % 65536, tk := stampOf (b.sys.mtime + 39000), syncAt := b.now, broke := false, healed := false, nearUs := 35, farUs := 35, nearTry := 0, farTry := 0
      calAt := if cal then some (t.calAt.getD b.now) else none
      entries := t.entries.mapIdx fun i _ =>
        { reason := if !sweeping then b.tReason p else if b.tRing p || i < b.get (R.TARN_STATUS_FOUND p) then 5 else if b.get (R.TARN_STATUS_BREAK_LO p) != 0 then 1 else 6 } }
    if !sweeping then ((b.modTarn p fun t => { t with nearUs := 0, farUs := 0 }).when (t.reenum && (st == tSWEEP || st == tSPLIT)) fun b => b.tEnumerate p).tResult p
    else
      let waiting := b.tHeld p
      let b := b.modTarn p fun t => { t with stage := if waiting then .waiting else .polling, near := if b.tNearEnd p = 0 then 0 else 1, far := if st == tSPLIT then b.tHeads p else 0 }
      if waiting then b.set (R.TARN_EV_WAIT_EV p) 1 else b.tPollsDone p

def execTarnSync (p : Fin 16) (mv ma : Nat) (s : State) : Result := s.go fun b => b.tSync p mv ma

/-! ## Stop and start (Table 10.12) -/

/-- STOP or QUIESCE: the sweep in progress completes and the port stops. -/
def Block.tStop (b : Block) (p : Nat) (byStop : Bool) : Block :=
  let st := b.tState p
  if st = tSWEEP || st = tSPLIT then
    if (b.tarnPort p).stage = .idle then (b.set (R.TARN_STATUS_STATE p) tSTOPPED).modTarn p fun t => { t with byStop := byStop, changed := false, goes := none }
    else b.modTarn p fun t => { t with stopping := true, byStop := byStop, changed := false }
  else if (b.tarnPort p).goes.isSome then (b.set (R.TARN_STATUS_STATE p) tSTOPPED).modTarn p fun t => { t with byStop := byStop, goes := none }
  else b

/-- START of a port: from STOPPED it sweeps on, or enumerates when anything changed; from OFF it powers its chain (R59: the result stream restarts). -/
def Block.tStart (b : Block) (p : Nat) : Block :=
  let t := b.tarnPort p
  let b := (b.resync (· == tarnOrigin p)).set (R.TARN_SWEEP_STALE p) 1
  let b := b.modTarn p fun t => { t with started := true, byStop := false, stopping := false }
  if b.get (R.TARN_CFG_RING p) = 2 then b.set (R.TARN_STATUS_STATE p) tSECONDARY
  else if b.tState p = tSTOPPED then
    if t.changed || t.reenum then b.tEnumerate p else b.modTarn p fun t => { t with goes := some tSWEEP }
  else if b.tState p = tOFF && b.flag (R.TARN_CFG_PWR_EN p) then b.tPowerOn p
  else b

def execTarnStop (p : Fin 16) (s : State) : Result := s.ask (s.blk.tRefusal p) fun b => b.tStop p true

def execTarnStart (p : Fin 16) (s : State) : Result := s.ask (s.blk.tRefusal p) fun b =>
  if b.tState p = tSTOPPED && (b.tarnPort p).byStop then b.tStart p else b

def execTarnReenum (p : Fin 16) (s : State) : Result := s.ask (s.blk.tRefusal p) fun b => b.modTarn p fun t => { t with reenum := true }

/-- Counters of a port and of its heads. -/
def Block.tClrCnt (b : Block) (p : Nat) : Block :=
  let b := b.clear [R.TARN_CNT_LINK_NO_REPLY p, R.TARN_CNT_LINK_CRC p, R.TARN_CNT_SWEEP_NOT_POLLED p, R.TARN_CNT_SWEEP_BREAKS p, R.TARN_CNT_SWEEP_PWR_FAULTS p]
  b.each 32 fun n b => b.clear [R.TARN_HEAD_CNT_NO_REPLY p n, R.TARN_HEAD_CNT_CRC p n, R.TARN_HEAD_CNT_STALE p n, R.TARN_HEAD_CNT_WRONG p n]

def execTarnClrCnt (p : Fin 16) (s : State) : Result := s.ask (s.blk.tRefusal p) fun b => b.tClrCnt p

/-- A read of TARN_SWEEP latches TARN_SWEEP_INFO (R244). -/
def Block.tSweepLatch (b : Block) (p : Nat) : Block :=
  (b.set (R.TARN_SWEEP_INFO_DURATION p) (b.tarnPort p).lastUs).set (R.TARN_SWEEP_INFO_CONF p) (b.tarnPort p).lastConf

def execTarnSweepRead (p : Fin 16) (s : State) : Result := s.go fun b => b.tSweepLatch p

/-- A read of word 0 of TARN_FRAMEn latches words 1 to 3 (R245). -/
def Block.tFrameLatch (b : Block) (p n : Nat) : Block :=
  let f := (b.tarnPort p).frames.getD n []
  b.eachOf [1, 2, 3] fun m b => b.set (R.TARN_FRAMEn_Wm_BYTES p n m) (bytesAt f (4 * m) 4)

def execTarnFrameRead (p : Fin 16) (n : Fin 32) (s : State) : Result := s.go fun b => b.tFrameLatch p n

/-- Island 4 loses its chains with its power (R229): every port begins in OFF. -/
def Block.tarnReset (b : Block) : Block := { b with tarn := List.replicate 16 {} }

end Sys2Proof.Machine
end

