-- ==== Sys2Proof/Machine/LoopEngine.lean ====
section
/-! DEFINITION. The loop engine: rate groups, frames, overruns, graphs, ports, live change and the signal window (chapter 11). -/

namespace Sys2Proof.Machine

open Sys2Proof

/-- The origin that names the engine, and that of a group (Table 11.1). -/
def leTarget : Nat := org 2 0 127
def leOrigin (g : Nat) : Nat := org 2 0 g

/-- Period of a group in ns. -/
def lePeriod (g : Nat) : Nat := match g with | 0 => 200 * us | 1 => ms | 2 => 10 * ms | _ => 100 * ms

/-- States of LE_STATUS.STATE. -/
def leSTOPPED : Nat := 0
def leRUNNING : Nat := 1
def leSTOPPING : Nat := 2
def Block.leState (b : Block) : Nat := b.get R.LE_STATUS_STATE

/-- A block of the engine, by its slot. -/
def Block.inst (b : Block) (i : Nat) : LoopInst := (b.loop.insts.find? (·.id == i)).getD { id := i }
def insertInst (x : LoopInst) : List LoopInst → List LoopInst
  | [] => [x]
  | y :: r => if x.id < y.id then x :: y :: r else if x.id = y.id then x :: r else y :: insertInst x r
def Block.putInst (b : Block) (x : LoopInst) : Block := { b with loop := { b.loop with insts := insertInst x b.loop.insts } }
def Block.group (b : Block) (g : Nat) : LoopGroup := b.loop.groups.getD g {}
def Block.modGroup (b : Block) (g : Nat) (f : LoopGroup → LoopGroup) : Block :=
  { b with loop := { b.loop with groups := updAt b.loop.groups g f } }

/-- Slots in use, in ascending order: those whose TYPE is not 0x00. -/
def Block.slots (b : Block) : List Nat :=
  (b.regs.filter fun e => decide (0x43100000 * 32 ≤ e.1) && decide (e.1 < 0x43180000 * 32) && e.1 % 0x1000 == 0).map fun e => (e.1 - 0x43100000 * 32) / 0x1000

/-- Graph `k` is enabled: graph 0 always is (R260). -/
def Block.graphOn (b : Block) (k : Nat) : Bool :=
  k == 0 || b.bitOf (if k < 32 then R.LE_GRAPH_EN0_EN else R.LE_GRAPH_EN1_EN) (k % 32)

/-- Wiring of input `n` of a block: source, output, previous frame; `none` when unconnected. -/
def Block.wire (b : Block) (i n : Nat) : Option (Nat × Nat × Bool) :=
  let k := n / 2
  if n % 2 = 0 then
    if b.flag (R.LE_INSTi_Wk_CONN_LO i k) then some (b.get (R.LE_INSTi_Wk_SRC_LO i k), b.get (R.LE_INSTi_Wk_OUT_LO i k), b.flag (R.LE_INSTi_Wk_Z1_LO i k)) else none
  else
    let h := b.get (R.LE_INSTi_Wk_HI i k)
    if bit h 15 then some (h % 4096, h / 4096 % 2, bit h 13) else none

/-- A table word read as its format reads it. -/
def asFmt (fm v : Nat) : Int := if bit fm 2 then signed 32 v else v

/-- Breakpoints, rows and values of a map, by the value of each word and parameter (R265). -/
def mapWords (ty : Nat) (p : Nat → Nat) (w : Nat → Nat) (fx fr fy : Nat) : List Int × List Int × List Int :=
  let seg := fun (fm o n : Nat) => (List.range n).map fun k => asFmt fm (w (o + k))
  if ty = 0x22 then let n := min 32 (p 0); (seg fx (p 1) n, [], seg fy (p 1 + n) n)
  else if ty = 0x23 then
    let n := min 16 (p 0)
    let m := min 16 (p 1)
    (seg fx (p 2) n, seg fr (p 2 + n) m, seg fy (p 2 + n + m) (n * m))
  else ([], [], [])

/-- Format byte of the source of input `n`. -/
def Block.srcFmt (b : Block) (i n : Nat) : Nat :=
  match b.wire i n with
  | some (s, o, _) => b.get (if o = 0 then R.LE_INSTi_W1_FMT0 s else R.LE_INSTi_W1_FMT1 s)
  | none => 0

/-- A block's header and parameters, as a field reader gives them. -/
def Block.blkCfg (b : Block) (rd : Fld → Nat) (i : Nat) : BlkCfg :=
  let ty := b.get (R.LE_INSTi_W0_TYPE i)
  let p := fun m => rd (leParam i m)
  let fy := b.get (R.LE_INSTi_W1_FMT0 i)
  let m := mapWords ty p (fun w => rd (leTable w)) (b.srcFmt i 0) (b.srcFmt i 1) fy
  { ty := ty, fm0 := fy, fm1 := b.get (R.LE_INSTi_W1_FMT1 i), init := b.get (R.LE_INSTi_W1_INIT i)
    confMin := rd (R.LE_INSTi_W2_CONF_MIN i), up := rd (R.LE_INSTi_W2_UP i), down := rd (R.LE_INSTi_W2_DOWN i), staleOk := rd (R.LE_INSTi_W2_STALE_OK i) != 0
    ps := (List.range 24).map p, xs := m.1, rows := m.2.1, tab := m.2.2 }

/-- The configuration in use. -/
def Block.cfgUse (b : Block) (i : Nat) : BlkCfg := b.blkCfg b.use i

/-! ## Refusals of writes (R267) -/

/-- Type codes of the catalogue (R263). -/
def blockTypes : List Nat := [0x00, 0x01, 0x02] ++ pointTypes ++ stateTypes ++ ownTypes

/-- Strictly increasing. -/
def rising : List Int → Bool
  | [] => true
  | [_] => true
  | a :: b :: r => decide (a < b) && rising (b :: r)

/-- A configuration that a write must not produce: BAD_PARAM. -/
def BlkCfg.bad (c : BlkCfg) : Bool :=
  let range := fun (m lo hi : Nat) => !(decide (lo ≤ c.pu m) && decide (c.pu m ≤ hi))
  let order := fun (m : Nat) => decide (c.py (m + 1) < c.py m)
  match c.ty with
  | 0x01 => range 3 0 3 || decide (8 ≤ c.pu 1 / 4096 % 16)
  | 0x02 => range 1 0 2 || range 3 0 1 || range 5 0 1
  | 0x04 => range 0 0 11
  | 0x15 => range 0 0 1
  | 0x20 => order 0
  | 0x22 => range 0 2 32 || range 2 0 1 || !rising c.xs
  | 0x23 => range 0 2 16 || range 1 2 16 || range 3 0 1 || !rising c.xs || !rising c.rows
  | 0x24 => order 0
  | 0x25 => range 0 0 5
  | 0x30 => order 2
  | 0x31 => range 2 1 65536
  | 0x32 => range 0 1 65536
  | 0x36 => range 0 1 64
  | 0x37 => range 0 1 256
  | 0x40 => order 3
  | 0x41 => order 4 || range 6 1 65536
  | 0x50 => range 0 0 5
  | 0x51 => range 0 0 2
  | 0x52 => range 0 0 2 || range 1 1 16777215
  | 0x53 => range 0 0 1
  | 0x54 => range 1 0 1
  | 0x62 => range 1 0 2
  | 0x65 => range 1 1 255
  | _ => false

/-- Table words of a map: first word and length. -/
def BlkCfg.region (c : BlkCfg) : Nat × Nat :=
  if c.ty = 0x22 then (c.pu 1, 2 * c.pu 0) else if c.ty = 0x23 then (c.pu 2, c.pu 0 + c.pu 1 + c.pu 0 * c.pu 1) else (0, 0)

/-- The fields of header word `m` (0, 1, 4 to 7) and the value a written word gives each. -/
def headerFields (i m v : Nat) : List (Fld × Nat) :=
  match m with
  | 0 => [(R.LE_INSTi_W0_TYPE i, v % 256), (R.LE_INSTi_W0_GROUP i, v / 256 % 4), (R.LE_INSTi_W0_GRAPH i, v / 1024 % 64), (R.LE_INSTi_W0_TILE i, v / 65536 % 2048)]
  | 1 => [(R.LE_INSTi_W1_FMT0 i, v % 256), (R.LE_INSTi_W1_FMT1 i, v / 256 % 256), (R.LE_INSTi_W1_INIT i, v / 65536 % 4)]
  | _ => [(R.LE_INSTi_Wk_SRC_LO i (m - 4), v % 4096), (R.LE_INSTi_Wk_OUT_LO i (m - 4), v / 4096 % 2), (R.LE_INSTi_Wk_Z1_LO i (m - 4), v / 8192 % 2),
          (R.LE_INSTi_Wk_CONN_LO i (m - 4), v / 32768 % 2), (R.LE_INSTi_Wk_HI i (m - 4), v / 65536 % 65536)]

/-- A word as it lies in instance memory: (slot, word) or a table word. -/
def leWordApply (w : LoopWord) (v : Nat) (b : Block) : Block :=
  match w with
  | .table k => b.setS (leTable k) v
  | .inst i m =>
    if 8 ≤ m.val then b.setS (leParam i (m - 8)) v
    else if m.val = 2 then
      (((b.setS (R.LE_INSTi_W2_CONF_MIN i) (max 1 (v % 256))).setS (R.LE_INSTi_W2_UP i) (max 1 (v / 256 % 256))).setS (R.LE_INSTi_W2_DOWN i) (v / 65536 % 256)).setS (R.LE_INSTi_W2_STALE_OK i) (v / 16777216 % 2)
    else if m.val = 3 then b
    else b.eachOf (headerFields i m v) fun e b => b.set e.1 e.2

/-- The status with which a write of one word is refused, if it is: R78, then the block's checks (R605); `before` is the block as the request finds it, `b` with the other words of the request. -/
def leWordCheck (w : LoopWord) (v : Nat) (before b : Block) : Option Nat :=
  let after := leWordApply w v b
  match w with
  | .table k =>
    if b.slots.any fun i => let c := after.blkCfg after.get i; let r := c.region; decide (r.1 ≤ k.val) && decide (k.val < r.1 + r.2) && c.bad then some 0x68 else none
  | .inst i m =>
    let h := if m.val = 2 || m.val = 3 || 8 ≤ m.val then [] else headerFields i m v
    if b.leState != leSTOPPED && h.any (fun e => b.get e.1 != e.2) then some BUSY
    else if m.val < 8 && before.get (R.LE_INSTi_W0_TYPE i) == 0 then some 0x69
    else if m.val = 0 && (!blockTypes.contains (v % 256) || decide (1535 < v / 65536 % 2048)) then some 0x69
    else if m.val = 1 && v / 65536 % 4 == 3 then some 0x68
    else if (after.blkCfg after.get i).bad && (8 ≤ m.val || !(before.blkCfg before.get i).bad) then some 0x68
    else none

/-- The status with which a write of one word alone is refused, if it is. -/
def leWordRefusal (w : LoopWord) (v : Nat) (b : Block) : Option Nat := leWordCheck w v b b

/-- The engine cannot answer a control bit or a write: island 2 lost, or quiesced (R79). -/
def Block.leRefusal (b : Block) : Option Nat :=
  b.unitRefusal leTarget

def execInstanceWrite (w : LoopWord) (v : BitVec 32) (s : State) : Result :=
  s.ask (s.blk.leRefusal <|> leWordRefusal w v.toNat s.blk) (leWordApply w v.toNat)

/-! ## Frames (R250, R256) -/

/-- The instant of module time at which a group's next frame starts: the first boundary not before now and after the last start; after a step, at least half a period of elapsed time after it (R250, R253). -/
def Block.nextFrame (b : Block) (g : Nat) : Nat :=
  let t := b.group g
  let p := lePeriod g
  let lo := if t.realign then b.sys.mtime + (t.startE + p / 2 - b.now) else max b.sys.mtime ((t.startM.map (· + 1)).getD 0)
  (lo + p - 1) / p * p

/-- Output `o` of a block as it stood when the reading frame began: a frame that had not completed by then is not seen (R256). -/
def Block.committed (b : Block) (i o : Nat) : Sig :=
  let x := b.inst i
  let old := decide (b.now < (b.group (b.get (R.LE_INSTi_W0_GROUP i))).doneAt)
  if o = 0 then (if old then x.p0 else x.y0) else (if old then x.p1 else x.y1)

/-- Input `n` of a block of group `g`, with the results of this frame so far (R256). -/
def Block.readIn (b : Block) (g : Nat) (res : List LoopInst) (i n : Nat) : Option Sig :=
  (b.wire i n).map fun (s, o, z1) =>
    let y :=
      if b.get (R.LE_INSTi_W0_GROUP s) = g then
        let x := if z1 then b.inst s else (res.find? (·.id == s)).getD (b.inst s)
        if o = 0 then x.y0 else x.y1
      else b.committed s o
    { y with stale := y.stale || !b.graphOn (b.get (R.LE_INSTi_W0_GRAPH s)) }

/-- The eight inputs. -/
def Block.inputs (b : Block) (g : Nat) (res : List LoopInst) (i : Nat) : Ins := (List.range 8).map (b.readIn g res i)

/-- The eight inputs of an OUT port, read after the commit: an input marked Z1 takes the frame before. -/
def Block.outInputs (b : Block) (g i : Nat) : Ins := (List.range 8).map fun n =>
  match b.wire i n with
  | some (s, o, true) =>
    if b.graphOn (b.get (R.LE_INSTi_W0_GRAPH s)) && b.get (R.LE_INSTi_W0_GROUP s) == g then some (if o = 0 then (b.inst s).p0 else (b.inst s).p1) else b.readIn g b.loop.insts i n
  | _ => b.readIn g b.loop.insts i n

/-- Blocks of the group whose result a block needs in the same frame. -/
def Block.needs (b : Block) (g i : Nat) (run : List Nat) : List Nat :=
  ((List.range 8).filterMap (b.wire i)).filterMap fun (s, _, z1) => if !z1 && b.get (R.LE_INSTi_W0_GROUP s) == g && run.contains s then some s else none

/-- Order of a frame: a block runs when every input computed in the same frame is available (R249); blocks of an algebraic loop never do. -/
def runOrder (needs : Nat → List Nat) : Nat → List Nat → List Nat → List Nat
  | 0, _, done => done
  | n + 1, rest, done =>
    match rest.find? fun i => (needs i).all done.contains with
    | none => done
    | some i => runOrder needs n (rest.filter (· != i)) (done ++ [i])

/-- Entries of an OUT port's packet. -/
def Block.outEntries (b : Block) (i : Nat) : Nat := if b.use (leParam i 1) = 2 then ((List.range 8).filterMap (b.wire i)).length else 1

/-- One more block of a frame on its tile: it starts when the tile is free and every input of the frame has come, 10 ns after its producer from another tile (R249). `a` holds each finished block with its tile and its finish in cycles. -/
def Block.onTile (b : Block) (g : Nat) (ids : List Nat) (a : List (Nat × Nat × Nat)) (i : Nat) : List (Nat × Nat × Nat) :=
  let tile := b.get (R.LE_INSTi_W0_TILE i)
  let free := ((a.filter fun e => e.2.1 == tile).map (·.2.2)).foldl max 0
  let ready := ((b.needs g i ids).filterMap fun s => (a.find? (·.1 == s)).map fun e => if e.2.1 = tile then e.2.2 else e.2.2 + 8).foldl max 0
  a ++ [(i, tile, max free ready + blockCycles (b.get (R.LE_INSTi_W0_TYPE i)) (b.outEntries i))]

/-- Frame time up to the end of its commit, in 0.1 µs rounded up: 2 µs for steps 1 to 4, the longest chain, 1 µs for the commit (R249). -/
def Block.coreTime (b : Block) (g : Nat) (order : List Nat) : Nat :=
  30 + ceilDiv (5 * ((order.foldl (b.onTile g order) []).map (·.2.2)).foldl max 0) 400

/-- Completion deadline of a group after its frame start, in 0.1 µs (Table 11.1). -/
def leDeadline (g : Nat) : Nat := if g = 0 then 1500 else lePeriod g / 100

/-- One block runs: its new state joins the results, its events are recorded. -/
def Block.runInst (g : Nat) (i : Nat) (a : Block × List LoopInst) : Block × List LoopInst :=
  let b := a.1
  let c := b.cfgUse i
  let t := b.inst i
  let o := if c.ty = 0x01 then c.latch b.now t else c.run (b.inputs g a.2 i) t (bit b.loop.modes (c.pu 0))
  let b := b.eachOf o.ev fun n b => (b.setBit ⟨0x43340000 + 0x4 * i, 0, 9, 0⟩ n true).inc (R.LE_EVTi_COUNT i)
  let b := match o.idx with | some n => b.set (R.LE_EVTi_INDEX i) n | none => b
  (b, a.2 ++ [o.inst])

/-- A VALUE entry (Table 11.4). -/
def valueEntry (x : Sig) (fm : Nat) : List Nat :=
  le 4 (lowBits 32 x.raw) ++ [x.f % 32 + 32 * (fm % 4) + 128 * b2n (bit fm 2), b2n x.valid + 2 * b2n x.stale + 4 * b2n x.masked + 8 * b2n x.replay, x.conf, 0]

/-- A SAMPLE of VALUE entries: CONF the minimum, flags the OR, VALID the AND. -/
def entriesPacket (stream origin stamp : Nat) (l : List (Sig × Nat)) : Packet :=
  let xs := l.map (·.1)
  { kind := .sample, stream := stream, origin := origin, conf := minConf xs, valid := xs.all (·.valid), stale := xs.any (·.stale), masked := xs.any (·.masked),
    replay := xs.any (·.replay), stamp := stamp, data := l.flatMap fun e => valueEntry e.1 e.2 }

/-- An OUT port at step 7 (R262); its packet leaves when the engine runs. -/
def Block.outPort (g stamp : Nat) (i : Nat) (b : Block) : Block :=
  let c := b.cfgUse i
  let off := !b.graphOn (b.get (R.LE_INSTi_W0_GRAPH i))
  let l := b.outInputs g i
  let fm := b.srcFmt i 0
  let park : Sig := { raw := asFmt fm (c.pu 4), f := fmtF fm, conf := 255, valid := true, stale := false }
  let x0 := if off then park else Ins.v l 0
  if (b.group g).frames % max 1 (c.pu 2) ≠ 0 || (off && c.pu 3 == 0) || (!off && c.pu 5 == 1 && !x0.valid) then b
  else
    let base : Packet := { kind := .sample, stream := c.pu 0 % 65536, origin := leOrigin g, conf := x0.conf, valid := x0.valid, stale := x0.stale, masked := x0.masked, replay := x0.replay, stamp := stamp }
    match c.pu 1 with
    | 0 =>
      let cmd := match Ins.x l 1 with | some x => lowBits 8 (x.align 0) | none => c.pu 6 % 256
      b.post { base with kind := .setpoint, data := le 2 (lowBits 16 (satS 16 (x0.align 0))) ++ [cmd, 0] ++ le 4 (c.pu 7) }
    | 1 => b.post { base with data := valueEntry x0 fm }
    | _ =>
      let es := (List.range 8).filterMap fun n => (Ins.x l n).map fun x => (if n = 0 then x0 else x, b.srcFmt i n)
      b.post (entriesPacket (c.pu 0 % 65536) (leOrigin g) stamp es)

/-- The observation packet of a group (R270). -/
def Block.observe (b : Block) (g stamp : Nat) : Block :=
  let es := (List.range 64).filterMap fun n =>
    let i := b.use (R.LE_PROBEn_INSTANCE n)
    if b.use (R.LE_PROBEn_EN n) = 1 && b.get (R.LE_INSTi_W0_GROUP i) = g then
      let o := b.use (R.LE_PROBEn_OUT n)
      let y := if o = 0 then (b.inst i).y0 else (b.inst i).y1
      some ({ y with stale := y.stale || !b.graphOn (b.get (R.LE_INSTi_W0_GRAPH i)) }, b.get (if o = 0 then R.LE_INSTi_W1_FMT0 i else R.LE_INSTi_W1_FMT1 i))
    else none
  let st := b.get (R.LE_GRPg_OBS_STREAM g)
  if st = 0 || es.isEmpty then b else b.post (entriesPacket st (leOrigin g) stamp es)

/-- Blocks of a group. -/
def Block.groupSlots (b : Block) (g : Nat) : List Nat := b.slots.filter fun i => b.get (R.LE_INSTi_W0_GROUP i) == g

/-- Steps 1 to 3: graph enables, shadows, initialisations. -/
def Block.frameOpen (b : Block) (g : Nat) : Block :=
  let is := b.groupSlots g
  let runs := (b.group g).runs
  let b := b.eachOf is fun i b =>
    let k := b.get (R.LE_INSTi_W0_GRAPH i)
    let c := b.get (R.LE_INSTi_W0_TYPE i)
    let renew := (c == 0x36 || c == 0x37) && b.use (leParam i 0) != b.get (leParam i 0)
    let t := b.inst i
    let b := b.putInst { t with init := t.init || renew || (b.graphOn k && !bit runs k), slot := if b.graphOn k then t.slot else [] }
    let r := (b.blkCfg b.get i).region
    (b.boundary (0x43100000 + 0x80 * i) (0x43100080 + 0x80 * i)).when (decide (0 < r.2)) fun b => b.boundary (0x43200000 + 4 * r.1) (0x43200000 + 4 * (r.1 + r.2))
  let b := b.each 64 fun n b => if b.get (R.LE_INSTi_W0_GROUP (b.get (R.LE_PROBEn_INSTANCE n))) = g then b.boundary (0x43000400 + 4 * n) (0x43000404 + 4 * n) else b
  b.modGroup g fun t => { t with runs := b.get R.LE_GRAPH_EN0_EN + 2 ^ 32 * b.get R.LE_GRAPH_EN1_EN }

/-- The clock reaches the frame start; the start joins the overrun history and STORM clears after 64 starts without an overrun (R250, R252). -/
def Block.frameStart (b : Block) (g : Nat) : Block :=
  let at_ := b.nextFrame g
  let b := b.toModule at_
  let h := (false :: (b.group g).history).take 64
  let b := b.modGroup g fun t => { t with startM := some at_, startE := b.now, realign := false, history := h }
  if h.length = 64 && h.all (! ·) then (b.set (R.LE_GRPg_OVR_STORM g) 0).setBit R.LE_STATUS_STORM g false else b

/-- The last frame that started missed its deadline: the next is skipped, and overruns are counted (R251, R252). -/
def Block.overrun (b : Block) (g : Nat) (abandoned : Bool) : Block :=
  let b := b.modGroup g fun t => { t with skip := true, history := updAt t.history 0 fun _ => true }
  let b := (b.inc (R.LE_GRPg_OVR_COUNT g)).when abandoned fun b => b.inc (R.LE_GRPg_OVR_ABANDONED g)
  let b := (b.raise (leOrigin g) (R.LE_GRPg_OVR_OVR_EV g)).set R.FAB_EDGE_SUMMARY_RATE_SKIP 1
  if 8 ≤ ((b.group g).history.filter id).length && !b.flag (R.LE_GRPg_OVR_STORM g) then
    (b.raise (leOrigin g) (R.LE_GRPg_OVR_STORM g)).setBit R.LE_STATUS_STORM g true
  else b

/-- Steps 5 to 7 of a frame of group `g`: blocks run in `order`, everything commits, packets leave; it completes `t` tenths of a microsecond after its start. -/
def Block.frameRun (b : Block) (g t : Nat) (order : List Nat) : Block :=
  let (b, res) := (order.filter fun i => b.get (R.LE_INSTi_W0_TYPE i) != 0x02).foldl (fun a i => Block.runInst g i a) (b, [])
  let n := (b.get (R.LE_GRPg_FRAME_COUNT g) + 1) % 2 ^ 32
  let b := b.eachOf (b.groupSlots g) fun i b =>
    let t := b.inst i
    let x := (res.find? (·.id == i)).getD t
    let ran := res.any (·.id == i)
    b.putInst { x with p0 := t.y0, p1 := t.y1, pseq := t.fseq, fseq := if ran then n % 65536 else t.fseq }
  let stamp := b.stamp
  let b := b.modGroup g fun x => { x with frames := x.frames + 1, doneAt := x.startE + t * 100 }
  let b := ((b.set (R.LE_GRPg_FRAME_COUNT g) n).set (R.LE_GRPg_LAST_T g) t).set (R.LE_GRPg_MAX_T g) (max t (b.get (R.LE_GRPg_MAX_T g)))
  let b := b.eachOf ((b.groupSlots g).filter fun i => b.get (R.LE_INSTi_W0_TYPE i) == 0x02) (Block.outPort g stamp)
  b.observe g stamp

/-- A whole frame whose dispatch takes `t` tenths of a microsecond (Table 11.2); a skipped frame runs no step. One that has not committed by its deadline is abandoned; one that commits in time and is dispatched late overruns too. -/
def Block.loopFrame (b : Block) (g t : Nat) : Block :=
  if b.leState ≠ leRUNNING then b
  else
    let b := b.frameStart g
    if (b.group g).skip then b.modGroup g fun t => { t with skip := false }
    else
      let b := b.frameOpen g
      let run := (b.groupSlots g).filter fun i => b.graphOn (b.get (R.LE_INSTi_W0_GRAPH i))
      let order := runOrder (fun i => b.needs g i run) run.length run []
      let core := b.coreTime g order
      if leDeadline g < core then b.overrun g true
      else (b.frameRun g (core + t) order).when (decide (leDeadline g < core + t)) fun b => b.overrun g false

/-! ## Overruns (R251, R252) -/

/-- A hardware fault delays a tile, or back-pressure the dispatch: a frame is abandoned, steps 1 and 2 apart, or the last one was only late in its dispatch. -/
def execGroupOverrun (g : Fin 4) (abandoned : Bool) (s : State) : Result := s.go fun b =>
  if b.leState ≠ leRUNNING || (b.group g).skip || (!abandoned && (b.group g).startM.isNone) then b
  else if abandoned then ((b.frameStart g).frameOpen g).overrun g true
  else b.overrun g false

/-- Module time stepped: every group that runs realigns its next frame (R253). -/
def Block.loopRealign (b : Block) : Block :=
  if b.leState ≠ leRUNNING then b
  else b.each 4 fun g b => (b.modGroup g fun t => { t with realign := true }).inc (R.LE_GRPg_REALIGN_COUNT g)

/-! ## IN ports (R261) -/

/-- The inputs of the path follower take a packet of their streams: the override input under the rules of an IN port (R361), the feedback stream, whose angle lies where the spec does not say (R358, R365). -/
def Block.steerPort (b : Block) (p : Packet) : Block :=
  let ty := b.get R.STR_OVR_SRC_TYPE
  let n := ty % 4 + 1
  let v := bytesAt p.data (b.get R.STR_OVR_SRC_OFFSET) n
  let b := b.when (b.get R.STR_OVR_SRC_STREAM != 0 && p.stream == b.get R.STR_OVR_SRC_STREAM && p.valid && !p.error && p.conf != 0) fun b =>
    { b with steer := { b.steer with ovrNow := some (if bit ty 2 then signed (8 * n) v else v) } }
  b.when (b.get R.STR_OUT_FB_FB_STREAM != 0 && p.stream == b.get R.STR_OUT_FB_FB_STREAM && !p.error) fun b =>
    { b.spend with steer := { b.steer with fbAge := 0, fbAngle := if p.valid && p.conf != 0 then some (signed 16 b.open_) else none } }

/-- A packet of a routed stream enters the slot of every IN port of the stream. -/
def Block.inPort (b : Block) (p : Packet) : Block :=
  (b.steerPort p).eachOf (b.slots.filter fun i => b.get (R.LE_INSTi_W0_TYPE i) == 0x01 && b.use (leParam i 0) % 65536 == p.stream) fun i b =>
    if p.error then b.inc (R.LE_EVTi_COUNT i)
    else
      let (t, seqErr) := (b.cfgUse i).arrive p b.now (b.inst i)
      (b.putInst t).when seqErr fun b => (b.set (R.LE_EVTi_SEQ_ERR i) 1).inc (R.LE_EVTi_COUNT i)

def execInPortPacket (p : Packet) (s : State) : Result := s.go fun b => if b.heard p then b.inPort p else b

/-! ## Stop and start (R268) -/

/-- STOP or QUIESCE: each group completes its frame and starts no other. -/
def Block.leStop (b : Block) (byStop : Bool) : Block :=
  if b.leState = leRUNNING then { (b.set R.LE_STATUS_STATE leSTOPPING) with loop := { b.loop with byStop := byStop } }
  else b

/-- The path follower and the spout stage begin with the engine: IDLE, counters clear. -/
def Block.steerStart (b : Block) : Block :=
  let b := b.clear [R.STR_CNT_ENGAGES, R.STR_CNT_OVERRIDES, R.STR_CNT_B_GRACE, R.STR_CNT_B_GRACE_EXP, R.STR_STATUS_STATE, R.STR_SPT_STAT_ACTIVE, R.STR_SPT_STAT_GATE_OK]
  let t := b.steer
  { b with steer := { fused := t.fused, fusedAt := t.fusedAt, replay := t.replay, coming := t.coming, cvy := t.cvy } }

/-- START: every block is initialised, frames begin again and every stream restarts (R259, R61). -/
def Block.leStart (b : Block) : Block :=
  let b := b.steerStart
  let b := b.each 4 fun g b => b.clear [R.LE_GRPg_FRAME_COUNT g, R.LE_GRPg_LAST_T g, R.LE_GRPg_MAX_T g, R.LE_GRPg_OVR_COUNT g, R.LE_GRPg_OVR_ABANDONED g, R.LE_GRPg_OVR_STORM g, R.LE_GRPg_REALIGN_COUNT g]
  let b := b.eachOf b.slots fun i b => b.set (R.LE_EVTi_COUNT i) 0
  let b := b.resync fun o => oIsland o == 2 && oCell o == 0
  let b := (b.set R.LE_STATUS_STATE leRUNNING).set R.LE_STATUS_STORM 0
  { b with loop := { b.loop with byStop := false, groups := List.replicate 4 {}, insts := b.slots.map fun i => { id := i } } }

/-- The last group has stopped. -/
def Block.leStopped (b : Block) : Block := if b.leState = leSTOPPING then (b.set R.LE_STATUS_STATE leSTOPPED).quiesceDone leTarget else b

def execLeStop (s : State) : Result := s.ask s.blk.leRefusal (·.leStop true)

def execLeStart (s : State) : Result := s.ask s.blk.leRefusal fun b => if b.leState = leSTOPPED && b.loop.byStop then b.leStart else b

def execLeStopped (s : State) : Result := s.go (·.leStopped)

def execLeClrCnt (s : State) : Result := s.ask s.blk.leRefusal fun b =>
  let b := b.each 4 fun g b => b.clear [R.LE_GRPg_MAX_T g, R.LE_GRPg_OVR_COUNT g, R.LE_GRPg_OVR_ABANDONED g, R.LE_GRPg_REALIGN_COUNT g]
  b.eachOf b.slots fun i b => b.set (R.LE_EVTi_COUNT i) 0

/-! ## The signal window (R270) -/

/-- A read of LE_SIGi_VAL0 latches the signal words of one committed frame. -/
def Block.sigLatch (b : Block) (i : Nat) : Block :=
  let t := b.inst i
  let old := decide (b.now < (b.group (b.get (R.LE_INSTi_W0_GROUP i))).doneAt)
  let off := !b.graphOn (b.get (R.LE_INSTi_W0_GRAPH i))
  let x := b.committed i 0
  let y := b.committed i 1
  let q := if old then t.pseq else t.fseq
  let b := (b.set (R.LE_SIGi_VAL0_VALUE i) (lowBits 32 x.raw)).set (R.LE_SIGi_VAL1_VALUE i) (lowBits 32 y.raw)
  let b := (((b.set (R.LE_SIGi_STAT0_CONF i) x.conf).setB (R.LE_SIGi_STAT0_VALID i) x.valid).setB (R.LE_SIGi_STAT0_STALE i) (x.stale || off)).setB (R.LE_SIGi_STAT0_MASKED i) x.masked
  let b := (((b.set (R.LE_SIGi_STAT1_CONF i) y.conf).setB (R.LE_SIGi_STAT1_VALID i) y.valid).setB (R.LE_SIGi_STAT1_STALE i) (y.stale || off)).setB (R.LE_SIGi_STAT1_MASKED i) y.masked
  (((b.setB (R.LE_SIGi_STAT0_REPLAY i) x.replay).setB (R.LE_SIGi_STAT1_REPLAY i) y.replay).set (R.LE_SIGi_STAT0_FSEQ i) q).set (R.LE_SIGi_STAT1_FSEQ i) q

def execLeSigRead (i : Fin 4096) (s : State) : Result := s.go fun b => b.sigLatch i

/-- A reset of island 2 or of cell 0 ends every frame; the engine stays stopped until its reload ends in a START. -/
def Block.leReset (b : Block) : Block := { ((b.resetRegs 0x43000000 0x43400000).resetRegs 0x45000000 0x45080000) with loop := { modes := b.loop.modes }, steer := {} }

end Sys2Proof.Machine
end

