-- ==== Sys2Proof/Machine/SolverMath.lean ====
section
/-! DEFINITION. The arithmetic of the setting solver: binary64 words read and written as rational numbers, linear equations, and the primal active-set method of R285. The method is computed in exact rationals; where a binary64 result that is not exact is kept as a word, its last digits are free (log entry 61). -/

namespace Sys2Proof.Machine

open Sys2Proof

/-! ## Binary64 words -/

/-- 2^e as a rational number. -/
def pow2 (e : Int) : Rat := if 0 ≤ e then ((2 ^ e.toNat : Nat) : Rat) else 1 / ((2 ^ (-e).toNat : Nat) : Rat)

/-- The number a binary64 word stands for. What a word that is no number stands for is free. -/
def f64To (w : Nat) : Rat :=
  let e : Nat := w / 2 ^ 52 % 2 ^ 11
  let m : Nat := w % 2 ^ 52
  let x := if e = 0 then (m : Rat) * pow2 (-1074) else ((2 ^ 52 + m : Nat) : Rat) * pow2 ((e : Int) - 1075)
  if e = 2047 then (Config.freeReal 1220 [w] : Rat) else if w / 2 ^ 63 % 2 = 1 then -x else x

/-- A number that is not negative, rounded to a whole number, ties to even. -/
def roundEven (q : Rat) : Nat :=
  let f := q.floor
  let r := q - (f : Rat)
  (if r < 1 / 2 then f else if 1 / 2 < r then f + 1 else if f % 2 = 0 then f else f + 1).toNat

/-- The binary64 word nearest a number, ties to even (R283). -/
def f64Of (x : Rat) : Nat :=
  if x.num = 0 then 0
  else
    let n := x.num.natAbs
    let q : Rat := if x.num < 0 then -x else x
    let k : Int := (n.log2 : Int) - (x.den.log2 : Int)
    let e := max (-1022) (if q < pow2 k then k - 1 else k)
    let w := (e + 1022).toNat * 2 ^ 52 + roundEven (q * pow2 (52 - e))
    min w (2047 * 2 ^ 52) + (if x.num < 0 then 2 ^ 63 else 0)

/-- The word in which a result is kept: exact where binary64 holds it, else near the nearest word, in an order of operations the spec does not write out. -/
def openWord (x : Rat) : Nat :=
  let w := f64Of x
  if f64To w = x then w else ((w : Int) + Config.freeReal 1207 [x.num, x.den] % 65 - 32).toNat

/-- A number as a whole number where the spec names no rounding. -/
def openRound (x : Rat) : Int := if x.den = 1 then x.num else x.floor + (if Config.roundsUp x.num x.den then 1 else 0)

/-- 2^(o/8), each root as its nearest binary64 number. -/
def octaves (o : Int) : Rat :=
  (([4503599627370496, 4911210218475899, 5355712719992597, 5840446135085607, 6369051672525773, 6945500098633947, 7574121564787629, 8259638134547591].getD (o % 8).toNat 0 : Nat) : Rat) * pow2 (o / 8 - 52)

/-! ## Vectors and linear equations -/

def dot (a b : List Rat) : Rat := (List.zipWith (· * ·) a b).foldl (· + ·) 0
def axpy (t : Rat) (d x : List Rat) : List Rat := List.zipWith (fun u v => v + t * u) d x

/-- One column of Gauss and Jordan's elimination: rows with a pivot, and the rows left. -/
def eliminate (st : List (Nat × List Rat) × List (List Rat)) (c : Nat) : List (Nat × List Rat) × List (List Rat) :=
  let at_ := fun (r : List Rat) => r.getD c 0
  match st.2.findIdx? fun r => at_ r ≠ 0 with
  | none => st
  | some k =>
    let r := st.2.getD k []
    let p := r.map (· / at_ r)
    let elim := fun (u : List Rat) => axpy (-(at_ u)) p u
    ((c, p) :: st.1.map (fun e => (e.1, elim e.2)), (st.2.eraseIdx k).map elim)

/-- A solution of n linear equations; an unknown without a pivot is 0. -/
def linSolve (n : Nat) (rows : List (List Rat)) : List Rat :=
  let done := ((List.range n).foldl eliminate ([], rows)).1
  (List.range n).map fun c => ((done.find? fun e => e.1 == c).map fun e => e.2.getD n 0).getD 0

/-! ## The quadratic programme (R280 to R285) -/

/-- A row of the problem: its index, v(x) = a·x - rhs, the penalty per unit of violation, and U. -/
structure QpRow where
  id  : Nat
  a   : List Rat
  rhs : Rat
  pen : Rat
  unit : Rat

/-- The problem of one cycle in raw units of the variables: box, Hessian, gradient at 0, rows. A variable whose box is one point is no unknown. -/
structure Qp where
  n    : Nat
  lo   : List Rat
  hi   : List Rat
  hess : List (List Rat)
  grad : List Rat
  rows : List QpRow

/-- A point of the method: x; each variable's bound in the working set (0 none, 1 lower, 2 upper); each row met (0), violated (1) or held at its kink (2). -/
structure QpPt where
  x   : List Rat
  bnd : List Nat
  row : List Nat

def QpRow.viol (r : QpRow) (x : List Rat) : Rat := dot r.a x - r.rhs
def Qp.loAt (q : Qp) (i : Nat) : Rat := q.lo.getD i 0
def Qp.hiAt (q : Qp) (i : Nat) : Rat := q.hi.getD i 0
def Qp.pinned (q : Qp) (i : Nat) : Bool := q.loAt i == q.hiAt i
def Qp.rowAt (q : Qp) (k : Nat) : QpRow := q.rows.getD k ⟨0, [], 0, 0, 1⟩

/-- The first of the entries with the least key. -/
def leastBy {α : Type} (lt : α → α → Bool) : List α → Option α
  | [] => none
  | x :: l => match leastBy lt l with
    | none => some x
    | some y => if lt y x then some y else some x

/-- Outcome of an iteration: the step was stopped by an element that joined, or it reached the minimiser, with the point after a drop where a multiplier lies out of range. -/
inductive QpMove where
  | blocked (p : QpPt)
  | reached (p : QpPt) (drop : Option QpPt)

/-- Steps 1 to 5 of R285. Equal steps and equal multipliers go by index, bounds before rows. -/
def Qp.move (q : Qp) (p : QpPt) : QpMove :=
  let free := (List.range q.n).filter fun i => !q.pinned i && p.bnd.getD i 0 == 0
  let held := (List.range q.rows.length).filter fun k => p.row.getD k 0 == 2
  let a := fun (k i : Nat) => (q.rowAt k).a.getD i 0
  let g0 := (List.range q.n).map fun i => dot (q.hess.getD i []) p.x + q.grad.getD i 0
  let g := ((List.range q.rows.length).filter fun k => p.row.getD k 0 == 1).foldl (fun v k => axpy (q.rowAt k).pen (q.rowAt k).a v) g0
  let eqs := (free.map fun i => (free.map fun j => (q.hess.getD i []).getD j 0) ++ (held.map fun k => a k i) ++ [-(g.getD i 0)]) ++
    (held.map fun k => (free.map fun j => a k j) ++ (held.map fun _ => (0 : Rat)) ++ [0])
  let sol := linSolve (free.length + held.length) eqs
  let d := (List.range q.n).map fun i => ((free.findIdx? (· == i)).map fun k => sol.getD k 0).getD 0
  let lam := fun (k : Nat) => ((held.findIdx? (· == k)).map fun j => sol.getD (free.length + j) 0).getD 0
  -- elements the step would cross: step, key, joined
  let bounds := free.filterMap fun i =>
    let di := d.getD i 0
    let xi := p.x.getD i 0
    if di < 0 then some ((q.loAt i - xi) / di, 2 * i, { p with bnd := p.bnd.set i 1 })
    else if 0 < di then some ((q.hiAt i - xi) / di, 2 * i, { p with bnd := p.bnd.set i 2 })
    else none
  let kinks := (List.range q.rows.length).filterMap fun k =>
    let r := q.rowAt k
    let s := dot r.a d
    let v := r.viol p.x
    if (p.row.getD k 0 == 0 && decide (0 < s)) || (p.row.getD k 0 == 1 && decide (s < 0)) then some (-v / s, 2 * r.id + 1, { p with row := p.row.set k 2 }) else none
  match leastBy (fun (u v : Rat × Nat × QpPt) => decide (u.1 < v.1) || (u.1 == v.1 && decide (u.2.1 < v.2.1))) ((bounds ++ kinks).filter fun e => decide (e.1 < 1)) with
  | some e => .blocked { e.2.2 with x := axpy (max 0 e.1) d p.x }
  | none =>
    let x := axpy 1 d p.x
    let here := { p with x := x }
    let tol := pow2 (-40)
    let grad := List.zipWith (· + ·) g ((List.range q.n).map fun i => dot (q.hess.getD i []) d)
    let outB := (List.range q.n).filterMap fun i =>
      let t := p.bnd.getD i 0
      let pull := held.map fun k => lam k * a k i
      let r := grad.getD i 0 + pull.foldl (· + ·) 0
      let size := pull.foldl (fun s u => s + max u (-u)) (max (grad.getD i 0) (-(grad.getD i 0)))
      let out := if t = 1 then -r else r
      if t ≠ 0 && !q.pinned i && decide (tol * size < out) then some (out, 2 * i, { here with bnd := p.bnd.set i 0 }) else none
    let outR := held.filterMap fun k =>
      let r := q.rowAt k
      let l := lam k
      let out := max (-l) (l - r.pen)
      if tol * max r.pen (max l (-l)) < out then some (out, 2 * r.id + 1, { here with row := p.row.set k (if r.pen < l then 1 else 0) }) else none
    .reached here ((leastBy (fun (u v : Rat × Nat × QpPt) => decide (v.1 < u.1) || (u.1 == v.1 && decide (u.2.1 < v.2.1))) (outB ++ outR)).map (·.2.2))

/-- At most `cap` iterations: each step and each drop counts as one. The last point, the iterations and whether the solve converged (R285, R286). -/
def Qp.run (q : Qp) : Nat → QpPt → Nat → QpPt × Nat × Bool
  | 0, p, it => (p, it, false)
  | 1, p, it => match q.move p with
    | .blocked p' => (p', it + 1, false)
    | .reached p' drop => (p', it + 1, drop.isNone)
  | f + 2, p, it => match q.move p with
    | .blocked p' => q.run (f + 1) p' (it + 1)
    | .reached p' none => (p', it + 1, true)
    | .reached _ (some p') => q.run f p' (it + 2)

/-- The start point: the anchors clipped to the box, and of a working set the entries on which that point lies (R275). -/
def Qp.start (q : Qp) (anchor : List Rat) (work : List Nat) (workRows : List Nat) : QpPt :=
  let x := (List.range q.n).map fun i => max (q.loAt i) (min (q.hiAt i) (anchor.getD i 0))
  { x := x
    bnd := (List.range q.n).map fun i =>
      let t := work.getD i 0
      if !q.pinned i && ((t == 1 && x.getD i 0 == q.loAt i) || (t == 2 && x.getD i 0 == q.hiAt i)) then t else 0
    row := q.rows.map fun r => if workRows.contains r.id && r.viol x == 0 then 2 else if 0 < r.viol x then 1 else 0 }

end Sys2Proof.Machine
end

