-- ==== Sys2Proof/Machine/SettingSolver.lean ====
section
/-! DEFINITION. The setting solver: cycles, boxes and fixings, measures and feed-forward, estimators, results (chapter 12).
The problem is assembled and solved in exact rationals by the method of SolverMath (log entries 61 and 121). -/

namespace Sys2Proof.Machine

open Sys2Proof

/-- The solver's target and its sending unit. -/
def solTarget : Nat := org 2 1 127
def solOrigin : Nat := org 2 1 0

/-- States of SOL_STATUS.STATE. -/
def solSTOPPED : Nat := 0
def solIDLE : Nat := 1
def solSOLVING : Nat := 2
def solWAITING : Nat := 3

def Block.solState (b : Block) : Nat := b.get R.SOL_STATUS_STATE
def Block.modSol (b : Block) (f : Solver → Solver) : Block := { b with solver := f b.solver }
def Block.solVars (b : Block) : Nat := min 32 (b.get R.SOL_STATUS_VARS)
def Block.solRows (b : Block) : Nat := min 96 (b.get R.SOL_STATUS_ROWS)
def Block.solMeas (b : Block) : Nat := min 8 (b.get R.SOL_STATUS_MEAS)

/-- Format of a variable, and a raw word read in it. -/
def Block.varFmt (b : Block) (i : Nat) : Nat := b.get (R.SOL_VARi_CFG_FMT i)
def Block.varRaw (b : Block) (i : Nat) (f : Fld) : Int := asFmt (b.varFmt i) (b.use f)

/-- Operator bound of a variable: the image bound until one is written, and always within LO to HI (Table 12.11). -/
def Block.opBound (b : Block) (i : Nat) (hi : Bool) : Int :=
  let f := if hi then R.SOL_VARi_OPHI_OPHI i else R.SOL_VARi_OPLO_OPLO i
  let lo := asFmt (b.varFmt i) (b.get (R.SOL_VARi_LO_LO i))
  let up := asFmt (b.varFmt i) (b.get (R.SOL_VARi_HI_HI i))
  let d := if hi then up else lo
  clampI lo up ((((b.inuse.find? f.key) <|> b.regs.find? f.key).map (asFmt (b.varFmt i))).getD d)

/-! ## Input slots (R274) -/

/-- The field reader of a slot as an IN block with MODE LATEST. -/
def Block.slotCfg (b : Block) (k : Nat) : BlkCfg :=
  { ty := 0x01, fm0 := 4 * b2n (bit (b.get (R.SOL_INk_SRC_TYPE k)) 2) + b.get (R.SOL_INk_SRC_TYPE k) % 4 + 8 * b.get (R.SOL_INk_CFG_F_IN k), fm1 := 0, init := 0, confMin := 1, up := 255, down := 255, staleOk := true
    ps := [b.get (R.SOL_INk_SRC_STREAM k), b.get (R.SOL_INk_SRC_OFFSET k) + 4096 * b.get (R.SOL_INk_SRC_TYPE k) + 65536 * b.get (R.SOL_INk_CFG_F_IN k), 0xFFFF, 0, max 1 (b.get (R.SOL_INk_CFG_MAX_AGE k)), b.get (R.SOL_INk_CFG_DISCARD k), 0] }

def SolSlot.toInst (x : SolSlot) : LoopInst := { id := 0, y0 := x.sig, init := false, slot := x.slot, lastSeq := x.lastSeq, pass := x.pass, age := x.age, seen := x.seen }
def SolSlot.ofInst (t : LoopInst) : SolSlot := { sig := t.y0, slot := t.slot, lastSeq := t.lastSeq, pass := t.pass, age := t.age, seen := t.seen }

/-- A slot latches at a cycle start. -/
def Block.solLatch (b : Block) (k : Nat) : Block :=
  let c := b.slotCfg k
  if b.get (R.SOL_INk_SRC_STREAM k) = 0 then b
  else
    let o := c.latch b.now (b.solver.slots.getD k {}).toInst
    let b := b.modSol fun s => { s with slots := updAt s.slots k fun _ => SolSlot.ofInst o.inst }
    let y := o.inst.y0
    (((b.set (R.SOL_INk_STAT_CONF k) y.conf).setB (R.SOL_INk_STAT_VALID k) y.valid).setB (R.SOL_INk_STAT_STALE k) (y.stale || !o.inst.seen)).setB (R.SOL_INk_STAT_AGED k) (decide (c.pu 4 ≤ o.inst.age))

/-- A packet of a routed stream enters every slot of its stream. -/
def Block.solPacket (b : Block) (p : Packet) : Block :=
  b.each 64 fun k b =>
    if b.get (R.SOL_INk_SRC_STREAM k) = 0 || b.get (R.SOL_INk_SRC_STREAM k) ≠ p.stream || p.error then b
    else
      let (t, seqErr) := (b.slotCfg k).arrive p b.now (b.solver.slots.getD k {}).toInst
      (b.modSol fun s => { s with slots := updAt s.slots k fun _ => SolSlot.ofInst t }).when seqErr fun b => b.set (R.SOL_INk_STAT_SEQ_ERR k) 1

/-- The signal of the first slot with a role and an index, as latched. -/
def Block.solIn (b : Block) (role index : Nat) : Option Sig :=
  (((List.range 64).find? fun k => b.get (R.SOL_INk_SRC_STREAM k) != 0 && b.get (R.SOL_INk_CFG_ROLE k) == role && (decide (3 ≤ role ∧ role ≤ 5) || b.get (R.SOL_INk_CFG_INDEX k) == index)).map
    fun k => (b.solver.slots.getD k {}).sig)

/-- Usable under R258 with the reset values of CONF_MIN and STALE_OK (log entry 60). -/
def Sig.usable (x : Sig) : Bool := x.valid && !x.masked && decide (1 ≤ x.conf)
def Block.solUse (b : Block) (role index : Nat) : Option Sig := (b.solIn role index).filter (·.usable)

/-- An input in the format of a variable. -/
def Block.solVarIn (b : Block) (role i : Nat) : Option Int := (b.solUse role i).map fun x => fmtSat (b.varFmt i) (x.align (fmtF (b.varFmt i)))

/-! ## Boxes and fixings (R276, R277) -/

/-- A speed of 0.1 km/h in the format of a variable. -/
def Block.speedRaw (b : Block) (i v : Nat) : Int := fmtSat (b.varFmt i) ((v * 2 ^ fmtF (b.varFmt i) / 10 : Nat) : Int)

/-- The mode upper limit of a variable: of MF27 the degraded limit while DEGRADED acts and the road limit while ROAD acts, and 0 in ROAD while a jog runs or REPLAY acts (Table 4.5). No mode sets a lower limit. -/
def Block.modeUpper (b : Block) (i : Nat) : Option Int :=
  let p := b.mode.policy
  let caps := (if b.acting 0 then [p.degSpeed] else []) ++ (if b.acting 3 then [p.roadSpeed] else []) ++
    (if b.bitOf R.MODE_ACTIVE_FLAGS 3 && (!b.mode.jogs.isEmpty || b.acting 1) then [0] else [])
  if b.get (R.SOL_VARi_CFG_MF i) ≠ 27 then none
  else match caps with
    | [] => none
    | c :: l => some (b.speedRaw i (l.foldl min c))

/-- Effective bounds of a variable before the move limit, and BOUND_CONFLICT. -/
def Block.solBounds (b : Block) (i : Nat) : Int × Int × Bool :=
  let lo0 := max (asFmt (b.varFmt i) (b.get (R.SOL_VARi_LO_LO i))) (b.opBound i false)
  let hi0 := min (asFmt (b.varFmt i) (b.get (R.SOL_VARi_HI_HI i))) (b.opBound i true)
  let up := fun (x : Int) (o : Option Int) => match o with | some y => max x y | none => x
  let dn := fun (x : Int) (o : Option Int) => match o with | some y => min x y | none => x
  let lo1 := lo0
  let hi1 := dn hi0 (b.modeUpper i)
  let lo2 := up lo1 (b.solVarIn 7 i)
  let hi2 := dn hi1 (b.solVarIn 8 i)
  if lo2 ≤ hi2 then (lo2, hi2, false)
  else if lo1 ≤ hi1 then (lo1, hi1, true)
  else match b.modeUpper i with
    | some u => if u < lo1 then (u, u, true) else (lo1, lo1, true)
    | none => (lo1, lo1, true)

/-- The controlled-stop deceleration of MODE_POLICY in mm/s²: 0.5 to 3.0 m/s² (R89). -/
def Block.stopDecel (b : Block) : Nat := max 500 (min 3000 b.mode.policy.decel)

/-- The ramp of a controlled stop now (R89): the MF27 setpoint at its begin less that deceleration, down to 0, rounded down in magnitude (log entry 140). -/
def Block.rampValue (b : Block) (i : Nat) : Int :=
  let cut : Int := (b.stopDecel * 36 * 2 ^ fmtF (b.varFmt i) * (b.now - b.mode.stopAt) / 10 ^ 13 : Nat)
  if b.mode.stopFrom < 0 then min 0 (b.mode.stopFrom + cut) else max 0 (b.mode.stopFrom - cut)

/-- The path of a variable's actuator or feedback crosses a lost part. -/
def Block.varCrosses (b : Block) (i : Nat) : Bool := (b.mode.policy.varPaths.getD i []).any b.partLost

/-- The first row of Table 12.2 that fixes a variable, and the value; row 0 where a controlled stop holds the last setting (R89). -/
def Block.solFix (b : Block) (pub : SolverPub) (i : Nat) : Option (Nat × Int) :=
  let mf := b.get (R.SOL_VARi_CFG_MF i)
  let mf21 := pub.discrete.getD 2 0 != 0
  if b.acting 0 && b.varCrosses i then some (1, b.solver.sent.getD i 0)
  else if b.mode.stopping then some (if mf = 27 then (2, b.rampValue i) else (0, b.solver.sent.getD i 0))
  else
    if mf = 7 && pub.reverse then some (3, 0)
    else match (if b.acting 7 then pub.unload else none), mf with
    | some v, 20 => some (4, v.1)
    | some v, 22 => some (4, v.2)
    | _, _ =>
      match (if b.acting 6 && b.acting 8 && decide (1 ≤ mf ∧ mf ≤ 7) then pub.reentry[mf - 1]? else none) with
      | some v => some (5, v)
      | none =>
        if b.acting 7 && mf21 && mf == 29 then some (6, b.solver.mf29)
        else if b.use (R.SOL_VARi_FIX_EN i) = 1 then some (7, b.varRaw i (R.SOL_VARi_FIXVAL_VALUE i)) else none

/-- MF21 starts: the value last sent for MF29 is kept (Table 12.2). -/
def Block.keepFill (b : Block) (pub : SolverPub) : Block :=
  match (List.range b.solVars).find? fun i => b.get (R.SOL_VARi_CFG_MF i) == 29 with
  | some i => b.when (b.solver.discrete.getD 2 0 == 0 && pub.discrete.getD 2 0 != 0) (·.modSol fun s => { s with mf29 := s.sent.getD i 0 })
  | none => b

/-! ## Measures, feed-forward and estimators (R279, R282, R288 to R291) -/

/-- Combined confidence of the feed-forward ratios. -/
def Block.ffConf (b : Block) : Nat := max b.solver.rMap.conf b.solver.rH.conf

/-- One feed-forward ratio at a cycle start. -/
def ffRatio (inp : Option Sig) (old : Sig) (down : Nat) : Sig :=
  match inp with
  | some x => x
  | none => { old with conf := old.conf - down }

/-- The real value of a signal. -/
def Sig.real (x : Sig) : Rat := (x.raw : Rat) / ((2 ^ x.f : Nat) : Rat)

/-- ρ_ff of R282. Where its weights cancel it follows from the open RATIO. -/
def Block.ffRho (b : Block) : Rat :=
  let m := b.solver.rMap
  let h := b.solver.rH
  let al : Int := b.use R.SOL_FF_ALPHA
  let den : Int := al * m.conf + (255 - al) * h.conf
  if m.conf = 0 && h.conf = 0 then 1
  else if den = 0 then (b.get R.SOL_FF_STAT_RATIO : Rat) / 4096
  else (((al * m.conf : Int) : Rat) * m.real + (((255 - al) * h.conf : Int) : Rat) * h.real) / (den : Rat)

/-- Feed-forward at a cycle start: ratios, confidences, RATIO, the latched feed rate and the present density. -/
def Block.solFf (b : Block) : Block :=
  let down := b.use R.SOL_FF_FF_DOWN
  let m := ffRatio (b.solUse 4 0) b.solver.rMap down
  let h := ffRatio (b.solUse 5 0) b.solver.rH down
  let b := b.modSol fun s => { s with rMap := m, rH := h, feed := (b.solUse 3 0).getD s.feed }
  let al := b.use R.SOL_FF_ALPHA
  let b := (b.set R.SOL_FF_STAT_C_MAP m.conf).set R.SOL_FF_STAT_C_H h.conf
  let b := if !(m.conf = 0 && h.conf = 0) && al * m.conf + (255 - al) * h.conf == 0 then b.setOpen R.SOL_FF_STAT_RATIO
    else b.set R.SOL_FF_STAT_RATIO (satU 16 (openRound (4096 * b.ffRho)))
  match b.solUse 3 0, b.solUse 1 (b.get R.SOL_FEED_FEED_VAR) with
  | some q, some x => if 5 * (2 ^ x.f : Nat) ≤ 10 * x.raw && b.get R.SOL_FEED_WIDTH_CM != 0 then b.modSol fun s => { s with density := (q, x, b.get R.SOL_FEED_WIDTH_CM) } else b
  | _, _ => b

/-- q̂(x) in kg/s for each km/h of MF27: δ̂ × W / 3.6, from the present density 3.6 q / (W × v_cur) (R279, R282). -/
def Block.feedSlope (b : Block) : Rat :=
  let (q, v, w) := b.solver.density
  q.real / v.real * ((b.get R.SOL_FEED_WIDTH_CM : Rat) / (w : Rat)) * b.ffRho

/-- Measure m at a cycle start: c_m and the held value. -/
def Block.solMeasure (b : Block) (m : Nat) : Block :=
  let feed := b.flag (R.SOL_MEASm_CFG_TYPE m)
  let fm := b.get (R.SOL_MEASm_CFG_FMT m)
  let t := b.solver.meas.getD m {}
  let t := match (if feed then b.solUse 3 0 else b.solUse 2 m) with
    | some x => { t with conf := x.conf, y := fmtSat fm (x.align (fmtF fm)) }
    | none => { t with conf := t.conf - b.use R.SOL_HOLD_MEAS_DOWN }
  let c := if feed then (if b.get R.SOL_FEED_WIDTH_CM = 0 then 0 else min t.conf b.ffConf) else t.conf
  (b.set (R.SOL_MEASm_STATE_C m) c).modSol fun s => { s with meas := updAt s.meas m fun _ => t }

/-- Regressor variables of a measure, in order, at most 8. -/
def Block.regressors (b : Block) (m : Nat) : List Nat := ((List.range 32).filter fun i => b.bitOf (R.SOL_MEASm_MASK_MASK m) i).take 8

/-- Places of the regressors in use among the 9 values of θ: the variables of MASK, then the feed rate at 8. -/
def Block.places (b : Block) (m : Nat) : List Nat := List.range (b.regressors m).length ++ (if b.flag (R.SOL_MEASm_CFG_FEED_REG m) then [8] else [])

/-- Place of P[r, c] among the 45 values of its upper triangle. -/
def covAt (r c : Nat) : Nat := let i := min r c; 9 * i - i * (i - 1) / 2 + (max r c - i)
def SolMeas.cov2 (t : SolMeas) (r c : Nat) : Rat := f64To (t.cov.getD (covAt r c) 0)
def SolMeas.est (t : SolMeas) (k : Nat) : Rat := f64To (t.theta.getD k 0)

/-- Trace of P over the regressors in use. -/
def Block.solTrace (b : Block) (m : Nat) (t : SolMeas) : Rat := (b.places m).foldl (fun s k => s + t.cov2 k k) 0

/-- c_est of R290; a trace that is not positive gives it no value. -/
def Block.estConf (b : Block) (m : Nat) (t : SolMeas) : Nat :=
  let tr := b.solTrace m t
  if tr ≤ 0 then (Config.freeReal 1203 [b.solver.problem.pRef, (b.places m).length] % 256).toNat
  else min 255 (255 * f64To b.solver.problem.pRef / (tr / ((b.places m).length : Rat))).floor.toNat

/-- The sensitivities in use, in measure LSB per variable LSB and, at 8, per kg/s of feed: the blend of R290. -/
def Block.sens (b : Block) (m k : Nat) : Rat :=
  let t := b.solver.meas.getD m {}
  ((t.cEst : Rat) * t.est k + (255 - (t.cEst : Rat)) * f64To ((b.solver.problem.prior.getD m []).getD k 0)) / 255

/-- The registers show the sensitivities in use and c_est. -/
def Block.showSens (b : Block) (m : Nat) : Block :=
  let sh := fun (k : Nat) => lowBits 32 (satS 32 (openRound (65536 * b.sens m k)))
  let b := b.set (R.SOL_MEASm_STATE_C_EST m) (b.solver.meas.getD m {}).cEst
  let b := (b.regressors m).length.fold (fun k _ b => b.set (R.SOL_MEASm_Sk_S m k) (sh k)) b
  b.set (R.SOL_MEASm_SQ_SQ m) (if b.flag (R.SOL_MEASm_CFG_FEED_REG m) then sh 8 else 0)

/-- Estimator reset: θ = s_prior and P = P_INIT × I (R291). -/
def Block.estReset (b : Block) (m : Nat) : Block :=
  let pr := b.solver.problem
  let b := b.modSol fun s => { s with resetCp := true, meas := updAt s.meas m fun t =>
    let t := { t with theta := pr.prior.getD m [], cov := (List.range 9).flatMap fun r => (List.range (9 - r)).map fun c => if c = 0 then pr.pInit else 0 }
    { t with cEst := b.estConf m t } }
  ((b.inc R.SOL_CNT_MODEL_RESETS).set (R.SOL_MEASm_STATE_UPDATES m) 0).showSens m

/-- CUR of a variable, the feed rate and a measure as latched some cycles ago; a history too short gives the oldest it holds. -/
def Solver.at_ (s : Solver) (k : Nat) : SolLatch := s.hist.getD (min k (s.hist.length - 1)) {}
def SolLatch.curAt (l : SolLatch) (i : Nat) : Int := (l.cur.getD i (0, false)).1
def SolLatch.measAt (l : SolLatch) (m : Nat) : Int := (l.meas.getD m (0, false)).1

/-- The regressor φ of an update over the places in use (R288). -/
def Block.regressor (b : Block) (m : Nat) : List Rat :=
  let d := b.get (R.SOL_MEASm_CFG_DELAY m)
  let now := b.solver.at_ d
  let old := b.solver.at_ (d + 1)
  (b.places m).map fun k => if k = 8 then now.q.1.real - old.q.1.real else let i := (b.regressors m).getD k 0; ((now.curAt i - old.curAt i : Int) : Rat)

/-- Whether the inputs of an update were usable at the four cycles R289 names, and a regressor moved enough. -/
def Block.estReady (b : Block) (m : Nat) : Bool :=
  let d := b.get (R.SOL_MEASm_CFG_DELAY m)
  let h := b.solver.hist
  let vars := b.regressors m
  let ok := fun (k : Nat) => match h[k]? with
    | some l => (l.meas.getD m (0, false)).2 && vars.all (fun i => (l.cur.getD i (0, false)).2) && (!b.flag (R.SOL_MEASm_CFG_FEED_REG m) || l.q.2)
    | none => false
  let moved := fun (i : Nat) => ((b.solver.at_ d).curAt i - (b.solver.at_ (d + 1)).curAt i).natAbs
  ok 0 && ok 1 && ok d && ok (d + 1) && vars.any fun i => decide (b.use (R.SOL_MEASm_EST_EXC m) * max 1 (b.varRaw i (R.SOL_VARi_MOVE_M i)).toNat ≤ 256 * moved i)

/-- Unit N of a measure. -/
def Block.measUnit (b : Block) (m : Nat) : Int :=
  let n := asFmt (b.get (R.SOL_MEASm_CFG_FMT m)) (b.use (R.SOL_MEASm_NORM_N m))
  if n = 0 then 1 else n

/-- θ and P after an update with innovation e (R288): the clamp to S_LO and S_HI, and the trace at most k × P_INIT. -/
def Block.estUpdate (b : Block) (m : Nat) (e : Rat) (t : SolMeas) : SolMeas :=
  let pr := b.solver.problem
  let ks := b.places m
  let phi := b.regressor m
  let lam : Rat := (b.use (R.SOL_MEASm_EST_FORGET m) : Rat) / 65536
  let pphi := ks.map fun r => dot (ks.map fun c => t.cov2 r c) phi
  let den := lam + dot phi pphi
  let gain := pphi.map (· / den)
  let limit := fun (k : Nat) (x : Rat) => max (f64To ((pr.sLo.getD m []).getD k 0)) (min (f64To ((pr.sHi.getD m []).getD k 0)) x)
  let place := fun (k : Nat) => ks.findIdx? (· == k)
  let p := fun (i j : Nat) => (t.cov2 (ks.getD i 0) (ks.getD j 0) - gain.getD i 0 * pphi.getD j 0) / lam
  let tr := (List.range ks.length).foldl (fun s i => s + p i i) 0
  let cap := (ks.length : Rat) * f64To pr.pInit
  let sc := if cap < tr then cap / tr else 1
  let t := { t with
    theta := (List.range 9).map fun k => match place k with
      | some i => openWord (limit k (t.est k + gain.getD i 0 * e))
      | none => t.theta.getD k 0
    cov := (List.range 9).flatMap fun r => (List.range (9 - r)).map fun c => match place r, place (r + c) with
      | some i, some j => openWord (sc * p i j)
      | _, _ => t.cov.getD (covAt r (r + c)) 0 }
  { t with cEst := b.estConf m t }

/-- Estimator of a TYPE 0 measure at a cycle: nothing, an outlier counted, or an update (R288, R289). -/
def Block.estimate (b : Block) (m : Nat) : Block :=
  if !b.estReady m then b
  else
    let t := b.solver.meas.getD m {}
    let dy : Int := (b.solver.at_ 0).measAt m - (b.solver.at_ 1).measAt m
    let e := (dy : Rat) - dot (b.regressor m) ((b.places m).map t.est)
    if ((b.use (R.SOL_MEASm_EST_OUTLIER m) * (b.measUnit m).natAbs : Nat) : Rat) < 16 * max e (-e) then b.inc R.SOL_CNT_MODEL_OUTLIERS
    else (b.modSol fun s => { s with meas := updAt s.meas m (b.estUpdate m e) }).inc (R.SOL_MEASm_STATE_UPDATES m)

/-- A checkpoint that replays loads θ and P into the estimator copy (R295). -/
def Block.solLoadCp (b : Block) (p : Packet) : Block :=
  if p.kind == .sample && p.replay && p.origin == solOrigin && p.data.length == 3472 && b.acting 1 then
    let word := fun (k : Nat) => (List.range 8).foldr (fun j v => p.data.getD (16 + 8 * k + j) 0 + 256 * v) 0
    b.modSol fun s => { s with live := s.live <|> some s.meas, meas := (List.range 8).map fun m =>
      let t := { s.meas.getD m {} with theta := (List.range 9).map fun k => word (54 * m + k), cov := (List.range 45).map fun k => word (54 * m + 9 + k) }
      { t with cEst := b.estConf m t } }
  else b

def execSolverInputPacket (p : Packet) (s : State) : Result := s.go fun b => if b.heard p then (b.solPacket p).solLoadCp p else b

/-! ## The problem (R276 to R281, R284) -/

/-- ŷ_m(x) in LSB of the measure: its value at x = 0 and its coefficients over the variables, in LSB of each (R279). -/
def Block.predict (b : Block) (m : Nat) : Rat × List Rat :=
  let n := b.solVars
  let s := b.solver
  let v := b.get R.SOL_FEED_FEED_VAR
  let slope : Rat := if b.get R.SOL_FEED_WIDTH_CM = 0 then 0 else b.feedSlope / ((2 ^ fmtF (b.varFmt v) : Nat) : Rat)
  if b.flag (R.SOL_MEASm_CFG_TYPE m) then
    let one : Rat := ((2 ^ fmtF (b.get (R.SOL_MEASm_CFG_FMT m)) : Nat) : Rat)
    (if b.get R.SOL_FEED_WIDTH_CM = 0 then one * s.feed.real else 0, (List.range n).map fun i => if i = v then one * slope else 0)
  else
    let l := s.at_ (b.get (R.SOL_MEASm_CFG_DELAY m))
    let vars := b.regressors m
    let sq : Rat := if b.flag (R.SOL_MEASm_CFG_FEED_REG m) && b.get R.SOL_FEED_WIDTH_CM != 0 then b.sens m 8 else 0
    let base := (List.range vars.length).foldl (fun y k => y - b.sens m k * (l.curAt (vars.getD k 0) : Rat)) (((s.meas.getD m {}).y : Rat) - sq * s.feed.real)
    (base, (List.range n).map fun i => (match vars.findIdx? (· == i) with | some k => b.sens m k | none => 0) + (if i = v then sq * slope else 0))

/-- ω_m of R280. -/
def Block.measWeight (b : Block) (m : Nat) : Rat :=
  (signed 16 (b.use (R.SOL_MEASm_W_W m)) : Rat) / 256 * octaves (signed 8 (b.use (R.SOL_MEASm_W_OPS m))) * (b.get (R.SOL_MEASm_STATE_C m) : Rat) / 255

/-- Coefficient a_j,i of a row of KIND 0. -/
def rowCoef (j i : Nat) : Fld := ⟨0x43810000 + 0x80 * j + 4 * i, 0, 32, 0⟩

/-- Row j with μ_rank / U_j (R281, R284). -/
def Block.solRow (b : Block) (j : Nat) : QpRow :=
  let m := b.get (R.SOL_ROWj_CFG_MEAS j)
  let rhs : Rat := ((b.solver.rowB.getD j none).getD (signed 32 (b.use (R.SOL_ROWj_B_B j))) : Int)
  let u : Rat := (max 1 (b.use (R.SOL_ROWj_NORM_U j)) : Nat)
  let rank := b.get (R.SOL_ROWj_CFG_RANK j)
  let mu := f64To b.solver.problem.mu * pow2 (if rank = 0 then 64 else 8 * (7 - (rank : Int)))
  let (a, r) := match b.get (R.SOL_ROWj_CFG_KIND j) with
    | 0 => ((List.range b.solVars).map fun i => (signed 32 (b.get (rowCoef j i)) : Rat) / 65536, rhs)
    | 1 => let (y, s) := b.predict m; (s, rhs - y)
    | _ => let (y, s) := b.predict m; (s.map (- ·), y - rhs)
  { id := j, a := a, rhs := r, pen := mu / u, unit := u }

/-- Rows present: EN set. -/
def Block.rowsOn (b : Block) : List Nat := (List.range b.solRows).filter fun j => b.use (R.SOL_ROWj_CFG_EN j) == 1

/-- The problem of the cycle in progress, Φ of R284. -/
def Block.solQp (b : Block) : Qp :=
  let n := b.solVars
  let s := b.solver
  let m2 := fun (i : Nat) => let m : Rat := (max 1 (b.varRaw i (R.SOL_VARi_MOVE_M i)) : Int); m * m
  let rho := fun (i : Nat) => ((max 1 (b.use (R.SOL_VARi_W_RHO i)) : Nat) : Rat) / 256
  let kap := fun (i : Nat) => (b.use (R.SOL_VARi_W_KAPPA i) : Rat) / 256
  let meas := ((List.range b.solMeas).map fun m =>
    let (y, c) := b.predict m
    let w := b.measWeight m
    let un : Rat := b.measUnit m
    if b.flag (R.SOL_MEASm_CFG_KIND m) then
      let tau : Rat := asFmt (b.get (R.SOL_MEASm_CFG_FMT m)) (b.use (R.SOL_MEASm_TARGET_TAU m))
      (c, 2 * w / (un * un), 2 * w * (y - tau) / (un * un))
    else (c, 0, w / un))
  { n := n
    lo := s.lo.map fun (x : Int) => (x : Rat)
    hi := s.hi.map fun (x : Int) => (x : Rat)
    hess := (List.range n).map fun i =>
      meas.foldl (fun v e => axpy (e.2.1 * e.1.getD i 0) e.1 v) ((List.range n).map fun j => if i = j then 2 * (rho i + kap i) / m2 i else 0)
    grad := meas.foldl (fun v e => axpy e.2.2 e.1 v) ((List.range n).map fun i =>
      -(2 * (rho i * (s.anchor.getD i 0 : Rat) + kap i * (b.varRaw i (R.SOL_VARi_REF_REF i) : Rat)) / m2 i))
    rows := b.rowsOn.map b.solRow }

/-- A component of the solution in FMT (R255). Within 2^-16 LSB of a tie the binary64 result may round either way. -/
def solRound (x : Rat) : Int :=
  let f := x.floor
  let g := x - (f : Rat) - 1 / 2
  if -(pow2 (-16)) < g && g < pow2 (-16) then f + (if Config.roundsUp x.num x.den then 1 else 0)
  else if g < 0 then f else f + 1

/-! ## A cycle (R273 to R275) -/

/-- HARVEST is ACTING and ROAD does not suppress it. -/
def Block.solRuns (b : Block) : Bool := b.modeState 8 == 2 && !b.bitOf R.MODE_ACTIVE_FLAGS 3

/-- c_w of R293. -/
def Block.solCw (b : Block) : Nat :=
  let ms := (List.range b.solMeas).filter fun m => b.use (R.SOL_MEASm_W_W m) != 0
  let w := fun m => ((signed 16 (b.use (R.SOL_MEASm_W_W m))).natAbs : Rat) * octaves (signed 8 (b.use (R.SOL_MEASm_W_OPS m)))
  if ms.isEmpty then 255
  else ((ms.foldl (fun t m => t + w m * (b.get (R.SOL_MEASm_STATE_C m) : Rat)) 0) / (ms.foldl (fun t m => t + w m) 0)).floor.toNat

/-- Payload of a result (Table 12.4): header values and one VALUE entry per variable. -/
def Block.solPayload (b : Block) (r : SolResult) (held : Bool) : List Nat :=
  le 4 r.rseq ++ [r.status, r.flags, r.iter, r.rank] ++ le 2 r.time ++ [r.active, r.violated] ++ le 4 b.solver.fixed ++
    (List.range b.solVars).flatMap fun i =>
      valueEntry { raw := r.x.getD i 0, f := fmtF (b.varFmt i), conf := r.conf, valid := r.conf != 0, stale := held || bit b.solver.heldVars i, replay := b.solver.replayIn } (b.varFmt i)

/-- Send a completed result with its solution `xr` in raw units, or keep a skipped one until the buffer frees, and none while one is kept already (R297); then the decision record and a checkpoint that is due (Table 12.5, R295). -/
def Block.solSend (b : Block) (r : SolResult) (xr : List Rat) (held : Bool) (busy : Bool) : Block :=
  let stamp := stampOf (b.solver.startM.getD 0)
  let p : Option Packet := (b.route? solOrigin 0).map fun st =>
    { kind := .sample, stream := st, origin := solOrigin, conf := r.conf, valid := r.conf != 0, stale := held, replay := b.solver.replayIn, stamp := stamp, data := b.solPayload r held }
  let b := b.modSol fun s => { s with last := r }
  let b := if busy then b.modSol fun s => { s with waiting := s.waiting <|> p }
    else match p with | some q => b.post q | none => b
  let words := fun (l : List Rat) => l.flatMap fun x => le 8 (openWord x)
  let sens := (List.range 8).flatMap fun m => (List.range 9).map fun k => if m < b.solMeas && !b.flag (R.SOL_MEASm_CFG_TYPE m) && (b.places m).contains k then b.sens m k else 0
  let xs := (List.range 32).map fun i => if i < b.solVars then (if held then (r.x.getD i 0 : Rat) else xr.getD i 0) / ((2 ^ fmtF (b.varFmt i) : Nat) : Rat) else 0
  let slots := (List.range 64).flatMap fun k => valueEntry (b.solver.slots.getD k {}).sig (b.slotCfg k).fm0
  let head := (b.solPayload r held).take 16
  let b := b.sample solOrigin 1 (head ++ slots ++ words sens ++ words xs) r.conf (r.conf != 0) (some stamp) held false b.solver.replayIn
  if b.solver.sinceCp + 1 < 100 && !b.solver.resetCp then b.modSol fun s => { s with sinceCp := s.sinceCp + 1 }
  else
    let fill := fun (n : Nat) (l : List Nat) => (List.range n).flatMap fun k => le 8 (l.getD k 0)
    let body := (List.range 8).flatMap fun m => let t := b.solver.meas.getD m {}; fill 9 t.theta ++ fill 45 t.cov
    (b.sample solOrigin 1 (head ++ body) r.conf (r.conf != 0) (some stamp) held false b.solver.replayIn).modSol fun s => { s with sinceCp := 0, resetCp := false }

/-- A skipped cycle (R297): counted, announced; its result carries the last values and status 5, and sends no packet while an earlier one still waits (`solSend`). -/
def Block.solSkip (b : Block) (busy : Bool) : Block :=
  let b := ((b.inc R.SOL_CNT_B_SKIPPED).set R.FAB_EDGE_SUMMARY_SOLVER_SKIP 1).event solOrigin R.FAB_EDGE_SUMMARY_SOLVER_SKIP.addr 3
  let s := b.solver
  let r := { s.last with status := 5, flags := s.flags, iter := 0, rank := 0, active := 0, violated := 0, rseq := s.rseq, time := b.open_ % 65536, conf := s.last.conf - b.use R.SOL_HOLD_HOLD_DOWN, x := s.sent }
  ((b.spend.set R.SOL_RES_STAT_STALE 0).solSend r [] true busy).set R.SOL_STATUS_STATE solWAITING

/-- The previous result still waits for a lane (R297). -/
def Block.solHeld (b : Block) : Bool := b.fab.held.any fun h => h.up && h.packet.origin == solOrigin && b.route? solOrigin 0 == some h.packet.stream

/-- A 100 ms boundary: a cycle starts and latches its inputs, boxes, measures and estimators. -/
def Block.solCycle (b : Block) (pub : SolverPub) : Block :=
  if b.solState = solSTOPPED || b.solState = solSOLVING then b
  else
    let s := b.solver
    let lo := if s.realign then b.sys.mtime + (s.startE + 50 * ms - b.now) else max b.sys.mtime ((s.startM.map (· + 1)).getD 0)
    let at_ := (lo + 100 * ms - 1) / (100 * ms) * (100 * ms)
    let b := b.toModule at_
    let replay := b.acting 1
    let b := if replay && s.live.isNone then b.modSol fun s => { s with live := some s.meas }
      else if !replay then match s.live with | some l => b.modSol fun s => { s with live := none, meas := l } | none => b
      else b
    let b := b.modSol fun s => { s with startM := some at_, startE := b.now, realign := false }
    if !b.solRuns then (b.set R.SOL_STATUS_STATE solIDLE).modSol fun s => { s with harvest := false, replay := replay, hist := [] }
    else
      let cold := s.cold || !s.harvest || (s.replay && !replay)
      let b := b.modSol fun s => { s with cold := false, work := if cold then [] else s.work, workRows := if cold then [] else s.workRows, harvest := true, replay := replay, rseq := (s.rseq + 1) % 2 ^ 32 }
      let b := ((b.boundary 0x43800000 0x43840000).each 64 fun k b => b.solLatch k).keepFill pub
      let n := b.solVars
      let busy := pub.busy || b.solver.waiting.isSome || b.solHeld
      let skip := busy || pub.late
      let anchor := fun i => if cold then (b.solVarIn 1 i).getD (b.varRaw i (R.SOL_VARi_REF_REF i)) else b.solver.sent.getD i 0
      let box := (List.range n).map fun i =>
        let (l, u, bc) := b.solBounds i
        match b.solFix pub i with
        | some (src, v) => (v, v, bc, src)
        | none =>
          let p := anchor i
          let mv := max 1 (b.varRaw i (R.SOL_VARi_MOVE_M i))
          (clampI (p - mv) (p + mv) l, clampI (p - mv) (p + mv) u, bc, 0)
      let b := b.each n fun i b => (b.setB (R.SOL_VARi_STATE_FIXED i) ((box.getD i (0, 0, false, 0)).2.2.2 != 0)).set (R.SOL_VARi_STATE_FIX_SRC i) (box.getD i (0, 0, false, 0)).2.2.2
      let mask := fun (p : Int × Int × Bool × Nat → Bool) => (List.range n).foldl (fun a i => a + if p (box.getD i (0, 0, false, 0)) then 2 ^ i else 0) 0
      let b := b.solFf.each b.solMeas fun m b => b.solMeasure m
      let b := b.modSol fun s => { s with rowB := (List.range 96).map fun j =>
        ((b.solUse 6 j).map fun x => if b.get (R.SOL_ROWj_CFG_KIND j) = 0 then x.raw else x.align (fmtF (b.get (R.SOL_MEASm_CFG_FMT (b.get (R.SOL_ROWj_CFG_MEAS j)))))) <|> s.rowB.getD j none }
      let latch : SolLatch := {
        cur := (List.range n).map fun i => match b.solVarIn 1 i with
          | some v => (v, true)
          | none => (if b.solver.hist.isEmpty then b.varRaw i (R.SOL_VARi_REF_REF i) else (b.solver.at_ 0).curAt i, false)
        q := (b.solver.feed, (b.solUse 3 0).isSome)
        meas := (List.range 8).map fun m => ((b.solver.meas.getD m {}).y, (b.solUse 2 m).isSome) }
      let old := b.solver.discrete
      let b := b.modSol fun s => { s with hist := (latch :: s.hist).take 52, discrete := pub.discrete }
      let b := b.each b.solMeas fun m b =>
        if b.flag (R.SOL_MEASm_CFG_TYPE m) then b
        else
          let b := if (List.range 4).any fun r => b.bitOf (R.SOL_MEASm_CFG_RESET_ON m) r && old.getD r 0 != pub.discrete.getD r 0 then b.estReset m
            else if skip then b else b.estimate m
          b.showSens m
      let est := (List.range b.solMeas).filter fun m => !b.flag (R.SOL_MEASm_CFG_TYPE m)
      let prior := decide ((est.map fun m => (b.solver.meas.getD m {}).cEst).sum < 128 * est.length)
      let ffLost := b.ffConf == 0 || b.get R.SOL_FEED_WIDTH_CM == 0
      let heldV := mask fun e => e.2.2.2 == 1
      let flags := 4 * b2n prior + 8 * b2n ffLost + 16 * b2n cold + 32 * b2n (heldV != 0) + 64 * b2n (box.any (·.2.2.1))
      let b := b.modSol fun s => { s with lo := box.map (·.1), hi := box.map (·.2.1), anchor := (List.range n).map anchor, fixed := mask fun e => e.2.2.2 != 0, heldVars := heldV, flags := flags
                                          replayIn := s.slots.any (·.sig.replay) }
      if skip then b.solSkip busy else (b.set R.SOL_STATUS_STATE solSOLVING).set R.SOL_RES_STAT_STALE 1

def execSolverCycle (pub : SolverPub) (s : State) : Result := s.go fun b => b.solCycle pub

/-- Times of R286 in µs: assembly and one iteration. -/
def Block.solAsUs (b : Block) : Nat := 600 + 50 * b.solVars + 5 * b.solRows + 100 * b.solMeas
def Block.solItUs (b : Block) : Nat := 20 + 8 * b.solVars + b.solRows

/-- Iterations that complete before the deadline, at most ITER_MAX (R286). -/
def Block.solIterCap (b : Block) : Nat := min (b.use R.SOL_CFG_ITER_MAX) ((1000 * b.use R.SOL_CFG_DEADLINE_MS - 300 - b.solAsUs) / b.solItUs)

/-- The solve of the cycle in progress: the method of R285 to convergence, ITER_MAX or the deadline. The last point, the iterations, and whether it converged. -/
def Block.solve (b : Block) : QpPt × Nat × Bool :=
  let q := b.solQp
  q.run b.solIterCap (q.start (b.solver.anchor.map fun (x : Int) => (x : Rat)) b.solver.work b.solver.workRows) 0

/-- A solve of this outcome stopped at its deadline (R286). -/
def Block.solByDeadline (b : Block) (converged : Bool) : Bool := !converged && decide (b.solIterCap < b.use R.SOL_CFG_ITER_MAX)

/-- The solve reaches its deadline and stops with the last iterate, where the iterations left do not fit before it (R286). -/
def execSolverDeadline (s : State) : Result := s.go fun b =>
  let o := b.solve
  if b.solState = solSOLVING && b.solByDeadline o.2.2 then b.reach (b.solver.startE + (b.solAsUs + o.2.1 * b.solItUs) * us) else b

/-- The solve ends, t after the cycle start (R286): status, confidence, flags, counters and packets follow (R287, R292, R293). -/
def Block.solResult (b : Block) : Block :=
  if b.solState ≠ solSOLVING then b
  else
    let s := b.solver
    let q := b.solQp
    let (p, iter, converged) := b.solve
    let b := b.reach (s.startE + (b.solAsUs + iter * b.solItUs + 300) * us)
    let excess := q.rows.map fun r => (r.id, r.viol p.x / r.unit)
    let viol := (excess.filter fun e => decide (pow2 (-20) < e.2)).map (·.1)
    let active := ((List.range q.rows.length).filter fun k => p.row.getD k 0 == 2).map fun k => (q.rowAt k).id
    let rank := fun j => b.get (R.SOL_ROWj_CFG_RANK j)
    let relaxed := (viol.map rank).filter (· != 0)
    let status : Nat := if viol.any fun j => rank j == 0 then 4 else if !converged then 2 else if viol.isEmpty then 1 else 3
    let byDeadline := b.solByDeadline converged
    let cw := b.solCw
    let held := status == 4
    let conf := if held then s.last.conf - b.use R.SOL_HOLD_HOLD_DOWN else if status = 2 then 3 * cw / 4 else cw
    let x := (List.range b.solVars).map fun i => clampI (s.lo.getD i 0) (s.hi.getD i 0) (solRound (p.x.getD i 0))
    let sent := if held then s.sent else x ++ s.sent.drop x.length
    let t := (b.solAsUs + iter * b.solItUs + 300) / 10
    let worst := (leastBy (fun (u v : Nat × Rat) => decide (v.2 < u.2)) excess).getD (0, 0)
    let r : SolResult := { status := status, flags := s.flags + b2n (status == 2 && !relaxed.isEmpty) + 2 * b2n byDeadline, iter := iter, rank := relaxed.foldl min (relaxed.headD 0), conf := conf, rseq := s.rseq, time := t
                           active := active.length, violated := viol.length, row := worst.1, viol := lowBits 24 (satS 24 (openRound (65536 * worst.2))), x := sent }
    let b := b.modSol fun s => { s with sent := sent, work := p.bnd, workRows := active }
    let b := b.each b.solVars fun i b => b.set (R.SOL_VARi_STATE_AT_BOUND i) (p.bnd.getD i 0)
    let b := b.each b.solRows fun j b => (b.setB (R.SOL_ROWj_STATE_ACTIVE j) (active.contains j)).setB (R.SOL_ROWj_STATE_VIOLATED j) (viol.contains j)
    let b := b.when (status == 2) (·.inc R.SOL_CNT_A_ITER_LIMIT) |>.when (status == 3) (·.inc R.SOL_CNT_A_RELAXED) |>.when (status == 4) (·.inc R.SOL_CNT_B_INFEASIBLE)
    let b := b.set R.SOL_MAX_T_T (max t (b.get R.SOL_MAX_T_T))
    let b := (b.set R.SOL_RES_STAT_STALE 0).solSend r p.x held false
    let b := b.set R.SOL_STATUS_STATE (if b.solver.stopping then solSTOPPED else if b.solRuns then solWAITING else solIDLE)
    (b.modSol fun s => { s with stopping := false }).when b.solver.stopping (·.quiesceDone solTarget)

def execSolverResult (s : State) : Result := s.go (·.solResult)

/-- The buffer frees and a skipped cycle's result leaves. -/
def execSolverSkipSend (s : State) : Result := s.go fun b =>
  match b.solver.waiting with
  | some p => (b.post p).modSol fun s => { s with waiting := none }
  | none => b

/-! ## Stop, start and reading -/

/-- STOP or QUIESCE: the cycle in progress completes first. -/
def Block.solStop (b : Block) (byStop : Bool) : Block :=
  if b.solState = solSTOPPED then b
  else
    let b := b.modSol fun s => { s with byStop := byStop }
    if b.solState = solSOLVING then b.modSol fun s => { s with stopping := true } else b.set R.SOL_STATUS_STATE solSTOPPED

/-- START: cold start, estimators at their priors, counters clear, streams restart. -/
def Block.solStart (b : Block) : Block :=
  let b := b.each 8 fun m b => if m < b.solMeas && !b.flag (R.SOL_MEASm_CFG_TYPE m) then b.estReset m else b
  let b := b.clear [R.SOL_CNT_A_ITER_LIMIT, R.SOL_CNT_A_RELAXED, R.SOL_CNT_B_INFEASIBLE, R.SOL_CNT_B_SKIPPED, R.SOL_CNT_MODEL_OUTLIERS, R.SOL_CNT_MODEL_RESETS, R.SOL_MAX_T_T]
  let b := b.resync fun o => oIsland o == 2 && oCell o == 1
  (b.set R.SOL_STATUS_STATE solIDLE).modSol fun s => { s with cold := true, rseq := 0, byStop := false, stopping := false, startM := none, hist := [], sinceCp := 0, live := none }

/-- The solver cannot answer a control bit. -/
def Block.solRefusal (b : Block) : Option Nat :=
  b.unitRefusal solTarget

def execSolStop (s : State) : Result := s.ask s.blk.solRefusal (·.solStop true)

def execSolStart (s : State) : Result := s.ask s.blk.solRefusal fun b => if b.solState = solSTOPPED && b.solver.byStop then b.solStart else b

def execSolCold (s : State) : Result := s.ask s.blk.solRefusal fun b => b.modSol fun s => { s with cold := true }

def execSolClrCnt (s : State) : Result := s.ask s.blk.solRefusal fun b =>
  b.clear [R.SOL_CNT_A_ITER_LIMIT, R.SOL_CNT_A_RELAXED, R.SOL_CNT_B_INFEASIBLE, R.SOL_CNT_B_SKIPPED, R.SOL_CNT_MODEL_OUTLIERS, R.SOL_CNT_MODEL_RESETS, R.SOL_MAX_T_T]

/-- A read of SOL_RES_STAT shows and latches the last completed result (R296). -/
def Block.solResLatch (b : Block) : Block :=
  let r := b.solver.last
  let b := ((((b.set R.SOL_RES_STAT_STATUS r.status).set R.SOL_RES_STAT_FLAGS r.flags).set R.SOL_RES_STAT_ITER r.iter).set R.SOL_RES_STAT_RANK r.rank).set R.SOL_RES_STAT_CONF r.conf
  let b := (((b.set R.SOL_RES_SEQ_RSEQ r.rseq).set R.SOL_RES_TIME_T r.time).set R.SOL_RES_TIME_ACTIVE r.active).set R.SOL_RES_TIME_VIOLATED r.violated
  let b := (b.set R.SOL_RES_VIOL_ROW r.row).set R.SOL_RES_VIOL_V r.viol
  b.each 32 fun i b => b.set (R.SOL_RES_Xi_VALUE i) (lowBits 32 (r.x.getD i 0))

def execSolResRead (s : State) : Result := s.go (·.solResLatch)

/-- A reset of island 2 or of its cell 1: the cycle is lost; the reload ends in a START (R298). -/
def Block.solReset (b : Block) : Block := { (b.resetRegs 0x43800000 0x43840000) with solver := { problem := b.solver.problem } }

/-- What a write to the solver may not produce (Table 12.9). -/
def Block.solBadWrite (b : Block) (addr v : Nat) : Option Nat :=
  let o := addr - 0x43800000
  let BAD_INDEX := 0x6A
  let BAD_BOUND := 0x6B
  if o = 0x048 then (if b.solVars ≤ v / 65536 % 32 then some BAD_INDEX else none)
  else if 0x200 ≤ o && o < 0xA00 then
    let i := (o - 0x200) / 0x40
    let r := o % 0x40
    let fm := b.varFmt i
    let lo := asFmt fm (b.get (R.SOL_VARi_LO_LO i))
    let hi := asFmt fm (b.get (R.SOL_VARi_HI_HI i))
    let op := fun up => let f := if up then R.SOL_VARi_OPHI_OPHI i else R.SOL_VARi_OPLO_OPLO i
      clampI lo hi (((b.regs.find? f.key).map (asFmt fm)).getD (if up then hi else lo))
    if b.solVars ≤ i then some BAD_INDEX
    else if r = 0x0C && op true < clampI lo hi (asFmt fm v) then some BAD_BOUND
    else if r = 0x10 && clampI lo hi (asFmt fm v) < op false then some BAD_BOUND
    else if r = 0x28 && (asFmt fm v < lo || hi < asFmt fm v) then some BAD_BOUND
    else none
  else if 0xA00 ≤ o && o < 0xC00 then
    let m := (o - 0xA00) / 0x40
    if b.solMeas ≤ m then some BAD_INDEX
    else if o % 0x40 = 4 && (8 < popCount 32 v || (List.range 32).any fun i => bit v i && decide (b.solVars ≤ i)) then some BAD_INDEX
    else none
  else if 0x10000 ≤ o && o < 0x13000 then
    (if b.solRows ≤ (o - 0x10000) / 0x80 || b.solVars ≤ (o - 0x10000) % 0x80 / 4 then some BAD_INDEX else none)
  else if 0x20000 ≤ o && o < 0x20600 then
    (if b.solRows ≤ (o - 0x20000) / 0x10 || (o % 0x10 == 0 && (v % 4 == 3 || (v % 4 != 0 && decide (b.solMeas ≤ v / 256 % 8)))) then some BAD_INDEX else none)
  else if 0x30000 ≤ o && o < 0x30400 then
    let role := v / 65536 % 16
    let ix := v / 1048576 % 128
    (if o % 0x10 = 4 && (9 ≤ role || ((role == 1 || role == 7 || role == 8) && decide (b.solVars ≤ ix)) || (role == 2 && decide (b.solMeas ≤ ix)) || (role == 6 && decide (b.solRows ≤ ix))) then some BAD_INDEX else none)
  else none

end Sys2Proof.Machine
end

