-- ==== Sys2Proof/Machine/FusionEngine.lean ====
section
/-! DEFINITION. Sensor alignment, fusion and ego-motion: the inertial sensor, epochs, checks, masking and the published state (chapter 13).
The filter of R308 is named, not written out: its states, its test outcomes and the quantities it publishes are free values; everything around it is computed. -/

namespace Sys2Proof.Machine

open Sys2Proof

/-- Origins of the fusion units, of the engine as a target, and of the inertial sensor. -/
def fusOrigin (u : Nat) : Nat := org 3 14 u
def fusTarget : Nat := org 3 14 127
def imuOrigin : Nat := org 3 13 0

def fSTOPPED : Nat := 0
def fINIT : Nat := 1
def fRUNNING : Nat := 2
def fCOASTING : Nat := 3
def Block.fState (b : Block) : Nat := b.get R.FUS_STATUS_STATE
def Block.modFus (b : Block) (f : Fusion → Fusion) : Block := { b with fusion := f b.fusion }
def Block.modFusIn (b : Block) (i : Nat) (f : FusIn → FusIn) : Block := b.modFus fun s => { s with ins := updAt s.ins i f }

/-- Kind of an input; 0 where its stream is 0. -/
def Block.fKind (b : Block) (i : Nat) : Nat := if b.get (R.FUS_INi_SRC_STREAM i) = 0 then 0 else b.get (R.FUS_INi_SRC_KIND i)
def Block.fMasked (b : Block) (i : Nat) : Bool := b.flag (R.FUS_INi_STAT_MASKED i)

/-- Epoch length in ns (R302). -/
def Block.fEpoch (b : Block) : Nat := [5, 10, 20, 50, 100].getD (b.get R.FUS_CFG_EPOCH) 100 * ms

/-- Ranges of the sensor in steps of its resolution, rounded down (Table 13.2): ±250 °/s in 2 × 10⁻⁴ rad/s and ±8 g in 2.5 mm/s². -/
def imuRate : Int := 21816
def imuForce : Int := 31381

/-- Each 1 ms boundary the on-module sensor sends a sample (R300, Table 13.3). -/
def execInertialSample (rates forces : List Int) (temp : Int) (saturated failed : Bool) (s : State) : Result := s.go fun b =>
  if (b.island 3).run ≠ .running then b
  else
    let b := b.toBoundary ms true
    let w := fun (m : Int) (l : List Int) => (List.range 3).flatMap fun k => le 2 (lowBits 16 (max (-m) (min m (l.getD k 0))))
    let beyond := fun (m : Int) (l : List Int) => (List.range 3).any fun k => decide (m < (l.getD k 0).natAbs)
    let sat := saturated || beyond imuRate rates || beyond imuForce forces
    b.sample imuOrigin 0 (w imuRate rates ++ w imuForce forces ++ le 2 (lowBits 16 (satS 16 temp)) ++ [b2n sat + 2 * b2n failed, 0])

/-! ## Usability and masking (R301, R310 to R313) -/

/-- A sample of the on-module sensor is saturated or failed its self-test. -/
def Block.fBroken (b : Block) (i : Nat) (p : Packet) : Bool := b.fKind i == 1 && bytesAt p.data 14 1 % 4 != 0

/-- VALID set, ERROR and MASKED clear, CONF at least CONF_MIN. -/
def Block.fSound (b : Block) (i : Nat) (p : Packet) : Bool := p.valid && !p.error && !p.masked && decide (b.use (R.FUS_INi_REJOIN_CONF_MIN i) ≤ p.conf)

def Block.fUsable (b : Block) (i : Nat) (p : Packet) : Bool := b.fSound i p && !b.fBroken i p

/-- An input is masked with its cause. -/
def Block.fMask (b : Block) (i cause : Nat) : Block :=
  if b.fMasked i then (b.set (R.FUS_INi_STAT_CAUSE i) cause).set (R.FUS_INi_STAT_RUN i) 0
  else
    let b := ((b.set (R.FUS_INi_STAT_MASKED i) 1).set (R.FUS_INi_STAT_CAUSE i) cause).set (R.FUS_INi_STAT_RUN i) 0
    (b.setBit R.FUS_MASKED_MASK i true).raise (fusOrigin 0) (R.FUS_INi_STAT_MASK_EV i) [i, cause]

/-- A masked input rejoins. -/
def Block.fRejoin (b : Block) (i : Nat) : Block :=
  let b := ((b.set (R.FUS_INi_STAT_MASKED i) 0).set (R.FUS_INi_STAT_CAUSE i) 0).set (R.FUS_INi_STAT_TRUST i) (b.use (R.FUS_INi_CHK_REJOIN_TRUST i))
  (b.setBit R.FUS_MASKED_MASK i false).raise (fusOrigin 0) (R.FUS_INi_STAT_REJOIN_EV i) [i]

/-- Rank of an inertial input for mechanising: PRIO, then INERTIAL_ON, then index. -/
def Block.mechRank (b : Block) (i : Nat) : Nat := b.get (R.FUS_INi_SRC_PRIO i) * 64 + (if b.fKind i = 1 then 0 else 32) + i

/-- The input of least rank among some. -/
def Block.leastRank (b : Block) (l : List Nat) : Option Nat :=
  l.foldl (fun a i => match a with | none => some i | some j => if b.mechRank i < b.mechRank j then some i else some j) none

def Block.inertials (b : Block) : List Nat := (List.range 16).filter fun i => b.fKind i == 1 || b.fKind i == 2

/-- The mechanising input, and whether it stands in for a masked one (ALT_INERTIAL). -/
def Block.mech (b : Block) : Option Nat := b.leastRank (b.inertials.filter fun i => !b.fMasked i)
def Block.altInertial (b : Block) : Bool := b.mech != b.leastRank b.inertials

/-- Nominal σ of an input's samples (R310): SIGMA, or of a PVT the larger of it and the horizontal accuracy that the PVT reports. -/
def Block.fSigma (b : Block) (i : Nat) (p : Packet) : Nat :=
  max (b.use (R.FUS_INi_SIGMA_SIGMA i)) (if b.fKind i = 4 then bytesAt p.data 40 2 else 0)

/-- √(νᵀ S⁻¹ ν / dim ν) ≤ GATE / 16 (R310). Of a WHEEL sample ν is its speed, in 10⁻⁹ mm/s by DIST_NM, less the filter's, and S the filter's variance and R₀; the filter's parts are free (log entry 64). Of the other kinds the whole statistic is. -/
def Block.fGate (b : Block) (i : Nat) (p : Packet) : Bool :=
  let g := b.use (R.FUS_INi_CHK_GATE i)
  let s := b.fSigma i p
  let (nu2, var) : Nat × Nat :=
    if b.fKind i = 3 then
      let nu := signed 32 (bytesAt p.data 0 4) * (b.use (R.FUS_INi_SCALE_DIST_NM i) : Int) - b.fresh 0
      (nu.natAbs ^ 2, (b.fresh 1).natAbs + s * s * 10 ^ 18)
    else ((Config.freeReal 1310 [b.free, i, s]).natAbs, 1)
  decide (256 * nu2 ≤ g * g * var)

/-- The test of one sample (R310): it is applied, or not. A sample of the on-module sensor passes unless it is saturated or failed its self-test. -/
def Block.fTest (b : Block) (x : FusSample) : Block × Bool :=
  let i := x.input
  if !b.fSound i x.pkt then (b, false)
  else
    let pass := !b.fBroken i x.pkt && (b.fKind i == 1 || b.fGate i x.pkt)
    let b := b.spend
    let b := b.when (!pass) fun b => (b.inc (R.FUS_INi_CNT_FAIL i)).set (R.FUS_INi_STAT_FAIL_EV i) 1
    let t := b.get (R.FUS_INi_STAT_TRUST i)
    if !b.fMasked i then
      let t := if pass then min 255 (t + b.use (R.FUS_INi_CHK_TRUST_UP i)) else t - b.use (R.FUS_INi_CHK_TRUST_DOWN i)
      let b := b.set (R.FUS_INi_STAT_TRUST i) t
      (if t = 0 then b.fMask i 1 else b, pass)
    else if b.get (R.FUS_INi_STAT_CAUSE i) = 3 && b.flag (R.FUS_INi_CTRL_FORCE_MASK i) then (b, false)
    else if !pass then (b.set (R.FUS_INi_STAT_RUN i) 0, false)
    else
      let b := b.inc (R.FUS_INi_STAT_RUN i)
      if b.use (R.FUS_INi_REJOIN_REJOIN_N i) ≤ b.get (R.FUS_INi_STAT_RUN i) then (b.fRejoin i, true) else (b, false)

/-! ## Epochs (R302 to R306) -/

/-- Inputs due in the epoch of instant `t` that have not delivered (R303). -/
def Block.fMissing (b : Block) (t : Nat) : List Nat :=
  (List.range 16).filter fun i =>
    let p := b.get (R.FUS_INi_TIME_PERIOD i) * 10 * us
    let g := min (p / 4) (b.fEpoch / 2)
    b.fKind i != 0 && !b.fMasked i && ((b.fusion.ins.getD i {}).lastEnd.any fun s => decide (s < t ∧ s + p - g ≤ t))

/-- Insert a sample in ascending order of end, ties by input. -/
def insertSample (x : FusSample) : List FusSample → List FusSample
  | [] => [x]
  | y :: r => if x.fin < y.fin ∨ (x.fin = y.fin ∧ x.input < y.input) then x :: y :: r else y :: insertSample x r

/-- Confidence of a group (R315). -/
def Block.groupConf (b : Block) (g s : Nat) : Nat :=
  let sf := b.use (R.FUS_CONFMAPg_SF g)
  let sz := max (b.use (R.FUS_CONFMAPg_SZ g)) (sf + 1)
  if s ≤ sf then 255 else if sz ≤ s then 0 else 255 * (sz - s) / (sz - sf)

/-- Groups that an input kind feeds: 0 position, 1 velocity, 2 attitude, 3 heading (Table 13.1). -/
def kindGroups (k : Nat) : List Nat := match k with | 1 => [2, 3, 1] | 2 => [2] | 3 => [1] | 4 => [0, 1] | 5 => [3] | _ => []

/-- Enter INIT; open epochs are discarded where `drop`. -/
def Block.fInit (b : Block) (count : Bool) : Block :=
  let b := b.set R.FUS_STATUS_STATE fINIT
  let b := b.when count fun b => b.inc R.FUS_CNT_REINIT_COUNT
  b.modFus fun s => { s with pvtAt := none, zeroSince := none, fastSince := none }

/-- When output `n` of an origin reaches island `i`: its stream goes there, the link is up and the island runs; within 20 µs, no later than R20 allows and no sooner than the next nanosecond (R27; log entry 131). -/
def Block.atIsland (b : Block) (o n i : Nat) : Option Nat :=
  let there := ((b.route? o n).any fun st => b.heard { kind := .sample, stream := st, origin := o } && b.fab.dests.any fun d => d.1 == st && oIsland d.2 == i) && b.flag (R.FAB_LINKk_UP (linkOf (oIsland o) i)) && (b.island i).run == .running && !b.hushed o
  if there then some (b.now + 1 + b.freshW 60 15 % 20000) else none

/-- Of the packets that go to island 2 the latest that is there, and those still on the way. -/
def FusedIn.recent (now : Nat) (l : List FusedIn) : List FusedIn :=
  ((l.filter fun x => decide (x.arrives < now)).getLast?).toList ++ l.filter fun x => decide (now ≤ x.arrives)

/-- A packet joins those on their way. -/
def FusedIn.add (now : Nat) (l : List FusedIn) (arrives : Option Nat) (data : List Nat) (t : Nat) (replay : Bool) : List FusedIn :=
  FusedIn.recent now l ++ (arrives.map fun (a : Nat) => ({ data := data, at_ := t, replay := replay, arrives := a } : FusedIn)).toList

/-- The latest packet that is there. -/
def FusedIn.here (now : Nat) (l : List FusedIn) : Option FusedIn := (l.filter fun x => decide (x.arrives < now)).getLast?

/-- A published state leaves for the path follower and for the tile engine. -/
def Block.fusedGo (b : Block) (data : List Nat) (t : Nat) (replay : Bool) : Block :=
  { b with steer := { b.steer with coming := FusedIn.add b.now b.steer.coming (b.atIsland (fusOrigin 0) 0 2) data t replay }
           tile := { b.tile with fused := FusedIn.add b.now b.tile.fused (b.atIsland (fusOrigin 0) 0 5) data t replay } }

/-- Publish the state of the epoch of instant `t` (R314, Table 13.6); `late` are the due inputs missing at a limit close, `contrib` the inputs applied. -/
def Block.fPublish (b : Block) (t : Nat) (late contrib : List Nat) (replay : Bool) : Block :=
  let st := b.fState
  let run := st == fRUNNING || st == fCOASTING
  let sig := fun k => b.freshW (40 + k) 16
  let satt := b.freshW 44 16
  let lost := fun g => (late.filter fun i => (kindGroups (b.fKind i)).contains g).length * b.use R.FUS_CONF_DOWN_LATE_DOWN
  let cg := fun (g s : Nat) => if run then b.groupConf g s - lost g else 0
  let cs := [cg 0 (sig 0), cg 1 (sig 2), cg 2 satt, cg 3 (sig 3)]
  let conf := cs.foldl min 255
  let mask := fun (l : List Nat) => l.foldl (fun m i => withBit m i true) 0
  let b5 := b2n (late != []) + 2 * b2n (st == fCOASTING) + 4 * b2n b.altInertial + 8 * b2n b.fusion.rtk
  let s16 := fun k => le 2 (b.freshW k 16)
  let data := le 4 b.fusion.seq ++ [st, b5] ++ le 2 (mask contrib) ++ le 8 (b.freshW 1 64) ++ le 8 (b.freshW 2 64) ++ le 4 (b.freshW 3 32) ++
    le 4 (b.freshW 4 32) ++ le 4 (b.freshW 5 32) ++ le 4 (b.freshW 6 32) ++ s16 7 ++ s16 8 ++ le 2 (b.fresh 9 % 62832).toNat ++ s16 10 ++ s16 11 ++ s16 12 ++ s16 13 ++ s16 14 ++ s16 15 ++
    le 4 (b.freshW 16 32) ++ le 2 (sig 0) ++ le 2 (sig 1) ++ le 2 (sig 2) ++ le 2 (sig 3) ++ cs ++ le 2 (mask late) ++ [0, 0, 0, 0]
  let seed := b.free
  let b := (b.fusedGo data t replay).spend.sample (fusOrigin 0) 0 data conf (conf != 0 && run) (some (stampOf t)) false false replay
  let b := (b.set R.FUS_ST_STAT_STALE 0).modFus fun s => { s with
    seq := (s.seq + 1) % 2 ^ 32, last := data, conf := conf, replay := replay
    filter := (List.range 31).map fun k => (Config.freeReal 1300 [seed, k] % 2 ^ 64).toNat
    zeroSince := if run && cs.headD 0 == 0 then some (s.zeroSince.getD t) else none }
  match b.fusion.zeroSince, b.fusion.pvtUse with
  | some z, some u =>
    if run && decide (z + b.use R.FUS_TIMERS_REINIT_MS * ms ≤ t) && decide (t ≤ u + (((List.range 16).filter fun i => b.fKind i == 4).map fun i => b.use (R.FUS_INi_DROP_DROP_MS i)).foldl max 0 * ms)
    then b.fInit true else b
  | _, _ => b

/-- Epoch states at a close (Table 13.5): INIT to RUNNING on a usable PVT and a heading; RUNNING and COASTING by the age of the last PVT applied. -/
def Block.fTransition (b : Block) (t : Nat) (l : List FusSample) : Block :=
  let ok := fun k => l.filter fun x => b.fKind x.input == k && b.fUsable x.input x.pkt && !b.fMasked x.input
  let pvts := ok 4
  if b.fState = fINIT then
    let near := pvts.any fun x => decide (bytesAt x.pkt.data 40 2 ≤ b.use R.FUS_INIT_SIG_MM)
    let fast := b.fusion.fastSince.any fun s => decide (s + 2 * sec ≤ t)
    if near && (ok 5 != [] || fast) then
      let x := pvts.getLastD { input := 0, fin := t, pkt := { kind := .sample, stream := 0, origin := 0 } }
      (b.set R.FUS_STATUS_STATE fRUNNING).modFus fun s => { s with pvtAt := some x.fin, rtk := bytesAt x.pkt.data 4 1 == 4 }
    else b
  else
    let aged := b.fusion.pvtAt.all fun s => decide (s + b.use R.FUS_TIMERS_COAST_MS * ms ≤ t)
    b.set R.FUS_STATUS_STATE (if aged then fCOASTING else fRUNNING)

/-- The speed of a PVT is at least 1.0 m/s. -/
def pvtFast (p : Packet) : Bool :=
  let n := signed 32 (bytesAt p.data 28 4)
  let e := signed 32 (bytesAt p.data 32 4)
  decide (1000000 ≤ n * n + e * e)

/-- The oldest open epoch closes; `late` names the due inputs missing at a limit or a full buffer. -/
def Block.fCloseOne (b : Block) (late : List Nat) : Block :=
  let t := b.fusion.firstOpen
  let mine := (b.fusion.buf.filter fun x => decide (x.fin ≤ t)).foldr insertSample []
  let b := b.modFus fun s => { s with buf := s.buf.filter (fun x => decide (t < x.fin)), firstOpen := t + b.fEpoch, nOpen := s.nOpen - 1, closed := some t }
  let b := b.set R.FUS_STATUS_OPEN b.fusion.nOpen
  let b := b.when (late != []) (·.inc R.FUS_CNT_EPOCH_LATE)
  let b := b.set R.FUS_MAX_LAT_T (max (b.get R.FUS_MAX_LAT_T) (min 65535 ((b.sys.mtime - t) / (10 * us))))
  let b := b.eachOf (mine.filter fun x => b.fKind x.input == 4 && b.fUsable x.input x.pkt) fun x b =>
    b.modFus fun s => { s with fastSince := if pvtFast x.pkt then some (s.fastSince.getD x.fin) else none }
  let tests := b.fState == fRUNNING || b.fState == fCOASTING
  let (b, applied) := mine.foldl (fun (a : Block × List FusSample) x =>
    if tests then
      let (b, ok) := a.1.fTest x
      if ok then
        (if b.fKind x.input = 4 then b.modFus fun s => { s with pvtAt := some x.fin, rtk := bytesAt x.pkt.data 4 1 == 4 } else b, a.2 ++ [x])
      else (b, a.2)
    else a) (b, [])
  let b := b.fTransition t mine
  b.fPublish t late ((applied.map (·.input)).filter fun i => !b.fMasked i) (applied.any (·.pkt.replay))

/-- Close every open epoch whose due inputs have delivered or whose limit has passed, oldest first (R304). -/
def Block.fClose : Nat → Block → Block
  | 0, b => b
  | n + 1, b =>
    if b.fState = fSTOPPED || b.fusion.nOpen = 0 then b
    else
      let t := b.fusion.firstOpen
      let miss := b.fMissing t
      if miss = [] then Block.fClose n (b.fCloseOne [])
      else if t + b.use R.FUS_CFG_LIMIT_MS * ms ≤ b.sys.mtime then Block.fClose n (b.fCloseOne miss)
      else b

/-- Close what can be closed. -/
def Block.fSettle (b : Block) : Block := Block.fClose b.fusion.nOpen b

/-- A boundary t_k arrives: epoch k opens; shadows come into use (Table 3.8). -/
def execEpochBoundary (s : State) : Result := s.go fun b =>
  if b.fState = fSTOPPED then b
  else
    let e := b.fEpoch
    let b := b.toBoundary e (b.fusion.lastB.any fun t => decide (b.sys.mtime ≤ t))
    let t := b.sys.mtime
    let b := b.boundary 0x44000000 0x44000800
    let b := b.when (decide (512 ≤ b.fusion.nOpen)) fun b => (b.inc R.FUS_CNT_EPOCH_FULL).fCloseOne (b.fMissing b.fusion.firstOpen)
    let b := b.modFus fun s => { s with lastB := some t, firstOpen := if s.nOpen = 0 then t else s.firstOpen, nOpen := s.nOpen + 1 }
    (b.set R.FUS_STATUS_OPEN b.fusion.nOpen).fSettle

/-- An epoch has been open for LIMIT_MS. -/
def execEpochLimit (s : State) : Result := s.go fun b =>
  if b.fState = fSTOPPED || b.fusion.nOpen = 0 then b
  else
    let at_ := b.fusion.firstOpen + b.use R.FUS_CFG_LIMIT_MS * ms
    (b.toModule at_).fSettle

/-- The prompt state at a sample of the mechanising input (R316). -/
def Block.fPrompt (b : Block) (p : Packet) : Block :=
  match b.fusion.closed with
  | none => b
  | some t =>
    let age := (p.stamp + 2 ^ 32 - stampOf t) % 2 ^ 32
    let conf := b.fusion.conf - age / (1000 * b.use R.FUS_CONF_DOWN_PROMPT_AGE_MS)
    let data := (b.fusion.last.take 4) ++ le 4 age ++ le 8 (b.freshW 1 64) ++ le 8 (b.freshW 2 64) ++ le 4 (b.freshW 3 32) ++ le 4 (b.freshW 4 32) ++
      le 2 (b.fresh 5 % 62832).toNat ++ le 2 (b.freshW 6 16) ++ le 2 (b.freshW 7 16) ++ le 2 (b.freshW 8 16) ++ [conf, b.fusion.last.getD 5 0, 0, 0, 0, 0, 0, 0]
    b.spend.sample (fusOrigin 1) 0 data conf (conf != 0) (some p.stamp) false false (b.fusion.replay || p.replay)

/-- A sample of input `i` arrives: it counts as delivered, waits in the buffer or is late, and moves the prompt state (R304 to R306, R316). -/
def Block.fArrive (b : Block) (i : Nat) (p : Packet) : Block :=
  let fin := b.unstamp p.stamp + b.get (R.FUS_INi_TIME_SPAN i) * 10 * us
  let late := b.fusion.closed.any fun t => decide (fin ≤ t)
  let usable := b.fUsable i p
  let full := decide (16384 ≤ b.fusion.buf.length) && b.fusion.nOpen != 0
  let b := b.when full fun b => (b.inc R.FUS_CNT_EPOCH_FULL).fCloseOne (b.fMissing b.fusion.firstOpen)
  let b := b.modFusIn i fun s => { s with lastEnd := some fin, usableAt := if usable then b.sys.mtime else s.usableAt }
  let b := b.when (usable && (b.fKind i == 1 || b.fKind i == 2)) fun b => b.modFus fun s => { s with inertAt := b.sys.mtime }
  let b := b.when (usable && b.fKind i == 4) fun b => b.modFus fun s => { s with pvtUse := some b.sys.mtime }
  let b := if late then b.inc (R.FUS_INi_CNT_LATE i) else b.modFus fun s => { s with buf := s.buf ++ [{ input := i, fin := fin, pkt := p }] }
  let b := b.when (usable && b.mech == some i && (b.fState == fRUNNING || b.fState == fCOASTING)) (·.fPrompt p)
  b.fSettle

def execFusSample (p : Packet) (s : State) : Result := s.go fun b =>
  if b.fState = fSTOPPED || !b.heard p then b
  else match (List.range 16).find? fun i => b.fKind i != 0 && b.get (R.FUS_INi_SRC_STREAM i) == p.stream with
    | some i => b.fArrive i p
    | none => b

/-- DROP_MS without a usable sample masks an input (R312). -/
def execFusDropout (i : Fin 16) (s : State) : Result := s.go fun b =>
  if b.fState = fSTOPPED || b.fKind i = 0 || b.fMasked i then b
  else
    let at_ := (b.fusion.ins.getD i {}).usableAt + b.use (R.FUS_INi_DROP_DROP_MS i) * ms
    ((b.toModule at_).fMask i 2).fSettle

/-- 20 ms without a usable inertial sample returns the engine to INIT. -/
def execInertialAbsent (s : State) : Result := s.go fun b =>
  if b.fState = fRUNNING || b.fState = fCOASTING then
    (b.toModule (b.fusion.inertAt + 20 * ms)).fInit true
  else b

/-! ## Control -/

def Block.fRefusal (b : Block) : Option Nat :=
  b.unitRefusal fusTarget

/-- FORCE_MASK written: 1 masks the input, 0 lets RUN count. -/
def Block.fForce (b : Block) (i : Nat) (v : Bool) : Block :=
  let b := b.setB (R.FUS_INi_CTRL_FORCE_MASK i) v
  if v then (b.fMask i 3).fSettle else b

def execFusForceMask (i : Fin 16) (v : Bool) (s : State) : Result := s.ask s.blk.fRefusal fun b => b.fForce i v

/-- Open epochs are discarded without publication; EPOCH_SEQ counts them (Table 13.6). -/
def Block.fDiscard (b : Block) : Block :=
  (b.modFus fun s => { s with seq := (s.seq + s.nOpen) % 2 ^ 32, nOpen := 0, buf := [], lastB := none }).set R.FUS_STATUS_OPEN 0

/-- A step of module time (R307). -/
def Block.fStep (b : Block) : Block :=
  if b.fState = fSTOPPED then b else ((b.inc R.FUS_CNT_EPOCH_DISCARDED b.fusion.nOpen).fDiscard).fInit true

/-- STOP or QUIESCE. -/
def Block.fStop (b : Block) (byStop : Bool) : Block :=
  if b.fState = fSTOPPED then b else (b.fDiscard.set R.FUS_STATUS_STATE fSTOPPED).modFus fun s => { s with byStop := byStop }

def fCounters : List Fld := [R.FUS_CNT_EPOCH_LATE, R.FUS_CNT_EPOCH_DISCARDED, R.FUS_CNT_EPOCH_FULL, R.FUS_CNT_REINIT_COUNT, R.FUS_MAX_LAT_T]
def Block.fClrCnt (b : Block) : Block := (b.clear fCounters).each 16 fun i b => b.clear [R.FUS_INi_CNT_FAIL i, R.FUS_INi_CNT_LATE i]

/-- START: filter reset, every input unmasked with trust 255, streams restart (Table 13.5). -/
def Block.fStart (b : Block) : Block :=
  let b := b.fClrCnt.each 16 fun i b =>
    b.clear [R.FUS_INi_STAT_MASKED i, R.FUS_INi_STAT_CAUSE i, R.FUS_INi_STAT_RUN i] |>.set (R.FUS_INi_STAT_TRUST i) 255
  let b := ((b.set R.FUS_MASKED_MASK 0).set R.FUS_STATUS_STATE fINIT).set R.FUS_ST_STAT_STALE 1
  let b := b.resync fun o => oIsland o == 3 && oCell o == 14
  let t := b.sys.mtime
  (b.set R.FUS_STATUS_OPEN 0).modFus fun _ => { ins := List.replicate 16 { usableAt := t }, inertAt := t }

def execFusStop (s : State) : Result := s.ask s.blk.fRefusal (·.fStop true)

def execFusStart (s : State) : Result := s.ask s.blk.fRefusal fun b => if b.fState = fSTOPPED && b.fusion.byStop then b.fStart else b

def execFusReinit (s : State) : Result := s.ask s.blk.fRefusal fun b => if b.fState = fSTOPPED then b else b.fDiscard.fInit true

def execFusClrCnt (s : State) : Result := s.ask s.blk.fRefusal (·.fClrCnt)

/-- A read of FUS_ST_W0 shows word 0 and latches the others (R317). -/
def Block.fLatch (b : Block) : Block := b.each 20 fun n b => b.set (R.FUS_ST_Wn_BYTES n) (bytesAt b.fusion.last (4 * n) 4)

def execFusStRead (s : State) : Result := s.go (·.fLatch)

/-- A write of FUS_INi_SRC that BAD_SOURCE refuses (R299, Table 13.9). -/
def Block.fBadSource (b : Block) (i v : Nat) : Bool :=
  let k := v / 65536 % 16
  let st := v % 65536
  let others := (List.range 16).filter (· != i)
  decide (6 ≤ k) || (k == 1 && others.any fun j => b.get (R.FUS_INi_SRC_KIND j) == 1) || (st != 0 && others.any fun j => b.get (R.FUS_INi_SRC_STREAM j) == st) ||
    (k != 1 && k != 2 && v / 1048576 % 4 != 0)

/-- A reset of island 3 or of the fusion cell. -/
def Block.fReset (b : Block) : Block := { (b.resetRegs 0x44000000 0x44000800) with fusion := {} }

end Sys2Proof.Machine
end

