-- ==== Sys2Proof/Machine/Baseband.lean ====
section
/-! DEFINITION. The satellite navigation baseband and the pulse outputs (chapter 14). What correlators and the least-squares solver find is the operand of a command; states, checks, confidences, packets and time corrections are computed from it. -/

namespace Sys2Proof.Machine

open Sys2Proof

/-- A next state in which the block and the addressed memories change. -/
def State.goMem (s : State) (f : Block → Block) (g : Block → Memory → Memory) : Result := .next { s with blk := f s.blk, mem := g s.blk s.mem }

def gnsOrigin (u : Nat) : Nat := org 3 15 u
def gnsTarget : Nat := org 3 0 127
def antOrigin (a : Nat) : Nat := org 3 12 a
def Block.modGns (b : Block) (f : Gnss → Gnss) : Block := { b with gnss := f b.gnss }
def gnsSTOPPED : Nat := 0
def Block.gnsState (b : Block) : Nat := b.get R.GNS_STATUS_STATE
def Block.gnsRuns (b : Block) : Bool := b.gnsState != gnsSTOPPED && b.gnsState != 4

/-! ## Antenna supplies (R319) -/

/-- A supply changes state: ANT_EV and an EVENT with the antenna and the state. -/
def Block.antState (b : Block) (a st ma : Nat) : Block :=
  let b := b.set (R.GNS_ANTa_I_MA a) ma
  if b.get (R.GNS_ANTa_STATE a) = st then b
  else (b.set (R.GNS_ANTa_STATE a) st).raise (antOrigin a) R.GNS_EV_ANT_EV [a, st]

def Block.antOn (b : Block) (a : Nat) : Bool := b.flag (R.GNS_ANTa_SUPPLY_EN a) && (b.island 3).run == .running

def execAntOpen (a : Fin 2) (ma : Nat) (s : State) : Result := s.go fun b =>
  if b.antOn a && (b.gnss.retry.getD a none).isNone && decide (ma < 3) then b.antState a 2 ma else b

def execAntShort (a : Fin 2) (s : State) : Result := s.go fun b =>
  if b.antOn a && (b.gnss.retry.getD a none).isNone then
    (b.antState a 3 0).modGns fun g => { g with retry := updAt g.retry a fun _ => some (b.now + sec) }
  else b

/-- The supply turns on again; its state follows from the current it then draws. -/
def execAntRetry (a : Fin 2) (s : State) : Result := s.go fun b =>
  match b.gnss.retry.getD a none with
  | some t => (b.reach t).modGns fun g => { g with retry := updAt g.retry a fun _ => none }
  | none => b

def execAntSupplyOk (a : Fin 2) (ma : Nat) (s : State) : Result := s.go fun b =>
  if b.antOn a && (b.gnss.retry.getD a none).isNone && decide (3 ≤ ma) && decide (ma ≤ 150) then b.antState a 1 ma else b

/-- SUPPLY_EN written. -/
def Block.antEnable (b : Block) (a : Nat) (v : Bool) : Block :=
  let b := b.setB (R.GNS_ANTa_SUPPLY_EN a) v
  if v then b else (b.antState a 0 0).modGns fun g => { g with retry := updAt g.retry a fun _ => none }

/-! ## Signals and channels (R320 to R328) -/

/-- ID, band and whether it is an acquisition signal, of the signal of a bit (Table 14.2). -/
def sigRow (k : Nat) : Nat × Nat × Bool :=
  [(0x01, 0, true), (0x02, 1, false), (0x03, 1, false), (0x10, 0, true), (0x11, 1, false), (0x12, 1, false), (0x13, 2, false), (0x20, 0, true), (0x21, 1, false), (0x30, 0, true),
   (0x31, 0, false), (0x32, 1, false), (0x33, 2, false), (0x40, 0, true), (0x41, 1, false), (0x42, 1, false), (0x50, 0, true)].getD k (0, 0, false)

/-- Bit of a signal ID, and the system of an ID. -/
def sigBit (id : Nat) : Nat := ((List.range 17).find? fun k => (sigRow k).1 == id).getD 17
def sigSystem (id : Nat) : Nat := id / 16

def Block.gch (b : Block) (n : Nat) : Nat := b.get (R.GNS_CHn_STAT_STATE n)
def chIDLE : Nat := 0
def chSEARCH : Nat := 1
def chPULLIN : Nat := 2
def chTRACK : Nat := 3
def chLOST : Nat := 4

/-- A channel enters a state; TRACKED follows. -/
def Block.gchTo (b : Block) (n st : Nat) : Block :=
  let t := b.get R.GNS_STATUS_TRACKED
  let t := if b.gch n = chTRACK && st != chTRACK then t - 1 else if b.gch n != chTRACK && st = chTRACK then t + 1 else t
  let b := (b.set (R.GNS_CHn_STAT_STATE n) st).set R.GNS_STATUS_TRACKED t
  let b := if b.gnsState = 1 && 0 < t then b.set R.GNS_STATUS_STATE 2 else b
  b.modGns fun g => { g with chans := updAt g.chans n fun c => { c with since := b.now } }

/-- A channel returns to IDLE, unassigned. -/
def Block.gchIdle (b : Block) (n : Nat) : Block :=
  let b := (b.gchTo n chIDLE).clear [R.GNS_CHn_STAT_SIG n, R.GNS_CHn_STAT_SV n, R.GNS_CHn_STAT_EXCL n, R.GNS_CHn_STAT_CNO n, R.GNS_CHn_LOCK_LOCK n]
  b.modGns fun g => { g with chans := updAt g.chans n fun c => { since := c.since } }

/-- A candidate waits 10 s. -/
def Block.gchWait (b : Block) (n : Nat) : Block :=
  let w := (n / 192, sigBit (b.get (R.GNS_CHn_STAT_SIG n)), b.get (R.GNS_CHn_STAT_SV n), b.now + 10 * sec)
  (b.modGns fun g => { g with waits := g.waits ++ [w] }).gchIdle n

def Block.gchData (b : Block) (n : Nat) : GnsChan := b.gnss.chans.getD n {}

/-! ### Search space (R326 to R328) -/

/-- Code period in chips, chip rate in 1/s and carrier in Hz of an acquisition signal. Table 14.6 gives GPS L1 C/A; those of the other signals stand in their interface specifications (PRESUMED, log entry 149). -/
def acqSignal (sig : Nat) : Nat × Nat × Nat :=
  match sig with
  | 3 => (4092, 1023000, 1575420000)
  | 7 => (511, 511000, 1602000000)
  | 9 => (2046, 2046000, 1561098000)
  | _ => (1023, 1023000, 1575420000)

def lightSpeed : Nat := 299792458

/-- Aid of time, u_t in ns (Table 14.5). -/
def Block.aidTime (b : Block) : Option Nat :=
  match b.get R.SUP_MTIME_STATUS_STATE with
  | 0 => none
  | 1 => some (b.rtcBoundNs + (if b.bkp.seedGuess then 4 * sec else 0))
  | _ => some b.mtBound

/-- Aid of position, u_pos in mm: the fix's 3σ plus 3 m a minute; absent above 100 km. -/
def Block.aidPos (b : Block) (h : HotCopy) : Option Nat :=
  (h.fixAt.map fun f => h.sigma3 + 3000 * (b.sys.mtime - f) / (60 * sec)).filter fun u => decide (u ≤ 100000000)

/-- Aid of velocity, u_vel in mm/s: 3σ of the fused velocity (bytes 66 and 67 of its state) while it is valid, else by the kind of the last stop. -/
def Block.aidVel (b : Block) : Nat :=
  if (b.fState == fRUNNING || b.fState == fCOASTING) && b.fusion.conf != 0 then 3 * bytesAt b.fusion.last 66 2
  else if b.gnss.stood then 500 else 15000

/-- Aid of the oscillator in 10⁻⁹. -/
def Block.aidOsc (b : Block) : Nat := if b.get R.SUP_MTIME_STATUS_STATE = 0 then 500 else 20

/-- Aid of the orbit: range in mm and Doppler in Hz, from a valid ephemeris, else a valid almanac. -/
def Block.aidOrbit (b : Block) (sig sv : Nat) : Option (Nat × Nat) :=
  if b.gnss.data.ephs.any fun e => e.1 == sigSystem (sigRow sig).1 * 256 + sv && decide (b.sys.mtime ≤ e.2) then some (5000, 1)
  else if b.sys.mtime ≤ b.gnss.data.alm && b.gnss.data.alm != 0 then some (2000000, 10) else none

/-- U_c of R327: the code period where time or position is absent. The range term of an absent orbit is unbounded too. -/
def Block.codeSpan (b : Block) (sig sv : Nat) : Nat :=
  let (pc, rate, _) := acqSignal sig
  match b.aidTime, b.aidPos b.gnss.data, b.aidOrbit sig sv with
  | some ut, some upos, some (ur, _) => min pc (ceilDiv (2 * ((upos + ur) * 1000000 + lightSpeed * ut) * rate) (1000000000 * lightSpeed) + 2)
  | _, _, _ => pc

/-- U_f of R327 in mHz, rounded up. -/
def Block.dopSpan (b : Block) (sig sv : Nat) : Nat :=
  let (_, _, fc) := acqSignal sig
  2 * (ceilDiv (b.aidVel * fc) lightSpeed + ceilDiv (fc * b.aidOsc) 1000000 + 1000 * ((b.aidOrbit sig sv).map (·.2)).getD 4500)

/-- Coherent search time in ms. -/
def acqMs (sig : Nat) : Nat := if sig = 3 then 4 else 1

def dopBins (sig mhz : Nat) : Nat := max 1 (ceilDiv (2 * mhz * acqMs sig) 1000000)

/-- The search space of an assignment: R327 for an acquisition signal, ±1 chip and ±20 Hz for one handed over (R328). -/
def Block.searchSpace (b : Block) (n sig sv : Nat) (handed : Bool) : Block :=
  let (uc, uf) := if handed then (2, 40000) else (b.codeSpan sig sv, b.dopSpan sig sv)
  b.modGns fun g => { g with chans := updAt g.chans n fun c => { c with codeU := uc, codeN := 2 * uc, dopU := uf, dopN := dopBins sig uf } }

/-- Most dwells that the search engine of a correlator cell needs for its candidates: ⌈cells / 16,384⌉ (R328). -/
def Block.searchDwells (b : Block) (cell : Nat) : Nat :=
  ceilDiv (((List.range 32).map fun u => let n := 32 * cell + u; if b.gch n = chSEARCH then (b.gchData n).codeN * (b.gchData n).dopN else 0).foldl (· + ·) 0) 16384

/-- The channel manager assigns a channel. A signal of an antenna in OPEN or SHORT, a disabled signal, a candidate in its wait and a second signal of a satellite not tracked are not assigned. -/
def execGnssChannelAssign (n : Fin 384) (sig : Fin 17) (sv : Fin 256) (s : State) : Result := s.go fun b =>
  let a := n.val / 192
  let (id, _, acq) := sigRow sig
  let enabled := b.bitOf R.GNS_SIG_EN_EN sig && (a == 0 || b.bitOf R.GNS_HDG_SIG_EN sig)
  let supply := b.get (R.GNS_ANTa_STATE a)
  let waits := b.gnss.waits.any fun w => w.1 == a && w.2.1 == sig.val && w.2.2.1 == sv.val
  let handed := (List.range 384).any fun k => b.gch k == chTRACK && b.get (R.GNS_CHn_STAT_SV k) == sv.val && sigSystem (b.get (R.GNS_CHn_STAT_SIG k)) == sigSystem id && (sigRow (sigBit (b.get (R.GNS_CHn_STAT_SIG k)))).2.2
  if b.gnsRuns && b.gch n == chIDLE && enabled && supply != 2 && supply != 3 && !waits && (acq || handed) then
    let b := ((b.set (R.GNS_CHn_STAT_SIG n) id).set (R.GNS_CHn_STAT_SV n) sv).clear [R.GNS_CHn_LOCK_SLIPS n, R.GNS_CHn_LOCK_SIDE_PEAK n]
    (b.searchSpace n sig sv (!acq)).gchTo n chSEARCH
  else b

/-- A dwell confirms a detection, or exhausts the search space. -/
def execGnssDwellDone (n : Fin 384) (found : Bool) (s : State) : Result := s.go fun b =>
  if b.gch n = chSEARCH then (if found then b.gchTo n chPULLIN else b.gchWait n)
  else if b.gch n = chLOST && found && decide (b.now ≤ (b.gchData n).since + 2 * sec) then (b.modGns fun g => { g with chans := updAt g.chans n fun c => { c with second := false } }).gchTo n chPULLIN
  else b

/-- Code and carrier lock within 500 ms of entry. -/
def execGnssPullInLock (n : Fin 384) (cno : Nat) (s : State) : Result := s.go fun b =>
  if b.gch n = chPULLIN && decide (b.now ≤ (b.gchData n).since + 500 * ms) then
    let b := (b.set (R.GNS_CHn_STAT_CNO n) (min 255 cno)).set (R.GNS_CHn_LOCK_LOCK n) 0
    (b.modGns fun g => { g with chans := updAt g.chans n fun c => { c with second := false, lockAt := b.now } }).gchTo n chTRACK
  else b

/-- 500 ms without both locks: search again, or the second time IDLE. -/
def execGnssPullInTimeout (n : Fin 384) (s : State) : Result := s.go fun b =>
  if b.gch n = chPULLIN then
    let b := b.reach ((b.gchData n).since + 500 * ms)
    if (b.gchData n).second then b.gchWait n
    else (b.modGns fun g => { g with chans := updAt g.chans n fun c => { c with second := true } }).gchTo n chSEARCH
  else b

def execGnssTrackLoss (n : Fin 384) (s : State) : Result := s.go fun b =>
  if b.gch n = chTRACK then (b.inc R.GNS_CNT_B_LOSSES).gchTo n chLOST else b

def execGnssLostTimeout (n : Fin 384) (s : State) : Result := s.go fun b =>
  if b.gch n = chLOST then (b.reach ((b.gchData n).since + 2 * sec)).gchIdle n else b

def execGnssReschedule (a : Fin 2) (sig : Fin 17) (sv : Fin 256) (s : State) : Result := s.go fun b =>
  let mine := fun (w : Nat × Nat × Nat × Nat) => w.1 == a.val && w.2.1 == sig.val && w.2.2.1 == sv.val
  match b.gnss.waits.find? mine with
  | some w => (b.reach w.2.2.2).modGns fun g => { g with waits := g.waits.filter (!mine ·) }
  | none => b

/-- The satellite has stood 2° below the mask for 60 s, or its signal is disabled. -/
def execGnssChannelFree (n : Fin 384) (s : State) : Result := s.go fun b => if b.gch n = chIDLE then b else b.gchIdle n

/-! ## Measurements and navigation bits (R330 to R332) -/

/-- Rate of a code: 1, 2, 5, 10 or 20 Hz, as a period in ns. -/
def ratePeriod (c : Nat) : Nat := sec / [1, 2, 5, 10, 20].getD c 20

/-- The band of a channel is jammed. -/
def Block.gchJammed (b : Block) (n : Nat) : Bool := bit b.gnss.jammed (3 * (n / 192) + (sigRow (sigBit (b.get (R.GNS_CHn_STAT_SIG n)))).2.1)

/-- CONF of a measurement entry (R331). -/
def Block.gchConf (b : Block) (n : Nat) (m : GnsMeas) : Nat :=
  if b.gch n = chLOST || !m.codeLock || b.get (R.GNS_CHn_STAT_EXCL n) != 0 then 0
  else if !m.carrierLock || m.slips != 0 || decide (m.cno < 100 * (b.use R.GNS_DLL_CNO_TRACK + 3)) || b.gchJammed n then 128
  else 255

/-- An entry (Table 14.9). -/
def Block.measEntry (b : Block) (n : Nat) (m : GnsMeas) : List Nat :=
  let ex := b.get (R.GNS_CHn_STAT_EXCL n)
  [b.get (R.GNS_CHn_STAT_SIG n), b.get (R.GNS_CHn_STAT_SV n)] ++ le 2 n ++ le 8 m.range ++ le 8 (lowBits 64 m.phase) ++ le 4 (lowBits 32 m.doppler) ++ le 2 (min 65535 m.cno) ++
    le 2 (b.get (R.GNS_CHn_LOCK_LOCK n)) ++
    [b2n m.codeLock + 2 * b2n m.carrierLock + 4 * b2n m.half + 8 * b2n (m.slips != 0) + 16 * b2n (ex != 0) + 32 * b2n (m.jumps != 0) + 64 * b2n m.pilot, ex, lowBits 8 m.slot, b.gchConf n m]

/-- The parts of an epoch: at most 127 entries each. -/
def chunk {α : Type} (n : Nat) : Nat → List α → List (List α)
  | 0, _ => []
  | k + 1, l => if l.length ≤ n then [l] else l.take n :: chunk n k (l.drop n)

/-- A measurement epoch (R330). A channel for which the command gives no measurement has no code lock. -/
def Block.measEpoch (b : Block) (ms_ : List GnsMeas) : Block :=
  if !b.gnsRuns then b
  else
    let p := ratePeriod (b.use R.GNS_CFG_MEAS_RATE)
    let b := b.toBoundary p (b.gnss.measAt.any fun t => decide (b.sys.mtime ≤ t))
    let t := b.sys.mtime
    let chans := (List.range 384).filter fun n => b.gch n == chTRACK || b.gch n == chLOST
    let meas := chans.map fun n => (n, (ms_.find? fun m => m.chan.val == n).getD { chan := Fin.ofNat 384 n })
    let b := b.eachOf meas fun e b =>
      let (n, m) := e
      let b := (b.inc (R.GNS_CHn_LOCK_SLIPS n) (m.slips + m.jumps)).inc (R.GNS_CHn_LOCK_SIDE_PEAK n) m.jumps
      let b := (b.inc R.GNS_CNT_B_SLIPS (m.slips + m.jumps)).set (R.GNS_CHn_STAT_CNO n) (min 255 (m.cno / 100))
      b.set (R.GNS_CHn_LOCK_LOCK n) (if b.gch n = chTRACK then min 65535 ((b.now - (b.gchData n).lockAt) / (10 * ms)) else b.get (R.GNS_CHn_LOCK_LOCK n))
    let parts := chunk 127 384 meas
    let seq := b.gnss.measSeq
    let b := (b.each parts.length fun k b =>
      let l := parts.getD k []
      let confs := (l.map fun e => b.gchConf e.1 e.2).filter (0 < ·)
      let conf := if confs.isEmpty then 0 else confs.foldl min 255
      let data := le 4 seq ++ le 8 t ++ [k, parts.length] ++ le 2 l.length ++ l.flatMap fun e => b.measEntry e.1 e.2
      b.sample (gnsOrigin 3) 0 data conf (conf != 0) (some (stampOf t)))
    let b := b.modGns fun g => { g with measSeq := (seq + 1) % 2 ^ 32, measAt := some t }
    if t % ratePeriod (b.use R.STR_CVY_CFG_RATE) = 0 then let b := b.boundary 0x45080000 0x45080100; { b with cvy := { b.cvy with waiting := b.cvy.waiting ++ [t] } } else b

def execGnssMeasEpoch (meas : List GnsMeas) (s : State) : Result := s.go fun b => b.measEpoch meas

/-- The ephemeris of a satellite key holds until an instant of module time; an earlier one of that satellite goes. -/
def Block.ephTake (b : Block) (key until_ : Nat) : Block :=
  b.modGns fun g => { g with data := { g.data with ephs := (g.data.ephs.filter (·.1 != key)) ++ [(key, until_)] } }

/-- A navigation data unit is complete: it is sent, and one that passed its check serves the orbit aids (R332, Table 14.10); `age` is the time since its first bit in µs, `eph`, `alm` and `leap` what the unit completes. -/
def execGnssNavUnit (n : Fin 384) (check : Fin 4) (kind nbits : Nat) (bits : List Nat) (age : Nat) (eph alm leap : Option Nat) (s : State) : Result := s.go fun b =>
  if !b.gnsRuns || !(b.gch n == chTRACK || (b.gch n == chLOST && check.val == 3)) then b
  else
    let good := check.val == 0 || check.val == 2
    let nb := (nbits + 7) / 8
    let data := [b.get (R.GNS_CHn_STAT_SIG n), b.get (R.GNS_CHn_STAT_SV n)] ++ le 2 n ++ [check.val, kind % 256] ++ le 2 nbits ++ (List.range nb).map fun k => bits.getD k 0 % 256
    let b := b.sample (gnsOrigin 3) 1 data (if good then 255 else 0) good (some (stampOf (b.sys.mtime - age * us)))
    if !good then b
    else
      let key := sigSystem (b.get (R.GNS_CHn_STAT_SIG n)) * 256 + b.get (R.GNS_CHn_STAT_SV n)
      let b := match eph with | some t => b.ephTake key t | none => b
      let b := b.modGns fun g => { g with data := { g.data with alm := alm.getD g.data.alm, leap := leap <|> g.data.leap } }
      { b with sys := { b.sys with leap := leap <|> b.sys.leap } }

/-! ## Corrections (R339, R340) -/

/-- Message classes of Table 14.13: 1 station, 2 observation, 3 other use, 0 unused. -/
def rtcmClass (m : Nat) : Nat :=
  if m = 1005 || m = 1006 then 1
  else if [107, 108, 109, 111, 112].any fun d => decide (d * 10 + 4 ≤ m ∧ m ≤ d * 10 + 7) then 2
  else if [1033, 1230, 1019, 1020, 1042, 1044, 1045, 1046].contains m then 3
  else 0

/-- A correction stream qualifies. -/
def Block.rtcmOk (b : Block) (k : Nat) : Bool := (b.gnss.obsAt.getD k none).any fun t => decide (b.now ≤ t + b.use R.GNS_RTK_AGE_MAX_S * sec)

/-- The stream that supplies corrections: the primary while it qualifies, else the secondary. -/
def Block.rtcmSource (b : Block) : Option Nat := if b.rtcmOk 0 then some 0 else if b.rtcmOk 1 then some 1 else none

/-- System of an ephemeris message: GPS, GLONASS, BeiDou, QZSS, Galileo (Table 14.13). -/
def rtcmSystem (m : Nat) : Option Nat :=
  if m = 1019 then some 0 else if m = 1020 then some 2 else if m = 1042 then some 3 else if m = 1044 then some 4 else if m = 1045 || m = 1046 then some 1 else none

/-- A frame: `moved` says that the station position moved by more than 1 m, `eph` names the satellite of an ephemeris message and the module time up to which its ephemeris is valid (R326, R339). -/
def execRtcmFrame (second good : Bool) (msg station : Nat) (moved : Bool) (eph : Option (Nat × Nat)) (s : State) : Result := s.go fun b =>
  let k := b2n second
  let c := rtcmClass msg
  if !b.gnsRuns then b
  else if !good then b.inc R.GNS_CNT_C_RTCM_CRC
  else if c = 0 then b.inc R.GNS_CNT_C_RTCM_UNUSED
  else if c = 3 then
    match rtcmSystem msg, eph with
    | some y, some (sv, t) => b.ephTake (y * 256 + sv % 256) t
    | _, _ => b
  else
    let old := b.gnss.station.getD k 0xFFFF
    let changed := (old != 0xFFFF && old != station % 65536) || (c == 1 && moved)
    b.modGns fun g => { g with rtkLost := g.rtkLost && c != 2, station := updAt g.station k fun _ => station % 65536, ambig := g.ambig || changed, obsAt := if c = 2 then updAt g.obsAt k fun _ => some b.now else g.obsAt }

/-- Neither stream qualifies, once per lack of corrections: RTK_LOST_EV. -/
def Block.rtkLostNow (b : Block) : Block :=
  if b.gnss.rtkLost then b else (b.set R.GNS_EV_RTK_LOST_EV 1).modGns fun g => { g with rtkLost := true }

/-- The last observations of both streams have aged beyond AGE_MAX_S. -/
def execRtcmAgeExpired (s : State) : Result := s.go fun b =>
  match b.gnss.obsAt.filterMap id with
  | [] => b
  | l =>
    let b := b.reach (l.foldl max 0 + b.use R.GNS_RTK_AGE_MAX_S * sec + 1)
    b.rtkLostNow

/-! ## Position, checks and time (R333 to R343) -/

/-- A linear confidence map limited to 0 to 255. -/
def confMap (s sf sz : Nat) : Nat := if s ≤ sf then 255 else if sz ≤ s then 0 else 255 * (sz - s) / (sz - sf)

/-- A signal is excluded with a cause, or an excluded one fails again (R343). -/
def Block.exclude (b : Block) (n cause : Nat) : Block :=
  let b := b.modGns fun g => { g with chans := updAt g.chans n fun c => { c with passAt := none } }
  if b.get (R.GNS_CHn_STAT_EXCL n) != 0 then b
  else ((b.set (R.GNS_CHn_STAT_EXCL n) cause).inc R.GNS_CNT_A_EXCLUSIONS).raise (gnsOrigin 0) R.GNS_EV_EXCL_EV [b.get (R.GNS_CHn_STAT_SIG n), b.get (R.GNS_CHn_STAT_SV n), cause]

/-- Channels that a failing signal excludes (Table 14.14). -/
def Block.excludes (b : Block) (n cause : Nat) : List Nat :=
  let id := b.get (R.GNS_CHn_STAT_SIG n)
  let used := (List.range 384).filter fun k => b.gch k == chTRACK || b.gch k == chLOST
  match cause with
  | 2 => used.filter fun k => b.get (R.GNS_CHn_STAT_SV k) == b.get (R.GNS_CHn_STAT_SV n) && sigSystem (b.get (R.GNS_CHn_STAT_SIG k)) == sigSystem id
  | 5 => used.filter fun k => sigSystem (b.get (R.GNS_CHn_STAT_SIG k)) == sigSystem id
  | _ => [n]

/-- Signal checks of an epoch in the order of Table 14.14, and rejoins. -/
def Block.signalChecks (b : Block) (t : Nat) (failing : List (Fin 384 × Nat)) : Block × List Nat :=
  let list := [1, 2, 3, 4, 5, 6].flatMap fun c => ((failing.filter fun e => e.2 == c).take (if c = 6 then 8 else 384)).flatMap fun e => (b.excludes e.1 c).map fun n => (n, c)
  let b := b.eachOf list fun e b => b.exclude e.1 e.2
  let bad := list.map (·.1)
  let b := b.each 384 fun n b =>
    if b.get (R.GNS_CHn_STAT_EXCL n) = 0 || bad.contains n then b
    else match (b.gchData n).passAt with
      | none => b.modGns fun g => { g with chans := updAt g.chans n fun c => { c with passAt := some t } }
      | some p => if p + b.use R.GNS_EXCL_EXCL_S * sec ≤ t then (b.set (R.GNS_CHn_STAT_EXCL n) 0).modGns fun g => { g with chans := updAt g.chans n fun c => { c with passAt := none } } else b
  (b, bad)

/-- The clock checks of R342: 0 pass and send, 1 pass and refuse the correction, 7 TIME fails, 8 FREQ fails. -/
def Block.clockCheck (b : Block) (t : Nat) (o d : Int) : Nat :=
  let slew : Int := if b.sys.slew = 0 then 0 else if b.sys.slew < 0 then b.sys.rateAdj * 1000 else -b.sys.rateAdj * 1000
  let own := d - slew
  let dt : Int := match b.gnss.prev with | some p => (t : Int) - p.2.2 | none => 0
  let step := match b.gnss.prev with | some p => decide (10000 * dt < ((d - p.2.1).natAbs : Int) * (sec : Int)) | none => false
  let jump := match b.gnss.prev with
    | some p => decide ((b.use R.GNS_CHK_B_TIME_JUMP_NS : Int) * 1000 * (sec : Int) < (((o - p.1) * (sec : Int) - p.2.1 * dt).natAbs : Int))
    | none => false
  let st := b.get R.SUP_MTIME_STATUS_STATE
  if (b.use R.GNS_CHK_C_FREQ_TOL * 1000 : Nat) < own.natAbs || step then 8
  else if jump then 7
  else if o.natAbs ≤ 100000000 || st ≤ 1 then 0
  else if o.natAbs ≤ (b.mtBound + 1000) * 1000 then 1
  else 7

/-- The heading of an epoch (R336, Table 14.12b). -/
def Block.heading (b : Block) (t : Nat) (o : GnsSolution) (spoof : Bool) : Block :=
  let len := b.get R.GNS_BASELINE_LEN_MM
  if len = 0 then b
  else
    let bad := o.hdgFixed && decide (b.use R.GNS_BASELINE_TOL_MM < ((o.length : Int) - len).natAbs)
    let st := if o.hdgFixed && !bad then 2 else if o.hdgFixed || o.hdgFloat then 1 else 0
    let conf := if st = 2 && !spoof then confMap o.sigAz (b.use R.GNS_HDGMAP_SF) (max (b.use R.GNS_HDGMAP_SZ) (b.use R.GNS_HDGMAP_SF + 1)) else 0
    let data := le 4 b.gnss.pvtSeq ++ [st, b2n bad + 2 * b2n spoof] ++ le 2 (o.azimuth % 62832) ++ le 2 (lowBits 16 (satS 16 o.pitch)) ++ le 2 (min 65535 o.sigAz) ++ le 2 (min 65535 o.sigPitch) ++
      le 2 (min 65535 o.length) ++ [o.hdgSvs % 256, 0, 0, 0, 0, 0, 0, 0]
    let b := b.sample (gnsOrigin 1) 0 data conf (conf != 0) (some (stampOf t))
    (b.set R.GNS_HDG_STAT_STALE 0).modGns fun g => { g with hdg := data, hdgConf := conf }

/-- The cause 3 or 4 under which more than half of the tested signals fail: a false sky (R341). -/
def skyFalse (o : GnsSolution) : Option Nat :=
  let n := fun c => ((o.failing.filter fun e => e.2 == c).map (·.1)).eraseDups.length
  if o.tested3 < 2 * n 3 then some 3 else if o.tested4 < 2 * n 4 then some 4 else none

/-- A PVT epoch: checks, position, heading, time correction. -/
def Block.pvtEpoch (b : Block) (o : GnsSolution) : Block :=
  if !b.gnsRuns then b
  else
    let b := b.toBoundary (ratePeriod (min (b.use R.GNS_CFG_PVT_RATE) (b.use R.GNS_CFG_MEAS_RATE))) (b.gnss.pvtAt.any fun t => decide (b.sys.mtime ≤ t))
    let t := b.sys.mtime
    let b := b.boundary 0x44800000 0x44802000
    let (b, bad) := b.signalChecks t o.failing
    let src := b.rtcmSource
    let aged := src.isNone && b.gnss.obsAt.any (·.isSome)
    let station := match src with | some k => b.gnss.station.getD k 0xFFFF | none => 0xFFFF
    let moved := b.gnss.ambig || (src.isSome && b.gnss.used.any (· != station))
    let b := b.when aged (·.rtkLostNow)
    let fix := if src.isNone then min o.fix.val 2 else if moved then min o.fix.val 3 else o.fix.val
    let clock := if fix = 0 then 0 else b.clockCheck t o.ofs o.drift
    let sky := skyFalse o
    let fails := sky.isSome || decide (7 ≤ clock)
    let cause := sky.getD clock
    let b := if fails && !b.gnss.spoof then
        (((b.inc R.GNS_CNT_A_SPOOF).set R.GNS_EV_SPOOF_EV 1).raise (gnsOrigin 0) R.GNS_EV_EXCL_EV [0xFF, 0xFF, cause]).modGns fun g => { g with spoof := true, spoofPass := none, prev := none }
      else if fails then b.modGns fun g => { g with spoofPass := none, prev := none }
      else if b.gnss.spoof then
        match b.gnss.spoofPass with
        | none => b.modGns fun g => { g with spoofPass := some t }
        | some p => if p + b.use R.GNS_EXCL_EXCL_S * sec ≤ t then b.modGns fun g => { g with spoof := false, spoofPass := none } else b
      else b
    let spoof := b.gnss.spoof
    let refused := clock == 1 && !spoof
    let b := if fix = 0 then b else
      let b := ((b.seti R.GNS_TIME_OFS_OFFSET_NS (satS 32 (o.ofs / 1000))).set R.GNS_TIME_STAT_SIGMA_NS (min 65535 (o.sigOfs / 1000))).setB R.GNS_TIME_STAT_TIME_REFUSED refused
      let b := b.modGns fun g => { g with prev := if fails then none else some (o.ofs, o.drift, t) }
      if clock = 0 && !spoof then
        (b.sample (gnsOrigin 4) 0 (le 8 (lowBits 64 o.ofs) ++ le 4 (min (2 ^ 32 - 1) o.sigOfs) ++ le 4 b.gnss.pvtSeq) 255 true (some (stampOf t))).modGns fun g => { g with ofs := o.ofs, drift := o.drift, ofsAt := t }
      else b
    let sf := b.use R.GNS_CONFMAP_SF_MM
    let conf := if fix = 0 || spoof then 0 else confMap o.sigH sf (max (b.use R.GNS_CONFMAP_SZ_CM) (sf / 10 + 1) * 10)
    let age := match src with | some k => min 0xFFFE ((b.now - (b.gnss.obsAt.getD k none).getD b.now) / (100 * ms)) | none => 0xFFFF
    let data := le 4 b.gnss.pvtSeq ++ [fix, b2n refused + 2 * b2n spoof + 4 * b2n (b.gnss.jammed != 0) + 8 * b2n aged + 16 * b2n (bad != []), o.svs % 256, o.sigs % 256] ++
      le 8 (lowBits 64 o.lat) ++ le 8 (lowBits 64 o.lon) ++ le 4 (lowBits 32 o.height) ++ (List.range 3).flatMap (fun k => le 4 (lowBits 32 (o.vel.getD k 0))) ++
      le 2 (min 65535 o.sigH) ++ le 2 (min 65535 o.sigV) ++ le 2 (min 65535 o.sigVel) ++ le 2 (min 65535 o.pdop) ++ le 8 (lowBits 64 o.ofs) ++ le 4 (lowBits 32 o.drift) ++ le 2 age ++ le 2 station
    let b := b.sample (gnsOrigin 0) 0 data conf (conf != 0) (some (stampOf t))
    let b := b.heading t o spoof
    let b := (b.set R.GNS_PVT_STAT_STALE 0).set R.GNS_STATUS_SVS o.svs
    let b := b.set R.GNS_STATUS_STATE (if fix != 0 && !spoof then 3 else if 0 < b.get R.GNS_STATUS_TRACKED then 2 else 1)
    b.modGns fun g => { g with pvt := data, pvtConf := conf, pvtSeq := (g.pvtSeq + 1) % 2 ^ 32, pvtAt := some t, ambig := false, used := if src.isSome then some station else g.used
                               data := if conf = 0 then g.data else { g.data with fixAt := some t, sigma3 := 3 * o.sigH } }

def execGnssPvtEpoch (o : GnsSolution) (s : State) : Result := s.go fun b => b.pvtEpoch o

/-! ## Interference (R344) -/

/-- GNS_JAM shows the rise of band k in its bits 5k + 4:5k. -/
def Block.jamRise (b : Block) (k db : Nat) : Block :=
  let v := b.get R.GNS_JAM_RISE
  b.set R.GNS_JAM_RISE (v / 2 ^ (5 * k + 5) * 2 ^ (5 * k + 5) + min 31 db * 2 ^ (5 * k) + v % 2 ^ (5 * k))

def execGnssJam (a : Fin 2) (band : Fin 3) (db : Nat) (s : State) : Result := s.go fun b =>
  let k := 3 * a.val + band.val
  if !b.gnsRuns || db < b.use R.GNS_EXCL_JAM_DB then b
  else
    let b := b.jamRise k db
    if bit b.gnss.jammed k then b
    else (b.raise (antOrigin a) R.GNS_EV_JAM_EV [a, band]).modGns fun g => { g with jammed := withBit g.jammed k true }

def execGnssJamClear (a : Fin 2) (band : Fin 3) (db : Nat) (s : State) : Result := s.go fun b =>
  let k := 3 * a.val + band.val
  if !b.gnsRuns || b.use R.GNS_EXCL_JAM_DB ≤ db + 1 then b
  else (b.jamRise k db).modGns fun g => { g with jammed := withBit g.jammed k false }

/-! ## Hot-start data, start and stop (R329, R345 to R347) -/

/-- The older copy: an invalid one first, else the lower sequence. -/
def Gnss.olderCopy (g : Gnss) : Nat :=
  let a := g.copies.getD 0 {}
  let c := g.copies.getD 1 {}
  if !a.valid then 0 else if !c.valid then 1 else if a.seq ≤ c.seq then 0 else 1

/-- The newer copy that holds. -/
def Gnss.newest (g : Gnss) : Option HotCopy :=
  match g.copies.filter (·.valid) with
  | [] => none
  | x :: r => some (r.foldl (fun a y => if a.seq < y.seq then y else a) x)

/-- The older copy takes the data in use. -/
def Block.hotWrite (b : Block) : Block :=
  let n := 1 + (b.gnss.copies.map (·.seq)).foldl max 0
  b.spend.modGns fun g => { g with copies := updAt g.copies g.olderCopy fun _ => { g.data with valid := true, seq := n, leap := g.data.leap <|> b.sys.leap } }

/-- Its 24 KiB in the backup SRAM change; their layout is not given, so the bytes are free values. -/
def Block.hotBytes (b : Block) (m : Memory) : Memory :=
  m.writeBytes (0x49010000 + 0x6000 * b.gnss.olderCopy) ((List.range 24576).map fun k => b.freshW k 8)

def execGnssHotstartWrite (s : State) : Result :=
  if s.blk.gnsRuns then s.goMem (·.hotWrite) (fun b m => b.hotBytes m) else s.go id

/-- The start kind (Table 14.7): u_t from module time or the RTC, u_pos from the last fix of the hot-start data. -/
def Block.startKind (b : Block) (h : HotCopy) : Nat :=
  let t := b.sys.mtime
  let ut := b.aidTime
  let upos := b.aidPos h
  let ephs := (h.ephs.filter fun e => decide (t ≤ e.2)).length
  if ut.any (fun u => decide (u ≤ ms)) && upos.any (fun u => decide (u ≤ 1000000)) && 6 ≤ ephs then 1
  else if ut.any (fun u => decide (u ≤ 5 * sec)) && upos.isSome && t ≤ h.alm then 2
  else 3

def gnsCounters : List Fld := [R.GNS_CNT_A_EXCLUSIONS, R.GNS_CNT_A_SPOOF, R.GNS_CNT_B_SLIPS, R.GNS_CNT_B_LOSSES, R.GNS_CNT_C_RTCM_CRC, R.GNS_CNT_C_RTCM_UNUSED]

/-- The convoy solver begins with the baseband: CSEQ 0, no solution yet. -/
def Block.cvyStart (b : Block) : Block :=
  let b := (b.clear [R.STR_CVY_CNT_EXTRAP, R.STR_CVY_CNT_NONE, R.STR_CVY_STAT_STATE, R.STR_CVY_STAT_PARTNER_LOST]).set R.STR_CVY_STAT_STALE 1
  { b with cvy := { peer := b.cvy.peer, heardAt := b.now } }

/-- START: the start kind is fixed, every channel begins IDLE, streams restart. `stood`: it is a start from PARKED or STANDBY (Table 14.5). -/
def Block.gnsStart (b : Block) (stood : Bool) : Block :=
  let b := b.cvyStart
  let hot := b.gnss.newest
  let kind := b.startKind (hot.getD {})
  let b := (b.each 384 fun n b => if b.gch n = chIDLE then b else b.gchIdle n).clear gnsCounters
  let b := (b.resync fun o => oIsland o == 3 && oCell o == 15)
  let b := ((b.set R.GNS_STATUS_STATE 1).set R.GNS_STATUS_START_KIND kind).setB R.GNS_TIME_STAT_HOT_VALID hot.isSome
  let b := (b.set R.GNS_PVT_STAT_STALE 1).set R.GNS_HDG_STAT_STALE 1
  let g := b.gnss
  { b with gnss := { retry := g.retry, stood := stood, copies := g.copies, data := hot.getD {}, pps := g.pps, report := g.report, reportSec := g.reportSec, refresh := g.refresh, pvt := g.pvt, hdg := g.hdg } }

/-- STOP or QUIESCE: every channel IDLE. -/
def Block.gnsStop (b : Block) (byStop : Bool) : Block :=
  if !b.gnsRuns then b
  else
    let b := { b with cvy := { b.cvy with waiting := [] } }
    ((b.each 384 fun n b => if b.gch n = chIDLE then b else b.gchIdle n).set R.GNS_STATUS_STATE gnsSTOPPED).modGns fun g => { g with byStop := byStop }

def Block.gnsRefusal (b : Block) : Option Nat :=
  b.unitRefusal gnsTarget

def execGnsStop (s : State) : Result := s.ask s.blk.gnsRefusal (·.gnsStop true)

def execGnsStart (s : State) : Result := s.ask s.blk.gnsRefusal fun b => if b.gnsState = gnsSTOPPED && b.gnss.byStop then b.gnsStart false else b

def execGnsCold (s : State) : Result := s.ask s.blk.gnsRefusal fun b => b.modGns fun g => { g with copies := g.copies.map fun c => { c with valid := false } }

def execGnsClrCnt (s : State) : Result := s.ask s.blk.gnsRefusal (·.clear gnsCounters)

/-- Reads of word 0 latch the rest of the same solution (R338). -/
def Block.pvtLatch (b : Block) : Block :=
  (b.each 16 fun n b => b.set (R.GNS_PVT_Wn_BYTES n) (bytesAt b.gnss.pvt (4 * n) 4)).set R.GNS_PVT_STAT_CONF b.gnss.pvtConf

def Block.hdgLatch (b : Block) : Block :=
  (b.each 6 fun n b => b.set (R.GNS_HDG_Wn_BYTES n) (bytesAt b.gnss.hdg (4 * n) 4)).set R.GNS_HDG_STAT_CONF b.gnss.hdgConf

def execGnsPvtRead (s : State) : Result := s.go (·.pvtLatch)
def execGnsHdgRead (s : State) : Result := s.go (·.hdgLatch)

/-- A write of a signal mask that BAD_SIGNAL refuses: it sets a reserved bit, or in GNS_HDG_SIG a bit that is clear in GNS_SIG_EN (R320). -/
def Block.badSignal (b : Block) (hdg : Bool) (v : Nat) : Bool :=
  decide (2 ^ 17 ≤ v) || (hdg && (List.range 17).any fun k => bit v k && !b.bitOf R.GNS_SIG_EN_EN k)

/-- A reset of island 3 loses every channel, loop, estimate and exclusion, and both supplies (R347). -/
def Block.gnsReset (b : Block) : Block :=
  let g := b.gnss
  { ((b.resetRegs 0x44800000 0x44802000).resetRegs 0x45080000 0x45080100) with cvy := {}, gnss := { copies := g.copies, pps := g.pps, report := g.report, reportSec := g.reportSec, refresh := g.refresh } }

/-! ## Pulse per second (R348 to R350) -/

/-- The gate of output `x` allows a pulse. -/
def Block.ppsGate (b : Block) (x : Nat) : Bool :=
  let st := b.get R.SUP_MTIME_STATUS_STATE
  let hold := b.get R.ETH_PPS_HOLDMAX_NS
  match b.get (R.ETH_PPSx_CFG_GATE x) with
  | 0 => st != 0
  | 1 => st == 2 || (st == 3 && (hold == 0 || decide (b.mtBound ≤ hold)))
  | _ => st == 2

/-- Island 4 runs, in RUN. -/
def Block.ppsLive (b : Block) : Bool := (b.island 4).run == .running && b.get R.PWR_STATE_STATE == 3 && !b.cellOff (org 4 6 127)

def Block.modPps (b : Block) (x : Nat) (f : Pps → Pps) : Block := b.modGns fun g => { g with pps := updAt g.pps x f }

/-- One output at the whole second `k`. Delay and width of PPS_B come into use at the first pulse whose edge lies at least 1 ms after their write. -/
def Block.ppsEdge (b : Block) (x k : Nat) : Block :=
  let p := b.gnss.pps.getD x {}
  let run := if x = 0 then R.ETH_PPS_STAT_RUN_A else R.ETH_PPS_STAT_RUN_B
  if !b.flag (R.ETH_PPSx_CFG_EN x) then b.set run 0
  else if !b.ppsGate x then (b.set run 0).inc R.ETH_PPS_STAT_GATED
  else if p.lastSec.any fun l => decide (k ≤ l) then b
  else
    let w := b.get (R.ETH_PPSx_CFG_WIDTH_MS x)
    let d := if x = 1 then b.geti R.ETH_PPSB_DELAY_DELAY_NS else 0
    let fresh := x == 0 || decide ((p.writeAt + ms : Int) ≤ (b.now : Int) - d)
    let d := if fresh then d else p.delay
    let w := if fresh then w else p.width
    (b.set run 1).modPps x fun p => { p with lastSec := some k, edge := -d, delay := d, width := w, fin := ((b.now : Int) - d + (w * ms : Nat)).toNat }

def execPpsSecond (s : State) : Result := s.go fun b =>
  if !b.ppsLive then (b.set R.ETH_PPS_STAT_RUN_A 0).set R.ETH_PPS_STAT_RUN_B 0
  else
    let b := b.toBoundary sec ((b.gnss.pps.filterMap (·.lastSec)).any fun k => decide (b.sys.mtime / sec ≤ k))
    let k := b.sys.mtime / sec
    (b.ppsEdge 0 k).ppsEdge 1 k

/-- The predicted error of the next PPS_A edge: tick quantisation, offset of island 4's copy, and the last correction advanced by its drift (R349). A pulse that is not to be emitted has no report. -/
def execPpsReport (quant copyOfs : Int) (s : State) : Result := s.go fun b =>
  if !b.ppsLive || !b.flag (R.ETH_PPSx_CFG_EN 0) || !b.ppsGate 0 then b
  else
    let k := b.sys.mtime / sec + 1
    let g := b.gnss
    let e := quant + copyOfs + g.ofs + g.drift * ((k * sec : Int) - g.ofsAt) / (sec : Int)
    let st := b.get R.SUP_MTIME_STATUS_STATE
    let conf := if st = 2 || st = 3 then 255 else 0
    let b := b.sample (org 4 6 0) 0 (le 4 (lowBits 32 (satS 32 e)) ++ le 4 k ++ [st, 0, 0, 0]) conf (conf != 0) (some (stampOf (k * sec)))
    b.modGns fun g => { g with report := satS 32 e, reportSec := k % 2 ^ 32 }

/-- A read of ETH_PPSA_QERR latches ETH_PPSA_QSEQ. -/
def Block.ppsLatch (b : Block) : Block := (b.seti R.ETH_PPSA_QERR_ERR_PS b.gnss.report).set R.ETH_PPSA_QSEQ_SEC b.gnss.reportSec

def execPpsaQerrRead (s : State) : Result := s.go (·.ppsLatch)

/-- A write of a pulse output's configuration word, or of the delay of PPS_B. -/
def Block.ppsCfg (b : Block) (x v : Nat) : Block :=
  let p := b.gnss.pps.getD x {}
  let oldW := b.get (R.ETH_PPSx_CFG_WIDTH_MS x)
  let b := (((b.set (R.ETH_PPSx_CFG_EN x) v).set (R.ETH_PPSx_CFG_GATE x) (min 2 (v / 2 % 4))).set (R.ETH_PPSx_CFG_POL x) (v / 8)).set (R.ETH_PPSx_CFG_WIDTH_MS x) (max 1 (min 500 (v / 65536 % 512)))
  b.modPps x fun q => { q with writeAt := b.now, width := if p.lastSec.isNone then oldW else q.width }

def Block.ppsDelay (b : Block) (v : Nat) : Block :=
  (b.seti R.ETH_PPSB_DELAY_DELAY_NS (clampI (-50000) 50000 (signed 32 v))).modPps 1 fun q => { q with writeAt := b.now }

def execPpsbDelayWrite (delay : Bool) (v : BitVec 32) (s : State) : Result :=
  s.ask (s.blk.unitRefusal (org 4 6 127)) fun b => if delay then b.ppsDelay v.toNat else b.ppsCfg 1 v.toNat

end Sys2Proof.Machine
end

