-- ==== Sys2Proof/Machine/CanPorts.lean ====
section
/-! DEFINITION. The message-bus ports: frames, filters, transmit objects, the queue, the schedule matrix and fault confinement (chapter 18). Bits on the wire are outside the block: the command that ends a frame names its start of frame. -/

namespace Sys2Proof.Machine

open Sys2Proof

def BAD_TIMING : Nat := 0x59
def TX_ABANDONED : Nat := 0x5A
def TX_FLUSHED : Nat := 0x5B
def BAD_FRAME : Nat := 0x5C

/-- Port modes (Table 18.4). -/
def mbOFF : Nat := 0
def mbSTOPPED : Nat := 1
def mbMONITOR : Nat := 2
def mbRESTRICTED : Nat := 3
def mbNORMAL : Nat := 4
def mbISOLATED : Nat := 5

def mbOrigin (n : Nat) : Nat := org 4 (n / 8) (n % 8)
def mbTarget (n : Nat) : Nat := org 4 (n / 8) (n % 8)
def Block.port (b : Block) (n : Nat) : CanPort := b.can.getD n {}
def Block.modPort (b : Block) (n : Nat) (f : CanPort → CanPort) : Block := { b with can := updAt b.can n f }
def Block.mbMode (b : Block) (n : Nat) : Nat := b.get (R.MB_STATUS_MODE n)
def Block.mbRole (b : Block) (n : Nat) : Nat := b.get (R.MB_SCHED_ROLE n)
def Block.mbRefusal (b : Block) (n : Nat) : Option Nat := b.unitRefusal (mbTarget n)

/-- RXBUF, QUEUE and the PENDING bits follow the buffers. -/
def Block.mbFigures (b : Block) (n : Nat) : Block :=
  let x := b.port n
  let b := (b.set (R.MB_STATUS_RXBUF n) x.rx.length).set (R.MB_STATUS_QUEUE n) x.queue.length
  b.each 32 fun o b => let y := x.objs.getD o {}; b.setB (R.MB_OBJo_STAT_PENDING n o) (y.frame.isSome && (y.fresh || y.ready))

/-! ## Frames (Table 18.5) -/

/-- Data bytes of a DLC. -/
def dlcBytes (fdf : Bool) (dlc : Nat) : Nat := if dlc ≤ 8 then dlc else if fdf then [12, 16, 20, 24, 32, 48, 64].getD (dlc - 9) 64 else 8

/-- Data bytes of a frame. -/
def frameLen (f : CanFrame) : Nat := if f.rtr then 0 else dlcBytes f.fdf f.dlc

/-- The frame record of a received frame; its time is resolved to 12.5 ns. -/
def CanRx.record (x : CanRx) (dropped : Bool) : List Nat :=
  let f := x.frame
  le 4 (f.id % 2 ^ 29 + 2 ^ 29 * b2n f.ide + 2 ^ 30 * b2n f.fdf + 2 ^ 31 * b2n f.brs) ++ [f.dlc, b2n f.rtr + 2 * b2n f.esi + 4 * b2n x.own + 8 * b2n dropped] ++
    le 2 x.filter ++ le 8 (x.sof * 2 / 25 * 25 / 2) ++ (f.data ++ List.replicate 64 0).take (frameLen f)

/-- The frame of a frame record; none where R439 answers BAD_FRAME. -/
def frameOf (d : List Nat) : Option CanFrame :=
  let w := bytesAt d 0 4
  let f : CanFrame := { id := w % 2 ^ 29, ide := bit w 29, fdf := bit w 30, brs := bit w 31, dlc := bytesAt d 4 1 % 16, rtr := bit (bytesAt d 5 1) 0, esi := bit (bytesAt d 5 1) 1, data := d.drop 16 }
  if (f.rtr && f.fdf) || d.length ≠ 16 + frameLen f then none else some f

/-! ## Bit times (R432, R446) -/

/-- A nominal and a data bit in units of 12.5 ns. -/
def Block.nominalBit (b : Block) (n : Nat) : Nat := (b.get (R.MB_NBT_BRP n) + 1) * (b.get (R.MB_NBT_PROP n) + b.get (R.MB_NBT_PH1 n) + b.get (R.MB_NBT_PH2 n) + 4)
def Block.dataBit (b : Block) (n : Nat) : Nat := (b.get (R.MB_DBT_BRP n) + 1) * (b.get (R.MB_DBT_PROP n) + b.get (R.MB_DBT_PH1 n) + b.get (R.MB_DBT_PH2 n) + 3)

/-- A write that BAD_TIMING refuses, judged on the block as the write would leave it. -/
def Block.badTiming (after : Block) (n : Nat) : Bool :=
  let g := fun (f : Fld) => after.get f
  let nom := after.nominalBit n
  let dat := after.dataBit n
  g (R.MB_NBT_PH2 n) == 0 || decide (g (R.MB_NBT_PH1 n) < g (R.MB_NBT_SJW n)) || decide (g (R.MB_NBT_PH2 n) < g (R.MB_NBT_SJW n)) ||
  decide (g (R.MB_DBT_PH1 n) < g (R.MB_DBT_SJW n)) || decide (g (R.MB_DBT_PH2 n) < g (R.MB_DBT_SJW n)) ||
  decide (nom < 80) || decide (8000 < nom) || decide (dat < 16) || decide (nom < dat)

/-- Longest duration of a frame in ns, with the most stuff bits its format admits. -/
def Block.frameTime (b : Block) (n : Nat) (f : CanFrame) : Nat :=
  let d := frameLen f
  if !f.fdf then
    let s := (if f.ide then 54 else 34) + 8 * d
    (s + (s - 1) / 4 + 10) * b.nominalBit n * 25 / 2
  else
    let arb := if f.ide then 36 else 17
    let body := 5 + 8 * d
    let crc := if d ≤ 16 then 4 + 17 + 6 else 4 + 21 + 7
    (arb + (arb - 1) / 4 + 10) * b.nominalBit n * 25 / 2 + (body + body / 4 + crc) * (if f.brs then b.dataBit n else b.nominalBit n) * 25 / 2

/-! ## What competes for the bus (R440, R443, R446) -/

/-- What a port sends. -/
inductive CanSrc where
  | ref
  | obj (o : Nat)
  | que (i : Nat)
  deriving DecidableEq, Repr

/-- Arbitration order (ISO 11898-1): lower identifier bits first, base before extended, data before remote. -/
def frameRank (f : CanFrame) : Nat :=
  if f.ide then f.id % 2 ^ 29 / 2 ^ 18 * 2 ^ 20 + 2 + f.id % 2 ^ 18 * 2 + b2n f.rtr else f.id % 2 ^ 11 * 2 ^ 20 + b2n f.rtr

/-- Two frames of one identifier. -/
def sameId (f g : CanFrame) : Bool := f.ide == g.ide && f.id % (if f.ide then 2 ^ 29 else 2 ^ 11) == g.id % (if f.ide then 2 ^ 29 else 2 ^ 11)

/-- Start of window `w` in the running cycle, in module time. -/
def Block.winStart (b : Block) (n w : Nat) : Nat := ((b.port n).cycle.getD 0) + b.use (R.MB_WINw_START_10US n w) * 10000

/-- End of the open window: the next start of the cycle, or the cycle's end. -/
def Block.winEnd (b : Block) (n w : Nat) : Nat :=
  let base := (b.port n).cycle.getD 0
  let ends := base + b.get (R.MB_SCHED_CYCLE_10US n) * 10000
  let s := b.winStart n w
  (((List.range 32).filter fun k => b.use (R.MB_WINw_TYPE n k) != 0).map fun k => b.winStart n k).foldl (fun e t => if s < t && t < e then t else e) ends

/-- A schedule governs the port: roles MASTER and FOLLOWER outside FALLBACK. -/
def Block.scheduled (b : Block) (n : Nat) : Bool := b.mbRole n != 0 && b.get (R.MB_STATUS_SYNC n) != 3

/-- Object `o` may compete. -/
def Block.objReady (b : Block) (n o : Nat) : Bool := let y := (b.port n).objs.getD o {}; y.frame.isSome && y.ready && !y.spent

/-- Elapsed time at a module time not after now. -/
def Block.elapsedAt (b : Block) (t : Nat) : Nat := b.now - (b.sys.mtime - t)

/-- Heads of the queue: the oldest frame of each identifier. -/
def CanPort.heads (x : CanPort) : List Nat :=
  (List.range x.queue.length).filter fun i => match x.queue[i]? with
    | some q => !(x.queue.take i).any fun r => sameId r.frame q.frame
    | none => false

/-- The best of several by arbitration. -/
def bestOf (l : List (CanSrc × CanFrame)) : Option (CanSrc × CanFrame) :=
  l.foldl (fun a x => match a with | none => some x | some y => if frameRank x.2 < frameRank y.2 then some x else a) none

/-- The reference message of a master (Table 18.6), its start of frame at `sof`. -/
def Block.refFrame (b : Block) (n sof : Nat) : CanFrame :=
  { id := b.get (R.MB_REF_REF_ID n), ide := b.flag (R.MB_REF_IDE n), dlc := 8, data := [b.get (R.MB_CYCLE_COUNT n) + 128 * b2n (b.port n).restart] ++ le 7 (sof / 1000) }

/-- The port takes part: NORMAL and not in bus-off. -/
def Block.mbSends (b : Block) (n : Nat) : Bool := b.mbMode n == mbNORMAL && b.get (R.MB_STATUS_FAULT n) != 2

/-- The reference still waits at `sof`: up to a quarter of its basic cycle (R444). -/
def Block.refWaits (b : Block) (n sof : Nat) : Bool := (b.port n).ref && decide ((b.port n).due ≤ sof) && decide (sof < (b.port n).due + b.get (R.MB_SCHED_CYCLE_10US n) * 2500)

/-- The exclusive window of an object. -/
def Block.objWindow (b : Block) (n o : Nat) : Option Nat := (List.range 32).find? fun w => b.use (R.MB_WINw_TYPE n w) == 1 && b.use (R.MB_WINw_OBJ n w) == o

/-- An object with an exclusive window: those that send in FALLBACK (R445). -/
def Block.exclusiveSrc (b : Block) (n : Nat) : CanSrc → Bool
  | .obj o => (b.objWindow n o).isSome
  | _ => false

/-- The frame that starts at module time `sof`, where one may start: one of those that had come by then. -/
def Block.candidate (b : Block) (n sof : Nat) : Option (CanSrc × CanFrame) :=
  let x := b.port n
  let e := b.elapsedAt sof
  let objs := ((List.range 32).filter fun o => b.objReady n o && decide ((x.objs.getD o {}).at_ ≤ e)).filterMap fun o => ((x.objs.getD o {}).frame).map fun f => (CanSrc.obj o, f)
  let ques := x.heads.filterMap fun i => (x.queue[i]?).bind fun q => if q.at_ ≤ e then some (CanSrc.que i, q.frame) else none
  if !b.mbSends n then none
  else if b.refWaits n sof then some (.ref, b.refFrame n sof)
  else if !b.scheduled n then bestOf (ques ++ if b.mbRole n = 0 then objs else objs.filter fun e => b.exclusiveSrc n e.1)
  else if b.get (R.MB_STATUS_SYNC n) = 2 then none
  else match x.win with
    | none => none
    | some w =>
      let t := b.use (R.MB_WINw_TYPE n w)
      if sof < b.winStart n w then none
      else if t = 1 then
        let o := b.use (R.MB_WINw_OBJ n w)
        if x.used || b.winStart n w + (b.get (R.MB_SCHED_TXEN n) + 1) * b.nominalBit n * 25 / 2 < sof then none else bestOf (objs.filter fun e => e.1 == .obj o)
      else if t = 2 then bestOf ((ques ++ objs).filter fun e => decide (sof + b.frameTime n e.2 ≤ b.winEnd n w))
      else none

/-- The open window is exclusive. -/
def Block.exclusive (b : Block) (n : Nat) : Bool := b.scheduled n && (b.port n).win.any fun w => b.use (R.MB_WINw_TYPE n w) == 1

/-! ## Receiving (R435 to R437) -/

/-- The lowest filter that matches a frame. -/
def Block.filterOf (b : Block) (n : Nat) (f : CanFrame) : Option Nat :=
  (List.range 64).find? fun k => b.use (R.MB_FLTf_ID_EN n k) != 0 && (b.use (R.MB_FLTf_ID_IDE n k) != 0) == f.ide &&
    ((f.id ^^^ b.use (R.MB_FLTf_ID_ID n k)) &&& b.use (R.MB_FLTf_MASK_MASK n k)) == 0

/-- A frame dropped for want of room. -/
def Block.rxDrop (b : Block) (n rxs : Nat) : Block :=
  let first := !(b.port n).dropAt.any fun t => decide (b.now < t + sec)
  let b := ((b.inc (R.MB_CNT_DROP_COUNT n)).set R.FAB_EDGE_SUMMARY_BUS_RX 1).modPort n fun x => { x with lostRx := if x.lostRx.contains rxs then x.lostRx else x.lostRx ++ [rxs], dropAt := some b.now }
  if first then b.raise (mbOrigin n) (R.MB_EV_DROP_EV n) else b.set (R.MB_EV_DROP_EV n) 1

/-- A frame enters the receive buffer. -/
def Block.rxStore (b : Block) (n : Nat) (x : CanRx) : Block :=
  let full := decide (512 ≤ (b.port n).rx.length)
  if !full then b.modPort n fun q => { q with rx := q.rx ++ [x] }
  else if b.use (R.MB_CFG_DROP n) = 1 then b.rxDrop n x.rxs
  else
    let old := ((b.port n).rx.head?.map (·.rxs)).getD 0
    (b.modPort n fun q => { q with rx := q.rx.drop 1 ++ [x] }).rxDrop n old

/-- A frame passes the filters: it is buffered, or counted as unmatched. Tells whether its filter wakes (R435, R442). -/
def Block.rxFilter (b : Block) (n : Nat) (f : CanFrame) (own : Bool) (sof : Nat) (parked : Bool) : Block × Bool :=
  match b.filterOf n f with
  | none => (b.inc (R.MB_CNT_NOMATCH_COUNT n), false)
  | some k =>
    let wake := b.use (R.MB_FLTf_ID_WAKE n k) != 0
    let rxs := b.use (R.MB_FLTf_MASK_RXS n k)
    let b := b.inc (R.MB_CNT_RX_COUNT n)
    if (parked && !wake) || b.get (R.MB_RXSTRk_STREAM n rxs) = 0 then (b, wake)
    else ((b.rxStore n { frame := f, rxs := rxs, filter := k, own := own, sof := sof }).mbFigures n, wake)

/-! ## Fault confinement (R447 to R449) -/

/-- A queue frame leaves with an error note to its source. -/
def Block.dropQueued (b : Block) (n code : Nat) (q : CanQ) : Block := b.errorNote (mbOrigin n) code q.pkt

/-- A packet with a frame record joins the queue (R440). -/
def Block.canEnqueue (b : Block) (n : Nat) (p : Packet) : Block :=
  match frameOf p.data with
  | none => b.errorNote (mbOrigin n) BAD_FRAME p
  | some f => b.modPort n fun x => { x with queue := x.queue ++ [{ frame := f, pkt := p, at_ := b.now }] }

/-- Packets that waited for credit join the queue while it has room (R440). -/
def Block.takeCredit (b : Block) (n : Nat) : Block :=
  ((b.port n).credit.foldl (fun b p => if 32 ≤ (b.port n).queue.length then b else (b.modPort n fun x => { x with credit := x.credit.drop 1 }).canEnqueue n p) b).mbFigures n

/-- Every queue frame is removed with TX_FLUSHED. -/
def Block.emptyQueue (b : Block) (n : Nat) : Block :=
  let l := (b.port n).queue
  let b := (b.modPort n fun x => { x with queue := [] }).inc (R.MB_CNT_ABANDON_FLUSHED n) l.length
  (b.eachOf l fun q b => b.dropQueued n TX_FLUSHED q).mbFigures n

/-- A flush while the port goes on: packets that waited for credit take the room. -/
def Block.flushQueue (b : Block) (n : Nat) : Block := (b.emptyQueue n).takeCredit n

/-- The error counters change: warnings, error-passive and bus-off follow in this order. -/
def Block.errorCounts (b : Block) (n tec rec_ : Nat) : Block :=
  let o := mbOrigin n
  let oldT := (b.port n).tec
  let oldR := b.get (R.MB_ERRCNT_REC n)
  let r := min 255 rec_
  let b := (b.modPort n fun x => { x with tec := tec })
  let b := (b.set (R.MB_ERRCNT_TEC n) (min 255 tec)).set (R.MB_ERRCNT_REC n) r
  let wt := b.get (R.MB_WARN_TEC_WARN n)
  let wr := b.get (R.MB_WARN_REC_WARN n)
  let b := b.when (decide (oldT < wt) && decide (wt ≤ tec)) fun b => b.raise o (R.MB_EV_TEC_WARN_EV n)
  let b := b.when (decide (oldR < wr) && decide (wr ≤ r)) fun b => b.raise o (R.MB_EV_REC_WARN_EV n)
  let b := b.setB (R.MB_STATUS_WARN n) (decide (wt ≤ tec) || decide (wr ≤ r))
  let fault := b.get (R.MB_STATUS_FAULT n)
  let passive := decide (128 ≤ tec) || decide (128 ≤ r)
  let b := b.when (fault == 0 && passive) fun b => (b.set (R.MB_STATUS_FAULT n) 1).raise o (R.MB_EV_PASSIVE_EV n)
  let b := b.when (fault == 1 && !passive) fun b => b.set (R.MB_STATUS_FAULT n) 0
  if tec ≤ 255 || fault = 2 then b
  else
    let b := (((b.set (R.MB_STATUS_FAULT n) 2).set (R.MB_STATUS_RECOVERING n) 1).inc (R.MB_CNT_MISC_BUSOFF n)).raise o (R.MB_EV_BUSOFF_EV n)
    let max_ := b.get (R.MB_WARN_BUSOFF_MAX n)
    let l := b.now :: recent b.now (60 * sec) (b.port n).busoffs
    let b := b.modPort n fun x => { x with busoffs := l, recAt := some b.now, counting := false, isolate := x.isolate || (max_ != 0 && decide (max_ ≤ l.length)) }
    let b := match (b.port n).win with
      | some w => if b.exclusive n && !(b.port n).used && b.objReady n (b.use (R.MB_WINw_OBJ n w)) then (b.inc (R.MB_OBJo_CNT_MISSED n (b.use (R.MB_WINw_OBJ n w)))).modPort n fun x => { x with used := true } else b
      | none => b
    b.when (b.get (R.MB_BUSOFF_BUSOFF_Q n) == 1) fun b => b.flushQueue n

/-- Last error of a phase. -/
def Block.lastError (b : Block) (n lec : Nat) (dataPhase : Bool) : Block := if lec = 0 then b else if dataPhase then b.set (R.MB_ERRCNT_DLEC n) lec else b.set (R.MB_ERRCNT_LEC n) lec

/-- REC after a good reception (ISO 11898-1): from above 127 it falls to a value from 119 to 127 that the standard leaves open. -/
def Block.goodRx (b : Block) (n : Nat) : Block :=
  let r := b.get (R.MB_ERRCNT_REC n)
  if b.mbMode n ≠ mbNORMAL || b.get (R.MB_STATUS_FAULT n) = 2 then b
  else if 127 < r then (b.errorCounts n (b.port n).tec (119 + b.open_ % 9)).spend
  else b.errorCounts n (b.port n).tec (r - 1)

/-- The boundary of a bus port's S fields: those of its registers and of its default data (R77). -/
def Block.busBoundary (b : Block) (n : Nat) : Block := (b.boundary (0x47000000 + 0x1000 * n) (0x47001000 + 0x1000 * n)).boundary (0x47100000 + 0x800 * n) (0x47100800 + 0x800 * n)

/-- The port follows the bus: MONITOR, RESTRICTED, NORMAL outside bus-off, or ISOLATED. -/
def Block.mbHears (b : Block) (n : Nat) : Bool := decide (mbMONITOR ≤ b.mbMode n) && !(b.mbMode n == mbNORMAL && b.get (R.MB_STATUS_FAULT n) == 2)

/-- A frame that a port can receive as valid: CAN FD with FD_EN alone, no remote frame with FDF (Table 18.1). -/
def Block.mbReads (b : Block) (n : Nat) (f : CanFrame) : Bool := b.mbHears n && (!f.fdf || (b.flag (R.MB_CFG_FD_EN n) && !f.rtr))

/-- A buffered frame leaves as a SAMPLE. Frames received before START, and those of PARKED, wait for START (R437, R442, R451). -/
def Block.rxDeliver (b : Block) (n : Nat) : Block :=
  match (b.port n).rx with
  | [] => b
  | x :: r =>
    let lost := (b.port n).lostRx.contains x.rxs
    let b := b.modPort n fun q => { q with rx := r, lostRx := q.lostRx.filter (· != x.rxs) }
    (b.post { kind := .sample, stream := b.get (R.MB_RXSTRk_STREAM n x.rxs), origin := mbOrigin n, stamp := stampOf x.sof, data := x.record lost }).mbFigures n

/-! ## The end of a frame on the wire (R434, Table 3.8) -/

/-- ISOLATED. -/
def Block.isolated (b : Block) (n : Nat) : Block := (b.set (R.MB_STATUS_MODE n) mbISOLATED).inc (R.MB_CNT_MISC_ISOLATIONS n)

/-- STOPPED: the recovery is abandoned, the queue flushed. -/
def Block.mbHalt (b : Block) (n : Nat) (byStop : Bool) : Block :=
  if b.mbMode n = mbOFF || b.mbMode n = mbSTOPPED then b
  else (((b.emptyQueue n).set (R.MB_STATUS_MODE n) mbSTOPPED).set (R.MB_STATUS_RECOVERING n) 0).modPort n fun x => { x with recAt := none, counting := false, ref := false, win := none, byStop := byStop, halt := none }

/-- What was asked comes to pass: STOP; QUIESCE, which delivers the buffered frames first and then answers (R452); ISOLATE. -/
def Block.mbRest (b : Block) (n kind : Nat) : Block :=
  match kind with
  | 0 => b.mbHalt n true
  | 1 => ((List.range (b.port n).rx.length).foldl (fun b _ => b.rxDeliver n) b |>.mbHalt n false).quiesceDone (mbTarget n)
  | _ => ((b.isolated n).set (R.MB_STATUS_RECOVERING n) 0).modPort n fun x => { x with recAt := none, counting := false, halt := none }

/-- STOP, QUIESCE or ISOLATE: a port with a frame ready to send has a frame on the wire, its own or the one that won, and waits for its end (DEDUCED, log entry 154). -/
def Block.mbAsk (b : Block) (n kind : Nat) : Block := if (b.candidate n b.sys.mtime).isSome then b.modPort n fun x => { x with halt := some kind } else b.mbRest n kind

/-- A frame on the wire is over, good or not: a port without schedule takes its class S writes, and what waited for the end comes to pass. -/
def Block.wireOver (b : Block) (n : Nat) : Block :=
  let b := b.when (b.mbRole n == 0) fun b => b.busBoundary n
  match (b.port n).halt with
  | none => b
  | some k => b.mbRest n k

/-- A valid frame is received. Tells whether it wakes the module. -/
def Block.frameRx (b : Block) (n : Nat) (f : CanFrame) (sof : Nat) (parked : Bool) : Block × Bool :=
  if !b.mbReads n f then (b, false)
  else
    let (b, wake) := (((b.toModule sof).set (R.MB_STATUS_STUCK n) 0).goodRx n).rxFilter n f false sof parked
    (b.wireOver n, wake)

def execCanRxDeliver (n : Fin 24) (s : State) : Result :=
  s.if_ (s.blk.mbMode n == mbNORMAL || s.blk.mbMode n == mbISOLATED || (s.blk.mbMode n == mbSTOPPED && (s.blk.port n).byStop)) fun b => b.rxDeliver n

/-! ## Sending (R439 to R441, R446) -/

/-- The object's frame left or was given up: what came while it was on the wire takes its place. -/
def CanObj.after (y : CanObj) (fresh : Bool) (free : Bool) : CanObj :=
  match y.next with
  | some f => { y with frame := some f, fresh := true, next := none, tries := 0, spent := false, ready := free, at_ := y.at_ }
  | none => { y with fresh := fresh, tries := 0 }

/-- Objects of a port that sends each packet on arrival: FREE role with PERIOD_MS 0. -/
def Block.atOnce (b : Block) (n o : Nat) : Bool := !b.scheduled n && b.mbRole n == 0 && b.use (R.MB_OBJo_CFG_PERIOD_MS n o) == 0

/-- A frame is sent successfully. -/
def Block.txSuccess (b : Block) (n sof : Nat) : Block :=
  let b := b.toModule sof
  match b.candidate n sof with
  | none => b
  | some (src, f) =>
    let b := (b.inc (R.MB_CNT_TX_COUNT n)).set (R.MB_STATUS_STUCK n) 0
    let b := b.modPort n fun x => { x with sent := some f, used := true }
    let b := b.errorCounts n ((b.port n).tec - 1) (b.get (R.MB_ERRCNT_REC n))
    let b := match src with
      | .ref =>
        let late := (sof - (b.port n).due) / 10000
        (b.set (R.MB_CYCLE_LATE_US n) (min 255 late)).modPort n fun x => { x with ref := false, restart := false, cycle := some sof }
      | .obj o =>
        (b.inc (R.MB_OBJo_STAT_SENT n o)).modPort n fun x => { x with objs := updAt x.objs o fun y => { y with ready := false }.after false (b.atOnce n o) }
      | .que i => (b.modPort n fun x => { x with queue := x.queue.eraseIdx i }).takeCredit n
    let b := if b.use (R.MB_CFG_RX_OWN n) = 1 then (b.rxFilter n f true sof false).1 else b
    (b.wireOver n).mbFigures n

def execCanTxSuccess (n : Fin 24) (sof : Nat) (s : State) : Result := s.go fun b => b.txSuccess n sof

/-- An attempt fails: lost arbitration (`lec` 0) or an error. -/
def Block.txError (b : Block) (n sof lec : Nat) (dataPhase quiet : Bool) : Block :=
  let b := b.toModule sof
  match b.candidate n sof with
  | none => b
  | some (src, _) =>
    let b := (b.inc (R.MB_CNT_ERR_TX n)).lastError n lec dataPhase
    let limit := b.use (R.MB_TXCFG_RETRY n)
    let isOver := fun (tries : Nat) => limit != 15 && decide (limit < tries + 1)
    let abandon := fun (b : Block) => (b.inc (R.MB_CNT_ABANDON_ABANDONED n)).set (R.MB_EV_ABANDON_EV n) 1
    let b := match src with
      | .ref => b
      | .obj o =>
        if b.exclusive n then
          (b.inc (R.MB_OBJo_CNT_MISSED n o)).modPort n fun x => { x with used := true, objs := updAt x.objs o fun y => if y.next.isSome then y.after true false else y }
        else
          let y := (b.port n).objs.getD o {}
          if isOver y.tries then (abandon b).modPort n fun x => { x with objs := updAt x.objs o fun y => { y with spent := true }.after y.fresh (b.atOnce n o) }
          else b.modPort n fun x => { x with objs := updAt x.objs o fun y => { y with tries := y.tries + 1 } }
      | .que i =>
        match (b.port n).queue[i]? with
        | none => b
        | some q =>
          if isOver q.tries then (((abandon b).modPort n fun x => { x with queue := x.queue.eraseIdx i }).dropQueued n TX_ABANDONED q).takeCredit n
          else b.modPort n fun x => { x with queue := updAt x.queue i fun q => { q with tries := q.tries + 1 } }
    let b := if lec = 0 || quiet then b else b.errorCounts n ((b.port n).tec + 8) (b.get (R.MB_ERRCNT_REC n))
    (if lec = 0 then b else b.wireOver n).mbFigures n

def execCanTxError (n : Fin 24) (sof : Nat) (lec : Fin 7) (dataPhase quiet : Bool) (s : State) : Result := s.go fun b => b.txError n sof lec dataPhase quiet

/-- An error detected while receiving; `dominant`: the first bit after the error flag was dominant. -/
def Block.rxError (b : Block) (n lec : Nat) (dataPhase dominant : Bool) : Block :=
  if !b.mbHears n then b
  else
    let b := (b.inc (R.MB_CNT_ERR_RX n)).lastError n lec dataPhase
    (if b.mbMode n = mbNORMAL then b.errorCounts n (b.port n).tec (b.get (R.MB_ERRCNT_REC n) + (if dominant then 8 else 1)) else b).wireOver n

def execCanRxError (n : Fin 24) (lec : Fin 7) (dataPhase dominant : Bool) (s : State) : Result := s.go fun b => b.rxError n lec dataPhase dominant

/-! ## Objects and the queue (R438 to R440) -/

/-- Position in the data of bit `i` of a signal: little-endian counts up from START_BIT; big-endian counts down within the byte and on in the next, from the most significant bit at START_BIT (log entry 83). -/
def busSigBit (start len i : Nat) (big : Bool) : Nat :=
  if !big then start + i
  else
    let k := len - 1 - i
    let p := (7 - start % 8) + k
    8 * (start / 8 + p / 8) + (7 - p % 8)

/-- The data of a SIGNALS object: its default bytes with the signals written in, and whether one was not available. -/
def Block.signalData (b : Block) (n o : Nat) (p : Packet) : List Nat × Bool :=
  let f := fun k => fun (g : Nat → Nat → Nat → Fld) => b.use (g n o k)
  let base := leNat ((List.range 16).flatMap fun w => le 4 (b.use ⟨0x47100000 + 0x800 * n + 0x40 * o + 4 * w, 0, 32, 0⟩))
  let size := dlcBytes (b.use (R.MB_OBJo_ID_FDF n o) != 0) (b.use (R.MB_OBJo_CFG_DLC n o))
  let (v, na) := (List.range 8).foldl (fun (a : Nat × Bool) k =>
    if f k R.MB_OBJo_SIGk_EN = 0 then a
    else
      let len := f k R.MB_OBJo_SIGk_LEN + 1
      let e := p.data.drop (8 * k)
      let raw := signed 32 (bytesAt e 0 4)
      let raw := if bit (bytesAt e 4 1) 7 then raw else (bytesAt e 0 4 : Int)
      let ok := decide (8 * k + 8 ≤ p.data.length) && bit (bytesAt e 5 1) 0 && p.valid && p.conf != 0 && decide (b.use (R.MB_OBJo_CFG_CONF_MIN n o) ≤ bytesAt e 6 1)
      let val := if f k R.MB_OBJo_SIGk_SIGNED = 1 then lowBits len (satS len raw) else satU len raw
      let write := fun (w : Nat) => (List.range len).foldl (fun a i => withBit a (busSigBit (f k R.MB_OBJo_SIGk_START_BIT) len i (f k R.MB_OBJo_SIGk_ORDER == 1)) (bit w i)) a.1
      if ok then (write val, a.2) else if f k R.MB_OBJo_SIGk_NA = 0 then (write (2 ^ len - 1), true) else (a.1, true)) (base, false)
  (le size v, na)

/-- A packet for a transmit object builds or replaces its frame. -/
def Block.objectPacket (b : Block) (n o : Nat) (p : Packet) (onWire : Bool) : Block :=
  let form := b.get (R.MB_OBJo_CFG_FORM n o)
  if form = 0 || b.get (R.MB_OBJo_STREAM_STREAM n o) ≠ p.stream || p.stream = 0 || b.mbMode n < mbMONITOR then b
  else
    let (fr, na) : Option CanFrame × Bool :=
      if form = 1 then (frameOf p.data, false)
      else
        let (d, na) := b.signalData n o p
        (some { id := b.use (R.MB_OBJo_ID_ID n o), ide := b.use (R.MB_OBJo_ID_IDE n o) != 0, fdf := b.use (R.MB_OBJo_ID_FDF n o) != 0, brs := b.use (R.MB_OBJo_ID_BRS n o) != 0, dlc := b.use (R.MB_OBJo_CFG_DLC n o), data := d }, na)
    match fr with
    | none => b.errorNote (mbOrigin n) BAD_FRAME p
    | some f =>
      let y := (b.port n).objs.getD o {}
      let b := b.setB (R.MB_OBJo_STAT_NA n o) na
      let wire := onWire && b.objReady n o
      let b := b.when (!wire && y.frame.isSome && (y.fresh || y.ready)) fun b => b.inc (R.MB_OBJo_CNT_REPLACED n o)
      let b := b.modPort n fun x => { x with objs := updAt x.objs o fun y =>
        if wire then { y with next := some f, since := some (y.since.getD b.sys.mtime) }
        else { y with frame := some f, fresh := true, ready := y.ready || b.scheduled n || b.atOnce n o, spent := false, tries := 0, since := some (y.since.getD b.sys.mtime), at_ := b.now } }
      b.mbFigures n

def execCanObjectPacket (n : Fin 24) (o : Fin 32) (p : Packet) (onWire : Bool) (s : State) : Result := s.go fun b => if b.heard p then b.objectPacket n o p onWire else b

/-- A packet on a queue stream joins the queue; a full queue and a stopped port withhold credit, and the packet waits (R82, R440). -/
def Block.queuePacket (b : Block) (n : Nat) (p : Packet) : Block :=
  if p.stream = 0 || !(List.range 8).any (fun k => b.get (R.MB_QSTRk_STREAM n k) == p.stream) || b.mbMode n = mbOFF then b
  else if b.mbMode n = mbSTOPPED || 32 ≤ (b.port n).queue.length || !(b.port n).credit.isEmpty then b.modPort n fun x => { x with credit := x.credit ++ [p] }
  else (b.canEnqueue n p).mbFigures n

def execCanQueuePacket (n : Fin 24) (p : Packet) (s : State) : Result := s.go fun b => if b.heard p then b.queuePacket n p else b

/-- An opportunity of an object: a frame that is new, or any with SEND 1, may compete. -/
def CanObj.opportunity (always : Bool) (y : CanObj) : CanObj :=
  if y.frame.isNone then y
  else if always then { y with ready := true, spent := false, tries := if y.spent then 0 else y.tries }
  else { y with ready := y.ready || y.fresh }

/-- An opportunity now: a frame that could not compete before may from now on. -/
def Block.objOpportunity (b : Block) (n o : Nat) : Block :=
  b.modPort n fun x => { x with objs := updAt x.objs o fun y =>
    let z := CanObj.opportunity (b.use (R.MB_OBJo_CFG_SEND n o) == 1) y
    if z.ready && !z.spent && !(y.ready && !y.spent) then { z with at_ := b.now } else z }

/-- Period of an object in ns: PERIOD_MS in the FREE role, CYCLE × 2^REPEAT of its exclusive window in FALLBACK. -/
def Block.objPeriod (b : Block) (n o : Nat) : Nat :=
  if b.mbRole n = 0 then b.use (R.MB_OBJo_CFG_PERIOD_MS n o) * ms
  else if b.get (R.MB_STATUS_SYNC n) = 3 then match b.objWindow n o with
    | some w => b.get (R.MB_SCHED_CYCLE_10US n) * 10000 * 2 ^ b.use (R.MB_WINw_REPEAT n w)
    | none => 0
  else 0

/-- An object's period elapses: the first of its ends, counted from the start of its stream, that has not passed and was not yet taken. -/
def Block.objectPeriod (b : Block) (n o : Nat) : Block :=
  let per := b.objPeriod n o
  let y := (b.port n).objs.getD o {}
  match y.since with
  | none => b
  | some t0 =>
    if per = 0 || b.mbMode n ≠ mbNORMAL then b
    else
      let k := (b.sys.mtime - t0 + per - 1) / per
      let t := if y.last = some (t0 + k * per) then t0 + (k + 1) * per else t0 + k * per
      let b := (b.toModule t).modPort n fun x => { x with objs := updAt x.objs o fun y => { y with last := some t } }
      (b.objOpportunity n o).mbFigures n

def execCanObjectPeriod (n : Fin 24) (o : Fin 32) (s : State) : Result := s.go fun b => b.objectPeriod n o

/-! ## The schedule (R443 to R446) -/

/-- The open window closes: an exclusive object whose frame did not start is counted. -/
def Block.closeWindow (b : Block) (n : Nat) : Block :=
  match (b.port n).win with
  | none => b
  | some w =>
    let o := b.use (R.MB_WINw_OBJ n w)
    let missed := b.exclusive n && !(b.port n).used && b.objReady n o
    (b.when missed fun b => b.inc (R.MB_OBJo_CNT_MISSED n o)).modPort n fun x => { x with win := none, used := false }

/-- A basic cycle starts: class S writes come into use, no window is open yet. -/
def Block.newCycle (b : Block) (n count : Nat) : Block :=
  (((b.closeWindow n).busBoundary n).set (R.MB_CYCLE_COUNT n) (count % 2 ^ b.get (R.MB_SCHED_CYCLES n))).modPort n fun x => { x with winAt := none }

/-- A master's basic cycle k starts at k × CYCLE + PHASE; its reference goes ahead of every other frame. -/
def Block.basicCycle (b : Block) (n : Nat) : Block :=
  if b.mbRole n ≠ 1 || b.mbMode n ≠ mbNORMAL then b
  else
    let len := b.get (R.MB_SCHED_CYCLE_10US n) * 10000
    let ph := b.get (R.MB_REF2_PHASE_10US n) * 10000
    let strict := (b.port n).cycle.isSome && decide (b.sys.mtime ≤ (b.port n).due)
    let k := (b.sys.mtime - ph + (if strict then len else len - 1)) / max 1 len
    let t := k * len + ph
    let b := b.toModule t
    let b := b.when (b.port n).ref fun b => b.inc (R.MB_CNT_MISC_REF_MISS n)
    (b.newCycle n k).modPort n fun x => { x with ref := true, due := t, cycle := some t }

def execCanBasicCycle (n : Fin 24) (s : State) : Result := s.go fun b => b.basicCycle n

/-- The reference has not started by a quarter of the cycle. -/
def Block.refLate (b : Block) (n : Nat) : Block :=
  if !(b.port n).ref then b
  else
    let t := (b.port n).due + b.get (R.MB_SCHED_CYCLE_10US n) * 2500
    ((b.toModule t).inc (R.MB_CNT_MISC_REF_MISS n)).modPort n fun x => { x with ref := false }

def execCanRefLate (n : Fin 24) (s : State) : Result := s.go fun b => b.refLate n

/-- A frame is the reference message of the port's schedule. -/
def Block.isRef (b : Block) (n : Nat) (f : CanFrame) : Bool :=
  f.id % 2 ^ 29 == b.get (R.MB_REF_REF_ID n) && f.ide == b.flag (R.MB_REF_IDE n) && !f.fdf && !f.rtr && f.dlc == 8

/-- A reference message arrives: a follower's cycle begins; a master counts a conflict. -/
def Block.reference (b : Block) (n : Nat) (f : CanFrame) (sof : Nat) : Block :=
  if !b.mbReads n f || !b.isRef n f then b
  else if b.mbRole n = 1 then (b.inc (R.MB_CNT_MISC_CONFLICT n)).raise (mbOrigin n) (R.MB_EV_CONFLICT_EV n)
  else if b.mbRole n = 2 then
    let d := f.data ++ List.replicate 8 0
    let ofs : Int := (bytesAt d 1 7 : Int) - (sof / 1000 % 2 ^ 56 : Nat)
    let b := ((b.toModule sof).newCycle n (bytesAt d 0 1 % 64)).seti (R.MB_CYCLE_OFS_US n) (satS 16 ofs)
    (b.set (R.MB_STATUS_SYNC n) 1).modPort n fun x => { x with cycle := some sof, misses := 0 }
  else b

def execCanReference (n : Fin 24) (f : CanFrame) (sof : Nat) (s : State) : Result := s.go fun b => b.reference n f sof

/-- No reference within 1.25 cycles: the first miss runs one cycle on the follower's own timing, the second ends its synchronisation. -/
def Block.refMiss (b : Block) (n : Nat) : Block :=
  match (b.port n).cycle with
  | none => b
  | some t =>
    if b.mbRole n ≠ 2 || b.get (R.MB_STATUS_SYNC n) ≠ 1 then b
    else
      let len := b.get (R.MB_SCHED_CYCLE_10US n) * 10000
      let b := (b.toModule (t + len + len / 4)).inc (R.MB_CNT_MISC_REF_MISS n)
      if (b.port n).misses = 0 then (b.newCycle n (b.get (R.MB_CYCLE_COUNT n) + 1)).modPort n fun x => { x with cycle := some (t + len), misses := 1 }
      else (((b.closeWindow n).set (R.MB_STATUS_SYNC n) 2).raise (mbOrigin n) (R.MB_EV_REF_EV n)).modPort n fun x => { x with misses := 2, unsyncAt := b.now, cycle := none }

def execCanRefMiss (n : Fin 24) (s : State) : Result := s.go fun b => b.refMiss n

def execCanFallback (n : Fin 24) (s : State) : Result :=
  s.if_ (s.blk.mbRole n == 2 && s.blk.get (R.MB_STATUS_SYNC n) == 2 && s.blk.mbMode n == mbNORMAL) fun b =>
    (b.reach ((b.port n).unsyncAt + b.get (R.MB_REF2_FALLBACK_MS n) * ms)).set (R.MB_STATUS_SYNC n) 3

/-- A window starts: the open one closes. A start already taken in this cycle has no second effect; windows that share a start are told by their cycle sets. -/
def Block.windowStart (b : Block) (n w : Nat) : Block :=
  let t := b.use (R.MB_WINw_TYPE n w)
  if t = 0 || !b.scheduled n || b.get (R.MB_STATUS_SYNC n) = 2 || (b.port n).cycle.isNone || b.mbMode n ≠ mbNORMAL || (b.port n).winAt.any (fun t => decide (b.winStart n w ≤ t)) then b
  else
    let at_ := b.winStart n w
    let b := (b.closeWindow n).toModule at_
    let o := b.use (R.MB_WINw_OBJ n w)
    let opened := b.modPort n fun x => { x with win := some w, used := false, winAt := some at_ }
    if t = 1 then
      if b.get (R.MB_CYCLE_COUNT n) % 2 ^ b.use (R.MB_WINw_REPEAT n w) ≠ b.use (R.MB_WINw_BASE n w) then b
      else (opened.objOpportunity n o).mbFigures n
    else if t = 2 then (opened.each 32 fun o b => b.objOpportunity n o).mbFigures n
    else opened

def execCanWindowStart (n : Fin 24) (w : Fin 32) (s : State) : Result := s.go fun b => b.windowStart n w

/-! ## Recovery (R448) -/

def execCanRecoverDelay (n : Fin 24) (s : State) : Result := s.go fun b =>
  match (b.port n).recAt with
  | none => b
  | some t => let b := b.reach (t + b.get (R.MB_BUSOFF_RECOVER_DELAY_MS n) * ms)
    b.modPort n fun x => { x with recAt := none, counting := true, countAt := b.now }

/-- The counters at 0, error-active. -/
def Block.errorActive (b : Block) (n : Nat) : Block :=
  ((((b.set (R.MB_ERRCNT_TEC n) 0).set (R.MB_ERRCNT_REC n) 0).set (R.MB_STATUS_FAULT n) 0).set (R.MB_STATUS_RECOVERING n) 0).set (R.MB_STATUS_WARN n) 0 |>.modPort n fun x => { x with tec := 0, recAt := none, counting := false, isolate := false }

/-- 128 runs of 11 recessive bits are counted, which takes them at least. -/
def Block.recovered (b : Block) (n : Nat) : Block :=
  if !(b.port n).counting then b
  else
    let iso := (b.port n).isolate
    let b := b.reach ((b.port n).countAt + 1408 * b.nominalBit n * 25 / 2)
    let b := ((b.errorActive n).set (R.MB_STATUS_STUCK n) 0).raise (mbOrigin n) (R.MB_EV_RECOVER_EV n)
    if iso then (b.isolated n).set (R.MB_EV_ISOLATE_EV n) 1 else b

def execCanRecovered (n : Fin 24) (s : State) : Result := s.go fun b => b.recovered n

def execCanStuck (n : Fin 24) (s : State) : Result :=
  s.if_ (decide (mbMONITOR ≤ s.blk.mbMode n)) fun b => (b.set (R.MB_STATUS_STUCK n) 1).raise (mbOrigin n) (R.MB_EV_STUCK_EV n)

/-! ## Modes of a port (R434, R449 to R452) -/

/-- NORMAL, with both counters at 0; the schedule starts anew. -/
def Block.mbNormal (b : Block) (n : Nat) : Block :=
  let b := (b.errorActive n).set (R.MB_STATUS_MODE n) mbNORMAL
  let role := b.mbRole n
  let b := b.set (R.MB_STATUS_SYNC n) role
  (b.modPort n fun x => { x with cycle := none, ref := false, restart := true, win := none, used := false, misses := 0, unsyncAt := b.now, byStop := false, halt := none, winAt := none }).takeCredit n

def execMbStop (n : Fin 24) (s : State) : Result := s.ask (s.blk.mbRefusal n) fun b => b.mbAsk n 0
def execMbStart (n : Fin 24) (s : State) : Result := s.ask (s.blk.mbRefusal n) fun b =>
  if (b.mbMode n == mbSTOPPED && (b.port n).byStop) || b.mbMode n == mbISOLATED then b.mbNormal n else b
def execMbIsolate (n : Fin 24) (s : State) : Result := s.ask (s.blk.mbRefusal n) fun b =>
  if b.mbMode n = mbNORMAL || b.mbMode n = mbMONITOR || b.mbMode n = mbRESTRICTED then b.mbAsk n 2 else b
def execMbRejoin (n : Fin 24) (s : State) : Result := s.ask (s.blk.mbRefusal n) fun b => if b.mbMode n = mbISOLATED then b.mbNormal n else b
def execMbFlushQ (n : Fin 24) (s : State) : Result := s.ask (s.blk.mbRefusal n) fun b => b.flushQueue n

def mbCounters (n : Nat) : List Fld :=
  [R.MB_CNT_RX_COUNT n, R.MB_CNT_TX_COUNT n, R.MB_CNT_ERR_TX n, R.MB_CNT_ERR_RX n, R.MB_CNT_DROP_COUNT n, R.MB_CNT_NOMATCH_COUNT n, R.MB_CNT_ABANDON_ABANDONED n, R.MB_CNT_ABANDON_FLUSHED n,
   R.MB_CNT_MISC_BUSOFF n, R.MB_CNT_MISC_REF_MISS n, R.MB_CNT_MISC_CONFLICT n, R.MB_CNT_MISC_ISOLATIONS n] ++
  (List.range 32).flatMap fun o => [R.MB_OBJo_STAT_SENT n o, R.MB_OBJo_CNT_REPLACED n o, R.MB_OBJo_CNT_MISSED n o]

def execMbClrCnt (n : Fin 24) (s : State) : Result := s.ask (s.blk.mbRefusal n) fun b => b.clear (mbCounters n)

/-- Commit of a BUS_RX section. -/
def Block.mbCommit (b : Block) (n : Nat) : Block := (b.set (R.MB_STATUS_MODE n) mbMONITOR).modPort n fun x => { x with halt := none }

/-- START of the image: the configured port enters NORMAL; what it buffered leaves first. -/
def Block.mbImageStart (b : Block) (n : Nat) : Block :=
  if b.mbMode n = mbOFF then b
  else
    let b := b.mbNormal n
    let b := (b.resync fun o => o == mbOrigin n).modPort n fun x => { x with objs := List.replicate 32 {} }
    (List.range (b.port n).rx.length).foldl (fun b _ => b.rxDeliver n) b

/-- QUIESCE: after the frame on the wire buffered frames are delivered, the queue is flushed, STOPPED (R452). -/
def Block.mbQuiesce (b : Block) (n : Nat) : Block := b.mbAsk n 1

/-- Entry into PARKED. -/
def Block.mbPark (b : Block) (n : Nat) : Block :=
  if b.mbMode n = mbOFF then b
  else if b.flag (R.MB_PHY_WAKE_EN n) then ((b.emptyQueue n).set (R.MB_STATUS_MODE n) mbRESTRICTED).modPort n fun x => { x with halt := none }
  else b.mbHalt n false

/-- Entry into STANDBY or BACKUP. -/
def Block.mbOff (b : Block) (n : Nat) : Block := (((b.errorActive n).set (R.MB_STATUS_MODE n) mbOFF).modPort n fun _ => {}).mbFigures n

/-- A reset of island 4: every buffer, queue and object frame is lost, its queued packets answered with ISLAND_LOST; the termination switches are bistable. -/
def Block.mbReset (b : Block) : Block :=
  let b := b.each 24 fun n b => b.eachOf ((b.port n).queue.map (·.pkt) ++ (b.port n).credit) fun p b => b.refuse (islOrigin 4) ISLAND_LOST p
  let keep := (List.range 24).map fun n => (b.get (R.MB_PHY_TERM_EN n), b.get (R.MB_PHY_TBC_EN n))
  let b := { ((b.resetRegs 0x47000000 0x47018000).resetRegs 0x47100000 0x4710C000) with can := List.replicate 24 {} }
  b.each 24 fun n b => let k := keep.getD n (0, 0); (b.set (R.MB_PHY_TERM_EN n) k.1).set (R.MB_PHY_TBC_EN n) k.2

end Sys2Proof.Machine
end

