-- ==== Sys2Proof/Machine/Crypto.lean ====
section
/-! DEFINITION. The crypto engine (chapter 22: R535 to R538). Its inputs and outputs lie in the island-1 DRAM, outside the control space; what partitions have put there is an operand of a job's completion. -/

namespace Sys2Proof.Machine

open Sys2Proof

def cIDLE : Nat := 0
def cQUEUED : Nat := 1
def cRUNNING : Nat := 2
def cPREEMPTED : Nat := 3
def BAD_JOB : Nat := 5

def Block.modJob (b : Block) (k : Nat) (f : CryJob → CryJob) : Block := { b with cry := updAt b.cry k f }
def Block.job (b : Block) (k : Nat) : CryJob := b.cry.getD k {}
def Block.cryState (b : Block) (k : Nat) : Nat := b.get (R.CRY_Ck_STAT_STATE k)

/-- The operation runs on the public-key unit. -/
def isPk (op : Nat) : Bool := 4 ≤ op

/-- Unit of a context's job. -/
def Block.pkJob (b : Block) (k : Nat) : Bool := isPk (b.get (R.CRY_Ck_CTRL_OP k))

/-- CRY_STATUS follows the contexts. -/
def Block.cryStatus (b : Block) : Block :=
  let mask := fun (p : Nat → Bool) => (((List.range 8).filter p).map (2 ^ ·)).foldl (· + ·) 0
  (b.set R.CRY_STATUS_BUSY (mask fun k => b.cryState k != cIDLE)).set R.CRY_STATUS_PK_QUEUED (mask fun k => b.cryState k == cQUEUED && b.pkJob k)

/-- Time in ns before the first block, per 128-byte block, and in all (Table 22.10). -/
def cryTimes (op len aad : Nat) : Nat × Nat × Nat :=
  let blocks := fun (n : Nat) => (n + 127) / 128
  match op with
  | 1 => (500, 128, 500 + 128 * blocks (len + 17))
  | 2 | 3 => (600, 64, 600 + 64 * (blocks aad + blocks len))
  | 4 => (0, 0, 2400000)
  | 5 => (0, 0, 2200000)
  | _ => (0, 0, 2600000)

/-- The descriptor of a context is a bad job: a reserved OP, a wrong LEN, LEN above 16 MiB, or an address outside the DRAM. -/
def Block.badJob (b : Block) (k : Nat) : Bool :=
  let op := b.get (R.CRY_Ck_CTRL_OP k)
  let len := b.get (R.CRY_Ck_LEN_BYTES k)
  let src := b.get (R.CRY_Ck_SRC_ADDR k)
  let dst := b.get (R.CRY_Ck_DST_ADDR k)
  let aad := b.get (R.CRY_Ck_AUX_AAD_LEN k)
  let out := match op with | 1 => 48 | 2 => len + 16 | 3 => len | 5 => 48 | 6 => 96 | _ => 0
  let inp := match op with | 2 => aad + len | 3 => aad + len + 16 | _ => len
  op = 0 || 6 < op || 16777216 < len || (op = 4 && len ≠ 241) || (op = 5 && len ≠ 145) || (op = 6 && len ≠ 48) ||
  Config.dramBytes < src + inp || Config.dramBytes < dst + out || ((op = 2 || op = 3) && Config.dramBytes < b.get (R.CRY_Ck_KEY_ADDR k) + 44)

/-- A job ends with a result; T is its fixed time. -/
def Block.cryEnd (b : Block) (k result : Nat) : Block :=
  let b := (((b.set (R.CRY_Ck_STAT_STATE k) cIDLE).set (R.CRY_Ck_STAT_RESULT k) result).incW (R.CRY_Ck_STAT_SEQ k)).inc R.CRY_CNT_JOBS
  (b.set (R.CRY_Ck_TIME_T k) (published (b.job k).total 100).toNat).modJob k fun _ => {}
where
  /-- A quotient the spec gives no rounding for. -/
  published (n d : Nat) : Int := ((n / d : Nat) : Int) + (if n % d = 0 then 0 else (b2n (Config.roundsUp n d) : Int))

/-- The job of a unit that runs. -/
def Block.cryRunning (b : Block) (pk : Bool) : Option Nat := (List.range 8).find? fun k => b.pkJob k == pk && b.cryState k == cRUNNING

/-- The waiting job of a unit that goes next: the highest PRIO, first in first out. -/
def Block.cryNext (b : Block) (pk : Bool) : Option Nat :=
  let l := (List.range 8).filter fun k => b.pkJob k == pk && (b.cryState k == cQUEUED || b.cryState k == cPREEMPTED)
  let before := fun (i j : Nat) =>
    let pi := b.get (R.CRY_Ck_CTRL_PRIO i)
    let pj := b.get (R.CRY_Ck_CTRL_PRIO j)
    decide (pj < pi) || (pi == pj && decide ((b.job i).order < (b.job j).order))
  l.find? fun i => l.all fun j => i == j || before i j

/-- A free unit takes its next job at `at_`. -/
def Block.cryTake (b : Block) (pk : Bool) (at_ : Nat) : Block :=
  match b.cryRunning pk, b.cryNext pk with
  | none, some k => (b.set (R.CRY_Ck_STAT_STATE k) cRUNNING).modJob k fun j => { j with since := at_ }
  | _, _ => b

/-- A job of higher priority arrived on the symmetric unit: the running one stops at its next block boundary (R537). -/
def Block.cryPreempt (b : Block) (k : Nat) : Block :=
  match b.cryRunning false with
  | none => b
  | some r =>
    if b.get (R.CRY_Ck_CTRL_PRIO k) ≤ b.get (R.CRY_Ck_CTRL_PRIO r) then b
    else
      let j := b.job r
      let done := j.total - j.left + (b.now - j.since)
      let stop := j.base + (done - j.base + j.block - 1) / j.block * j.block
      if j.total ≤ stop then b
      else
        let at_ := j.since + (stop - (j.total - j.left))
        (((b.set (R.CRY_Ck_STAT_STATE r) cPREEMPTED).inc R.CRY_CNT_PREEMPT).modJob r fun j => { j with left := j.total - stop }).cryTake false at_

def Block.cryRefusal (b : Block) (k : Nat) : Option Nat :=
  if b.shut 1 then some ISLAND_LOST else if b.cellOff (org 1 3 127) || b.cryState k ≠ cIDLE then some BUSY else none

/-- GO of context `k`. -/
def Block.cryGo (b : Block) (k : Nat) : Block :=
  if b.badJob k then b.cryEnd k BAD_JOB
  else
    let (base, block, total) := cryTimes (b.get (R.CRY_Ck_CTRL_OP k)) (b.get (R.CRY_Ck_LEN_BYTES k)) (b.get (R.CRY_Ck_AUX_AAD_LEN k))
    let order := (b.cry.map (·.order)).foldl max 0 + 1
    let b := (b.set (R.CRY_Ck_STAT_STATE k) cQUEUED).modJob k fun _ => { order := order, total := total, left := total, base := base, block := block }
    let b := if b.pkJob k then b else b.cryPreempt k
    (b.cryTake (b.pkJob k) b.now).cryStatus

def execCryptoGo (k : Fin 8) (s : State) : Result := s.ask (s.blk.cryRefusal k) fun b => b.cryGo k

/-! ## Operations (R535, R536) -/

/-- Bytes put into the DRAM. -/
def Block.dramPut (b : Block) (l : List (Nat × Nat)) : Block := { b with dram := l.foldl (fun (m : Store) e => m.put e.1 e.2) b.dram }

/-- The bytes of a string put into the DRAM from an address on. -/
def Block.dramWrite (b : Block) (a : Nat) (l : List Nat) : Block := b.dramPut ((List.range l.length).map fun i => (a + i, l.getD i 0))

/-- The unit key (R538). -/
def unitKey : Nat := Config.unitSecret % (n384 - 1) + 1

/-- OP 3: the tag is checked, and zeros stand in for the data where it does not match. -/
def gcmOpen (key iv aad ct tag : List Nat) : Nat × List Nat :=
  let w := aesWords key
  if gcmTag w iv aad ct = tag then (0, gcmStream w iv ct) else (4, List.replicate ct.length 0)

/-- OP 4: the result for a digest, r, s and a public key. -/
def verifyResult (x : List Nat) : Nat :=
  let r := beNat ((x.drop 48).take 48)
  let s := beNat ((x.drop 96).take 48)
  if !scalarOk r || !scalarOk s then 1
  else match pointOf (x.drop 144) with
    | none => 2
    | some q => if ecVerify (beNat (x.take 48)) r s q then 0 else 3

/-- OP 5: the result, and the shared X, for a private scalar and a peer point. -/
def sharedX (x : List Nat) : Nat × List Nat :=
  let d := beNat (x.take 48)
  if !scalarOk d then (1, [])
  else match pointOf (x.drop 48) with
    | none => (2, [])
    | some q => (0, beBytes 48 (((ecMul d q).map (·.1)).getD 0))

/-- Result and output of the job of a context (Tables 22.10 and 22.11). -/
def Block.cryOutput (b : Block) (k : Nat) : Nat × List Nat :=
  let len := b.get (R.CRY_Ck_LEN_BYTES k)
  let src := b.get (R.CRY_Ck_SRC_ADDR k)
  let aad := b.get (R.CRY_Ck_AUX_AAD_LEN k)
  let key := b.dramRead (b.get (R.CRY_Ck_KEY_ADDR k)) 44
  match b.get (R.CRY_Ck_CTRL_OP k) with
  | 1 => (0, sha384 (b.dramRead src len))
  | 2 =>
    let w := aesWords (key.take 32)
    let ct := gcmStream w (key.drop 32) (b.dramRead (src + aad) len)
    (0, ct ++ gcmTag w (key.drop 32) (b.dramRead src aad) ct)
  | 3 => gcmOpen (key.take 32) (key.drop 32) (b.dramRead src aad) (b.dramRead (src + aad) len) (b.dramRead (src + aad + len) 16)
  | 4 => (verifyResult (b.dramRead src 241), [])
  | 5 => sharedX (b.dramRead src 145)
  | _ => let s := ecSign unitKey (b.dramRead src 48); (0, beBytes 48 s.1 ++ beBytes 48 s.2)

/-- The running job of a unit reaches its fixed time: it finds the DRAM with what partitions have put there, writes its output and ends. -/
def Block.cryDone (b : Block) (pk : Bool) (put : List (Nat × Nat)) : Block :=
  match b.cryRunning pk with
  | none => b
  | some k =>
    let b := b.dramPut put
    let o := b.cryOutput k
    let b := (b.dramWrite (b.get (R.CRY_Ck_DST_ADDR k)) o.2).spend
    let b := b.reach ((b.job k).since + (b.job k).left)
    ((b.cryEnd k o.1).cryTake pk b.now).cryStatus

/-- Bytes that partitions have put into the DRAM, as numbers. -/
def putBytes (l : List (BitVec 32 × BitVec 8)) : List (Nat × Nat) := l.map fun e => (e.1.toNat, e.2.toNat)

def execCryptoDone (pk : Bool) (put : List (BitVec 32 × BitVec 8)) (s : State) : Result := s.go fun b => b.cryDone pk (putBytes put)

/-- A reset or the loss of island 1 ends every job; what the DRAM then holds is open. -/
def Block.cryReset (b : Block) : Block := { b.resetRegs 0x4A000800 0x4A001200 with cry := List.replicate 8 {}, dram := [] }

end Sys2Proof.Machine
end

