-- ==== Sys2Proof/Machine/Trig.lean ====
section
/-! DEFINITION. Angles, roots and logarithms in whole numbers, for the stages whose formulas chapter 15 writes out. Angles in 10⁻⁹ rad, functions scaled by 10¹⁵; the stages compute in binary64, so a result may differ in its last digits (log entry 73). -/

namespace Sys2Proof.Machine

open Sys2Proof

/-- 1.0, and π, in units of 10⁻¹⁵. -/
def one15 : Int := 1000000000000000
def pi15 : Int := 3141592653589793

/-- An angle in 10⁻⁹ rad brought into (-π, π]. -/
def wrapAngle (a : Int) : Int :=
  let t : Int := 6283185307
  let r := (a + 3141592653) % t - 3141592653
  if r ≤ -3141592653 then r + t else r

/-- Sum of a power series: `term` gives the factor from one term to the next. -/
def series (x2 : Int) (step : Nat → Int) : Nat → Nat → Int → Int
  | 0, _, _ => 0
  | n + 1, k, t => t + series x2 step n (k + 1) (-(t * x2 / one15) / step k)

/-- Sine and cosine of an angle in 10⁻⁹ rad, times 10¹⁵. -/
def sin15 (a : Int) : Int :=
  let x := wrapAngle a * 1000000
  series (x * x / one15) (fun k => (((2 * k + 2) * (2 * k + 3) : Nat) : Int)) 18 0 x

def cos15 (a : Int) : Int :=
  let x := wrapAngle a * 1000000
  series (x * x / one15) (fun k => (((2 * k + 1) * (2 * k + 2) : Nat) : Int)) 18 0 one15

/-- Tangent of an angle in 10⁻⁹ rad, times 10¹⁵. -/
def tan15 (a : Int) : Int := sin15 a * one15 / (if cos15 a = 0 then 1 else cos15 a)

/-- Powers t, t³, t⁵ … over 1, 3, 5 …, signs alternating. -/
def atanSeries (t2 : Int) : Nat → Nat → Int → Int
  | 0, _, _ => 0
  | n + 1, k, t => t / ((2 * k + 1 : Nat) : Int) + atanSeries t2 n (k + 1) (-(t * t2 / one15))

/-- Arc tangent of t in [0, 1], times 10¹⁵. -/
def atanUnit (t : Int) : Int :=
  if t ≤ 414213562373095 then atanSeries (t * t / one15) 22 0 t
  else
    let u := (one15 - t) * one15 / (one15 + t)
    pi15 / 4 - (if 0 ≤ u then atanSeries (u * u / one15) 22 0 u else -(atanSeries (u * u / one15) 22 0 (-u)))

/-- atan2(y, x) in 10⁻¹⁵ rad, in (-π, π]; 0 for the origin. -/
def atan2Rad (y x : Int) : Int :=
  let ay : Int := y.natAbs
  let ax : Int := x.natAbs
  if ay = 0 && ax = 0 then 0
  else
    let a := if ay ≤ ax then atanUnit (ay * one15 / ax) else pi15 / 2 - atanUnit (ax * one15 / ay)
    let a := if x < 0 then pi15 - a else a
    if y < 0 then -a else a

/-- atan2(y, x) in 10⁻⁹ rad. -/
def atan2 (y x : Int) : Int := atan2Rad y x / 1000000

/-- An angle in 10⁻¹⁵ rad brought into [-π, π). -/
def wrapRad (a : Int) : Int := (a + pi15) % (2 * pi15) - pi15

/-- Powers z, z³, z⁵ … over 1, 3, 5 …. -/
def atanhSeries (z2 : Int) : Nat → Nat → Int → Int
  | 0, _, _ => 0
  | n + 1, k, z => z / ((2 * k + 1 : Nat) : Int) + atanhSeries z2 n (k + 1) (z * z2 / one15)

/-- Natural logarithm of the quotient of two positive whole numbers, times 10¹⁵. -/
def lnRatio (a b : Nat) : Int :=
  let k : Int := (a.log2 : Int) - (b.log2 : Int)
  let p : Int := (a : Int) * 2 ^ (-k).toNat
  let q : Int := (b : Int) * 2 ^ k.toNat
  let z := (p - q) * one15 / (p + q)
  k * 693147180559945 + 2 * atanhSeries (z * z / one15) 20 0 z

/-- Root of a number below 2^128, rounded down. -/
def root (n : Int) : Int := (isqrt n.toNat 64 : Nat)

/-- A published quotient: the whole number below, or above where the spec leaves the rounding open. -/
def published (n : Int) (d : Nat) : Int := n / d + (if n % d = 0 then 0 else (b2n (Config.roundsUp n d) : Int))

end Sys2Proof.Machine
end

