-- ==== Sys2Proof/Machine/Display.lean ====
section
/-! DEFINITION. The cab panel ports: timings and shadows, pixels, polarity, VCOM against temperature and the power sequence (chapter 20). -/

namespace Sys2Proof.Machine

open Sys2Proof

def BAD_PANEL : Nat := 0x63

/-- Port states (Table 20.2). -/
def dOFF : Nat := 0
def dPOWERING : Nat := 1
def dDATA : Nat := 2
def dON : Nat := 3
def dSTOPPING : Nat := 4
def dREST : Nat := 5

def Block.panel (b : Block) (n : Nat) : DspPort := b.dsp.getD n {}
def Block.modDsp (b : Block) (n : Nat) (f : DspPort → DspPort) : Block := { b with dsp := updAt b.dsp n f }
def Block.dspState (b : Block) (n : Nat) : Nat := b.get (R.DSP_Pn_STATUS_STATE n)
def Block.dual (b : Block) : Bool := b.flag R.DSP_CTRL_LINK_MODE

/-- The cell serves a port: in dual link P1 follows P0 (R484). -/
def Block.dspLive (b : Block) (n : Nat) : Bool :=
  (b.island 1).run == .running && b.get R.PWR_STATE_STATE == 3 && !b.quiesced (org 1 2 127) && !b.cellOff (org 1 2 127) && !(b.dual && n == 1)

/-- The panel is requested (R491). -/
def Block.dspWanted (b : Block) (n : Nat) : Bool := b.flag (R.DSP_Pn_CTRL_EN n) && b.dspLive n

/-- Lines INV0, INV1 and POL: low outside ON and DATA (R488). -/
def Block.dspPins (b : Block) (n : Nat) : Block :=
  let live := b.dspState n == dON || b.dspState n == dDATA
  let m := b.use (R.DSP_Pn_INV_MODE n)
  let neg := b.flag (R.DSP_Pn_INV_PIN_NEG n)
  b.modDsp n fun p => { p with inv0 := live && (bit m 0 != neg), inv1 := live && (bit m 1 != neg), pol := live && p.pol }

/-- A port enters a state. -/
def Block.dspGo (b : Block) (n st : Nat) : Block := ((b.set (R.DSP_Pn_STATUS_STATE n) st).modDsp n fun p => { p with since := b.now, idle := false }).dspPins n

/-! ## Temperature and VCOM (R489, R490) -/

/-- Linear interpolation of a table at a temperature, to the nearest mV. -/
def vcomAt (t : Int) : List (Int × Nat) → Nat
  | [] => 0
  | [p] => p.2
  | p :: q :: r => if t ≤ p.1 then p.2 else if t < q.1 then (roundDiv ((p.2 : Int) * (q.1 - t) + (q.2 : Int) * (t - p.1)) (q.1 - p.1).toNat).toNat else vcomAt t (q :: r)

/-- The voltage that VCOM moves to. -/
def Block.vcomTarget (b : Block) (n : Nat) : Nat :=
  if b.flag (R.DSP_Pn_STATUS_TEMP_FAULT n) then b.get (R.DSP_Pn_VCOM_FAULT_MV n)
  else max 2000 (min 6000 (vcomAt (b.geti (R.DSP_Pn_TEMP_T n)) (b.panel n).table))

/-- Temperature of the beta model in 0.1 °C, its last digit rounded as the implementation does (R489); a resistance that the model maps to no temperature gives a free one. -/
def betaTemp (ohms r25 beta : Nat) : Int :=
  let n : Int := 20 * one15 * beta + 5963 * lnRatio ohms (10 * r25)
  if ohms = 0 || r25 = 0 || n ≤ 0 then Config.freeReal 2000 [ohms, r25, beta] else published (119260 * one15 * beta - 5463 * n) (2 * n).toNat

/-- The thermistor is measured and VCOM takes a step of at most SLEW_MV. -/
def Block.dspTemp (b : Block) (n ohms : Nat) : Block :=
  let b := b.reach ((b.panel n).tempAt + 100 * ms)
  let b := b.modDsp n fun p => { p with tempAt := b.now }
  let t := betaTemp ohms (b.get (R.DSP_Pn_NTC_R25 n)) (b.get (R.DSP_Pn_NTC_BETA n))
  let b := (b.seti (R.DSP_Pn_TEMP_T n) (satS 16 t)).set (R.DSP_Pn_TEMP_STALE n) 0
  let good := decide (100 ≤ ohms) && decide (ohms ≤ 1000000)
  let since := if good then some ((b.panel n).okAt.getD b.now) else none
  let b := b.modDsp n fun p => { p with okAt := since }
  let fault := match since with | none => true | some x => b.flag (R.DSP_Pn_STATUS_TEMP_FAULT n) && decide (b.now < x + sec)
  let b := b.setB (R.DSP_Pn_STATUS_TEMP_FAULT n) fault
  if (b.panel n).pwr then
    let old := b.get (R.DSP_Pn_VCOM_OUT_MV n)
    let goal := b.vcomTarget n
    let slew := max 1 (b.get (R.DSP_Pn_VCFG_SLEW_MV n))
    b.set (R.DSP_Pn_VCOM_OUT_MV n) (if old ≤ goal then min goal (old + slew) else max goal (old - slew))
  else b

def execDspTempUpdate (n : Fin 2) (ohms : Nat) (s : State) : Result := s.if_ (s.blk.dspLive n) fun b => b.dspTemp n ohms

/-! ## Power sequence (R491 to R493) -/

/-- PNL_PWR and VCOM on. -/
def Block.dspPower (b : Block) (n : Nat) : Block :=
  let b := (b.dspGo n dPOWERING).modDsp n fun p => { p with pwr := true, short := false, offAt := none, restAt := none }
  b.set (R.DSP_Pn_VCOM_OUT_MV n) (b.vcomTarget n)

/-- The request ends: backlight off, then STOPPING. -/
def Block.dspEnd (b : Block) (n : Nat) : Block :=
  if b.dspState n = dPOWERING || b.dspState n = dDATA || b.dspState n = dON then (b.dspGo n dSTOPPING).modDsp n fun p => { p with bl := false } else b

/-- The LVDS link of a port runs or goes idle; in dual link P1 carries the odd pixels with P0 (R484). -/
def Block.lvdsRun (b : Block) (n : Nat) (v : Bool) : Block :=
  let b := b.modDsp n fun p => { p with lvds := v }
  if b.dual && n == 0 then b.modDsp 1 fun p => { p with lvds := v } else b

/-- PNL_PWR off and VCOM at 0 V. -/
def Block.dspOff (b : Block) (n : Nat) : Block :=
  (b.modDsp n fun p => { p with pwr := false, bl := false, lvds := false, short := false, offAt := none, restAt := some b.now }).set (R.DSP_Pn_VCOM_OUT_MV n) 0

def Block.dspEnWrite (b : Block) (n : Nat) (en : Bool) : Block :=
  let b := b.setB (R.DSP_Pn_CTRL_EN n) en
  if !en then b.dspEnd n
  else if b.dspState n = dOFF && b.dspLive n then b.dspPower n else b

def execDspEnWrite (n : Fin 2) (en : Bool) (s : State) : Result :=
  s.ask (s.blk.unitRefusal (org 1 2 127)) fun b => b.dspEnWrite n en

def execDspTOn1 (n : Fin 2) (s : State) : Result := s.if_ (s.blk.dspState n == dPOWERING) fun b =>
  ((b.reach ((b.panel n).since + b.get (R.DSP_Pn_SEQ1_T_ON1 n) * ms)).dspGo n dDATA).lvdsRun n true |>.modDsp n fun p => { p with frame := [], vbAt := p.since }

def execDspTOn2 (n : Fin 2) (s : State) : Result := s.if_ (s.blk.dspState n == dDATA) fun b =>
  ((b.reach ((b.panel n).since + b.get (R.DSP_Pn_SEQ1_T_ON2 n) * ms)).dspGo n dON).modDsp n fun p => { p with bl := true }

/-- T_OFF1 and T_OFF2, at most 15 ms after a power-fail (R492). -/
def Block.offTime (b : Block) (n : Nat) (f : Fld) : Nat := (if (b.panel n).short then min 15 (b.get f) else b.get f) * ms

def execDspTOff1 (n : Fin 2) (s : State) : Result := s.if_ (s.blk.dspState n == dSTOPPING && !(s.blk.panel n).idle) fun b =>
  let b := b.reach ((b.panel n).since + b.offTime n (R.DSP_Pn_SEQ2_T_OFF1 n))
  (b.lvdsRun n false).modDsp n fun p => { p with idle := true, since := b.now }

/-- Panel power ends by the sequence, or by island 0 after a reset of island 1. -/
def execDspTOff2 (n : Fin 2) (s : State) : Result := s.go fun b =>
  match (b.panel n).offAt with
  | some t =>
    let b := (b.reach t).dspOff n
    if b.dspState n = dSTOPPING then b.dspGo n dREST else b
  | none =>
    if b.dspState n = dSTOPPING && (b.panel n).idle then ((b.reach ((b.panel n).since + b.offTime n (R.DSP_Pn_SEQ2_T_OFF2 n))).dspOff n).dspGo n dREST else b

def execDspTRest (n : Fin 2) (s : State) : Result := s.if_ (s.blk.dspState n == dREST) fun b =>
  let b := b.reach ((b.panel n).restAt.getD b.now + b.get (R.DSP_Pn_SEQ2_T_REST n) * ms)
  if b.dspWanted n then b.dspPower n else b.dspGo n dOFF

/-! ## Shadows and pixels (R485 to R488) -/

/-- The timing as written. -/
def Block.dspTiming (b : Block) (n : Nat) : List Nat :=
  [b.get (R.DSP_Pn_CLK_PCLK_KHZ n), b.get (R.DSP_Pn_H1_HACT n), b.get (R.DSP_Pn_H1_HFP n), b.get (R.DSP_Pn_H2_HSYNC n), b.get (R.DSP_Pn_H2_HBP n), b.get (R.DSP_Pn_V1_VACT n), b.get (R.DSP_Pn_V1_VFP n),
    b.get (R.DSP_Pn_V2_VSYNC n), b.get (R.DSP_Pn_V2_VBP n)]

/-- A timing lies within Table 20.1; in dual link every horizontal value is even. -/
def timingOk (dual : Bool) : List Nat → Bool
  | [clk, ha, hf, hs, hb, va, vf, vs, vb] =>
    let total := (ha + hf + hs + hb) * (va + vf + vs + vb)
    let rate := clk * 1000 * (if dual then 2 else 1)
    decide (20000 ≤ clk) && decide (clk ≤ 112000) && decide ((if dual then 640 else 320) ≤ ha) && decide (ha ≤ 1920) && decide (240 ≤ va) && decide (va ≤ 1200) &&
      [hf, hs, hb, vf, vs, vb].all (fun x => decide (1 ≤ x) && decide (x ≤ 255)) && decide (50 * total ≤ rate) && decide (rate ≤ 75 * total) && (!dual || [ha, hf, hs, hb].all (fun x => x % 2 == 0))
  | _ => false

/-- The VCOM table as written, and whether its temperatures rise strictly. -/
def Block.vcomTable (b : Block) (n : Nat) : List (Int × Nat) := (List.range 16).map fun k => (b.geti (R.DSP_Pn_VTk_TEMP n k), b.get (R.DSP_Pn_VTk_MV n k))
def risingTable : List (Int × Nat) → Bool
  | p :: q :: r => decide (p.1 < q.1) && risingTable (q :: r)
  | _ => true

/-- The shadows of a port come into use; a timing or a table that fails its check is not applied. -/
def Block.dspShadows (b : Block) (n : Nat) : Block :=
  if b.flag (R.DSP_Pn_CTRL_SHADOW_HOLD n) then b
  else
    let t := b.dspTiming n
    let v := b.vcomTable n
    let b := b.when (!timingOk b.dual t || !risingTable v) fun b => b.set (R.DSP_Pn_STATUS_TABLE_EV n) 1
    let b := b.modDsp n fun p => { p with timing := if timingOk b.dual t then t else p.timing, table := if risingTable v then v else p.table }
    (b.boundary (0x48000100 + 0x100 * n) (0x48000200 + 0x100 * n)).boundary (0x48010000 + 0x1000 * n) (0x48011000 + 0x1000 * n)

/-- Gamma entry `i` of a colour. -/
def gammaEntry (n c i : Nat) : Fld := ⟨0x48010000 + 0x1000 * n + 0x400 * c + 4 * i, 0, 10, (2 * i * 1023 + 255) / 510⟩

/-- A 10-bit value under temporal dither: over four frames the codes sum to four times the value in panel codes, to the nearest whole code; in which of the four frames a pixel takes the higher code is free (R487). -/
def ditherCode (v depth line pix frame : Nat) : Nat :=
  let step : Nat := 2 ^ (10 - depth)
  let key := fun (k : Nat) => Config.freeReal 2001 [depth, line, pix, k]
  let q := (4 * v + step / 2 - (key 4 % 2).toNat) / step
  let rank := ((List.range 4).filter fun k => decide (key k < key frame) || (key k == key frame && decide (k < frame))).length
  min (2 ^ depth - 1) (q / 4 + b2n (decide (rank < q % 4)))

/-- A 10-bit value reduced to the panel's depth by DITHER. -/
def Block.panelCode (b : Block) (n v line pix : Nat) : Nat :=
  let depth : Nat := if b.get (R.DSP_Pn_CLK_FORMAT n) = 0 then 6 else 8
  let step : Nat := 2 ^ (10 - depth)
  match b.use (R.DSP_Pn_CLK_DITHER n) with
  | 0 => v / step
  | 1 => min (2 ^ depth - 1) ((2 * v + step) / (2 * step))
  | _ => ditherCode v depth line pix ((b.panel n).count % 4)

/-- One pixel (byte 0 blue, 1 green, 2 red) through the gamma tables. -/
def Block.pixelCode (b : Block) (n line pix w : Nat) : Nat × Nat × Nat :=
  let col := fun (c : Nat) => b.panelCode n (b.use (gammaEntry n c (w / 2 ^ (16 - 8 * c) % 256))) line pix
  (col 0, col 1, col 2)

/-- The word of a pixel in the frame buffer: FB_ADDR × 4,096, STRIDE bytes a line, 4 bytes a pixel (R487). -/
def Block.pixelAt (b : Block) (n y x : Nat) : Nat := leNat (b.dramRead (b.use (R.DSP_Pn_FB_ADDR_4K n) * 4096 + b.use (R.DSP_Pn_STRIDE_BYTES n) * y + 4 * x) 4)

/-- Pixels of a line that were fetched in time: all of them, or as many as its entry in `late` says. -/
def fetched (width : Nat) (late : List (Nat × Nat)) (y : Nat) : Nat := min width ((late.lookup y).getD width)

/-- The pixel fetched last before line `y`. -/
def Block.lastPixel (b : Block) (n width : Nat) (late : List (Nat × Nat)) : Nat → Nat
  | 0 => b.freshW 7 32
  | y + 1 => if fetched width late y = 0 then b.lastPixel n width late y else b.pixelAt n y (fetched width late y - 1)

/-- The pixel shown at a place: one not fetched in time repeats the last fetched pixel for the rest of the line (R487). -/
def Block.shownPixel (b : Block) (n width : Nat) (late : List (Nat × Nat)) (y x : Nat) : Nat :=
  let k := fetched width late y
  if x < k then b.pixelAt n y x else if 0 < k then b.pixelAt n y (k - 1) else b.lastPixel n width late y

/-- A frame lasts all its pixels at the clock of its links, in ns. -/
def frameSpan (dual : Bool) (t : List Nat) : Nat :=
  let g := fun (k : Nat) => t.getD k 0
  (g 1 + g 2 + g 3 + g 4) * (g 5 + g 6 + g 7 + g 8) * 1000000 / max 1 (g 0 * (if dual then 2 else 1))

/-- Every second member of a list, from the first. -/
def evens {α : Type} : List α → List α
  | x :: _ :: r => x :: evens r
  | l => l

/-- The start of vertical blanking, a frame after the last one: shadows, polarity, and the frame whose lines are fetched from the frame buffer; `late` names the lines not fetched in time. -/
def Block.dspVblank (b : Block) (n : Nat) (late : List (Nat × Nat)) : Block :=
  if b.dspState n ≠ dDATA && b.dspState n ≠ dON then (b.dspShadows n).dspPins n
  else
    let b := b.reach ((b.panel n).vbAt + frameSpan b.dual (b.panel n).timing)
    let b := ((b.modDsp n fun p => { p with vbAt := b.now }).dspShadows n).dspPins n
    let p := b.panel n
    let width := p.timing.getD 1 0
    let height := p.timing.getD 5 0
    let short := ((List.range height).filter fun y => decide (fetched width late y < width)).length
    let codes := (List.range height).map fun y => (List.range width).map fun x => b.pixelCode n y x (b.shownPixel n width late y x)
    let b := b.when (!late.isEmpty) fun b => b.spend
    let b := b.when (0 < short) fun b => (b.set (R.DSP_Pn_STATUS_UNDERRUN_EV n) 1).inc (R.DSP_Pn_CNT_UNDERRUN n) short
    let b := (b.incW (R.DSP_Pn_CNT_FRAMES n)).modDsp n fun p => { p with
      pol := if b.flag (R.DSP_Pn_CTRL_POL_EN n) then !p.pol else p.pol, count := p.count + 1
      frame := if b.dual then codes.map evens else codes }
    if b.dual then b.modDsp 1 fun p => { p with frame := codes.map fun r => evens r.tail } else b

def execDspVblank (n : Fin 2) (late : List (Nat × Nat)) (s : State) : Result := s.if_ (s.blk.dspLive n) fun b => b.dspVblank n late

def execDspClrCnt (s : State) : Result :=
  s.ask (s.blk.unitRefusal (org 1 2 127)) fun b => b.each 2 fun n b => b.clear [R.DSP_Pn_CNT_UNDERRUN n, R.DSP_Pn_CNT_FRAMES n]

/-! ## Starts, losses and power states (R491, R492) -/

/-- The cell starts: shadows come into use, and each port goes on where its panel stands. -/
def Block.dspStart (b : Block) : Block := b.each 2 fun n b =>
  let b := (b.dspShadows n).modDsp n fun p => { p with tempAt := b.now }
  if b.dspState n ≠ dOFF then b
  else match (b.panel n).offAt, (b.panel n).restAt with
    | some _, _ => (b.dspGo n dSTOPPING).modDsp n fun p => { p with idle := true }
    | none, some t => if b.now < t + b.get (R.DSP_Pn_SEQ2_T_REST n) * ms then b.dspGo n dREST else if b.dspWanted n then b.dspPower n else b
    | none, none => if b.dspWanted n then b.dspPower n else b

/-- PARKED, STANDBY, an orderly shutdown or a QUIESCE ends the requests. -/
def Block.dspEndAll (b : Block) : Block := b.each 2 fun n b => b.dspEnd n

/-- A reset or the loss of island 1: backlight and data stop, and island 0 turns the panel off after T_OFF2. -/
def Block.dspReset (b : Block) : Block :=
  let b := b.each 2 fun n b =>
    let t := b.now + b.get (R.DSP_Pn_SEQ2_T_OFF2 n) * ms
    b.modDsp n fun p => { pwr := p.pwr, offAt := if p.pwr then some (p.offAt.getD t) else none, restAt := p.restAt }
  b.resetRegs 0x48000000 0x48012000

/-- Commit point C of a power-fail. -/
def Block.dspPowerFail (b : Block) : Block := b.each 2 fun n b => (b.dspEnd n).modDsp n fun p => { p with short := true }

/-- A module-scope reset holds the enables off. -/
def Block.dspHeldOff (b : Block) : Block := b.each 2 fun n b =>
  (b.modDsp n fun p => { restAt := if p.pwr then some b.now else p.restAt }).set (R.DSP_Pn_VCOM_OUT_MV n) 0

end Sys2Proof.Machine
end

