-- ==== Sys2Proof/Machine/Ethernet.lean ====
section
/-! DEFINITION. The Ethernet switch, its gates, the time-sync engine and the time-quality frames (chapter 19). -/

namespace Sys2Proof.Machine

open Sys2Proof

def BAD_SWITCH : Nat := 0x62

def ethOrigin : Nat := org 4 3 127
def Block.modEth (b : Block) (f : Eth → Eth) : Block := { b with eth := f b.eth }

/-- Length of a frame in bytes with its check, at least the minimum of IEEE 802.3. -/
def ethLen (f : EthFrame) : Nat := max 64 (16 + (if f.tag.isSome then 4 else 0) + f.body.length)

/-- An IEEE 802.3 pause frame: EtherType 0x8808, opcode 0x0001. -/
def isPause (f : EthFrame) : Bool := f.tag.isNone && f.body.take 4 == [0x88, 0x08, 0x00, 0x01]

/-- The module's own unicast address at the host port, which the spec does not give (a free value, log entry 3). -/
def hostMac : Nat := (Config.freeReal 1900 []).toNat % 2 ^ 47 * 2

/-! ## Host port (R458) -/

/-- A frame for the module enters the host receive buffer, or is dropped. -/
def Block.hostTake (b : Block) (f : EthFrame) : Block :=
  if b.eth.hostRx.length < 512 then
    let b := b.modEth fun e => { e with hostRx := e.hostRx ++ [(b.stamp, f)] }
    b.set R.ETH_HOST_RXBUF b.eth.hostRx.length
  else
    let quiet := match b.eth.dropAt with | some t => decide (t + sec ≤ b.now) | none => true
    let b := (((b.inc R.ETH_HOST_DROP_COUNT).set R.ETH_EV_HOST_DROP_EV 1).set R.FAB_EDGE_SUMMARY_ETH_HOST 1).modEth fun e => { e with dropAt := some b.now }
    b.when quiet fun b => b.event ethOrigin R.ETH_EV_HOST_DROP_EV.addr R.ETH_EV_HOST_DROP_EV.lo

/-- The octets of an address, and of a frame without its check. -/
def macBytes (m : Nat) : List Nat := le 6 m
def frameBytes (f : EthFrame) : List Nat :=
  macBytes f.dst ++ macBytes f.src ++ (match f.tag with | some (pcp, vid) => [0x81, 0x00, pcp * 32 + vid / 256 % 16, vid % 256] | none => []) ++ f.body

/-- The oldest frame of the host receive buffer leaves as a SAMPLE stamped with its arrival (R37); those of PARKED wait for START (R458). -/
def execEthHostRxDeliver (s : State) : Result := s.go fun b =>
  match (if b.hushed ethOrigin || b.parked then [] else b.eth.hostRx) with
  | [] => b
  | (t, f) :: r => ((b.sample ethOrigin 0 (frameBytes f) (stamp := some t)).modEth fun e => { e with hostRx := r }).set R.ETH_HOST_RXBUF r.length

/-! ## Gates and egress (R456, R457, R459) -/

/-- Gates and interval of entry `e` of a port's list. -/
def gclGates (p e : Nat) : Fld := ⟨0x47801000 + 0x200 * p + 4 * e, 0, 8, 0⟩
def gclInterval (p e : Nat) : Fld := ⟨0x47801000 + 0x200 * p + 4 * e, 8, 24, 0⟩

/-- The entries of a running cycle: gates, start from the cycle start and length in ns; the cycle's end cuts an entry and the last one holds to it. -/
def Block.gclPlan (b : Block) (p : Nat) : List (Nat × Nat × Nat) :=
  let n := b.use (R.ETH_Pp_GCL_CFG_ENTRIES p)
  let cycle := b.use (R.ETH_Pp_GCL_CFG_CYCLE_US p) * us
  (List.range n).map fun e =>
    let start : Nat := ((List.range e).map fun k => max 1 (b.use (gclInterval p k)) * 100).foldl (· + ·) 0
    let len := if e + 1 = n then cycle - start else min (max 1 (b.use (gclInterval p e)) * 100) (cycle - start)
    (b.use (gclGates p e), start, len)

/-- Open time that a queue has in a list of entries before its gate closes; nothing where it never closes. -/
def openFor (q : Nat) : List (Nat × Nat × Nat) → Option Nat
  | [] => none
  | (g, _, l) :: r => if bit g q then (openFor q r).map (l + ·) else if l = 0 then openFor q r else some 0

/-- How long the gate of a queue stays open from now: 0 when closed, nothing when no gate closes it. -/
def Block.gateTime (b : Block) (p q : Nat) : Option Nat :=
  if p = hostPort || !b.flag (R.ETH_Pp_CFG_QBV_EN p) then none
  else match b.eth.gates.getD p none with
    | none => none
    | some (start, e, _) =>
      let plan := b.gclPlan p
      match plan.drop e with
      | [] => none
      | (g, _, l) :: r => if bit g q then (openFor q (r ++ plan)).map (l - (b.sys.mtime - start) + ·) else some 0

/-- Nanoseconds of one octet at the line rate. -/
def octetTime (p : Nat) : Nat := if p < 12 then 80 else 8

/-- Time of a frame on the wire in ns: its octets, preamble and start delimiter at the line rate. -/
def lineTime (p len : Nat) : Nat := (len + 8) * octetTime p

/-- A frame leaves a port. -/
def Block.ethOut (b : Block) (p : Nat) (f : EthFrame) : Block :=
  if p = hostPort then b.hostTake f else (b.inc (R.ETH_Pp_CNT_TX_COUNT p)).modEth fun e => { e with sent := e.sent ++ [(p, f)] }

/-- A frame leaves its queue: the line is taken for its time and the gap of 12 octets after it. -/
def Block.dequeue (b : Block) (p start : Nat) (x : EthQueued) : Block :=
  (b.modEth fun e => { e with egress := e.egress.erase x, busy := updAt e.busy p fun _ => start + lineTime p (ethLen x.frame) + 12 * octetTime p }).ethOut p x.frame

/-- The queue of a port sends while its gate stays open long enough; a frame held back for that counts once. -/
def Block.drainQueue (p q : Nat) : List EthQueued → Block → Block
  | [], b => b
  | x :: r, b =>
    let start := max b.now (b.eth.busy.getD p 0)
    match b.gateTime p q with
    | none => Block.drainQueue p q r (b.dequeue p start x)
    | some d =>
      if d = 0 then b
      else if start - b.now + lineTime p (ethLen x.frame) ≤ d then Block.drainQueue p q r (b.dequeue p start x)
      else b.when (!x.held) fun b => (b.inc (R.ETH_Pp_GCL_STAT_HELD p)).modEth fun e => { e with egress := e.egress.map fun y => if y = x then { y with held := true } else y }

/-- Every queue of a port sends what its gate lets out, the highest first. -/
def Block.drain (b : Block) (p : Nat) : Block :=
  if b.portUp p then
    b.eachOf [7, 6, 5, 4, 3, 2, 1, 0] fun q b => Block.drainQueue p q (b.eth.egress.filter fun y => y.port == p && y.queue == q) b
  else b

/-- Room for a frame in a queue: one frame is assured to each of the 136 queues, the rest of the 2 MiB is shared. -/
def Block.room (b : Block) (p q len : Nat) : Bool :=
  let l := b.eth.egress
  let busy := (l.map fun x => x.port * 8 + x.queue).eraseDups
  !busy.contains (p * 8 + q) || decide ((l.map fun x => ethLen x.frame).foldl (· + ·) 0 + len + 1522 * (136 - busy.length) ≤ 2 ^ 21)

/-- A frame enters an egress queue, or is dropped (R457). -/
def Block.queueFrame (b : Block) (p q : Nat) (f : EthFrame) : Block :=
  if b.room p q (ethLen f) then (b.modEth fun e => { e with egress := e.egress ++ [{ port := p, queue := q, frame := f }] }).drain p
  else
    let b := b.when (p != hostPort) fun b => b.inc (R.ETH_Pp_CNT_DROP_QFULL p)
    (b.set R.ETH_EV_DROP_EV 1).set R.FAB_EDGE_SUMMARY_ETH_QUEUE 1


/-- Class S registers of a port's schedule come into use. -/
def Block.gclBoundary (b : Block) (p : Nat) : Block :=
  (b.boundary (0x47800118 + 0x40 * p) (0x47800124 + 0x40 * p)).boundary (0x47801000 + 0x200 * p) (0x47801200 + 0x200 * p)

def Block.gateEntry (b : Block) (p e : Nat) : Block :=
  if !b.ethRuns || !b.flag (R.ETH_Pp_CFG_EN p) || !b.flag (R.ETH_Pp_CFG_QBV_EN p) then b
  else
    let run := b.eth.gates.getD p none
    if e = 0 then
      let val := fun (f : Fld) => if run.isNone then b.get f else b.use f
      let base := val (R.ETH_Pp_GCL_BASE_LO_NS p) + 2 ^ 32 * val (R.ETH_Pp_GCL_BASE_HI_NS p)
      let cycle := max 1 (val (R.ETH_Pp_GCL_CFG_CYCLE_US p)) * us
      let from_ := match run with | some (_, _, c) => max b.sys.mtime (c + 1) | none => b.sys.mtime
      let t := if from_ ≤ base then base else base + (from_ - base + cycle - 1) / cycle * cycle
      let b := (b.toModule t).gclBoundary p
      (b.modEth fun x => { x with gates := updAt x.gates p fun _ => some (t, 0, t) }).drain p
    else match run, (b.gclPlan p)[e]? with
      | some (_, k, c), some (_, start, len) =>
        if k < e && len ≠ 0 then ((b.toModule (c + start)).modEth fun x => { x with gates := updAt x.gates p fun _ => some (c + start, e, c) }).drain p else b
      | _, _ => b

/-! ## Forwarding (R456) -/

def Block.vlanOf (b : Block) (vid : Nat) : Option Nat := (List.range 64).find? fun v => b.flag (R.ETH_VLANv_EN v) && b.get (R.ETH_VLANv_VID v) == vid
def Block.vlanMember (b : Block) (v p : Nat) : Bool := b.bitOf (R.ETH_VLANv_MEMBERS v) p

/-- PVID, PRIO and ACCEPT of a port; the host port takes VLAN 1, priority 1 and every frame. -/
def Block.pvid (b : Block) (p : Nat) : Nat := if p = hostPort then 1 else b.get (R.ETH_Pp_CFG_PVID p)
def Block.portPrio (b : Block) (p : Nat) : Nat := if p = hostPort then 0 else b.use (R.ETH_Pp_CFG_PRIO p)
def Block.accepts (b : Block) (p : Nat) (tagged : Bool) : Bool :=
  p == hostPort || (match b.get (R.ETH_Pp_CFG_ACCEPT p) with | 1 => tagged | 2 => !tagged | _ => true)

/-- The sender's address is learned or refreshed; a group address is no sender. -/
def Block.learn (b : Block) (vid mac port : Nat) : Block :=
  if mac % 2 = 1 then b
  else
    let l := b.eth.macs.filter fun m => !(m.vid == vid && m.mac == mac)
    if 4096 ≤ l.length then b else b.modEth fun e => { e with macs := l ++ [{ vid := vid, mac := mac, port := port, seen := b.now }] }

/-- Egress ports of a frame that passed ingress: the port of its address, or all of its VLAN. -/
def Block.egressPorts (b : Block) (p vid v : Nat) (f : EthFrame) : List Nat :=
  let all := (List.range 17).filter fun q => q != p && b.vlanMember v q && b.portUp q
  let known := b.eth.macs.find? fun m => m.vid == vid && m.mac == f.dst
  let outs := if f.dst % 2 = 1 then all else match known with | some m => all.filter (· == m.port) | none => all
  let link := f.dst % 2 ^ 40 == 0x00C28001 && f.dst / 2 ^ 40 < 16
  if link then [] else outs

/-- A frame as an egress port sends it: untagged in the port's own VLAN. -/
def Block.egressForm (b : Block) (q vid pcp : Nat) (f : EthFrame) : EthFrame := { f with tag := if b.pvid q = vid then none else some (pcp, vid) }

/-- A frame that passed ingress goes to its egress ports. -/
def Block.switchFrame (b : Block) (p vid pcp v : Nat) (f : EthFrame) : Block :=
  let b := b.learn vid f.src p
  b.eachOf (b.egressPorts p vid v f) fun q b => b.queueFrame q pcp (b.egressForm q vid pcp f)

/-- PCP and VID of a frame at a port. -/
def Block.frameClass (b : Block) (p : Nat) (f : EthFrame) : Nat × Nat :=
  match f.tag with | some (c, v) => (c, if v = 0 then b.pvid p else v) | none => (b.portPrio p, b.pvid p)

/-- The VLAN entry by which a frame passes ingress: its length, acceptance and membership. -/
def Block.admits (b : Block) (p : Nat) (f : EthFrame) : Option Nat :=
  if 1522 < ethLen f || !b.accepts p (match f.tag with | some (_, v) => v != 0 | none => false) then none
  else (b.vlanOf (b.frameClass p f).2).bind fun v => if b.vlanMember v p then some v else none

/-- Ingress: acceptance, VLAN membership, then forwarding. -/
def Block.ingress (b : Block) (p : Nat) (f : EthFrame) : Block :=
  match b.admits p f with
  | none => b.when (p != hostPort) fun b => b.inc (R.ETH_Pp_CNT_DROP_FILTERED p)
  | some v => b.switchFrame p (b.frameClass p f).2 (b.frameClass p f).1 v f

/-- A frame of the module finds an egress queue without room: it waits under credit (R458). -/
def Block.hostStalls (b : Block) (f : EthFrame) : Bool :=
  match b.admits hostPort f with
  | none => false
  | some v => let (pcp, vid) := b.frameClass hostPort f; (b.egressPorts hostPort vid v f).any fun q => !b.room q pcp (ethLen (b.egressForm q vid pcp f))

/-- Frames of the module that waited enter the switch in order while there is room. -/
def Block.hostRetry (b : Block) : Block :=
  b.eth.hostTx.foldl (fun b f => if b.eth.hostTx.head? = some f && !b.hostStalls f then (b.modEth fun e => { e with hostTx := e.hostTx.drop 1 }).ingress hostPort f else b) b

/-- A cycle of a port's schedule starts (entry 0), or an entry of it. -/
def execEthGateEntry (p : Fin 16) (e : Fin 64) (s : State) : Result := s.go fun b => (b.gateEntry p e).hostRetry

/-- A frame arrives at a port. -/
def Block.ethRx (b : Block) (p : Nat) (f : EthFrame) (fcsBad : Bool) : Block :=
  if !b.portUp p then b
  else
    let b := ((b.boundary (0x47800100 + 0x40 * p) (0x47800104 + 0x40 * p)).boundary 0x47800008 0x4780000C).inc (R.ETH_Pp_CNT_RX_COUNT p)
    if fcsBad then (b.inc (R.ETH_Pp_CNT_ERR_FCS p)).inc (R.ETH_Pp_CNT_DROP_FILTERED p)
    else if isPause f then b
    else b.ingress p f

/-- A frame of a partition enters the switch at the host port. -/
def execEthHostTx (f : EthFrame) (s : State) : Result := s.go fun b =>
  if !b.ethRuns then b
  else if !b.eth.hostTx.isEmpty || b.hostStalls f then b.modEth fun e => { e with hostTx := e.hostTx ++ [f] }
  else b.ingress hostPort f

/-! ## Links and addresses -/

def Block.ethLink (b : Block) (p : Nat) (up : Bool) (sqi : Nat) : Block :=
  let was := b.flag (R.ETH_Pp_STAT_LINK p)
  let b := ((b.setB (R.ETH_Pp_STAT_LINK p) up).setBit R.ETH_STATUS_LINK p up).set (R.ETH_Pp_STAT_SQI p) (if up then sqi else 0)
  if was = up then b
  else
    let b := b.set R.ETH_EV_LINK_EV 1
    if up then b.drain p else (b.inc (R.ETH_Pp_CNT_ERR_LINK_DOWN p)).clear [R.ETH_Pp_STAT_AS_CAPABLE p, R.ETH_Pp_STAT_PDELAY_NS p]

/-- A link comes up only at an enabled, powered port (R454, R455). -/
def execEthLinkChange (p : Fin 16) (up : Bool) (sqi : Fin 8) (s : State) : Result := s.go fun b =>
  let powered := b.ethRuns && b.flag (R.ETH_Pp_CFG_EN p) && (b.get R.PWR_STATE_STATE == 3 || (b.parked && b.flag (R.ETH_Pp_CFG_WAKE_EN p)))
  if up && !powered then b else (b.ethLink p up sqi).hostRetry

/-- The link of every port that `keep` does not hold goes down: PARKED, STANDBY and the loss of island 4 (R455). -/
def Block.ethLinksDown (b : Block) (keep : Nat → Bool) : Block :=
  b.each 16 fun p b => if b.flag (R.ETH_Pp_STAT_LINK p) && !keep p then b.ethLink p false 0 else b

/-- EN of a port written. -/
def Block.ethEnable (b : Block) (p : Nat) (v : Bool) : Block :=
  let b := b.setB (R.ETH_Pp_CFG_EN p) v
  if v then b else (b.ethLink p false 0).modEth fun e => { e with gates := updAt e.gates p fun _ => none }

/-- The address that has been silent longest reaches AGE_S; every address that old is forgotten. -/
def execEthMacAge (s : State) : Result := s.go fun b =>
  match b.eth.macs with
  | [] => b
  | m :: r =>
    let age := b.use R.ETH_SW_CFG_AGE_S * sec
    let b := b.reach (r.foldl (fun t x => min t x.seen) m.seen + age)
    b.modEth fun e => { e with macs := e.macs.filter fun x => decide (b.now < x.seen + age) }

def execEthFlushMac (s : State) : Result :=
  s.ask (s.blk.unitRefusal (org 4 3 127)) fun b => b.modEth fun e => { e with macs := [] }

def execEthClrCnt (s : State) : Result :=
  s.ask (s.blk.unitRefusal (org 4 3 127)) fun b =>
    (b.clear [R.ETH_HOST_DROP_COUNT, R.ETH_TQ_SEQ_COUNT]).each 16 fun p b =>
      b.clear [R.ETH_Pp_CNT_RX_COUNT p, R.ETH_Pp_CNT_TX_COUNT p, R.ETH_Pp_CNT_DROP_QFULL p, R.ETH_Pp_CNT_DROP_FILTERED p, R.ETH_Pp_CNT_ERR_FCS p, R.ETH_Pp_CNT_ERR_LINK_DOWN p, R.ETH_Pp_GCL_STAT_HELD p]

/-! ## Time on the network (R460 to R462) -/

/-- PTP time of a module time, in ns (R461). -/
def ptpTime (mtime : Nat) : Nat := mtime + 315964819 * sec

/-- Ports that run the time-sync engine. -/
def Block.asPorts (b : Block) : List Nat := (List.range 16).filter fun p => b.portUp p && b.flag (R.ETH_Pp_CFG_AS_EN p)

def Block.ptpSend (b : Block) (ports : List Nat) (l : List PtpOut) : Block :=
  b.modEth fun e => { e with ptp := e.ptp ++ ports.flatMap fun p => l.map fun m => (p, m) }

/-- clockClass of the module time's state. -/
def Block.clockClass (b : Block) : Nat :=
  match b.get R.SUP_MTIME_STATUS_STATE with
  | 2 => 6
  | 3 => if b.mtBound ≤ b.get R.ETH_TS_CFG_HOLD_US * 1000 then 7 else 187
  | _ => 248

/-- clockAccuracy: the first range of IEEE 1588 that contains the bound (log entry 85). -/
def Block.clockAccuracy (b : Block) : Nat :=
  let n := b.mtBound
  if n = 0xFFFFFFFF then 0xFE
  else match [(0, 0x17), (1, 0x1D), (2, 0x1E), (10, 0x1F), (25, 0x20), (100, 0x21), (250, 0x22), (1000, 0x23), (2500, 0x24), (10000, 0x25), (25000, 0x26), (100000, 0x27), (250000, 0x28),
      (1000000, 0x29), (2500000, 0x2A), (10000000, 0x2B), (25000000, 0x2C), (100000000, 0x2D), (250000000, 0x2E), (1000000000, 0x2F)].find? fun x => decide (n ≤ x.1) with
    | some x => x.2
    | none => 0x30

def Block.unseeded (b : Block) : Bool := b.get R.SUP_MTIME_STATUS_STATE == 0

/-- A message of the engine falls due an interval after the last one. -/
def Block.gptpDue (b : Block) (last : Option Nat) (interval : Nat) : Block := match last with | some t => b.reach (t + interval) | none => b

/-- GM follows whether the engine sends Sync and Announce; Sync leaves every 2^(SYNC_INT − 5) s (R460). -/
def execGptpSync (s : State) : Result := s.go fun b =>
  if !b.ethRuns then b
  else if b.unseeded then b.set R.ETH_STATUS_GM 0
  else
    let b := b.gptpDue b.eth.syncAt (2 ^ b.get R.ETH_TS_CFG_SYNC_INT * sec / 32)
    let q := b.eth.syncSeq
    ((b.set R.ETH_STATUS_GM 1).ptpSend b.asPorts [.sync q, .followUp q (ptpTime b.counter) b.eth.tbi b.eth.phase]).modEth fun e => { e with syncSeq := (q + 1) % 65536, syncAt := some b.now }

def execGptpPdelay (s : State) : Result := s.go fun b =>
  if !b.ethRuns then b
  else
    let b := b.gptpDue b.eth.delayAt (2 ^ b.get R.ETH_TS_CFG_PDELAY_INT * sec / 32)
    (b.ptpSend b.asPorts [.delayReq b.eth.delaySeq]).modEth fun e => { e with delaySeq := (e.delaySeq + 1) % 65536, delayAt := some b.now }

def execGptpAnnounce (s : State) : Result := s.go fun b =>
  if !b.ethRuns then b
  else if b.unseeded then b.set R.ETH_STATUS_GM 0
  else
    let b := (b.gptpDue b.eth.annAt sec).modEth fun e => { e with annAt := some (b.gptpDue b.eth.annAt sec).now }
    let b := ((b.set R.ETH_STATUS_GM 1).set R.ETH_TS_STAT_CLASS b.clockClass).set R.ETH_TS_STAT_ACCURACY b.clockAccuracy
    b.ptpSend b.asPorts [.announce b.clockClass b.clockAccuracy (b.get R.ETH_TS_CFG_PRIO1) (19 + b.sys.leap.getD 18) b.sys.leap.isSome (b.get R.SUP_MTIME_STATUS_STATE == 2)]

/-- A delay request is answered, the end of a measurement is taken, and everything else is ignored: time never comes from the network. -/
def execGptpMsgRx (p : Fin 16) (m : GptpMsg) (s : State) : Result := s.go fun b =>
  if !b.asPorts.contains p.val then b
  else match m with
    | .delayReq q => b.ptpSend [p.val] [.delayResp q (ptpTime b.counter), .delayFollowUp q (ptpTime b.counter)]
    | .delayDone d ok => (b.set (R.ETH_Pp_STAT_PDELAY_NS p) (min 65535 d)).setB (R.ETH_Pp_STAT_AS_CAPABLE p) ok
    | .other => b

/-- Module time steps by `d` ns. -/
def Block.ethStep (b : Block) (d : Int) : Block :=
  let b := (b.modEth fun e => { e with tbi := (e.tbi + 1) % 65536, phase := d }).set R.ETH_EV_STEP_EV 1
  b.set R.ETH_TS_STAT_TBI b.eth.tbi

/-! ## Time-quality frames (R463) -/

/-- Table 19.1. -/
def Block.tqPayload (b : Block) : List Nat :=
  le 2 1 ++ le 2 1 ++ le 4 b.gnss.reportSec ++ le 4 (lowBits 32 b.gnss.report) ++ [b.get R.SUP_MTIME_STATUS_STATE, b.get (R.ETH_PPSx_CFG_POL 0), 0, 0] ++
    le 8 (b.sys.mtime / sec + 1 + 315964819) ++ le 4 b.mtBound ++ le 4 (b.get R.ETH_TQ_SEQ_COUNT)

def Block.tqFrame (b : Block) : Block :=
  let vid := b.get R.ETH_TQ_CFG_VID
  let pcp := b.get R.ETH_TQ_CFG_PCP
  let f : EthFrame := {
    dst := b.get R.ETH_TQ_DA_LO_OCT + 2 ^ 32 * b.get R.ETH_TQ_DA_HI_OCT, src := hostMac
    tag := if vid = 0 then none else some (pcp, vid)
    body := [0x88, 0xB5] ++ b.tqPayload ++ List.replicate (if vid = 0 then 14 else 10) 0 }
  let b := b.modEth fun e => { e with tqSec := some b.gnss.reportSec }
  let b := b.eachOf ((List.range 16).filter fun p => b.bitOf R.ETH_TQ_CFG_PORTS p && b.portUp p) fun p b => b.queueFrame p pcp f
  b.inc R.ETH_TQ_SEQ_COUNT

/-- The report of the next PPS_A edge reaches the switch: one frame a report. -/
def execTqFrame (s : State) : Result :=
  s.if_ (s.blk.ethRuns && s.blk.flag R.ETH_TQ_CFG_EN && s.blk.flag (R.ETH_PPSx_CFG_EN 0) && s.blk.gnss.reportSec == (s.blk.sys.mtime / sec + 1) % 2 ^ 32 && s.blk.eth.tqSec != some s.blk.gnss.reportSec) (·.tqFrame)

/-! ## Event inputs (R464) -/

/-- A comparator transition is stamped at 4 ns; the stamp begins the run of ticks that may end in a change of STATE. -/
def execEvtEdgeStamp (x : Fin 2) (pin : PinBand) (s : State) : Result := s.go fun b =>
  if !b.ethRuns then b
  else { b with evtIn := updAt b.evtIn x fun e => if verdict pin e.cmp = e.cmp then e else { e with cmp := verdict pin e.cmp, runAt := b.sys.mtime / 4 * 4 } }

/-- A read of the low word of a captured edge time latches the high word. -/
def Block.evtCapLatch (b : Block) (x : Nat) : Block :=
  let t := (b.evtIn.getD x {}).capNs
  (b.set (R.ETH_EVTCAPx_LO_NS x) t).set (R.ETH_EVTCAPx_HI_NS x) (t / 2 ^ 32)

def execEthEvtcapRead (x : Fin 2) (s : State) : Result := s.go fun b => b.evtCapLatch x

/-- A reset of the Ethernet switch. -/
def Block.ethReset (b : Block) : Block := { (b.resetRegs 0x47800000 0x47800E00).resetRegs 0x47801000 0x47804000 with eth := {} }

/-- A reset of the timing ports. -/
def Block.timingReset (b : Block) : Block := { b.resetRegs 0x47800E00 0x47801000 with evtIn := List.replicate 2 {}, gnss := { b.gnss with pps := [{}, {}] } }

end Sys2Proof.Machine
end

