-- ==== Sys2Proof/Machine/Modes.lean ====
section
/-! DEFINITION. Operating modes: requests and the mode word, states, suppression and resumption, jogs and the controlled stop (chapter 4). -/

namespace Sys2Proof.Machine

open Sys2Proof

def IN_LOOP : Nat := 0x60
def LOST : Nat := 0x61
def NO_AUTHORITY : Nat := 0x6D

/-- Origins of the front end and of the mode manager. -/
def frontOrigin : Nat := org 0 2 0
def managerOrigin : Nat := org 2 2 0

def Block.modMode (b : Block) (f : Mode → Mode) : Block := { b with mode := f b.mode }

/-- Mode `k` is set in MODE_ACTIVE. -/
def Block.modeSet (b : Block) (k : Nat) : Bool := b.bitOf R.MODE_ACTIVE_FLAGS k

/-- The mode manager runs: island 2 is up, and the power state lets modes act (R85). -/
def Block.managerUp (b : Block) : Bool := b.mode.live && (b.island 2).run == .running

/-! ## What other blocks tell (Table 4.1) -/

/-- An image is STAGED, scheduled or deferred. -/
def Block.hasStaged (b : Block) : Bool := decide (3 ≤ b.get R.UPD_STATUS_STATE) && decide (b.get R.UPD_STATUS_STATE ≤ 5)

/-- The path of mode `k` crosses a lost part. -/
def Block.pathLost (b : Block) (k : Nat) : Bool := (b.mode.policy.paths.getD k []).any b.partLost

/-- The last convoy solution that has reached island 2, and its CONF, which follows its bytes. -/
def Block.cvyHere (b : Block) : Option FusedIn := FusedIn.here b.now b.steer.cvy
def Block.cvyConf (_ : Block) (x : FusedIn) : Nat := x.data.getD 48 0

/-- The last convoy solution is usable (R372). -/
def Block.cvyUsable (b : Block) : Bool :=
  b.cvyHere.any fun x => decide (b.use R.STR_SPT_LEAD_CVY_MIN ≤ b.cvyConf x) && decide (b.sys.mtime ≤ x.at_ + 300 * ms)

/-- Every pair of a list is in run; no pair named is no pair in run. -/
def Block.pairsRun (b : Block) (l : List (Fin 48)) : Bool := !l.isEmpty && l.all fun n => b.pairRuns n

/-- The state heartbeat of the remote supervisor is in time (R90). -/
def Block.supervised (b : Block) : Bool := b.mode.hbEnd.any fun t => decide (b.now ≤ t)

/-- The fused state is usable in the sense of Table 4.1: under R356, or in the bounded time of GRACE (R362). -/
def Block.fusedOk (b : Block) : Bool := !b.steer.declared && (b.flag R.STR_STATUS_USABLE || b.get R.STR_STATUS_STATE == 3)

/-- Preconditions of mode `k` for ACTING. -/
def Block.modePre (b : Block) (k : Nat) : Bool :=
  if k = mREPLAY then b.flag R.PWR_STATUS_STATIONARY && (if b.acting mREPLAY then decide (2 ≤ b.get R.SST_RP_STAT_STATE) else b.get R.SST_RP_STAT_STATE == 2)
  else if k = mSERVICE then b.get R.WHD_STATUS_SESSION == 2
  else if k = mDRIVERLESS then b.supervised && b.pairsRun b.mode.policy.estop && b.fusedOk && (bytesAt b.steer.fused 4 1 == fRUNNING || b.get R.STR_STATUS_STATE == 3)
  else if k = mGUIDED then
    (if b.modeSet mDRIVERLESS then b.supervised else b.pairsRun b.mode.policy.presence) && (b.flag R.STR_STATUS_LOADED || b.get R.STR_STATUS_STATE == 3) && b.fusedOk
  else if k = mHARVEST then b.mode.facts.confirmed
  else if k = mCONVOY then b.get (R.EHR_PEERn_STAT_STATE (b.get R.EHR_CFG_CVY_PEER)) == 2 && b.cvy.partner.isSome && !b.flag R.STR_CVY_STAT_PARTNER_LOST
  else if k = mCALIBRATE then b.get R.MODE_CAL_RUN != 0
  else true

/-! ## The 66 pairs (Table 4.5) -/

/-- When the higher mode of a pair withholds actions of the lower one, both flags set. -/
inductive PairWhen where
  | always
  /-- The lower mode's path crosses a lost part. -/
  | path
  /-- One of these islands is lost. -/
  | lost (l : List Nat)
  /-- Island 2, island 3 or the steering output is lost. -/
  | steer
  | jog
  | jogged
  /-- The selected calibration run has this need. -/
  | run (need : Nat)
  /-- A run that drives steering while path following is engaged. -/
  | runSteers
  /-- A calibration run runs. -/
  | runs
  | turn
  | turnAlone
  | mf21
  /-- Need of mass flow or tank while MF21 runs. -/
  | runMass
  | moving
  | motion (k : Nat)
  deriving DecidableEq, Repr

/-- A row of Table 4.5: code 0 N, 1 A, 2 C, 3 V, 4 U; `acts` has a bit per action withheld. -/
structure PairRow where
  hi   : Nat
  lo   : Nat
  code : Nat
  cond : PairWhen := .always
  acts : Nat := 1
  deriving DecidableEq, Repr

/-- Rows with code A, C, V or U; every pair absent here has code N and withholds nothing. Actions of DRIVERLESS: travel, field work; of GUIDED: road paths, field paths, operator presence; of HARVEST: threshing and loops, lost functions, header, MF29; of CALIBRATE: the run, its results without ACCEPT. -/
def pairRows : List PairRow :=
  [⟨0, 1, 1, .lost [1, 5], 1⟩, ⟨0, 2, 1, .path, 1⟩, ⟨0, 4, 3, .always, 3⟩, ⟨0, 5, 2, .steer, 7⟩, ⟨0, 6, 2, .path, 1⟩, ⟨0, 7, 2, .path, 1⟩,
   ⟨0, 8, 1, .path, 2⟩, ⟨0, 9, 1, .lost [1, 3, 4], 1⟩, ⟨0, 10, 1, .runs, 1⟩, ⟨0, 11, 4, .always, 1⟩] ++
  [⟨1, 2, 1, .always, 1⟩, ⟨1, 3, 1, .always, 1⟩, ⟨1, 4, 3, .always, 3⟩, ⟨1, 5, 2, .always, 7⟩, ⟨1, 6, 2, .always, 1⟩, ⟨1, 7, 2, .always, 1⟩,
   ⟨1, 8, 2, .always, 15⟩, ⟨1, 9, 1, .always, 1⟩, ⟨1, 10, 1, .always, 2⟩, ⟨1, 11, 4, .always, 1⟩] ++
  [⟨2, 3, 1, .jog, 1⟩, ⟨2, 4, 3, .jogged, 1⟩, ⟨2, 11, 4, .jog, 1⟩] ++
  [⟨3, 4, 1, .always, 2⟩, ⟨3, 5, 1, .always, 2⟩, ⟨3, 6, 2, .always, 1⟩, ⟨3, 7, 2, .always, 1⟩, ⟨3, 8, 2, .always, 15⟩, ⟨3, 10, 1, .run 0, 1⟩, ⟨3, 11, 4, .moving, 1⟩] ++
  [⟨4, 5, 2, .always, 4⟩, ⟨4, 10, 1, .run 1, 1⟩, ⟨4, 11, 4, .motion 4, 1⟩] ++
  [⟨5, 10, 1, .runSteers, 1⟩, ⟨5, 11, 4, .moving, 1⟩] ++
  [⟨6, 7, 1, .turnAlone, 1⟩, ⟨6, 8, 1, .always, 4⟩, ⟨6, 10, 1, .turn, 1⟩, ⟨6, 11, 4, .moving, 1⟩] ++
  [⟨7, 8, 1, .mf21, 8⟩, ⟨7, 10, 1, .runMass, 1⟩, ⟨7, 11, 4, .motion 7, 1⟩] ++
  [⟨8, 10, 1, .run 4, 1⟩, ⟨8, 11, 4, .motion 8, 1⟩] ++
  [⟨10, 11, 4, .runs, 1⟩]

/-- Action `a` of mode `k` is withheld: suppressed now, or until the first G3 frame after the end of an automatic suppression (Table 4.4). -/
def Block.withheld (b : Block) (k a : Nat) : Bool := (b.mode.supp.find? (k * 8 + a)).isSome || b.mode.resuming.contains (k * 8 + a)

/-- CALIBRATE acts with a run selected, and the run is running: nothing withholds it (R102). -/
def Block.calSelected (b : Block) : Bool := b.acting mCALIBRATE && b.get R.MODE_CAL_RUN != 0
def Block.calRuns (b : Block) : Bool := b.calSelected && !b.withheld mCALIBRATE 0

/-- Needs of the selected run. -/
def Block.calNeeds (b : Block) : Nat := if b.get R.MODE_CAL_RUN = 0 then 0 else b.mode.policy.calNeeds.getD (b.get R.MODE_CAL_RUN - 1) 0

/-- A mode acts and commands a drive or travel (R93). -/
def Block.demands (b : Block) (k : Nat) : Bool :=
  b.acting k && !b.withheld k 0 &&
  (if k = mHARVEST then b.mode.facts.engaged else if k = mUNLOAD then b.mode.facts.mf21 else k == mDRIVERLESS && b.mode.facts.mf27)

/-- The condition of a row holds for the lower mode `lo`. -/
def Block.pairHolds (b : Block) (lo : Nat) : PairWhen → Bool
  | .always => true
  | .path => b.pathLost lo
  | .lost l => l.any b.isLost
  | .steer => b.isLost 2 || b.isLost 3 || b.flag R.STR_STATUS_OUT_LOST
  | .jog => !b.mode.jogs.isEmpty
  | .jogged => b.mode.jogged
  | .run n => bit b.calNeeds n
  | .runSteers => bit b.calNeeds 2 && decide (2 ≤ b.get R.STR_STATUS_STATE)
  | .runs => if lo = mCALIBRATE then b.calSelected else b.calRuns
  | .turn => b.mode.facts.turn
  | .turnAlone => b.mode.facts.turn && !(b.acting mCONVOY && b.cvyUsable)
  | .mf21 => b.mode.facts.mf21
  | .runMass => b.mode.facts.mf21 && bit b.calNeeds 3
  | .moving => !b.flag R.PWR_STATUS_STATIONARY
  | .motion k => b.demands k

/-- Both modes of a row are set and its condition holds: the higher mode exerts the row whether or not it acts (R102). -/
def Block.exerts (b : Block) (r : PairRow) : Bool := b.modeSet r.hi && b.modeSet r.lo && b.pairHolds r.lo r.cond

/-- Activation of the STAGED image is deferred by a pair with code U (R103). -/
def Block.pairsDefer (b : Block) : Bool := pairRows.any fun r => r.code == 4 && b.exerts r

/-! ## Events (R107) -/

/-- One mode EVENT with its last-cause registers (Table 4.7). -/
def Block.modeEvent (b : Block) (origin code before source cause mode state : Nat) : Block :=
  let b := ((b.set R.MODE_LAST_CAUSE_CAUSE cause).set R.MODE_LAST_CAUSE_SOURCE source).set R.MODE_LAST_CAUSE_MODE mode
  b.eventRaw origin (le 2 code ++ le 2 before ++ le 2 (b.get R.MODE_ACTIVE_FLAGS) ++ le 2 (b.get R.MODE_ACTIVE_SEQ) ++ [source, cause, mode, state] ++ le 2 (b.get R.MODE_SUPPRESSED_SUPP) ++ [0, 0])

/-! ## Replay, jogs and the controlled stop -/

/-- REPLAY begins or ceases to act: HOLD to every commanded channel, FREEZE in every field cell, the replay source plays or closes (R92, R158, R195, R426, R427). -/
def Block.replayHook (b : Block) (on : Bool) : Block :=
  let b := b.each 24 fun c b => b.freeze c on
  let marked := fun (st : Nat) => b.sst.streams.any fun x => x.stream == st && x.replay
  let b := { b with fab := { b.fab with seqs := b.fab.seqs.filter fun e => !marked (e.1 / 65536) } }
  if on then
    let b := b.each 192 fun ch b => if isCommanded (b.fn ch) && b.lead ch == ch && b.runs (ch / 8) then b.accept ch 1 0 false else b
    { (b.set R.SST_RP_STAT_STATE 3) with sst := { b.sst with delta := (b.sys.mtime : Int) - ((b.get R.SST_RP_FROM_LO_NS + 2 ^ 32 * b.get R.SST_RP_FROM_HI_NS : Nat) : Int) } }
  else (b.set R.SST_RP_STAT_STATE 0).resync fun o => o == 0x5082

/-- The MF27 setpoint that the solver sent last; 0 where the image has no such variable. -/
def Block.mf27Sent (b : Block) : Int := (((List.range 32).find? fun i => b.get (R.SOL_VARi_CFG_MF i) == 27).map fun i => b.solver.sent.getD i 0).getD 0

/-- A controlled stop begins (R89): from its present setpoint MF27 ramps to 0, and every other setting holds until the machine is stationary. -/
def Block.controlledStop (b : Block) (cause : Nat) : Block :=
  let b := b.when (!b.mode.stopping) fun b => (b.sendAlarm 0x0003 managerOrigin cause false).modMode fun m => { m with stopAt := b.now, stopFrom := b.mf27Sent }
  b.modMode fun m => { m with stopping := !b.flag R.PWR_STATUS_STATIONARY }

/-! ## Graphs (R260) -/

/-- The 64-bit enable word of the mode manager arrives at the loop engine: a graph that it enables is initialised at each group's next frame (R259), also one that it had disabled since the last. -/
def Block.graphWord (b : Block) (w : Nat) : Block :=
  let b := { b with loop := { b.loop with groups := b.loop.groups.map fun (t : LoopGroup) => { t with runs := t.runs &&& withBit w 0 true } } }
  (b.set R.LE_GRAPH_EN0_EN (withBit w 0 true)).set R.LE_GRAPH_EN1_EN (w / 2 ^ 32)

def execGraphEnable (word : BitVec 64) (s : State) : Result := s.go fun b => b.graphWord word.toNat

/-- The mode manager sends the enables anew: a graph of MODE_POLICY runs while one of the mode actions it belongs to is taken. Graphs that the section does not name stay as the last word gave them. -/
def Block.sendGraphs (b : Block) : Block :=
  let l := b.mode.policy.graphs
  if l.isEmpty then b
  else
    let on := fun (g : Nat) => l.any fun e => e.1 == g && b.acting e.2.1 && !b.withheld e.2.1 e.2.2
    b.graphWord (l.foldl (fun w e => withBit w (e.1 % 64) (on e.1)) (b.get R.LE_GRAPH_EN0_EN + 2 ^ 32 * b.get R.LE_GRAPH_EN1_EN))

/-- A jogged channel returns to the state it had before the jog (R91). -/
def Block.jogReturn (b : Block) (j : JogRun) : Block :=
  if j.held || j.shadow || b.isLost (6 + j.ch / 64) then b
  else
    let b := (b.setB (R.FC_CH_STATUS_FAIL_ACT j.ch) j.failAct).setB (R.FC_CH_STATUS_HOLD j.ch) j.hold
    let b := b.modCore j.ch fun k => { k with
      last := j.last, timedOut := j.timedOut, awaitCmd := j.awaitCmd, held := j.hold
      deadline := if j.failAct || j.hold then none else some (b.now + b.use (R.FC_CH_CMD_TIMEOUT_MS j.ch) * ms) }
    (b.commitForce j.ch).resolve j.ch

/-- One jog ends. -/
def Block.jogEnd (b : Block) (ch : Nat) : Block :=
  match b.mode.jogs.find? (·.ch == ch) with
  | none => b
  | some j => (b.modMode fun m => { m with jogs := m.jogs.filter (·.ch != ch) }).jogReturn j

/-! ## Mode states (R86) -/

/-- The solver when HARVEST or REPLAY ceases to act: no cycle starts without HARVEST, and the next one is a cold start (R273, R275). -/
def Block.solverHook (b : Block) (harvest : Bool) : Block :=
  let b := { b with solver := { b.solver with cold := true } }
  b.when (harvest && b.get R.SOL_STATUS_STATE == 3) (·.set R.SOL_STATUS_STATE 1)

/-- Mode `k` enters a state, with its EVENT; an entry into WAITING and an exit from it carry PRECONDITION, and as source that of the request or word change that brought them, SYSTEM at a frame (R107; the source is a DESIGN CHOICE, log entry 137). -/
def Block.modeGo (b : Block) (k st cause source : Nat) : Block :=
  let old := b.modeState k
  if old = st then b
  else
    let cause := if st = 1 || old = 1 then 9 else cause
    let b := b.set R.MODE_STATE_STATE (b.get R.MODE_STATE_STATE + st * 4 ^ k - old * 4 ^ k)
    let b := b.modMode fun m => { m with
      entered := updAt m.entered k fun _ => b.now
      need := if st = 0 || st = 2 then updAt m.need k fun _ => 0 else m.need
      confirmed := if st = 1 then m.confirmed else updAt m.confirmed k fun _ => none }
    let w := b.get R.MODE_ACTIVE_FLAGS
    let b := b.modeEvent managerOrigin 0x0101 w source cause k st
    let b := b.when (k == mREPLAY && (old == 2 || st == 2)) fun b => b.replayHook (st == 2)
    let b := b.when (k == mSERVICE && old == 2) fun b => b.eachOf b.mode.jogs fun j b => b.jogEnd j.ch
    let b := b.when ((k == mHARVEST || k == mREPLAY) && old == 2) (·.solverHook (k == mHARVEST))
    { b.sendGraphs with loop := { b.loop with modes := (List.range 12).foldl (fun n i => withBit n i (b.acting i)) 0 } }

/-- A confirmation owed by a mode. -/
def Block.modeNeed (b : Block) (k n : Nat) : Block := b.modMode fun m => { m with need := updAt m.need k fun _ => n }

/-- DRIVERLESS stops acting: a controlled stop, and CONFIRM until FLEET confirms (R90). -/
def Block.driverlessLost (b : Block) (cause : Nat) : Block := ((b.controlledStop cause).modeNeed mDRIVERLESS 3).modeGo mDRIVERLESS 3 cause 0

/-! ## Suppression and resumption (R100 to R103) -/

/-- Actions withheld now with the strongest code of each. -/
def Block.withholding (b : Block) : Store :=
  pairRows.foldl (fun (s : Store) r =>
    if 0 < r.code && r.code < 4 && b.exerts r then
      (List.range 4).foldl (fun (s : Store) a => if bit r.acts a then s.put (r.lo * 8 + a) (max r.code (s.find (r.lo * 8 + a) 0)) else s) s
    else s) []

/-- A mode resumes by the strongest code of its ended suppressions: C and V through CONFIRM, A at the next G3 frame. -/
def Block.modeResume (b : Block) (k code cause source : Nat) : Block :=
  if code < 2 || b.modeState k = 0 then b else (b.modeNeed k code).modeGo k 3 cause source

/-- Suppressions follow the word and the conditions; `cause` and `source` are those of the change. -/
def Block.recompute (b : Block) (cause source : Nat) : Block :=
  if !b.managerUp then b
  else
    let old := b.mode.supp
    let now := b.withholding
    let ep := now.foldl (fun (s : Store) e => s.put e.1 (max e.2 (s.find e.1 0))) b.mode.episode
    let ended := (old.filter fun e => (now.find? e.1).isNone).map (·.1)
    let code := fun k => ((ended.filter fun e => e / 8 == k).map fun e => ep.find e 0).foldl max 0
    let v := fun (s : Store) => s.any fun e => e.1 / 8 == mDRIVERLESS && e.2 == 3
    let stop := v now && !v old && b.acting mDRIVERLESS
    let b := b.set R.MODE_SUPPRESSED_SUPP (now.foldl (fun n e => withBit n (e.1 / 8) true) 0)
    let b := b.modMode fun m => { m with
      supp := now
      episode := ep.filter fun e => (now.find? e.1).isSome
      resuming := (m.resuming ++ ended.filter fun e => code (e / 8) == 1).filter fun e => (now.find? e).isNone
      steps := m.steps.zipIdx.map fun e => if ended.contains ((mHEADLAND + e.2) * 8) then 0 else e.1 }
    -- a suppressed calibration run starts again from its first step, its partial results discarded (R100)
    let b := b.when ((now.find? (mCALIBRATE * 8)).isSome && (old.find? (mCALIBRATE * 8)).isNone) fun b => { b with yld := { b.yld with cal := { refs := b.yld.cal.refs } } }
    let b := b.when stop (·.controlledStop cause)
    (b.each 12 fun k b => if b.modeSet k then b.modeResume k (code k) cause source else b).sendGraphs

/-- A change of modes whose events show MODE_SUPPRESSED as it stands after the change (Table 4.7). -/
def Block.foreSupp (b : Block) (f : Block → Block) : Block := f (b.set R.MODE_SUPPRESSED_SUPP ((f b).get R.MODE_SUPPRESSED_SUPP))

/-- A set mode enters its first state: WAITING, or ACTING for DEGRADED and UPDATE; after a restore some owe a confirmation (R105). -/
def Block.modeEnter (b : Block) (k cause source : Nat) (restore : Bool) : Block :=
  if k = mDEGRADED || k = mUPDATE then b.modeGo k 2 cause source
  else
    let b := b.modeNeed k (if !restore then 0 else if k = mDRIVERLESS then 3 else if k = mHARVEST || k = mUNLOAD || k = mHEADLAND || k = mGUIDED then 2 else 0)
    let b := b.modMode fun m => { m with confirmed := updAt m.confirmed k fun _ => none, entered := updAt m.entered k fun _ => b.now }
    b.modeGo k 1 cause source

/-- A G3 frame (R86): waiting modes whose preconditions hold act or ask for their confirmation, confirmed ones act, acting ones whose preconditions fail wait. -/
def Block.modeFrame (b : Block) : Block :=
  if !b.managerUp then b
  else
    (b.modMode fun m => { m with resuming := [] }).foreSupp fun b =>
    let b := b.each 12 fun k b =>
      let st := b.modeState k
      let ok := b.modePre k
      let owed := b.mode.need.getD k 0
      let conf := b.mode.confirmed.getD k none
      if st = 1 && ok && b.mode.entered.getD k 0 != b.now then (if owed != 0 && conf.isNone then b.modeGo k 3 9 0 else b.modeGo k 2 9 0)
      else if st = 3 then
        match conf with
        | some (src, t) => if t = b.now then b else if ok then b.modeGo k 2 7 src else (b.modeNeed k 0).modeGo k 1 9 src
        | none => b
      else if st = 2 && k != mDEGRADED && k != mUPDATE && !ok then (if k = mDRIVERLESS then b.driverlessLost 9 else b.modeGo k 1 9 0)
      else b
    b.recompute 9 0

/-! ## The word (R94 to R99, R104) -/

/-- Condition part of DEGRADED (R97). -/
def Block.degraded (b : Block) : Bool :=
  b.get R.SUP_ISL_STATUS_LOST != 0 || b.get R.SUP_ISL_STATUS_HELD != 0 || (List.range 9).any fun k => b.get (R.SUP_CELL_HELDk_CELL k) != 0

/-- The word and the requested part of DEGRADED are written to backup SRAM (R104). -/
def Block.modeBackup (b : Block) : Block := b.modMode fun m => { m with bak := some (b.get R.MODE_ACTIVE_FLAGS, b.get R.MODE_ACTIVE_SEQ, m.degReq) }

/-- The manager takes a new word: flags cleared are OFF, flags set enter their first state. -/
def Block.managerWord (b : Block) (by_ : Nat → Nat × Nat) : Block :=
  if !b.managerUp then b
  else b.each 12 fun k b =>
    let (src, cause) := by_ k
    if b.modeSet k then (if b.modeState k = 0 then b.modeEnter k cause src false else b) else b.modeGo k 0 cause src

/-- MODE_ACTIVE changes: SEQ rises, the word is published and recorded, the composite behaviour follows. -/
def Block.modeCommit (b : Block) (new : Nat) (by_ : Nat → Nat × Nat) : Block :=
  let before := b.get R.MODE_ACTIVE_FLAGS
  if new = before then b
  else
    let first := ((List.range 12).find? fun k => bit new k != bit before k).getD 0
    let (src, cause) := by_ first
    let last := b.get R.MODE_SUPPRESSED_SUPP
    b.foreSupp fun b =>
    let b := (b.set R.MODE_ACTIVE_FLAGS new).incW R.MODE_ACTIVE_SEQ
    let b := b.modeEvent frontOrigin 0x0100 before src cause 0xFF 0
    let b := b.post { kind := .mode, stream := 0xFF02, origin := frontOrigin, stamp := b.stamp, data := [0x10, 0] ++ le 2 new ++ le 2 (b.get R.MODE_ACTIVE_SEQ) ++ le 2 last }
    let b := b.managerWord by_
    let b := b.modMode fun m => { m with jogged := m.jogged && bit new mSERVICE }
    b.recompute cause src

/-- A mask of permissions of source `s` (1 to 4); UPDATE belongs to SYSTEM and a confirmation of DRIVERLESS to FLEET (R94, Table 4.9). -/
def Block.modePerm (b : Block) (s : Nat) (f : Nat → Fld) (confirm : Bool) : Nat :=
  let p := withBit (b.get (f (s - 1))) mUPDATE false
  if confirm && s ≠ 3 then withBit p mDRIVERLESS false else p

/-- A request of sources 1 to 4 is held for the next boundary; bits without permission are discarded and the request counted (R94, R96). -/
def Block.modeSubmit (b : Block) (source set clr conf : Nat) : Block :=
  let ps := b.modePerm source R.MODE_PERM_SRCs_SET false
  let pc := b.modePerm source R.MODE_PERM_SRCs_CLR false
  let pf := b.modePerm source R.MODE_CONF_SRCs_CONF true
  let r : ModeReq := { source := source, set := set &&& ps, clr := clr &&& pc, conf := conf &&& pf }
  let b := b.when (r.set != set || r.clr != clr || r.conf != conf) fun b => b.inc R.MODE_DROP_CNT_COUNT
  if r.set + r.clr + r.conf = 0 then b
  else if !b.mode.live && 256 ≤ b.mode.reqs.length then b.inc R.MODE_DROP_CNT_COUNT
  else b.modMode fun m => { m with reqs := m.reqs ++ [r] }

/-- SYSTEM sets or clears a flag at the next boundary. -/
def Block.modeSystem (b : Block) (k : Nat) (on : Bool) (cause : Nat) : Block :=
  b.modMode fun m => { m with reqs := m.reqs ++ [{ source := 0, set := if on then 2 ^ k else 0, clr := if on then 0 else 2 ^ k, cause := cause }] }

/-- Origins whose MODE packets the front end takes as a source (R95). -/
def Block.modeOrigin (b : Block) (source origin : Nat) : Bool :=
  (b.mode.policy.origins.getD (source - 1) []).contains origin || (source == 1 && (origin == 0x2002 || origin == 0x0180)) || (source == 3 && origin == 0x1000)

/-- A MODE packet arrives at the front end (R95). -/
def Block.modePacket (b : Block) (p : Packet) : Block :=
  let src := bytesAt p.data 1 1
  if bytesAt p.data 0 1 ≠ 1 || p.data.length ≠ 8 || src = 0 || 3 < src || !b.modeOrigin src p.origin then b.inc R.MODE_DROP_CNT_COUNT
  else b.modeSubmit src (bytesAt p.data 2 2 % 4096) (bytesAt p.data 4 2 % 4096) (bytesAt p.data 6 2 % 4096)

def execModeRequest (p : Packet) (s : State) : Result := s.go fun b => b.modePacket p
def execModeReqSet (v : BitVec 12) (s : State) : Result := s.ask none fun b => b.modeSubmit 4 v.toNat 0 0
def execModeReqClr (v : BitVec 12) (s : State) : Result := s.ask none fun b => b.modeSubmit 4 0 v.toNat 0
def execModeConfirm (v : BitVec 12) (s : State) : Result := s.ask none fun b => b.modeSubmit 4 0 0 v.toNat

/-- Confirmations taken at a boundary: only of modes in CONFIRM, and where the supervisor must confirm only from FLEET (R99, Table 4.4). -/
def Block.modeConfirms (b : Block) (l : List ModeReq) : Block :=
  if !b.managerUp then b
  else b.eachOf l fun r b => b.each 12 fun k b =>
    if bit r.conf k && b.modeState k == 3 && (b.mode.need.getD k 0 != 3 || r.source == 3) then b.modMode fun m => { m with confirmed := updAt m.confirmed k fun _ => some (r.source, b.now) } else b

/-- A running step of the sequences of HEADLAND and UNLOAD ends; the sequences hold while suppressed and stand at their first step while their mode does not act. -/
def Block.modeSteps (b : Block) (f : ModeFacts) : Block := b.modMode fun m => { m with
  steps := m.steps.zipIdx.map fun e => if !b.acting (mHEADLAND + e.2) then 0 else if b.withheld (mHEADLAND + e.2) 0 then e.1 else e.1 + b2n (if e.2 = 0 then f.turnNext else f.unloadNext) }

/-- The front end at a 1 ms boundary (R96, R97). Where several sources ask for the same flag, the word change names the one whose request arrived first (DESIGN CHOICE, log entry 138). -/
def Block.modeEvaluate (b : Block) (f : ModeFacts) : Block :=
  let b := (b.toBoundary ms true).modMode fun m => { m with facts := f }
  if !b.mode.live then b
  else
    let l := b.mode.reqs
    let clr := fun k => l.find? fun r => bit r.clr k
    let set := fun k => l.find? fun r => bit r.set k
    let was := b.mode.degReq
    let req := if (clr mDEGRADED).isSome then false else was || (set mDEGRADED).isSome
    let b := b.when (b.degraded && !b.mode.degCond) fun b => b.sendAlarm 0x0001 frontOrigin (b.get R.SUP_ISL_STATUS_LOST + 65536 * b.get R.SUP_ISL_STATUS_HELD) false
    let b := b.modMode fun m => { m with reqs := [], degReq := req, degCond := b.degraded }
    let w := b.get R.MODE_ACTIVE_FLAGS
    let new := (List.range 12).foldl (fun n k =>
      withBit n k (if k = mDEGRADED then req || b.degraded else if (clr k).isSome then false else bit w k || (set k).isSome)) 0
    let by_ := fun k =>
      if k = mDEGRADED && req == was then (0, 2)
      else match clr k <|> set k with
        | some r => (r.source, r.cause)
        | none => (0, 2)
    let b := ((b.modeCommit new by_).foreSupp fun b => b.recompute 2 0).modeSteps f
    let b := (b.modeConfirms l).modeBackup
    -- frame starts that a stopped loop engine does not run (log entry 107)
    let due := fun (g : Nat) => b.leState != leRUNNING && decide (b.sys.mtime % lePeriod g = 0)
    (b.when (due 1) fun b => b.boundary 0x4000041C 0x40000420).when (due 3) Block.modeFrame

def execModeEvaluate (f : ModeFacts) (s : State) : Result := s.go fun b => b.modeEvaluate f

/-- The limit of a waiting state passes: the front end takes a SYSTEM clear at its next boundary (R87). -/
def Block.modeExpire (b : Block) (k st limit cause : Nat) : Block :=
  if b.modeState k ≠ st || !b.managerUp then b
  else (b.reach (b.mode.entered.getD k 0 + limit * sec)).modeSystem k false cause

def execWaitExpired (k : Fin 12) (s : State) : Result := s.go fun b => b.modeExpire k 1 (b.get R.MODE_LIMITS_WAIT_S) 3
def execConfirmExpired (k : Fin 12) (s : State) : Result := s.go fun b => b.modeExpire k 3 (b.get R.MODE_LIMITS_CONFIRM_S) 4

/-! ## Supervision (R90) -/

/-- A state heartbeat from the remote supervisor arrives. -/
def Block.supervisorBeat (b : Block) : Block := b.modMode fun m => { m with hbEnd := some (b.now + b.use R.MODE_DL_SUPERVISION_TIMEOUT_MS * ms) }

def execSupervisionLost (s : State) : Result := s.go fun b =>
  match b.mode.hbEnd with
  | none => b
  | some t =>
    let b := (b.reach (t + 1)).modMode fun m => { m with hbEnd := none }
    let b := b.sendAlarm 0x0002 managerOrigin (b.get R.MODE_ACTIVE_FLAGS + 65536 * b.get R.MODE_ACTIVE_SEQ) false
    if b.managerUp && b.acting mDRIVERLESS then b.foreSupp fun b => (b.driverlessLost 6).recompute 6 0 else b

/-! ## Jogs (R91, Table 4.5) -/

/-- The status of a jog repetition; `inLoop` says that a closed loop or a running sequence of another mode drives the function. -/
def Block.jogStatus (b : Block) (ch : Nat) (fleetOrTool inLoop : Bool) : Nat :=
  if !b.managerUp || !b.acting mSERVICE then NO_AUTHORITY
  else if !isCommanded (b.fn ch) || b.lead ch != ch then BAD_COMMAND
  else if b.modeSet mDRIVERLESS && !fleetOrTool then NO_AUTHORITY
  else if b.modeSet mDEGRADED && b.partLost (16 + ch / 8) then LOST
  else if inLoop then IN_LOOP
  else 0

/-- One repetition of a jog that is answered OK: it drives the channel, is held until the machine is stationary under DRIVERLESS, or goes to the shadow sink under REPLAY. -/
def Block.jogRun (b : Block) (ch cmd : Nat) (v : Int) : Block :=
  let dl := b.modeSet mDRIVERLESS
  let held := dl && !b.flag R.PWR_STATUS_STATIONARY
  let shadow := b.modeSet mREPLAY
  let old := b.mode.jogs.find? (·.ch == ch)
  let b := b.when (held && old.isNone) (·.controlledStop 1)
  let c := (b.ch ch).core
  let fresh : JogRun := { ch := ch, at_ := b.now, last := c.last, failAct := b.flag (R.FC_CH_STATUS_FAIL_ACT ch), hold := b.flag (R.FC_CH_STATUS_HOLD ch), timedOut := c.timedOut, awaitCmd := c.awaitCmd }
  let started := match old with | some j => !j.held && !j.shadow | none => false
  let j : JogRun := { (if started then old.getD fresh else fresh) with at_ := b.now, held := held, shadow := shadow }
  let b := b.modMode fun m => { m with jogs := m.jogs.filter (·.ch != ch) ++ [j], jogged := m.jogged || dl }
  let b := b.when (!held && !shadow && b.runs (ch / 8)) fun b => b.accept ch cmd v false
  b.foreSupp fun b => b.recompute 9 0

def execJogLapse (ch : Fin 192) (s : State) : Result := s.go fun b =>
  match b.mode.jogs.find? (·.ch == ch.val) with
  | none => b
  | some j => ((b.reach (j.at_ + 200 * ms)).jogEnd ch).foreSupp fun b => b.recompute 9 0

/-! ## Power state and restart (R85, R105, R106) -/

/-- Modes cease to act: the word stays, states and suppressions read 0, no event is sent. -/
def Block.modeHalt (b : Block) : Block :=
  let b := b.when (b.acting mREPLAY) (·.replayHook false)
  let b := (b.set R.MODE_STATE_STATE 0).set R.MODE_SUPPRESSED_SUPP 0
  let b := b.modMode fun m => { m with live := false, supp := [], episode := [], resuming := [], jogs := [], jogged := false, stopping := false, steps := [0, 0],
                                       need := List.replicate 12 0, confirmed := List.replicate 12 none }
  { b.sendGraphs with loop := { b.loop with modes := 0 } }

/-- The manager takes every set mode as at an entry into RUN. -/
def Block.modeReenter (b : Block) : Block :=
  if !b.managerUp then b
  else
    (b.modMode fun m => { m with supp := [], episode := [], resuming := [], jogs := [], jogged := false, steps := [0, 0] }).foreSupp fun b =>
    let b := b.each 12 fun k b => if b.modeSet k then b.modeEnter k 5 0 true else b.modeGo k 0 5 0
    b.recompute 5 0

/-- At every entry into RUN the word is restored (R105). SEQ is the stored one, also where DEGRADED comes out otherwise than stored (DESIGN CHOICE, log entry 139). -/
def Block.modeRestore (b : Block) : Block :=
  let before := b.get R.MODE_ACTIVE_FLAGS
  let (flags, seq, req) := b.mode.bak.getD (0, 0, false)
  let b := b.set (if b.mode.bak.isSome then R.MODE_RESTORE_RESTORED else R.MODE_RESTORE_DEFAULTS) 1
  let b := b.modMode fun m => { m with degReq := req, degCond := b.degraded }
  let w := withBit flags mDEGRADED (req || b.degraded)
  let last := b.get R.MODE_SUPPRESSED_SUPP
  b.foreSupp fun b =>
  let b := (b.set R.MODE_ACTIVE_FLAGS w).set R.MODE_ACTIVE_SEQ seq
  let b := b.modeEvent frontOrigin 0x0100 before 0 5 0xFF 0
  let b := b.post { kind := .mode, stream := 0xFF02, origin := frontOrigin, stamp := b.stamp, data := [0x10, 0] ++ le 2 w ++ le 2 seq ++ le 2 last }
  let b := b.when (bit w mUPDATE && !b.hasStaged) fun b => b.modeCommit (withBit w mUPDATE false) fun _ => (0, 5)
  (b.modMode fun m => { m with live := true }).modeReenter.modeBackup

/-- A reset of island 2 ends every jog without its return and stops the timers of the manager; the word stands (R91, R106). -/
def Block.managerReset (b : Block) : Block :=
  let b := b.modMode fun m => { m with supp := [], episode := [], resuming := [], jogs := [], jogged := false, stopping := false, steps := [0, 0], need := List.replicate 12 0, confirmed := List.replicate 12 none }
  { b with loop := { b.loop with modes := 0 } }

end Sys2Proof.Machine
end

