-- ==== Sys2Proof/Machine/FleetRx.lean ====
section
/-! DEFINITION. The Ehrondost endpoint: session states, received records, payloads to send, and its control bits (chapter 19). -/

namespace Sys2Proof.Machine

open Sys2Proof

/-! ## Sessions (Table 19.2) -/

def execEhrRouterAdvert (addr : BitVec 128) (s : State) : Result := s.go fun b =>
  if b.ehrState = eSTOPPED || !b.ehrLinked then b else b.each 4 fun m b => b.set (R.EHR_LOCALm_ADDR m) (addr.toNat / 2 ^ (32 * m))

/-- UID 0 or an unspecified address. -/
def Block.badPeer (b : Block) (n : Nat) : Bool := b.peerUid n == 0 || (List.range 4).all fun m => b.get (R.EHR_PEERn_ADDRm_ADDR n m) == 0

def Block.peerEnable (b : Block) (n : Nat) (en : Bool) : Block :=
  let was := b.flag (R.EHR_PEERn_CFG_EN n)
  let b := b.setB (R.EHR_PEERn_CFG_EN n) en
  if was = en then b
  else if en then (if b.isClient n then b.hello n else b.peerGo n pDOWN)
  else b.closeSession n

def execEhrPeerEnable (n : Fin 16) (en : Bool) (s : State) : Result :=
  s.ask (s.blk.ehrRefusal <|> (if en && s.blk.badPeer n then some BAD_PEER else none)) (·.peerEnable n en)

/-- A server answers a ClientHello; in UP the new handshake runs beside the session. -/
def execEhrClientHello (n : Fin 16) (s : State) : Result := s.go fun b =>
  if b.ehrState = eSTOPPED || !b.ehrLinked || !b.flag (R.EHR_PEERn_CFG_EN n) || b.get R.SUP_MTIME_STATUS_STATE = 0 || b.isClient n then b
  else if b.peerState n = pUP then b.modSession n fun x => { x with renew := true, hsAt := b.now, flight := 0, flightAt := b.now }
  else if b.peerState n = pDOWN then (b.peerGo n pHANDSHAKE).modSession n fun x => { x with hsAt := b.now, flight := 0, flightAt := b.now }
  else b

/-- Unacknowledged frames are renumbered from 0 in their order and sent in the new session. -/
def Block.carryHeld (b : Block) (n : Nat) : Block :=
  let l := (b.session n).held
  (b.modSession n fun x => { x with held := [], txSeq := List.replicate 8 0 }).eachOf l fun h b => b.sendFrame n h.cls h.payload h.src false

def Block.handshakeUp (b : Block) (n : Nat) : Block :=
  let b := ((b.set R.EHR_EV_UP_EV 1).set (R.EHR_PEERn_STAT_AUTH n) 0).peerGo n pUP
  (b.modSession n fun x => { x with renew := false, fails := 0, lastRx := b.now, keyAt := b.now, records := 0, top := none, seen := [], rxLast := List.replicate 8 none, expect := List.replicate 8 0, ahead := [], frags := [] }).carryHeld n |>.sendReports

def Block.handshakeFails (b : Block) (n cause : Nat) : Block :=
  let b := b.set (R.EHR_PEERn_STAT_AUTH n) cause
  let b := b.when (cause != 6) fun b => (b.inc R.EHR_CNT_D_AUTH_FAIL).set R.EHR_EV_AUTH_EV 1
  if b.peerState n = pUP then b.modSession n fun x => { x with renew := false } else b.fallBack n true

/-- A handshake runs on a session: alone, or beside it while it is UP. -/
def Block.handshaking (b : Block) (n : Nat) : Bool := b.peerState n == pHANDSHAKE || (b.peerState n == pUP && (b.session n).renew)

/-- Each certificate is signed by the next, and the last is or is signed by a fleet trust anchor (R467). -/
def Block.chainHolds (b : Block) : List FleetCert → Bool
  | [] => false
  | [c] => b.upd.anchors.any fun k => k == c.key || sigOk k (sha384 c.signed) c.sig
  | c :: d :: r => sigOk d.key (sha384 c.signed) c.sig && b.chainHolds (d :: r)

/-- Module time in UTC, in seconds from its epoch (R29, R467). -/
def Block.utcSecs (b : Block) : Nat := b.sys.mtime / sec - b.sys.leap.getD 18

/-- SENDER of a unit as the number that its 8 bytes spell: the first 8 bytes of SHA-384 over its identifier. -/
def senderOf (unit : List Nat) : Nat := leNat ((sha384 unit).take 8)

/-- The outcome of R467 for a chain and the CertificateVerify over a transcript: 0, or the cause of AUTH; of several causes the lowest code (DESIGN CHOICE, log entry 155). -/
def Block.certVerdict (b : Block) (n : Nat) (chain : List FleetCert) (transcript verify : List Nat) : Nat :=
  let leaf := chain.head?
  if 3 < chain.length || !b.chainHolds chain then 1
  else if chain.any fun c => decide (b.utcSecs < c.since) || decide (c.expiry < b.utcSecs) then 2
  else if chain.any fun c => b.upd.revoked.contains c.serial then 3
  else if !leaf.any fun c => c.unit.length == 16 && senderOf c.unit == b.peerUid n then 4
  else if !(chain.all (·.p384) && leaf.any fun c => sigOk c.key (sha384 transcript) verify) then 5
  else 0

def execEhrHandshakeDone (n : Fin 16) (chain : List FleetCert) (transcript verify : List Nat) (s : State) : Result := s.if_ (s.blk.handshaking n && s.blk.ehrLinked) fun b =>
  let v := b.certVerdict n chain transcript verify
  if v = 0 then b.handshakeUp n else b.handshakeFails n v

def execEhrHandshakeTimeout (n : Fin 16) (s : State) : Result := s.if_ (s.blk.handshaking n) fun b =>
  (b.reach ((b.session n).hsAt + 60 * sec)).handshakeFails n 6

/-- Flights are resent after 1, 2, 4 and then every 8 s. -/
def execEhrFlightRetransmit (n : Fin 16) (s : State) : Result := s.if_ (s.blk.handshaking n) fun b =>
  let b := b.reach ((b.session n).flightAt + min 8 (2 ^ (b.session n).flight) * sec)
  b.modSession n fun x => { x with flight := x.flight + 1, flightAt := b.now }

def execEhrBackoff (n : Fin 16) (s : State) : Result := s.if_ (s.blk.peerState n == pBACKOFF) fun b =>
  (b.reach ((b.session n).backAt + min 32 (2 ^ ((b.session n).fails - 1)) * sec)).hello n

/-- SESSION_TO_S, which PARKED takes as three heartbeats (Table 19.9). -/
def Block.sessionTo (b : Block) : Nat := (if b.ehrState = ePARKED then 3 * b.use R.EHR_TIMERS_HB_PARK_S else b.use R.EHR_TIMERS_SESSION_TO_S) * sec

def execEhrSessionTimeout (n : Fin 16) (s : State) : Result := s.if_ (s.blk.peerState n == pUP) fun b =>
  let b := (b.reach ((b.session n).lastRx + b.sessionTo)).raise ehrOrigin R.EHR_EV_DOWN_EV [n]
  ((b.sessionEnds n).fallBack n false).sendWaiting

/-- A heartbeat on each UP session; the boundary of the endpoint's class S registers. -/
def Block.heartbeats (b : Block) : Block :=
  if b.ehrState = eSTOPPED then b
  else
    let b := b.reach (b.ehr.hbAt + (if b.ehrState = ePARKED then b.use R.EHR_TIMERS_HB_PARK_S * sec else b.use R.EHR_TIMERS_HB_MS * ms))
    let b := (b.boundary 0x47880000 0x47881000).modEhr fun e => { e with hbAt := b.now }
    b.eachOf ((List.range 16).filter fun n => b.peerState n == pUP) fun n b => b.sendFrame n 1 (b.heartbeat n) none false

def execEhrHeartbeat (s : State) : Result := s.go (·.heartbeats)

/-- A KeyUpdate after 2^24 records or KEYUPD_MIN, whichever comes first. -/
def execEhrKeyUpdate (n : Fin 16) (s : State) : Result := s.if_ (s.blk.peerState n == pUP) fun b =>
  let x := b.session n
  let b := if 2 ^ 24 ≤ x.records then b else b.reach (x.keyAt + b.use R.EHR_KEYUPD_KEYUPD_MIN * 60 * sec)
  b.modSession n fun x => { x with keyAt := b.now, records := 0 }

/-! ## Received records (R469 to R482) -/

/-- a is newer than b modulo 2^32. -/
def newer (a b : Nat) : Bool :=
  let d := (a + 2 ^ 32 - b % 2 ^ 32) % 2 ^ 32
  0 < d && d < 2 ^ 31

/-- A heartbeat of a supervisor: its request, and the supervision it times (R474). -/
def Block.beatIn (b : Block) (n : Nat) (d : List Nat) : Block :=
  let b := b.setOpen (R.EHR_PEERn_STAT_RTT_MS n)
  let b := b.when (b.mode.policy.supervisor == n) fun b => b.supervisorBeat
  let q := bytesAt d 36 4
  let last := (b.session n).reqSeq
  if b.bitOf (R.EHR_PEERn_CFG_ROLE n) 1 && q ≠ 0 && (last = 0 || newer q last) then
    (b.modeSubmit 3 (bytesAt d 40 2) (bytesAt d 42 2) (bytesAt d 44 2)).modSession n fun x => { x with reqSeq := q }
  else b

/-- A payload is delivered on its internal path (Table 19.5). In PARKED an ANNOUNCE or an OPEN is kept for START, and wakes the module. -/
def Block.deliver (b : Block) (n c : Nat) (d : List Nat) : Block × Bool :=
  let b := b.inc (R.EHR_PEERn_RX_COUNT n)
  if c = 1 then (b.beatIn n d, false)
  else
    let b := b.when (c == 3 && d.getD 58 0 != 0) fun b => match b.atIsland ehrOrigin 3 3 with | some t => { b with cvy := { b.cvy with hdg := some (bytesAt d 56 2, t) } } | none => b
    let d := if c = 4 then le 8 (b.peerUid n) ++ d else d
    let wakes := b.ehrState == ePARKED && ((c == 5 && d.getD 0 0 == 1) || (c == 7 && d.getD 4 0 == 1))
    if wakes then (b.modEhr fun e => { e with parked := e.parked ++ [{ kind := .sample, stream := c, origin := ehrOrigin, stamp := b.stamp, data := d }] }, true)
    else (b.sample ehrOrigin c d, false)

/-- Frames held ahead of a gap follow in order. -/
def Block.deliverAhead (n c : Nat) : Nat → Block × Bool → Block × Bool
  | 0, x => x
  | k + 1, (b, w) =>
    let e := (b.session n).expect.getD c 0
    match (b.session n).ahead.find? fun h => h.1 == c && h.2.1 == e with
    | none => (b, w)
    | some h =>
      let b := b.modSession n fun x => { x with ahead := x.ahead.erase h, expect := updAt x.expect c fun _ => (e + 1) % 2 ^ 32 }
      let (b, w') := b.deliver n c h.2.2
      Block.deliverAhead n c k (b, w || w')

/-- A RELIABLE frame: in order, ahead of a gap, or a duplicate; each arrival is answered with the highest SEQUENCE received in order. -/
def Block.reliableIn (b : Block) (n c seq : Nat) (d : List Nat) : Block × Bool :=
  let x := b.session n
  let e := x.expect.getD c 0
  let mine := x.ahead.filter fun h => h.1 == c
  let (b, w) :=
    if seq = e then
      let b := b.modSession n fun x => { x with expect := updAt x.expect c fun _ => (e + 1) % 2 ^ 32 }
      Block.deliverAhead n c 64 (b.deliver n c d)
    else if newer seq e && decide (mine.length < 64) && !mine.any (fun h => h.2.1 == seq) then (b.modSession n fun x => { x with ahead := x.ahead ++ [(c, seq, d)] }, false)
    else (b, false)
  (b.emit n c ((b.session n).txSeq.getD c 0) 2 (le 4 ((b.session n).expect.getD c 0 + 2 ^ 32 - 1)), w)

/-- A whole frame by its delivery kind (R481, R482). -/
def Block.frameIn (b : Block) (n c seq : Nat) (d : List Nat) : Block × Bool :=
  match classKind c with
  | 0 =>
    let last := (b.session n).rxLast.getD c none
    let fresh := match last with | none => true | some l => newer seq l
    if fresh then
      let skipped := match last with | none => seq | some l => (seq + 2 ^ 32 - l - 1) % 2 ^ 32
      ((b.inc R.EHR_CNT_B_LOST skipped).modSession n fun x => { x with rxLast := updAt x.rxLast c fun _ => some seq }).deliver n c d
    else (b.inc R.EHR_CNT_B_STALE, false)
  | 1 => b.deliver n c d
  | _ => b.reliableIn n c seq d

/-- An acknowledgement releases the frames up to its SEQUENCE. -/
def Block.ackIn (b : Block) (n c : Nat) (d : List Nat) : Block :=
  let q := bytesAt d 0 4
  let (done, rest) := (b.session n).held.partition fun h => h.cls == c && !newer h.seq q
  match done.getLast? with
  | none => b
  | some h => (b.set (R.EHR_PEERn_STAT_RTT_MS n) (min 65535 ((b.now - h.sentAt) / ms))).modSession n (fun x => { x with held := rest }) |>.sendWaiting

/-- A fragment joins its frame, which is taken when complete (R470). -/
def Block.fragIn (b : Block) (n c seq total index count : Nat) (d : List Nat) : Block × Bool :=
  let l := (b.session n).frags
  let f := (l.find? fun f => f.cls == c && f.seq == seq).getD { cls := c, seq := seq, total := total, count := count, parts := [], since := b.now }
  let parts := if f.parts.any fun p => p.1 == index then f.parts else f.parts ++ [(index, d)]
  let others := l.filter fun f => !(f.cls == c && f.seq == seq)
  if f.count ≤ parts.length then
    (b.modSession n fun x => { x with frags := others }).frameIn n c seq ((List.range f.count).flatMap fun i => ((parts.find? fun p => p.1 == i).map (·.2)).getD [])
  else (b.modSession n fun x => { x with frags := others ++ [{ f with parts := parts }] }, false)

/-- The bytes of a record are checked and taken (R469, R471); the answer says whether the module wakes. -/
def Block.recordIn (b : Block) (n : Nat) (f : List Nat) : Block × Bool :=
  let c := f.getD 1 0
  let flags := bytesAt f 2 2
  let seq := bytesAt f 12 4
  let total := bytesAt f 24 4
  let d := f.drop 28
  let frag := bit flags 2
  let index := flags / 256 % 16
  let count := flags / 4096 % 16 + 1
  let size := if frag then min 1152 (total - 1152 * index) else total
  let bad := decide (f.length < 28) || f.getD 0 0 != 1 || c == 0 || decide (7 < c) || bytesAt f 4 8 != b.peerUid n || decide (18432 < total) || d.length != size || decide (flags / 16 % 16 ≠ 0) ||
    (frag && (decide (count ≤ index) || count != (total + 1151) / 1152))
  let b := b.modSession n fun x => { x with lastRx := b.now, records := x.records + 1 }
  if bad then (b.inc R.EHR_CNT_A_BAD_FRAME, false)
  else if !b.roleOk n c (classFrom c) then (b.inc R.EHR_CNT_A_REFUSED, false)
  else if bit flags 1 && classKind c == 2 then (b.ackIn n c d, false)
  else if frag then b.fragIn n c seq total index count d
  else b.frameIn n c seq d

/-- A record number that the replay window of 64 records takes: new, and not below the window (R466). -/
def EhrSession.fresh (x : EhrSession) (num : Nat) : Bool := match x.top with | none => true | some t => decide (t < num) || (decide (t < num + 64) && !x.seen.contains num)

/-- The window after a record. -/
def EhrSession.take (x : EhrSession) (num : Nat) : EhrSession :=
  let t := max num (x.top.getD 0)
  { x with top := some t, seen := (num :: x.seen).filter fun k => decide (t < k + 64) }

/-- A record, numbered in its session, reaches an UP session while island 1 runs and the router's port carries; `close` is the peer's close_notify, after which a client whose entry stays enabled begins anew (Table 19.2). -/
def Block.recordArrives (b : Block) (n num : Nat) (f : List Nat) (close : Bool) : Block × Bool :=
  if b.ehrState = eSTOPPED || (b.island 1).run ≠ .running || !b.ehrLinked || b.peerState n ≠ pUP || !(b.session n).fresh num then (b, false)
  else
    let b := b.modSession n fun x => x.take num
    if close then (((b.closeSession n).when (b.isClient n) fun b => b.hello n).sendWaiting, false)
    else b.recordIn n f

/-- The oldest frame in reassembly is given up after 1 s. -/
def execEhrReasmTimeout (n : Fin 16) (s : State) : Result := s.go fun b =>
  match (b.session n).frags with
  | [] => b
  | f :: r => (((b.reach (f.since + sec)).modSession n fun x => { x with frags := r }).inc R.EHR_CNT_C_REASM_FAIL).set R.EHR_EV_REASM_EV 1

/-! ## Payloads and retransmission -/

/-- Entries of a measurement packet (Table 14.9) that the endpoint encodes: of ANT_1, with carrier lock, not EXCLUDED (R475). -/
def obsEntries (d : List Nat) : List (List Nat) :=
  ((List.range ((d.length - 16) / 32)).map fun k => (d.drop (16 + 32 * k)).take 32).filter fun e => decide (bytesAt e 2 2 < 192) && bit (e.getD 28 0) 1 && !bit (e.getD 28 0) 4

/-- A raw-observation payload (R475) from the header of a measurement packet and the epoch's entries. Its RTCM 3 frames are coded by RTCM 10403.3, which the spec does not repeat: their bytes are free, and there are none without an entry. -/
def Block.obsPayload (b : Block) (d : List Nat) (entries : List (List Nat)) : List Nat :=
  let ops : List Int := ((b.ownSender % 4096 : Nat) : Int) :: ((d.take 12) ++ entries.flatten).map Int.ofNat
  let n := if entries.isEmpty then 0 else (Config.freeReal 1911 ops).toNat % 18417
  (d ++ List.replicate 12 0).take 12 ++ le 2 n ++ [0, 0] ++ (List.range n).map fun (i : Nat) => (Config.freeReal 1912 ((i : Int) :: ops)).toNat % 256

/-- A convoy-solution payload (R476): the solution, the partner's SENDER, the own fused heading and its CONF_HDG. -/
def Block.solutionPayload (b : Block) (d : List Nat) : List Nat :=
  (d ++ List.replicate 48 0).take 48 ++ le 8 (b.peerUid (b.get R.EHR_CFG_CVY_PEER)) ++ (b.fusion.last.drop 44).take 2 ++ [b.fusion.last.getD 73 0, 0]

/-- A packet of a class's stream: what is sent for it, if it completes a payload (R475 to R480). An epoch's measurements may come in several parts. -/
def Block.fleetPayload (b : Block) (c : Nat) (d : List Nat) : Block × Option (List Nat) :=
  if c = 2 then
    let l := (if d.getD 12 0 = 0 then [] else b.ehr.obs) ++ obsEntries d
    if d.getD 12 0 + 1 < d.getD 13 0 then (b.modEhr fun e => { e with obs := l }, none)
    else (b.modEhr fun e => { e with obs := [] }, some (b.obsPayload d l))
  else (b, some (if c = 3 then b.solutionPayload d else d))

/-- A payload of an image-routed stream is sent to the peers of its class (R472, R482). What was recorded is not sent (Table 19.9). -/
def Block.sendPayload (b : Block) (c : Nat) (p : Packet) (data : List Nat) : Block :=
  let ps := b.peersFor c
  if classKind c = 2 then b.reliableOut c data (some p)
  else if ps.isEmpty then b.inc R.EHR_CNT_D_NO_SESSION
  else b.eachOf ps fun n b => b.sendFrame n c data none false

def Block.payloadTx (b : Block) (c : Nat) (p : Packet) : Block :=
  if b.ehrState = eSTOPPED || (b.island 1).run ≠ .running || c < 2 || p.replay || !b.heard p then b
  else match b.fleetPayload c p.data with
    | (b, some d) => b.sendPayload c p d
    | (b, none) => b

def execEhrPayloadTx (cls : Fin 8) (p : Packet) (s : State) : Result := s.go fun b => b.payloadTx cls p

/-- When a held frame is sent again: 0.5, 1, 2, 4, 4, 4 and 4 s after its sends; after the eighth it is due at once. -/
def heldDue (h : EhrHeld) : Nat := h.sentAt + ([500, 1000, 2000, 4000, 4000, 4000, 4000].getD (h.sends - 1) 0) * ms

/-- The unacknowledged frame due first is resent, or abandoned after eight sends. -/
def Block.retransmit (b : Block) (n : Nat) : Block :=
  match (b.session n).held with
  | [] => b
  | h0 :: r =>
    let h := r.foldl (fun m h => if heldDue h < heldDue m then h else m) h0
    if 8 ≤ h.sends then (((b.abandon h).when (h.cls == 7) fun b => b.relayEnds n).modSession n fun x => { x with held := x.held.erase h }).sendWaiting
    else
      let b := (b.reach (heldDue h)).emit n h.cls h.seq 1 h.payload
      b.modSession n fun x => { x with held := x.held.map fun y => if y = h then { y with sends := y.sends + 1, sentAt := b.now } else y }

def execEhrRetransmit (n : Fin 16) (s : State) : Result := s.if_ (s.blk.peerState n == pUP) fun b => b.retransmit n

/-! ## Control bits, power states and losses (R483) -/

def Block.ehrStop (b : Block) : Block := (b.each 16 fun n b => if b.peerState n = pDOWN then b else b.closeSession n).set R.EHR_STATUS_STATE eSTOPPED

/-- Clients of every enabled entry that is DOWN start their handshakes. -/
def Block.ehrHellos (b : Block) : Block := b.each 16 fun n b => if b.flag (R.EHR_PEERn_CFG_EN n) && b.peerState n = pDOWN && b.isClient n then b.hello n else b

def Block.ehrStart (b : Block) : Block :=
  if b.ehrState = eSTOPPED then ((b.set R.EHR_STATUS_STATE eRUNNING).modEhr fun e => { e with hbAt := b.now, byStop := false }).ehrHellos else b

def execEhrStop (s : State) : Result := s.ask s.blk.ehrRefusal fun b => (b.ehrStop).modEhr fun e => { e with byStop := true }
def execEhrStart (s : State) : Result := s.ask s.blk.ehrRefusal (·.ehrStart)

def execEhrClrCnt (s : State) : Result := s.ask s.blk.ehrRefusal fun b =>
  (b.clear [R.EHR_CNT_A_BAD_FRAME, R.EHR_CNT_A_REFUSED, R.EHR_CNT_B_STALE, R.EHR_CNT_B_LOST, R.EHR_CNT_C_REASM_FAIL, R.EHR_CNT_C_ABANDONED, R.EHR_CNT_D_AUTH_FAIL, R.EHR_CNT_D_NO_SESSION]).each 16 fun n b =>
    b.clear [R.EHR_PEERn_RX_COUNT n, R.EHR_PEERn_TX_COUNT n]

/-- Entry into PARKED: only sessions with a scheduler or a relay continue. -/
def Block.ehrPark (b : Block) : Block :=
  if b.ehrState = eSTOPPED then b
  else (b.each 16 fun n b => if b.peerState n = pDOWN || b.bitOf (R.EHR_PEERn_CFG_ROLE n) 2 || b.bitOf (R.EHR_PEERn_CFG_ROLE n) 3 then b else b.closeSession n).set R.EHR_STATUS_STATE ePARKED

/-- The return to RUN: what was kept in PARKED is delivered. -/
def Block.ehrWake (b : Block) : Block :=
  if b.ehrState = ePARKED then
    let l := b.ehr.parked
    (((b.set R.EHR_STATUS_STATE eRUNNING).modEhr fun e => { e with parked := [], hbAt := b.now }).eachOf l fun p b => b.sample ehrOrigin p.stream p.data (stamp := some p.stamp)).ehrHellos
  else b

/-- Age of the last valid record of a peer in ms. -/
def Block.peerAge (b : Block) (n : Nat) : Nat := min 0xFFFFFFFF ((b.now - (b.session n).lastRx) / ms)

/-- A reset of island 1: sessions end without a word. -/
def Block.ehrReset (b : Block) : Block := { b.resetRegs 0x47880000 0x47881000 with ehr := {} }

end Sys2Proof.Machine
end

