-- ==== Sys2Proof/Machine/Health.lean ====
section
/-! DEFINITION. The health aggregator: monitors, ageing measurements, the reserve test and the re-plan (chapter 24). -/

namespace Sys2Proof.Machine

open Sys2Proof

def hltOrigin : Nat := org 0 5 0
def Block.modHlt (b : Block) (f : Hlt → Hlt) : Block := { b with hlt := f b.hlt }
def hIDLE : Nat := 0
def hTESTING : Nat := 1
def hPLANNING : Nat := 2

/-- The module samples and measures in RUN and PARKED. -/
def Block.hltLive (b : Block) : Bool := decide (2 ≤ b.get R.PWR_STATE_STATE)
def Block.powered (b : Block) (i : Nat) : Bool := (b.island i).run != .poweredDown

/-! ## Monitors (R555 to R557) -/

/-- A temperature sensor stands in a powered island. -/
def Block.tempValid (b : Block) (n : Nat) : Bool :=
  if n < 24 then b.powered (6 + n / 8) else if n < 33 then b.powered (n - 24) else true

/-- A voltage monitor stands on a powered rail. -/
def Block.voltValid (b : Block) (n : Nat) : Bool :=
  if n < 9 then b.powered n else if n < 18 then b.powered (n - 9) else if n < 26 then true else if n < 50 then b.powered (6 + (n - 26) / 8)
  else if n < 56 then true else if n < 60 then b.powered 1 else if n = 60 then b.powered 4 && b.get R.PWR_STATE_STATE == 3 else if n < 63 then b.powered 3 else true

/-- One temperature: OVER with its hysteresis. -/
def Block.hltTemp (b : Block) (n : Nat) (t : Int) : Block :=
  if !b.tempValid n then b.clear [R.HLT_Tn_T n, R.HLT_Tn_OVER n, R.HLT_Tn_VALID n]
  else
    let b := (b.seti (R.HLT_Tn_T n) (satS 16 t)).set (R.HLT_Tn_VALID n) 1
    let warn := signed 16 (b.use (R.HLT_TLIMn_WARN n))
    let was := b.flag (R.HLT_Tn_OVER n)
    let now := decide (warn ≤ t) || (was && !decide (t < warn - max 1 (b.use (R.HLT_TLIMn_HYST n))))
    let b := b.setB (R.HLT_Tn_OVER n) now
    b.when (now && !was) fun b => b.raise hltOrigin R.HLT_EV_TEMP_EV

/-- One voltage: LOW and HIGH follow once the reading has stood on its side of a limit for 1 ms. -/
def Block.hltVolt (b : Block) (n mv : Nat) (settled : Bool) : Block :=
  if !b.voltValid n then b.clear [R.HLT_Vn_MV n, R.HLT_Vn_LOW n, R.HLT_Vn_HIGH n, R.HLT_Vn_VALID n]
  else
    let b := (b.set (R.HLT_Vn_MV n) (min 65535 mv)).set (R.HLT_Vn_VALID n) 1
    let low := decide (mv < b.use (R.HLT_VLIMn_LO_MV n))
    let high := decide (max (b.use (R.HLT_VLIMn_LO_MV n)) (b.use (R.HLT_VLIMn_HI_MV n)) < mv)
    if !settled then b
    else
      let rises := (low && !b.flag (R.HLT_Vn_LOW n)) || (high && !b.flag (R.HLT_Vn_HIGH n))
      let b := (b.setB (R.HLT_Vn_LOW n) low).setB (R.HLT_Vn_HIGH n) high
      b.when rises fun b => b.raise hltOrigin R.HLT_EV_VOLT_EV

/-- A stud or reservoir monitor shows the measurement of FC_STUD_STAT or FC_CELL_BOOST (R555); any other shows its own. -/
def Block.monitor (b : Block) (n mv : Nat) : Nat :=
  if 18 ≤ n && n < 26 then b.get (R.FC_STUD_STAT_VOLT_MV (n - 18)) else if 26 ≤ n && n < 50 then 250 * b.get (R.FC_CELL_BOOST_VOLT (n - 26)) else mv

/-- Monitors of what has no supply read 0 (R555). -/
def Block.hltDark (b : Block) : Block :=
  let b := b.each 40 fun n b => b.when (!b.tempValid n) fun b => b.clear [R.HLT_Tn_T n, R.HLT_Tn_OVER n, R.HLT_Tn_VALID n]
  b.each 64 fun n b => b.when (!b.voltValid n) fun b => b.clear [R.HLT_Vn_MV n, R.HLT_Vn_LOW n, R.HLT_Vn_HIGH n, R.HLT_Vn_VALID n]

/-- The 10 ms sample: temperatures in 0.1 °C; voltages in mV, each with whether it has stood on its side of its limits for 1 ms. -/
def Block.hltSample (b : Block) (temps : List Int) (volts : List (Nat × Bool)) : Block :=
  let b := b.reach (b.hlt.sampleAt + 10 * ms)
  let b := ((b.boundary 0x4C000000 0x4C000010).boundary 0x4C000018 0x4C001000).modHlt fun h => { h with sampleAt := b.now, stampAt := b.stamp }
  let b := b.each 40 fun n b => match temps[n]? with | some t => b.hltTemp n t | none => b
  (b.each 64 fun n b => match volts[n]? with | some (mv, ok) => b.hltVolt n (b.monitor n mv) ok | none => b).hltDark

def execHltSample (temps : List Int) (volts : List (Nat × Bool)) (s : State) : Result := s.if_ s.blk.hltLive fun b => b.hltSample temps volts

/-- Bits of a list of flags as bytes. -/
def bitBytes (n : Nat) (f : Nat → Bool) : List Nat := le (n / 8) ((List.range n).foldl (fun x i => withBit x i (f i)) 0)

/-- Table 24.3. -/
def Block.hltPayload (b : Block) : List Nat :=
  let worn := !b.hlt.plan.worn.isEmpty || !b.hlt.plan.wornB.isEmpty
  le 4 b.hlt.hseq ++ ((List.range 40).flatMap fun n => le 2 (b.get (R.HLT_Tn_T n))) ++ ((List.range 64).flatMap fun n => le 2 (b.get (R.HLT_Vn_MV n))) ++
    bitBytes 40 (fun n => b.flag (R.HLT_Tn_OVER n)) ++ [0, 0, 0] ++ bitBytes 64 (fun n => b.flag (R.HLT_Vn_LOW n) || b.flag (R.HLT_Vn_HIGH n)) ++
    le 4 (b.get R.HLT_STATUS_PLAN_PENDING + 2 * b2n worn)

def execHltStream (s : State) : Result := s.if_ s.blk.hltLive fun b =>
  let b := (b.reach (b.hlt.streamAt + b.use R.HLT_CFG_PERIOD_MS * ms)).modHlt fun h => { h with streamAt := max b.now (h.streamAt + b.use R.HLT_CFG_PERIOD_MS * ms) }
  (b.sample hltOrigin 0 b.hltPayload (stamp := some b.hlt.stampAt)).modHlt fun h => { h with hseq := (h.hseq + 1) % 2 ^ 32 }

/-! ## Ageing measurements (R558 to R562) -/

/-- Drift in ppm of a normalised frequency against the vendor's (R558), rounded down (log entry 91). -/
def roDrift (ref norm : Nat) : Int := ((ref : Int) - norm) * 1000000 / ref

/-- The reference and the normalised frequency of each group: running groups get their drift. In PARKED the count is that of the entry. -/
def execHltRoMeasure (freqs : List (Option (Nat × Nat))) (s : State) : Result := s.if_ (s.blk.get R.PWR_STATE_STATE == 3 || s.blk.hlt.roDue) fun b =>
  let b := b.when (!b.hlt.roDue) fun b => b.reach (b.hlt.roAt + 600 * sec)
  let b := b.each 18 fun n b => match freqs.getD n none with | some (ref, norm) => b.when (b.powered (n / 2) && ref != 0) fun b => b.seti (R.HLT_ROn_DRIFT_PPM n) (satS 24 (roDrift ref norm)) | none => b
  b.modHlt fun h => { h with roAt := b.now, roDue := false }

/-- A sample qualifies. -/
def ronQualifies (x : RonSample) : Bool := decide (20000 ≤ x.onNs) && decide (1000 ≤ x.ma) && decide (x.ma ≤ 12000) && !x.limited && !x.window

/-- Its resistance in 0.01 mΩ brought to 25 °C from a cell temperature in 0.1 °C, rounded down (log entry 91). -/
def ron25 (x : RonSample) (t : Int) : Nat := ((x.uv : Int) * 2000000 / ((x.ma : Int) * (20000 + 9 * (t - 250)))).toNat

/-- The samples of a minute of each of a cell's channels: a channel with qualifying ones gets their median. -/
def execHltRonMinute (c : Fin 24) (samples : List (List RonSample)) (s : State) : Result := s.if_ (s.blk.runs c) fun b =>
  let b := b.reach (b.hlt.ronAt.getD c 0 + 60 * sec)
  let b := b.modHlt fun h => { h with ronAt := updAt h.ronAt c fun _ => b.now }
  b.each 8 fun u b =>
    match (((samples.getD u []).filter ronQualifies).take 256).map fun x => ron25 x (b.geti (R.HLT_Tn_T c)) with
    | [] => b
    | x :: xs =>
      let ch := 8 * c.val + u
      let m := medianOf (x :: xs)
      let l := (m :: ((b.hlt.ron.find? fun x => x.1 == ch).map (·.2)).getD []).take 64
      (b.modHlt fun h => { h with ron := h.ron.filter (fun x => x.1 != ch) ++ [(ch, l)] }).set (R.HLT_CHc_RON25 ch) (min 65535 (medianOf l))

/-- Region of a page of the retained store, and the lines that share a page's writes (R560). -/
def mramRegion (page : Nat) : Nat := if page < 0x4000 then 0 else if page < 0x8000 then 1 else 2
def mramLines (page : Nat) : Nat := if page < 0x8000 then 64 else 1
def pageWear (page count : Nat) : Nat := min 65535 (count * 65535 / (mramLines page * 100000000))

/-- The worst page of a region. -/
def worstPage (w : Store) (r : Nat) : Nat × Nat := (w.filter fun e => mramRegion e.1 == r).foldl (fun m e => if m.2 < e.2 then e else m) (0, 0)

/-- HLT_MRAMr follows the counts. -/
def Block.mramWear (b : Block) : Block := b.each 3 fun r b =>
  let (p, n) := worstPage b.hlt.writes r
  (b.set (R.HLT_MRAMr_PAGE_PAGE r) p).set (R.HLT_MRAMr_WEAR_WEAR r) (pageWear p n)

/-- Lines of the retained store written, by line number. -/
def Block.mramWrote (b : Block) (lines : List Nat) : Block :=
  if lines.isEmpty then b
  else (b.modHlt fun h => { h with writes := lines.foldl (fun (w : Store) l => w.put (l / 64) (w.find (l / 64) 0 + 1)) h.writes }).mramWear

/-- The counts are saved. -/
def Block.mramSave (b : Block) : Block := b.modHlt fun h => { h with saved := h.writes, saveAt := b.now }

def execHltMramSave (s : State) : Result := s.if_ s.blk.hltLive fun b => (b.reach (b.hlt.saveAt + 600 * sec)).mramSave

/-- A power-fail or a reset of island 0 loses the counts since the last save. -/
def Block.mramLoss (b : Block) : Block :=
  let lost := b.hlt.writes != b.hlt.saved
  let b := (b.modHlt fun h => { h with writes := h.saved }).mramWear
  b.when lost fun b => b.set R.HLT_EV_SAVE_LOST_EV 1

/-- A half-cycle of an island closes with a range in 0.1 K. -/
def Block.halfCycle (b : Block) (k : Nat) (range : Nat) : Block :=
  let b := b.when (200 ≤ range) fun b => b.inc (R.HLT_CYCk_A_C20 k)
  let b := b.when (400 ≤ range) fun b => b.inc (R.HLT_CYCk_A_C40 k)
  let b := b.when (800 ≤ range) fun b => b.inc (R.HLT_CYCk_B_C80 k)
  let b := b.modHlt fun h => { h with damage := updAt h.damage k fun d => d + range ^ 2 * 2 ^ 40 / (320000 * max 1 (b.use R.HLT_LIFE_CFG_N_RATED)) }
  b.set (R.HLT_CYCk_B_DAMAGE k) (min 65535 (b.hlt.damage.getD k 0 * 65535 / 2 ^ 40))

/-- One reading of an island's die: extremes with a hysteresis of 10 K. -/
def Block.thermalRead (b : Block) (k : Nat) (t : Int) : Block :=
  let put := fun (v : Int × Int × Bool) (b : Block) => b.modHlt fun h => { h with cycles := updAt h.cycles k fun _ => some v }
  match b.hlt.cycles.getD k none with
  | none => put (t, t, true) b
  | some (prev, ext, up) =>
    let onwards := if up then decide (ext < t) else decide (t < ext)
    let b :=
      if onwards then put (prev, t, up) b
      else if 100 ≤ (ext - t).natAbs then put (ext, t, !up) (b.halfCycle k (ext - prev).natAbs)
      else b
    if b.hlt.dark then
      match b.hlt.cycles.getD k none with
      | some (p, e, u) => put (e, e, u) (b.halfCycle k (e - p).natAbs)
      | none => b
    else b

def execHltThermal (s : State) : Result := s.if_ s.blk.hltLive fun b =>
  let b := b.reach (b.hlt.thermAt + sec)
  let b := b.each 9 fun k b => b.when (b.flag (R.HLT_Tn_VALID (24 + k))) fun b => b.thermalRead k (b.geti (R.HLT_Tn_T (24 + k)))
  b.modHlt fun h => { h with dark := false, thermAt := b.now }

/-! ## The reserve (R117 to R119, R562) -/

/-- The ride-through that would apply now, in ms (R118). -/
def Block.rideAvail (b : Block) : Nat :=
  let v : Int := b.get R.PWR_RES_VOLT
  let n : Int := (45 * (b.get R.PWR_RES_CAP_UF : Int) * (v * v - 2304) - 1440000 * 1600) / (48000 * 1600)
  let r := min (b.get R.PWR_PF_CFG_RIDE_MS) n.toNat
  if r < 12 then 0 else r

/-- Greatest whole number whose square is at most `n`, by halving from `k` bits down. -/
def sqrtFrom (n : Nat) : Nat → Nat → Nat
  | 0, r => r
  | k + 1, r => sqrtFrom n k (if (r + 2 ^ k) * (r + 2 ^ k) ≤ n then r + 2 ^ k else r)

/-- The reserve has fed the logic for `t` ns: it drew at most 48 W at 90 % efficiency (R117), and down to 12 V; the voltage left is a free value within that. -/
def Block.reserveDrain (b : Block) (t : Nat) : Block :=
  let v := b.get R.PWR_RES_VOLT
  let least := min v (max 48 (sqrtFrom (v * v - 48 * (t / 1000) * 320 / (9 * max 1 (b.get R.PWR_RES_CAP_UF))) 9 0))
  let left := least + b.open_ % (v - least + 1)
  ((b.set R.PWR_RES_VOLT left).setB R.PWR_STATUS_RES_READY (b.flag R.PWR_STATUS_RES_READY && decide (176 ≤ left))).spend

/-- The charger stops and the test runs; a re-plan under way ends first (log entry 91). -/
def Block.capTestStart (b : Block) : Block :=
  if 1 < b.get R.HLT_STATUS_STATE then b.modHlt fun h => { h with testDue := true }
  else (b.set R.HLT_STATUS_STATE hTESTING).set R.PWR_STATUS_RES_READY 0

/-- The reserve stands at 44 V; a reserve never measured is tested now. It charges while island 0 is out of reset and LOGIC_BAT is valid, not in BACKUP (R117) and not during a test (R562). -/
def execReserveCharged (s : State) : Result := s.if_ (s.blk.flag R.PWR_STATUS_LOGIC_VALID && (s.blk.island 0).run == .running && s.blk.get R.PWR_STATE_STATE != 0 && !s.blk.pwr.inReset && s.blk.get R.HLT_STATUS_STATE != hTESTING) fun b =>
  let b := (b.set R.PWR_STATUS_RES_READY 1).set R.PWR_RES_VOLT (max 176 (b.get R.PWR_RES_VOLT))
  b.when (b.get R.PWR_RES_CAP_UF == 0 && b.get R.HLT_STATUS_STATE == hIDLE && b.hltLive) (·.capTestStart)

def execHltCapTest (s : State) : Result :=
  s.ask (if s.blk.flag R.PWR_STATUS_PF then some BUSY else none) (·.capTestStart)

/-! ## Re-planning (R564 to R567) -/

/-- A fraction scaled by 2^40. -/
def frac (n d : Int) : Nat := (n * 2 ^ 40 / max 1 d).toNat

/-- The life fractions of Table 24.4, in order. -/
def Block.lifeFractions (b : Block) : List Nat :=
  let most := fun (l : List Nat) => l.foldl max 0
  let ronFail : Nat := max 1 (b.use R.HLT_LIFE_CFG_RON_FAIL)
  [ frac (((List.range 18).map fun n => b.geti (R.HLT_ROn_DRIFT_PPM n)).foldl max 0) (1000 * max 1 (b.use R.HLT_LIFE_CFG_D_LIFE)),
    most b.hlt.damage,
    most ((List.range 3).map fun r => let (p, n) := worstPage b.hlt.writes r; frac n (mramLines p * 100000000)),
    if b.get R.PWR_RES_CAP_UF = 0 then 0 else frac (4000 - (b.get R.PWR_RES_CAP_UF : Int)) 800,
    most ((List.range 192).map fun c =>
      let r0 := b.get (R.HLT_CHR0c_R0 c)
      let r := b.get (R.HLT_CHc_RON25 c)
      if r0 = 0 || r = 0 then 0 else frac (((r : Int) - r0) * 256) (r0 * ronFail)),
    most ((List.range 24).map fun c => let n := b.get (R.HLT_BSTc_CAP_NF c); if n = 0 then 0 else frac (6940 - (n : Int)) 1388) ]

/-- The margin in force: a raised one slews at 5 mV/ms at most (R567). -/
def Block.avs (b : Block) (k : Nat) : Nat := let (from_, since) := b.hlt.rise.getD k (0, 0); min (b.get (R.HLT_AVSk_IN_FORCE k)) (from_ + (b.now - since) / ms)

/-- Margin of an island in 5 mV. -/
def Block.planMargin (b : Block) (k : Nat) : Nat :=
  let d := max (b.geti (R.HLT_ROn_DRIFT_PPM (2 * k))) (b.geti (R.HLT_ROn_DRIFT_PPM (2 * k + 1)))
  let m := ((b.use R.HLT_PLAN_CFG_SLOPE * d + 4999) / 5000).toNat
  max (min m (b.use R.HLT_PLAN_CFG_AVS_MAX)) (b.avs k - 1)

/-- Derating of a channel in 1/256: the root of the ratio of its resistances. -/
def Block.planDerate (b : Block) (c : Nat) : Nat :=
  let r := b.get (R.HLT_CHc_RON25 c)
  if r = 0 then 256 else max (b.use R.HLT_PLAN_CFG_DER_MIN) (min 256 (isqrt (65536 * b.get (R.HLT_CHR0c_R0 c) / r) 16))

def Block.channelWorn (b : Block) (c : Nat) : Bool :=
  decide (b.get (R.HLT_CHR0c_R0 c) * (256 + max 1 (b.use R.HLT_LIFE_CFG_RON_FAIL)) < 256 * b.get (R.HLT_CHc_RON25 c)) && b.get (R.HLT_CHR0c_R0 c) != 0

/-- Seconds of RUN since the entry into it. -/
def Block.runSeconds (b : Block) : Nat := (b.now - b.hlt.runAt.getD b.now) / sec

/-- The plan from the measurements in hand. -/
def Block.makePlan (b : Block) (trig : Nat) : HltPlan :=
  let l := b.lifeFractions
  let u := l.foldl max 0
  let h := b.get R.HLT_HOURS_RUN_S + b.runSeconds
  { pseq := (b.get R.HLT_PSEQ_PSEQ + 1) % 2 ^ 32
    gov := if u = 0 then 0 else ((l.findIdx? (· == u)).getD 0) + 1
    used := min 65535 (u * 65535 / 2 ^ 40)
    left := if 1000 * u < 2 ^ 40 then 65535 else min 65535 (h * (2 ^ 40 - u) / (3600 * u))
    m := (List.range 9).map b.planMargin
    trig := trig
    boost := (List.range 24).map fun c => let n := b.get (R.HLT_BSTc_CAP_NF c); if n = 0 || 6246 ≤ n then 192 else 188
    der := ((List.range 192).map fun c => (c, b.planDerate c)).filter fun e => e.2 != 256
    worn := (List.range 192).filter b.channelWorn
    wornB := (List.range 24).filter fun c => let n := b.get (R.HLT_BSTc_CAP_NF c); n != 0 && decide (n < 5552) }

/-- A re-plan starts, or one more is queued while one runs or a test does. -/
def Block.replan (b : Block) (trig : Nat) : Block :=
  if b.get R.HLT_STATUS_STATE = hIDLE then
    let b := b.boundary 0x4C000010 0x4C000018
    (b.set R.HLT_STATUS_STATE hPLANNING).modHlt fun h => { h with next := some (b.makePlan trig) }
  else if b.flag R.HLT_STATUS_PLAN_PENDING then b
  else (b.set R.HLT_STATUS_PLAN_PENDING 1).modHlt fun h => { h with pendTrig := trig }

/-- A queued re-plan starts. -/
def Block.replanQueued (b : Block) : Block := if b.flag R.HLT_STATUS_PLAN_PENDING then (b.set R.HLT_STATUS_PLAN_PENDING 0).replan b.hlt.pendTrig else b

/-- A power-fail detection ends a running test, somewhere between 45 V and 42.5 V (R562); the re-plan that waited for it uses the last value. -/
def Block.capTestAbort (b : Block) : Block :=
  if b.get R.HLT_STATUS_STATE = hTESTING then ((b.set R.HLT_STATUS_STATE hIDLE).set R.PWR_RES_VOLT (min (b.get R.PWR_RES_VOLT) (170 + b.open_ % 11))).spend.replanQueued else b

def execHltReplan (s : State) : Result := s.ask none (·.replan 1)

/-- The registers of the standing plan. -/
def Block.showPlan (b : Block) : Block :=
  let p := b.hlt.plan
  let b := (((b.set R.HLT_PSEQ_PSEQ p.pseq).set R.HLT_LIFE_REMAIN_H p.left).set R.HLT_LIFE_GOVERNOR p.gov).set R.HLT_USED_U p.used
  let b := b.each 9 fun k b => b.set (R.HLT_AVSk_PLANNED k) (p.m.getD k 0)
  let b := b.each 192 fun c b => (b.set (R.HLT_CHc_DERATE c) (((p.der.find? fun e => e.1 == c).map (·.2)).getD 256)).setB (R.HLT_CHc_WORN c) (p.worn.contains c)
  b.each 24 fun c b => b.setB (R.HLT_BSTc_WORN c) (p.wornB.contains c)

/-- A raised margin holds at once for an island with supply, slewed from the one in force. -/
def Block.avsRaise (b : Block) (k v : Nat) : Block :=
  if b.powered k && decide (b.avs k < v) then (b.modHlt fun h => { h with rise := updAt h.rise k fun _ => (b.avs k, b.now) }).set (R.HLT_AVSk_IN_FORCE k) v else b

/-- A plan that is recorded stands, and raised margins hold at once. -/
def Block.planDone (b : Block) : Block :=
  match b.hlt.next with
  | none => b
  | some p =>
    let b := ((b.modHlt fun h => { h with plan := p, next := none }).showPlan).set R.HLT_STATUS_STATE hIDLE
    let b := b.each 9 fun k b => b.avsRaise k (p.m.getD k 0)
    let b := b.raise hltOrigin R.HLT_EV_REPLAN_EV
    let b := b.when (65535 ≤ p.used) fun b => b.raise hltOrigin R.HLT_EV_WORN_EV [p.gov]
    if b.hlt.testDue then (b.modHlt fun h => { h with testDue := false }).capTestStart else b.replanQueued

/-- The reserve test ends with the time of its fall in ns; a re-plan that waits for it starts. -/
def Block.capTestDone (b : Block) (t : Nat) : Block :=
  let c := min 65535 (t / 20000)
  let b := ((b.set R.PWR_RES_CAP_UF c).setB R.PWR_STATUS_RES_WORN (decide (c < 3200))).setB R.PWR_STATUS_RES_FAILED (decide (c < 1710))
  let b := ((b.set R.HLT_EV_CAP_DONE_EV 1).set R.HLT_STATUS_STATE hIDLE).set R.PWR_RES_VOLT 170
  b.replanQueued

def execHltCapTestDone (t : Nat) (s : State) : Result := s.if_ (s.blk.get R.HLT_STATUS_STATE == hTESTING) fun b => b.capTestDone t

/-- No counter of the block clears by CLR_CNT: those it has belong to the retained class. -/
def execHltClrCnt (s : State) : Result := s.ask none id

/-! ## Power states and starts -/

/-- RUN ends: its seconds are recorded, whole or to the last 60 s. -/
def Block.hltRunEnd (b : Block) (whole : Bool) : Block :=
  let n := if whole then b.runSeconds else b.runSeconds / 60 * 60
  (b.set R.HLT_HOURS_RUN_S (b.get R.HLT_HOURS_RUN_S + n)).modHlt fun h => { h with runAt := none }

/-- RUN begins. -/
def Block.hltRun (b : Block) : Block := b.modHlt fun h => { h with runAt := some b.now }

/-- Entry into PARKED: oscillators, save, reserve test, then a re-plan. -/
def Block.hltPark (b : Block) : Block := (((b.mramSave).modHlt fun h => { h with roDue := true, pendTrig := 0 }).capTestStart).set R.HLT_STATUS_PLAN_PENDING 1

/-- An island powers up at the planned margin. -/
def Block.hltPowerUp (b : Block) (k : Nat) : Block :=
  let v := b.get (R.HLT_AVSk_PLANNED k)
  (b.modHlt fun h => { h with rise := updAt h.rise k fun _ => (v, b.now) }).set (R.HLT_AVSk_IN_FORCE k) v

/-- Fields of the retained class. -/
def hltRetained : List Fld :=
  [R.HLT_LIFE_REMAIN_H, R.HLT_LIFE_GOVERNOR, R.HLT_USED_U, R.HLT_HOURS_RUN_S, R.HLT_PSEQ_PSEQ] ++ (List.range 18).map R.HLT_ROn_DRIFT_PPM ++ (List.range 9).flatMap (fun k => [R.HLT_AVSk_PLANNED k, R.HLT_CYCk_A_C20 k, R.HLT_CYCk_A_C40 k, R.HLT_CYCk_B_C80 k, R.HLT_CYCk_B_DAMAGE k]) ++
    (List.range 192).map R.HLT_CHc_RON25 ++ (List.range 192).map R.HLT_CHR0c_R0 ++ (List.range 24).map R.HLT_BSTc_CAP_NF

/-- A module-scope reset: measurements of the retained class stand, a plan being made is lost, and the standing plan applies. -/
def Block.hltReset (b : Block) : Block :=
  let kept := hltRetained.map fun f => (f, b.get f)
  let b := b.mramLoss
  let lost := b.get R.HLT_EV_SAVE_LOST_EV
  let b := (b.resetRegs 0x4C000000 0x4C002000).eachOf kept fun e b => b.set e.1 e.2
  let h := b.hlt
  let b := b.modHlt fun _ => { writes := h.writes, saved := h.saved, ron := h.ron, boost := h.boost, cycles := h.cycles, damage := h.damage, plan := h.plan, dark := h.dark }
  ((b.set R.HLT_EV_SAVE_LOST_EV lost).showPlan).mramWear

end Sys2Proof.Machine
end

