-- ==== Sys2Proof/Machine/Partitions.lean ====
section
/-! DEFINITION. Partitions and their mailboxes (chapter 25: R577 to R581). -/

namespace Sys2Proof.Machine

open Sys2Proof

def BAD_SERVICE : Nat := 0x73
def SVC_ABANDONED : Nat := 0x7F

def Block.part (b : Block) (k : Nat) : Partition := b.sys.parts.getD k {}
def Block.modPart (b : Block) (k : Nat) (f : Partition → Partition) : Block := { b with sys := { b.sys with parts := updAt b.sys.parts k f } }

/-- The service of mailbox `k` completes with a status and results. -/
def Block.mbxDone (b : Block) (k status : Nat) (rets : List Nat) : Block :=
  let b := (((b.set (R.SUP_MBXk_STAT_BUSY k) 0).set (R.SUP_MBXk_STAT_STATUS k) status).incW (R.SUP_MBXk_STAT_SEQ k)).each 4 fun n b => b.set (R.SUP_MBXk_RETn_RET k n) (rets.getD n 0)
  { b with sys := { b.sys with waits := updAt b.sys.waits k fun _ => none } }

/-- A running service is abandoned. -/
def Block.mbxAbandon (b : Block) (k : Nat) : Block := if b.flag (R.SUP_MBXk_STAT_BUSY k) then b.mbxDone k SVC_ABANDONED [] else b

/-- GO of a service: a running mailbox refuses it. -/
def Block.mbxRefusal (b : Block) (k : Nat) : Option Nat := if b.flag (R.SUP_MBXk_STAT_BUSY k) then some BUSY else none

/-- The partition may use a service. -/
def Block.mayServe (b : Block) (k svc : Nat) : Bool := k == 0 || bit (b.part k).serviceMask (svc - 1)

/-- HB_MS runs from now. -/
def Block.beat (b : Block) (k : Nat) : Block := b.modPart k fun p => { p with hbEnd := if k = 0 || p.hbMs = 0 then none else some (b.now + p.hbMs * ms) }

/-- A partition starts at its ENTRY. -/
def Block.partStart (b : Block) (k : Nat) : Block := (b.setBit R.SUP_PART_STATUS_LOADED k true).beat k

/-- A partition is stopped, reloaded and started again; what it waited for is abandoned. -/
def Block.partRestart (b : Block) (k : Nat) : Block := ((b.mbxAbandon k).inc (R.SUP_PART_RESTARTk_COUNT k)).partStart k

/-- Bits 31:0 and 63:32 of a number. -/
def words64 (v : Nat) : List Nat := [v % 2 ^ 32, v / 2 ^ 32 % 2 ^ 32]

/-- A service of mailbox `k` (Table 25.5). -/
def Block.service (b : Block) (k svc : Nat) : Block :=
  let b := b.set (R.SUP_MBXk_CTRL_SVC k) svc
  let arg := fun n => b.get (R.SUP_MBXk_ARGn_ARG k n)
  if svc = 0 || 5 < svc || !b.mayServe k svc then b.mbxDone k BAD_SERVICE []
  else match svc with
    | 1 => ((b.setBit R.SUP_PART_STATUS_HUNG k false).beat k).mbxDone k 0 []
    | 2 => if arg 0 ≠ 0xB1EF || k = 0 then b.mbxDone k BAD_SERVICE [] else (b.mbxDone k 0 []).partRestart k
    | 3 =>
      let t := arg 0 + 2 ^ 32 * arg 1
      if b.sys.mtime + 60 * sec < t then b.mbxDone k BAD_SERVICE []
      else if t ≤ b.counter then b.mbxDone k 0 (words64 b.counter)
      else
        let at_ := b.now + ((t + 3) / 4 * 4 - b.sys.mtime)
        { (b.set (R.SUP_MBXk_STAT_BUSY k) 1) with sys := { b.sys with waits := updAt b.sys.waits k fun _ => some at_ } }
    | 4 => match b.sys.leap with
      | some l => b.mbxDone k 0 [l, 1, b.get R.SUP_MTIME_STATUS_STATE]
      | none => (b.mbxDone k 0 [b.freshW 0 32, 0, b.get R.SUP_MTIME_STATUS_STATE]).spend
    | _ =>
      let c := arg 0
      if 7 < c then b.mbxDone k BAD_SERVICE []
      else
        let p := b.part c
        b.mbxDone k 0 (words64 p.writeMask ++ [p.serviceMask + 65536 * p.hbMs, p.flags + 256 * (min 255 (if c = 0 then 0 else b.get (R.SUP_PART_RESTARTk_COUNT c)))])

def execHeartbeat (k : Fin 8) (s : State) : Result := s.ask (s.blk.mbxRefusal k) fun b => b.service k 1
def execRestart (k : Fin 8) (s : State) : Result := s.ask (s.blk.mbxRefusal k) fun b => b.service k 2
def execWaitUntil (k : Fin 8) (s : State) : Result := s.ask (s.blk.mbxRefusal k) fun b => b.service k 3
def execUtc (k : Fin 8) (s : State) : Result := s.ask (s.blk.mbxRefusal k) fun b => b.service k 4
def execPartInfo (k : Fin 8) (s : State) : Result := s.ask (s.blk.mbxRefusal k) fun b => b.service k 5

/-- The instant of WAIT_UNTIL arrives. -/
def execWaitUntilDone (k : Fin 8) (s : State) : Result := s.go fun b =>
  match b.sys.waits.getD k none with
  | none => b
  | some t =>
    let b := b.reach t
    b.mbxDone k 0 (words64 b.counter)

/-- A partition misses HB_MS: HUNG, its EVENT, and a restart where RESTART is set. -/
def execPartHbExpired (k : Fin 8) (s : State) : Result := s.go fun b =>
  match (b.part k).hbEnd with
  | none => b
  | some t =>
    let b := ((b.reach t).raiseBit supOrigin R.SUP_PART_STATUS_HUNG k).modPart k fun p => { p with hbEnd := none }
    b.when (bit (b.part k).flags 1) fun b => b.partRestart k

/-- A reset or the loss of island 1: every mailbox IDLE, a running service abandoned; HUNG clears; no partition runs. -/
def Block.partsReset (b : Block) : Block :=
  let ran := (List.range 8).filter fun k => b.flag (R.SUP_MBXk_STAT_BUSY k)
  let b := (b.resetRegs 0x40000800 0x40000A00).eachOf ran fun k b => b.set (R.SUP_MBXk_STAT_STATUS k) SVC_ABANDONED
  let b := b.clear [R.SUP_PART_STATUS_LOADED, R.SUP_PART_STATUS_HUNG]
  { b with sys := { b.sys with waits := List.replicate 8 none, parts := b.sys.parts.map fun (p : Partition) => { p with hbEnd := none } } }

end Sys2Proof.Machine
end

