-- ==== Sys2Proof/Machine/Rings.lean ====
section
/-! DEFINITION. Lines of the retained store and the record rings on it (chapter 5: R132 to R135; R516, R521, R544 for what is recorded when). -/

namespace Sys2Proof.Machine

open Sys2Proof

/-- A change of the block and of the addressed memories together. -/
def State.goBoth (s : State) (f : Block → Memory → Block × Memory) : Result := let r := f s.blk s.mem; .next { s with blk := r.1, mem := r.2 }

/-- Line number of an address of the retained store, and whether the line is POISONED. -/
def lineOf (a : Nat) : Nat := (a - 0x50000000) / 64
def Block.poisoned (b : Block) (a : Nat) : Bool := b.poison.contains (lineOf a)

/-- Whole lines of the retained store written: each is no longer POISONED (R133) and wears its page (R560). -/
def Block.linesWritten (b : Block) (l : List Nat) : Block := ({ b with poison := b.poison.filter fun x => !l.contains x }).mramWrote l

/-- Address of line `i` of ring `k` (Table 5.12). -/
def ringAt (k i : Nat) : Nat := 0x54000000 + 4096 * k + 64 * (i % 64)

/-- RECORD_ID that the running image assigns to ring `k`. -/
def Block.ringId (b : Block) (k : Nat) : Option Nat := (b.sys.rings.find? (·.ring == k)).map (·.id)

/-- The current entry of ring `k`: the highest GEN among its lines that read without error and carry the ring's RECORD_ID (R135). Of a ring that the running image does not name, every line written counts (log entry 104). -/
def Block.ringEntry (b : Block) (m : Memory) (k : Nat) : Option (List Nat) :=
  let lines := (List.range 64).map (ringAt k) |>.filter fun a => !b.poisoned a
  (lines.map fun a => Memory.readBytes m a 64).foldl (fun (r : Option (List Nat)) d =>
    if d.all (· == 0) || (b.ringId k).any (· != bytesAt d 0 2) then r
    else match r with | none => some d | some x => if bytesAt x 4 4 ≤ bytesAt d 4 4 then some d else some x) none

/-- A register word as it stands. -/
def Block.regWord (b : Block) (a : Nat) : Nat :=
  match wordAt a with
  | some (l, i) => (l.filter fun f => f.acc != .wo).foldl (fun n f => n + b.get (f.fld a i) * 2 ^ f.lo) 0
  | none => 0

/-- Values of `w` bits each, the first lowest, as bytes. -/
def packBits (w : Nat) (l : List Nat) : List Nat := le ((w * l.length + 7) / 8) (l.foldr (fun x n => x % 2 ^ w + 2 ^ w * n) 0)

/-- The content of a record, at most 48 bytes. -/
def Block.recordData (b : Block) : RecSrc → List Nat
  | .regs a n => (List.range n).flatMap fun k => le 4 (b.regWord (a + 4 * k))
  | .schedule => match b.upd.sched with
    | none => []
    | some x => le 4 x.id ++ le 8 x.instant ++ le 2 x.window ++ [b2n x.fleet, b2n x.first.isSome] ++ le 8 (x.first.getD 0)
  | .plan k =>
    let p := b.hlt.plan
    if k < 6 then le 4 p.pseq ++ packBits 9 ((List.range 32).map fun c => ((p.der.find? fun e => e.1 == 32 * k + c).map (·.2)).getD 256)
    else le 4 p.pseq ++ [p.trig, p.gov] ++ le 2 p.used ++ le 2 p.left ++ p.m ++ p.boost

/-- A record is written: a full-line write of an entry one generation above the current one, at index GEN mod 64 (R135, Table 5.13). The first entry of a ring has GEN 1. -/
def Block.ringPut (b : Block) (m : Memory) (r : RingRec) : Block × Memory :=
  let g := (((b.ringEntry m r.ring).map (bytesAt · 4 4)).getD 0 + 1) % 2 ^ 32
  let a := ringAt r.ring g
  (b.linesWritten [lineOf a], Memory.writeBytes m a (le 2 r.id ++ le 2 (b.get R.UPD_RET_FMT_STORED) ++ le 4 g ++ le 8 b.counter ++ padBytes 48 (b.recordData r.src)))

/-- Every record of a choice is written. -/
def Block.ringsPut (b : Block) (m : Memory) (p : RingRec → Bool) : Block × Memory := (b.sys.rings.filter p).foldl (fun r x => r.1.ringPut r.2 x) (b, m)

/-- A record holds the register at an address. -/
def covers (r : RingRec) (a : Nat) : Bool := match r.src with | .regs x n => decide (x ≤ a) && decide (a < x + 4 * n) | _ => false

/-- After a change of the block, the records that hold one of these fields are written when one of them has changed. -/
def Block.ringsFollow (b before : Block) (m : Memory) (l : List Fld) : Block × Memory :=
  if !b.sys.rings.isEmpty && l.any (fun f => before.get f != b.get f) then b.ringsPut m fun r => l.any fun f => covers r f.addr else (b, m)

/-- The schedule record follows the standing schedule: at its acceptance, its first deferral and when it is cleared (R516). -/
def Block.schedFollow (b before : Block) (m : Memory) : Block × Memory :=
  let key := fun (x : Block) => x.upd.sched.map fun s => (s.id, s.instant, s.window, s.fleet, s.first)
  if key before == key b then (b, m) else b.ringsPut m fun r => r.src == .schedule

/-- A change of the block with the records of the fields it changed; the same for a control bit that may be refused. -/
def State.goKept (s : State) (l : List Fld) (f : Block → Block) : Result := s.goBoth fun b m => (f b).ringsFollow b m l
def State.askKept (s : State) (refusal : Option Nat) (l : List Fld) (f : Block → Block) : Result :=
  match refusal with
  | some c => s.go fun b => b.status c
  | none => s.goKept l fun b => (f b).status 0

/-- A change of the block with the schedule record. -/
def State.goSched (s : State) (f : Block → Block) : Result := s.goBoth fun b m => (f b).schedFollow b m

/-- A re-plan is done: its six channel entries and then its summary are recorded, and it stands (R566). -/
def execHltReplanDone (s : State) : Result := s.goBoth fun b m =>
  if b.get R.HLT_STATUS_STATE ≠ hPLANNING then (b, m)
  else
    let b := b.planDone
    (List.range 7).foldl (fun r k => r.1.ringsPut r.2 fun x => x.src == .plan k) (b, m)

end Sys2Proof.Machine
end

