-- ==== Sys2Proof/Machine/Steering.lean ====
section
/-! DEFINITION. Path following, the convoy solver and unloading on the go (chapter 15). -/

namespace Sys2Proof.Machine

open Sys2Proof

def BAD_PATH : Nat := 0x76
def BAD_OUTPUT : Nat := 0x77

/-- Origin of the loop engine's G2 stages, and of the convoy solver. -/
def strOrigin : Nat := org 2 0 2
def cvyOrigin : Nat := org 3 15 2

def sIDLE : Nat := 0
def sREADY : Nat := 1
def sENGAGED : Nat := 2
def sGRACE : Nat := 3

def Block.modSteer (b : Block) (f : Steer → Steer) : Block := { b with steer := f b.steer }
def Block.modCvy (b : Block) (f : Convoy → Convoy) : Block := { b with cvy := f b.cvy }
def Block.strState (b : Block) : Nat := b.get R.STR_STATUS_STATE

/-! ## Paths (R352 to R355) -/

/-- First byte of a path buffer. -/
def pathBase (buf : Nat) : Nat := 0x45100000 + 0x40000 * buf

/-- A number in a path buffer, unsigned and signed. -/
def pathNat (m : Memory) (buf i n : Nat) : Nat := leNat (m.readBytes (pathBase buf + i) n)
def pathInt (m : Memory) (buf i n : Nat) : Int := signed (8 * n) (pathNat m buf i n)

/-- Point count, CLASS, PARTNER_REL and LINK of a buffer. -/
def pathCount (m : Memory) (buf : Nat) : Nat := pathNat m buf 16 2
def pathClass (m : Memory) (buf : Nat) : Nat := pathNat m buf 18 1
def pathRel (m : Memory) (buf : Nat) : Bool := bit (pathNat m buf 19 1) 0
def pathLink (m : Memory) (buf : Nat) : Nat := pathNat m buf 20 1

/-- A path point (Table 15.2): coordinates in mm, right (east) and forward (north), curvature, speed limit and flags. -/
structure PathPt where
  e   : Int
  n   : Int
  k   : Int
  lim : Nat
  fl  : Nat
  deriving DecidableEq, Repr

/-- Point `i` of a buffer; of a PARTNER_REL path, x forward counts as north and y right as east. -/
def pathPt (m : Memory) (buf i : Nat) : PathPt :=
  let o := 32 + 16 * i
  let a := pathInt m buf o 4
  let c := pathInt m buf (o + 4) 4
  { e := if pathRel m buf then c else a, n := if pathRel m buf then a else c, k := pathInt m buf (o + 8) 2, lim := pathNat m buf (o + 10) 2, fl := pathNat m buf (o + 12) 1 }

/-- κ_max of R358 in 10⁻⁹ m⁻¹. -/
def Block.kappaMax (b : Block) : Int := tan15 (b.get R.STR_LIM_DELTA_MAX * 100000 : Nat) / (1000 * max 1 (b.get R.STR_GEOM_WB_MM) : Nat)

/-- The first check of R353 that fails, as STR_PATHb_STAT.CHECK codes it. -/
def Block.pathCheck (b : Block) (m : Memory) (buf : Nat) : Nat :=
  let n := pathCount m buf
  if n < 2 || 16382 < n then 1
  else if crc32 (m.readBytes (pathBase buf + 32) (16 * n)) ≠ pathNat m buf 28 4 then 2
  else
    let pts := (List.range n).map (pathPt m buf)
    let gap := fun (p q : PathPt) => (q.e - p.e) * (q.e - p.e) + (q.n - p.n) * (q.n - p.n)
    if (pts.zip (pts.drop 1)).any fun (p, q) => decide (gap p q < 2500) || decide (4000000 < gap p q) then 3
    else if pts.any fun p => decide (b.kappaMax < (p.k.natAbs : Int) * 10000) then 4
    else if 2 < pathClass m buf || 1 < pathNat m buf 19 1 || (3 < pathLink m buf && pathLink m buf != 0xFF) || pathNat m buf 21 3 != 0 ||
      (List.range n).any (fun i => decide (3 < (pathPt m buf i).fl) || pathNat m buf (32 + 16 * i + 13) 3 != 0) then 5
    else 0

/-- The steering block cannot answer: island 2 lost, or the engine quiesced. -/
def Block.strRefusal (b : Block) : Option Nat := b.leRefusal

/-- COMMIT: the checks, and VALID or BAD_PATH. -/
def Block.pathCommit (b : Block) (m : Memory) (buf : Nat) : Block :=
  let c := b.pathCheck m buf
  let b := (b.set (R.STR_PATHb_STAT_CHECK buf) c).set (R.STR_PATHb_STAT_POINTS buf) (pathCount m buf)
  (b.setB (R.STR_PATHb_STAT_VALID buf) (c == 0)).status (if c = 0 then 0 else BAD_PATH)

def execPathCommit (buf : Fin 4) (s : State) : Result :=
  match s.blk.strRefusal with
  | some c => s.go fun b => b.status c
  | none => s.go fun b => b.pathCommit s.mem buf

/-- A buffer is selected, or the LINK target of the selected one (R354). -/
def Block.pathHeld (b : Block) (m : Memory) (buf : Nat) : Bool :=
  b.get R.STR_PATH_SEL_EN != 0 && (b.get R.STR_PATH_SEL_ACTIVE == buf || pathLink m (b.get R.STR_PATH_SEL_ACTIVE) == buf ||
    (b.use R.STR_PATH_SEL_EN != 0 && (b.use R.STR_PATH_SEL_ACTIVE == buf || pathLink m (b.use R.STR_PATH_SEL_ACTIVE) == buf)))

def execPathInvalidate (buf : Fin 4) (s : State) : Result :=
  s.ask (s.blk.strRefusal <|> (if s.blk.pathHeld s.mem buf then some BUSY else none)) fun b => b.set (R.STR_PATHb_STAT_VALID buf) 0

def execStrRefind (s : State) : Result := s.ask s.blk.strRefusal fun b => b.modSteer fun t => { t with refind := true }

def execStrClrCnt (s : State) : Result := s.ask s.blk.strRefusal fun b => b.clear [R.STR_CNT_ENGAGES, R.STR_CNT_OVERRIDES, R.STR_CNT_B_GRACE, R.STR_CNT_B_GRACE_EXP]

/-! ## The state brought forward (R352, R356, R357) -/

/-- Speed along body x in mm/s, yaw rate in 10⁻⁴ rad/s, and heading in 10⁻⁴ rad of a fused state. -/
def fusU (d : List Nat) : Int := signed 32 (bytesAt d 58 4)
def fusR (d : List Nat) : Int := signed 16 (bytesAt d 50 2)
def fusPsi (d : List Nat) : Nat := bytesAt d 44 2

/-- On WGS-84 at a latitude (10⁻¹⁰ degree): the prime-vertical radius times the cosine of the latitude, and the meridian radius, in µm. -/
def planeRadii (lat0 : Int) : Int × Int :=
  let phi := lat0 * pi15 / (180 * 10 ^ 16)
  let s2 := sin15 phi * sin15 phi / one15
  let w := one15 - 6694379990140 * s2 / one15
  let r := root (w * one15)
  let nr : Int := 6378137000000 * one15 / r
  (nr * cos15 phi / one15, nr * (one15 - 6694379990140) / w)

/-- East and north in µm of a latitude and a longitude (10⁻¹⁰ degree) in the tangent plane of a header's origin, on WGS-84. -/
def toPlane (lat lon lat0 lon0 : Int) : Int × Int :=
  let (re, rn) := planeRadii lat0
  ((lon - lon0) * pi15 * re / (180 * 10 ^ 25), (lat - lat0) * pi15 * rn / (180 * 10 ^ 25))

/-- Control point in µm and heading in 10⁻⁹ rad, `dt` ns after a fused state, for a path in buffer `buf`; a PARTNER_REL path takes the position from the convoy solution, by a transformation the spec does not write out. -/
def Block.forward (b : Block) (m : Memory) (buf : Nat) (d : List Nat) (dt : Int) : Int × Int × Int :=
  let r := fusR d * 100000
  let turn := r * dt / 1000000000
  let psi := (fusPsi d : Int) * 100000
  let psi' := psi + turn
  let mid := psi + turn / 2
  let go := fusU d * 1000 * dt / 1000000000
  let rel := pathRel m buf
  let c : List Int := b.steer.good.map Int.ofNat
  let (e0, n0) := if rel then (Config.freeReal 1500 (c ++ [psi, dt]), Config.freeReal 1501 (c ++ [psi, dt]))
    else toPlane (signed 64 (bytesAt d 8 8)) (signed 64 (bytesAt d 16 8)) (pathInt m buf 0 8) (pathInt m buf 8 8)
  let psiP : Int := if rel then (bytesAt b.steer.good 38 2 : Int) * 100000 else 0
  let cp := b.geti R.STR_CP_CP_X_MM * 1000
  (e0 + go * sin15 (mid - psiP) / one15 + cp * sin15 (psi' - psiP) / one15, n0 + go * cos15 (mid - psiP) / one15 + cp * cos15 (psi' - psiP) / one15, wrapAngle (psi' - psiP))

/-- The fused state is usable at the frame start; for DRIVERLESS the engine must be RUNNING (R356). -/
def Block.fusedUsable (b : Block) : Bool :=
  let d := b.steer.fused
  let run := bytesAt d 4 1 == fRUNNING || bytesAt d 4 1 == fCOASTING
  let conf := (List.range 4).foldl (fun c k => min c (bytesAt d (70 + k) 1)) 255
  d != [] && run && (!b.acting mDRIVERLESS || bytesAt d 4 1 == fRUNNING) && decide (0 < conf) && decide (max 1 (b.use R.STR_USE_POS_MIN) ≤ bytesAt d 70 1) && decide (max 1 (b.use R.STR_USE_HDG_MIN) ≤ bytesAt d 73 1) &&
  decide (b.sys.mtime ≤ b.steer.fusedAt + b.use R.STR_USE_AGE_MAX_MS * ms)

/-! ## The closest point (R358) -/

/-- A projection onto segment `i`: how far along it (num of den), and the squared distance in µm². -/
structure Near where
  i   : Nat
  num : Int
  den : Int
  d2  : Int
  deriving DecidableEq, Repr

/-- The projection of a point (µm) onto segment `i`, limited to the segment. -/
def project (m : Memory) (buf i : Nat) (e n : Int) : Near :=
  let p := pathPt m buf i
  let q := pathPt m buf (i + 1)
  let de := (q.e - p.e) * 1000
  let dn := (q.n - p.n) * 1000
  let den := max 1 (de * de + dn * dn)
  let num := clampI 0 den ((e - p.e * 1000) * de + (n - p.n * 1000) * dn)
  let fe := p.e * 1000 + de * num / den - e
  let fn := p.n * 1000 + dn * num / den - n
  { i := i, num := num, den := den, d2 := fe * fe + fn * fn }

/-- The nearest projection over segments `lo` to `lo + k - 1`; the lowest index wins a tie. -/
def nearest (m : Memory) (buf lo k : Nat) (e n : Int) : Near :=
  (List.range k).foldl (fun (a : Near) j => let x := project m buf (lo + j) e n; if x.d2 < a.d2 then x else a) (project m buf lo e n)

/-- The search of a frame: the whole path, or indices i - 8 to i + 64 around the previous index. -/
def Block.findNear (b : Block) (m : Memory) (buf : Nat) (full : Bool) (e n : Int) : Near :=
  let segs := pathCount m buf - 1
  let i := min (b.get R.STR_STATUS_POINT) (segs - 1)
  let lo := if full then 0 else i - 8
  let hi := if full then segs else min segs (i + 64)
  nearest m buf lo (hi - lo) e n

/-- Length of segment `i` in µm. -/
def segLength (m : Memory) (buf i : Nat) : Int :=
  let p := pathPt m buf i
  let q := pathPt m buf (i + 1)
  1000 * root (((q.e - p.e) * (q.e - p.e) + (q.n - p.n) * (q.n - p.n)) * 1000000) / 1000

/-- Path distances in µm from the closest point to the points of index `i` and above: (index, distance). -/
def ahead (m : Memory) (buf : Nat) (x : Near) : List (Nat × Int) :=
  let n := pathCount m buf
  let first := segLength m buf x.i * (x.den - x.num) / x.den
  let step := fun (a : List (Nat × Int) × Int) (j : Nat) => (a.1 ++ [(x.i + 1 + j, a.2)], a.2 + segLength m buf (x.i + 1 + j))
  (x.i, 0) :: ((List.range (n - 1 - x.i)).foldl step ([], first)).1

/-- Length of a whole path, and of its LINK chain; a chain that returns to a buffer has no end. -/
def chainLength (b : Block) (m : Memory) : Nat → Nat → List Nat → Int
  | 0, _, _ => 2 ^ 50
  | k + 1, buf, seen =>
    let l := pathLink m buf
    if l = 0xFF || !b.flag (R.STR_PATHb_STAT_VALID l) then 0
    else if seen.contains l then 2 ^ 50
    else ((List.range (pathCount m l - 1)).map (segLength m l)).foldl (· + ·) 0 + chainLength b m k l (l :: seen)

/-! ## The law (R358, R359) -/

/-- What a frame computes from the closest point. -/
structure Law where
  near  : Near
  /-- e_y in µm, e_ψ in 10⁻⁹ rad, κ_c in 10⁻⁹ m⁻¹, δ_cmd in 10⁻⁹ rad. -/
  ey    : Int
  epsi  : Int
  kc    : Int
  delta : Int
  sat   : Bool
  cap   : Nat
  dist  : Int
  fl    : Nat
  stopNear : Bool
  deriving DecidableEq, Repr

/-- Speed cap in 1/256 km/h (R359). -/
def Block.speedCap (b : Block) (m : Memory) (buf : Nat) (kp : Int) (pts : List (Nat × Int)) (ve : Int) : Nat :=
  let look := max 10000000 (3000 * ve)
  let near := (pts.filter fun p => decide (p.2 ≤ look)).map fun p => pathPt m buf p.1
  let lims := (near.map (·.lim)).filter (· != 0xFFFF)
  let curve := fun (k : Nat) => if k = 0 then [] else [(published (root (84934656 * (max 1 (b.use R.STR_SPEED_A_LAT) : Nat) * 1000000 / k)) 1000).toNat]
  let curves := curve kp.natAbs ++ near.flatMap fun p => curve p.k.natAbs
  let dl := b.acting mDRIVERLESS
  let stop := if !dl then [] else ((pts.find? fun p => bit (pathPt m buf p.1).fl 1).toList.map fun p =>
    (published (root (2 * (b.stopDecel : Int) * p.2 * 84934656 / 100000)) 1000).toNat)
  let idle := if dl && b.strState != sENGAGED then [0] else []
  ((lims ++ curves ++ stop ++ idle).map (min 0xFFFF)).foldl min 0xFFFF

/-- The law of a frame at a closest point `x`, for a control point (µm), a heading and a speed (mm/s). -/
def Block.law (b : Block) (m : Memory) (buf : Nat) (x : Near) (e n psi u : Int) : Law :=
  let p := pathPt m buf x.i
  let q := pathPt m buf (x.i + 1)
  let cross := (q.e - p.e) * (n - p.n * 1000) - (q.n - p.n) * (e - p.e * 1000)
  let ey := if 0 < cross then -(root x.d2) else root x.d2
  let epsi := wrapAngle (psi - atan2 (q.e - p.e) (q.n - p.n))
  let kp := (p.k * (x.den - x.num) + q.k * x.num) / x.den
  let ve := max (u.natAbs : Int) (b.use R.STR_SPEED_V_MIN * 100 : Nat)
  let k0 := kp * 10000 - ((max 1 (b.use R.STR_GAIN_KY) : Nat) * ey * 1000000 + (max 1 (b.use R.STR_GAIN_KPSI) : Nat) * ve * epsi) / (ve * ve)
  let kc := clampI (-b.kappaMax) b.kappaMax k0
  let d0 := atan2 ((max 1 (b.get R.STR_GEOM_WB_MM) : Nat) * kc) 1000000000000 * (if b.flag R.STR_GEOM_REAR then -1 else 1)
  let prev := if b.steer.tracking then b.steer.delta else (b.steer.fbAngle.getD 0) * 100000
  let step : Int := (max 1 (b.use R.STR_LIM_DELTA_RATE) : Nat) * 1000
  let pts := ahead m buf x
  let look := max 10000000 (3000 * ve)
  { near := x, ey := ey, epsi := epsi, kc := kc, delta := clampI (prev - step) (prev + step) d0, sat := kc != k0
    cap := b.speedCap m buf kp pts ve
    dist := (pts.getLastD (x.i, 0)).2 + chainLength b m 4 buf [buf]
    fl := p.fl, stopNear := pts.any fun y => decide (y.2 ≤ look) && bit (pathPt m buf y.1).fl 1 }

/-! ## Engagement (R360 to R362, R365) -/

/-- The steering output is lost (R365). -/
def Block.outputLost (b : Block) : Bool :=
  ([b.get R.STR_OUT_CH_A, b.get R.STR_OUT_CH_B].any fun ch => ch != 0xFF && (b.partLost (16 + ch / 8) || b.latched ch || b.fn ch != 2)) ||
  (b.get R.STR_OUT_KIND == 1 && b.isLost 4) ||
  (b.get R.STR_OUT_FB_FB_STREAM != 0 && decide (max 1 (b.use R.STR_OUT_FB_FB_AGE) ≤ b.steer.fbAge))

/-- A path is loaded; the second value says that only a PARTNER_REL or convoy cause stands against it (R355). With the fused state unusable beyond GRACE_MS no PARTNER_REL path is loaded (Table 15.7). -/
def Block.pathLoaded (b : Block) (m : Memory) : Bool × Bool :=
  let buf := b.use R.STR_PATH_SEL_ACTIVE
  let base := b.use R.STR_PATH_SEL_EN != 0 && b.flag (R.STR_PATHb_STAT_VALID buf) && !b.steer.passed && (!b.modeSet mROAD || pathClass m buf == 2)
  let rel := !pathRel m buf || (b.acting mCONVOY && b.cvyUsable && !b.steer.declared)
  (base && rel, base && !rel)

/-- A guiding mode acts, and DEGRADED or a jog does not suppress it; a controlled stop holds the path (R89, R360). -/
def Block.guiding (b : Block) : Bool :=
  (b.acting mGUIDED && !b.exerts ⟨mDEGRADED, mGUIDED, 2, .steer, 7⟩) ||
  (b.acting mDRIVERLESS && !b.modeSet mDEGRADED && !b.exerts ⟨mSERVICE, mDRIVERLESS, 3, .jogged, 1⟩) || b.mode.stopping

/-- The follower asks, as OPERATOR, that every guiding mode that is set be cleared (R361). -/
def Block.askClear (b : Block) : Block :=
  let w := (if b.modeSet mDRIVERLESS then 2 ^ mDRIVERLESS else 0) + (if b.modeSet mGUIDED then 2 ^ mGUIDED else 0)
  b.post { kind := .mode, stream := 0xFF02, origin := strOrigin, stamp := b.stamp, data := [1, 1] ++ le 2 0 ++ le 2 w ++ le 2 0 }

/-- The follower becomes IDLE. -/
def Block.strIdle (b : Block) : Block := (b.set R.STR_STATUS_STATE sIDLE).modSteer fun t => { t with engEnd := none, graceEnd := none, tracking := false, delta := 0, ovrRun := 0 }

/-- One frame of the override input (R361). -/
def Block.overrideFrame (b : Block) : Block :=
  let t := b.steer
  let big := match t.ovrNow, t.ovrLast with | some x, some y => decide (b.use R.STR_OVR_CFG_THR ≤ (x - y).natAbs) | _, _ => false
  b.modSteer fun s => { s with ovrRun := if big then t.ovrRun + 1 else 0, ovrLast := t.ovrNow }

/-- The transitions that end a frame's state before the law runs (Table 15.3). -/
def Block.strLeave (b : Block) (m : Memory) : Block :=
  let st := b.strState
  let (loaded, soft) := b.pathLoaded m
  if st = sIDLE then b
  else if b.steer.declared && st == sGRACE then (if b.flag R.PWR_STATUS_STATIONARY then b.strIdle else b)
  else if !b.guiding || (!loaded && (st == sREADY || !soft) && !b.steer.passed) then (b.set R.STR_EV_DISENGAGE_EV 1).strIdle
  else if 2 ≤ st && b.steer.outLost then (b.raise strOrigin R.STR_EV_OUT_LOST_EV).strIdle
  else if 2 ≤ st && max 1 (b.use R.STR_OVR_CFG_FRAMES) ≤ b.steer.ovrRun then
    (((b.set R.STR_EV_OVERRIDE_EV 1).inc R.STR_CNT_OVERRIDES).askClear).strIdle
  else b

/-- Entry into READY and GRACE, and the way back (Table 15.3). -/
def Block.strEnter (b : Block) (m : Memory) : Block :=
  let st := b.strState
  let (loaded, soft) := b.pathLoaded m
  let usable := b.flag R.STR_STATUS_USABLE && !soft
  if st = sIDLE then
    if b.guiding && loaded && !b.mode.stopping then
      (b.set R.STR_STATUS_STATE sREADY).modSteer fun t => { t with refind := true, engEnd := some (b.now + max 1 (b.use R.STR_ENGAGE_ENG_WAIT_S) * sec) }
    else b
  else if st = sENGAGED then
    if !usable then
      (((b.set R.STR_STATUS_STATE sGRACE).set R.STR_EV_DR_EV 1).inc R.STR_CNT_B_GRACE).modSteer fun t => { t with graceEnd := some (b.now + b.use R.STR_GRACE_GRACE_MS * ms) }
    else if fusU b.steer.fused < 0 then (b.set R.STR_STATUS_STATE sREADY).modSteer fun t => { t with refind := true, engEnd := some (b.now + max 1 (b.use R.STR_ENGAGE_ENG_WAIT_S) * sec) }
    else b
  else if st = sGRACE && usable && !b.steer.declared then (b.set R.STR_STATUS_STATE sENGAGED).modSteer fun t => { t with graceEnd := none }
  else b

/-- The state the follower steers by, and the time since it: in GRACE the last usable one. -/
def Block.steerState (b : Block) : List Nat × Int :=
  let t := b.steer
  let (d, at_) := if b.strState = sGRACE then (t.usable, t.usableAt) else (t.fused, t.fusedAt)
  (d, (b.sys.mtime : Int) - at_ + (b.use R.STR_LEAD_LEAD_MS * ms : Nat))

/-- The closest point of the frame: at the last point the follower moves on to a VALID LINK buffer, or passes the end. -/
def Block.closest (b : Block) (m : Memory) : Block × Near × (Int × Int × Int) :=
  let buf := b.use R.STR_PATH_SEL_ACTIVE
  let (d, dt) := b.steerState
  let (e, n, psi) := b.forward m buf d dt
  let x := b.findNear m buf b.steer.refind e n
  let last := x.i + 2 == pathCount m buf && x.num == x.den
  let b := b.modSteer fun t => { t with refind := false }
  let l := pathLink m buf
  if !last then (b, x, (e, n, psi))
  else if l < 4 && b.flag (R.STR_PATHb_STAT_VALID l) then
    let b := (b.set R.STR_PATH_SEL_ACTIVE l).boundary 0x45000040 0x45000044
    let (e, n, psi) := b.forward m l d dt
    (b, b.findNear m l true e n, (e, n, psi))
  else (b.modSteer fun t => { t with passed := true }, x, (e, n, psi))

/-- The guidance SAMPLE (Table 15.4). -/
def Block.guidance (b : Block) (l : Option Law) (override : Bool) (rel : Bool) : Block :=
  let st := b.strState
  let (d, _) := b.steerState
  let conf := if st = sIDLE then 0 else
    let c := max 1 (min (bytesAt d 70 1) (bytesAt d 73 1))
    if st = sGRACE then min 128 c else c
  let fl := l.map (·.fl) |>.getD 0
  let b1 := b2n (st != sENGAGED && st != sGRACE) + 2 * b2n (bit fl 0) + 4 * b2n (l.any (·.stopNear)) + 8 * b2n override + 16 * b2n (st == sGRACE) + 32 * b2n rel + 64 * b2n (l.any (·.sat)) + 128 * b2n b.steer.outLost
  let w := fun (n : Nat) (x : Option Int) => le (n / 8) (lowBits n (satS n (x.getD 0)))
  let data := [st, b1] ++ le 2 (b.get R.STR_STATUS_POINT) ++ w 16 (l.map fun x => published x.delta 100000) ++ w 32 (l.map fun x => published x.kc 1000) ++
    w 32 (l.map fun x => published x.ey 1000) ++ w 16 (l.map fun x => published x.epsi 100000) ++ le 2 ((l.map (·.cap)).getD (if b.acting mDRIVERLESS then 0 else 0xFFFF)) ++
    le 4 (satU 32 ((l.map fun x => published x.dist 1000).getD 0)) ++ [b.use R.STR_PATH_SEL_ACTIVE, 0]
  b.sample strOrigin 0 data conf (st != sIDLE) none false false b.steer.replay

/-- The fused states that reached island 2 before now are there; the latest counts (R27). -/
def Block.fusedArrived (b : Block) : Block :=
  b.modSteer fun t =>
    let (here, rest) := t.coming.partition fun x => decide (x.arrives < b.now)
    match (here.filter fun x => t.fused == [] || decide (t.fusedAt ≤ x.at_)).getLast? with
    | some x => { t with coming := rest, fused := x.data, fusedAt := x.at_, replay := x.replay }
    | none => { t with coming := rest }

/-- One frame of the path follower (R351 to R365). -/
def Block.follow (b : Block) (m : Memory) : Block :=
  let was := (b.use R.STR_PATH_SEL_ACTIVE, b.use R.STR_PATH_SEL_EN)
  let b := b.boundary 0x45000000 0x45000300
  let moved := was != (b.get R.STR_PATH_SEL_ACTIVE, b.get R.STR_PATH_SEL_EN)
  let b := b.modSteer fun t => { t with passed := t.passed && !moved, fbAge := t.fbAge + 1 }
  let b := b.fusedArrived
  let usable := b.fusedUsable
  let b := (b.setB R.STR_STATUS_USABLE usable).modSteer fun t => if usable then { t with usable := t.fused, usableAt := t.fusedAt, declared := false } else t
  let lost := b.outputLost
  let b := (b.setB R.STR_STATUS_OUT_LOST lost).modSteer fun t => { t with outLost := lost }
  let b := b.overrideFrame
  let hands := decide (2 ≤ b.strState) && decide (max 1 (b.use R.STR_OVR_CFG_FRAMES) ≤ b.steer.ovrRun)
  let ready := b.strState == sREADY
  let b := (b.strLeave m).strEnter m
  let b := b.setB R.STR_STATUS_LOADED (b.pathLoaded m).1
  let fseq := b.get (R.LE_GRPg_FRAME_COUNT 2)
  if b.strState = sIDLE then
    (b.guidance none hands false).modSteer fun t => { t with turn := false, fseq := fseq }
  else
    let (b, x, (e, n, psi)) := b.closest m
    let buf := b.use R.STR_PATH_SEL_ACTIVE
    let l := b.law m buf x e n psi (fusU b.steerState.1)
    let b := b.set R.STR_STATUS_POINT x.i
    let engage := ready && b.strState == sREADY && usable && decide (0 ≤ fusU b.steer.fused) && decide ((l.ey.natAbs : Int) ≤ (b.use R.STR_ENGAGE_ENG_MM * 1000 : Nat)) && decide ((l.epsi.natAbs : Int) ≤ (b.use R.STR_ENGAGE_ENG_HDG * 10000000 : Nat))
    let b := b.when engage fun b => (((b.set R.STR_STATUS_STATE sENGAGED).set R.STR_EV_ENGAGE_EV 1).inc R.STR_CNT_ENGAGES).modSteer fun t => { t with engEnd := none }
    let l := if engage then { l with cap := b.law m buf x e n psi (fusU b.steerState.1) |>.cap } else l
    let b := b.modSteer fun t => { t with tracking := true, delta := l.delta, eyMm := published l.ey 1000, epsi := published l.epsi 100000, deltaOut := published l.delta 100000, fseq := fseq }
    let b := b.when (bit l.fl 0 != b.steer.turn) fun b => (b.spend.eventRaw strOrigin ([1, 0, b.open_ % 32, 0] ++ le 4 b.open_)).modSteer fun t => { t with turn := bit l.fl 0 }
    let ended := b.steer.passed && decide (2 ≤ b.strState)
    let b := b.guidance (some l) hands (pathRel m buf)
    if ended then (b.raise strOrigin R.STR_EV_END_EV).strIdle else if b.steer.passed then (b.set R.STR_EV_DISENGAGE_EV 1).strIdle else b

def execEngWaitExpired (s : State) : Result := s.go fun b =>
  match b.steer.engEnd with
  | none => b
  | some t =>
    let b := b.reach t
    if b.strState = sREADY then ((b.raise strOrigin R.STR_EV_ENG_TIMEOUT_EV).askClear).strIdle else b

/-- GRACE_MS expires (R362). -/
def Block.graceExpired (b : Block) : Block :=
  let dl := b.acting mDRIVERLESS
  let b := (b.inc R.STR_CNT_B_GRACE_EXP).modSteer fun t => { t with declared := true, graceEnd := none }
  let b := if dl then b else b.strIdle
  b.foreSupp fun b =>
  let b := b.when (b.managerUp && b.acting mGUIDED) fun b => b.modeGo mGUIDED 1 9 0
  let b := b.when (b.managerUp && dl) fun b => b.driverlessLost 9
  b.recompute 9 0

def execGraceExpired (s : State) : Result := s.go fun b =>
  match b.steer.graceEnd with
  | none => b
  | some t => if b.strState = sGRACE then (b.reach t).graceExpired else b

/-- A read of STR_ERR latches STR_ERR2 and STR_ERR3. -/
def Block.strErrLatch (b : Block) : Block :=
  let t := b.steer
  (((b.seti R.STR_ERR_EY_MM (satS 32 t.eyMm)).seti R.STR_ERR2_EPSI t.epsi).seti R.STR_ERR2_DELTA t.deltaOut).set R.STR_ERR3_FSEQ t.fseq

def execStrErrRead (s : State) : Result := s.go (·.strErrLatch)

/-! ## The convoy solver (R368 to R372) -/

/-- A solution leaves for island 2. -/
def Block.cvyGo (b : Block) (data : List Nat) (e conf : Nat) : Block :=
  b.modSteer fun t => { t with cvy := FusedIn.add b.now t.cvy (b.atIsland cvyOrigin 0 2) (data ++ [conf]) e false }

/-- Table 15.5 for epoch `e` with a state, the partner epoch used, and the solution. -/
def Block.cvySend (b : Block) (e st age : Nat) (sol : ConvoySol) : Block :=
  let hdg := b.cvy.hdg.bind fun h => if b.now ≤ h.2 + sec then some h.1 else none
  let spoof := b.gnss.spoof || sol.spoof
  let sf := b.use R.STR_CVY_MAP_SF_MM
  let sz := max (b.use R.STR_CVY_MAP_SZ_MM) (sf + 1)
  let conf := if st < 2 || spoof || b.exerts ⟨mDEGRADED, mCONVOY, 1, .lost [1, 3, 4], 1⟩ then 0 else if sol.sigH ≤ sf then 255 else if sz ≤ sol.sigH then 0 else min 255 (255 * (sz - sol.sigH) / (sz - sf))
  let w4 := fun (l : List Int) => (List.range 3).flatMap fun k => le 4 (lowBits 32 (l.getD k 0))
  let body := if st = 0 then [b.freshW 0 8, 0] ++ (List.range 30).map fun k => b.freshW (1 + k) 8
    else [sol.common % 256, 0] ++ w4 sol.base ++ w4 sol.vel ++ le 2 (min 65535 sol.sigH) ++ le 2 (min 65535 sol.sigV) ++ le 2 (min 65535 sol.sigVel)
  let ageB := if st = 0 then le 2 (b.freshW 40 16) else le 2 age
  let data := le 4 b.cvy.cseq ++ [st, b2n hdg.isSome + 2 * b2n spoof + 4 * b2n (b.flag R.STR_CVY_STAT_PARTNER_LOST)] ++ body ++ le 2 (hdg.getD (b.freshW 41 16)) ++ ageB ++ [0, 0, 0, 0, 0, 0]
  let b := (b.cvyGo data e conf).spend.sample cvyOrigin 0 data conf (conf != 0) (some (stampOf e))
  let b := b.when (st == 2 && b.get R.STR_CVY_STAT_STATE != 2) fun b => b.set R.STR_CVY_EV_FIX_EV 1
  let b := (((b.set R.STR_CVY_STAT_STATE st).set R.STR_CVY_STAT_STALE 0).set R.STR_CVY_STAT_COMMON (bytesAt data 6 1)).set R.STR_CVY_STAT_AGE_MS (bytesAt data 40 2)
  b.modCvy fun c => { c with cseq := (c.cseq + 1) % 2 ^ 32, data := data, ambig := decide (0 < st), waiting := c.waiting.filter (· != e) }

/-- The ambiguities are discarded (R369). -/
def Block.cvyDiscard (b : Block) : Block := (b.set R.STR_CVY_EV_AMB_EV 1).modCvy fun c => { c with ambig := false }

/-- A partner epoch arrives: paired with the own epoch of the same instant while that one waits. -/
def Block.partnerEpoch (b : Block) (e peer : Nat) (sol : ConvoySol) : Block :=
  if !b.gnsRuns then b
  else
    let b := b.when (b.cvy.peer.any fun p => p != peer) (·.cvyDiscard)
    let b := b.modCvy fun c => { c with peer := some peer, heardAt := b.now, partner := some (max e (c.partner.getD 0)) }
    if b.cvy.waiting.contains e then (b.set R.STR_CVY_STAT_PARTNER_LOST 0).cvySend e (if sol.fixed then 2 else 1) 0 sol else b

def execConvoyPartnerEpoch (epoch peer : Nat) (sol : ConvoySol) (s : State) : Result := s.go fun b => b.partnerEpoch epoch peer sol

/-- WAIT_MS after the oldest waiting epoch: EXTRAPOLATED from a partner epoch no older than EXTRAP_MS, or NONE. -/
def Block.cvyWait (b : Block) (sol : ConvoySol) : Block :=
  match b.cvy.waiting with
  | [] => b
  | e :: _ =>
    let b := b.toModule (e + b.use R.STR_CVY_CFG_WAIT_MS * ms)
    match b.cvy.partner with
    | some p =>
      if e ≤ p + b.use R.STR_CVY_CFG_EXTRAP_MS * ms then ((b.set R.STR_CVY_EV_EXTRAP_EV 1).inc R.STR_CVY_CNT_EXTRAP).cvySend e 3 ((e - p) / ms) sol
      else (b.inc R.STR_CVY_CNT_NONE).cvySend e 0 0 sol
    | none => (b.inc R.STR_CVY_CNT_NONE).cvySend e 0 0 sol

def execConvoyWaitExpired (sol : ConvoySol) (s : State) : Result := s.go fun b => b.cvyWait sol

def execConvoyLoss (s : State) : Result := s.go fun b =>
  if !b.gnsRuns || b.flag R.STR_CVY_STAT_PARTNER_LOST then b
  else ((b.reach (b.cvy.heardAt + b.use R.STR_CVY_LOSS_LOSS_MS * ms)).set R.STR_CVY_STAT_PARTNER_LOST 1).raise cvyOrigin R.STR_CVY_EV_LOSS_EV

/-- The convoy solver cannot answer: island 3 lost, or quiesced (R79). -/
def Block.cvyRefusal (b : Block) : Option Nat := b.unitRefusal (org 3 15 127)

def execCvyResetAmb (s : State) : Result := s.ask s.blk.cvyRefusal (·.cvyDiscard)

def execCvyClrCnt (s : State) : Result := s.ask s.blk.cvyRefusal fun b => b.clear [R.STR_CVY_CNT_EXTRAP, R.STR_CVY_CNT_NONE]

/-- A read of STR_CVY_W0 latches words 1 to 11. -/
def Block.cvyLatch (b : Block) : Block := b.each 12 fun n b => b.set (R.STR_CVY_Wn_BYTES n) (bytesAt b.cvy.data (4 * n) 4)

def execStrCvyRead (s : State) : Result := s.go (·.cvyLatch)

/-! ## Unloading on the go (R373 to R375) -/

/-- A vector (forward, right) turned clockwise by an angle. -/
def turnBy (a x y : Int) : Int × Int := ((x * cos15 a - y * sin15 a) / one15, (x * sin15 a + y * cos15 a) / one15)

/-- One frame of the spout stage. Lengths in µm. -/
def Block.spout (b : Block) : Block :=
  let b := match b.cvyHere with
    | some x => if b.cvyUsable then b.modSteer fun t => { t with good := x.data, goodAt := x.at_, goodConf := b.cvyConf x } else b
    | none => b
  let runs := b.acting mUNLOAD && b.acting mCONVOY
  let b := b.setB R.STR_SPT_STAT_ACTIVE runs
  if !runs then
    (b.set R.STR_SPT_STAT_GATE_OK 0).sample strOrigin 1 (List.replicate 16 0) ((b.cvyHere.map b.cvyConf).getD 0) false
  else
    let d := b.steer.good
    let dt : Int := (b.sys.mtime : Int) - b.steer.goodAt + (b.use R.STR_SPT_LEAD_LEAD_MS * ms : Nat)
    let at_ := fun (k : Nat) => signed 32 (bytesAt d (8 + 4 * k) 4) * 1000 + signed 32 (bytesAt d (20 + 4 * k) 4) * dt / 1000000
    let psi : Int := (fusPsi b.steer.fused : Int) * 100000
    let psiP : Int := if bit (bytesAt d 5 1) 0 then (bytesAt d 38 2 : Int) * 100000 else psi
    let turn := psiP - psi
    let px := (at_ 0 * sin15 psi + at_ 1 * cos15 psi) / one15 + b.geti R.STR_SPT_ANT_ANT_X * 1000
    let py := (at_ 0 * cos15 psi - at_ 1 * sin15 psi) / one15 + b.geti R.STR_SPT_ANT_ANT_Y * 1000
    let aim := signed 16 (b.use R.STR_SPT_AIM_AIM_MM)
    let off := turnBy turn ((signed 16 (b.use R.STR_SPT_BIN_BIN_X) + aim) * 1000) (signed 16 (b.use R.STR_SPT_BIN_BIN_Y) * 1000)
    let x0 := b.geti R.STR_SPT_PIVOT_PX * 1000
    let y0 := b.geti R.STR_SPT_PIVOT_PY * 1000
    let th0 := atan2 (py + off.2 - y0) (px + off.1 - x0)
    let lo := b.geti R.STR_SPT_SWING_TH_MIN * 100000
    let hi := max lo (b.geti R.STR_SPT_SWING_TH_MAX * 100000)
    let th := clampI lo hi th0
    let reach : Int := (b.get R.STR_SPT_REACH_REACH * 1000 : Nat)
    let tx := x0 + reach * cos15 th / one15
    let ty := y0 + reach * sin15 th / one15
    let (al, ac) := turnBy (-turn) (tx - px - off.1) (ty - py - off.2)
    let margin : Int := (b.use R.STR_SPT_AIM_MARGIN_MM * 1000 : Nat)
    let edge := min ((b.use R.STR_SPT_SIZE_BIN_L * 500 : Nat) - margin - (al + aim * 1000).natAbs) ((b.use R.STR_SPT_SIZE_BIN_W * 500 : Nat) - margin - (ac.natAbs : Int))
    let inBin := decide (0 ≤ edge)
    let gate := inBin && b.cvyUsable && (b.cvyHere.any fun x => decide (2 ≤ bytesAt x.data 4 1))
    let w := fun (v : Int) (n : Nat) => lowBits 16 (satS 16 (published v n))
    let b := (((b.setB R.STR_SPT_STAT_GATE_OK gate).setB R.STR_SPT_STAT_IN_BIN inBin).setB R.STR_SPT_STAT_SWING_LIMIT (th != th0)).set R.STR_SPT_STAT_EDGE_MM (w edge 1000)
    b.sample strOrigin 1 (le 2 (w th 100000) ++ [b2n gate + 2 * b2n inBin + 4 * b2n (th != th0) + 8 * b2n (b.cvyHere.any fun x => bit (bytesAt x.data 5 1) 2), 0] ++ le 2 (w al 1000) ++ le 2 (w ac 1000) ++ le 2 (w edge 1000) ++ [0, 0, 0, 0, 0, 0]) b.steer.goodConf

/-! ## Writes of STR_OUT (Table 15.9) -/

/-- A write of STR_OUT that BAD_OUTPUT refuses: a channel above 191 but 0xFF for none, or a port above 23. -/
def badOutput (v : Nat) : Bool :=
  let a := v / 256 % 256
  let c := v / 65536 % 256
  (191 < a && a != 255) || (191 < c && c != 255) || decide (23 < v / 16777216 % 32) || v % 2 ^ 8 > 1

end Sys2Proof.Machine
end

