-- ==== Sys2Proof/Machine/Deconv.lean ====
section
/-! DEFINITION. The deconvolution of R386: the kernel of R383 and the normal equations of the least squares, in fixed point with 96 fractional bits (log entry 77). -/

namespace Sys2Proof.Machine

open Sys2Proof

/-- 1.0 in fixed point, and a product. -/
def fx : Int := 2 ^ 96
def fxMul (a c : Int) : Int := a * c / fx

/-- Terms x^k / k! of the exponential series, signs alternating. -/
def expSeries (x : Int) : Nat → Nat → Int → Int
  | 0, _, _ => 0
  | n + 1, k, t => t + expSeries x n (k + 1) (-(fxMul t x) / ((k + 1 : Nat) : Int))

/-- e^-x of an x from 0 to about 10. -/
def expNeg (x : Int) : Int :=
  let sq := fun (a : Int) => fxMul a a
  sq (sq (sq (sq (expSeries (x / 16) 30 0 fx))))

/-- Half of the kernel g, from its centre outward: the Gaussian of standard deviation `sigma` µs sampled at 0.1 s, its 2L + 1 samples normalised to a sum of 1 (R383). -/
def halfKernel (sigma l : Nat) : List Int :=
  let w := (List.range (l + 1)).map fun k => expNeg ((k * k * 10000000000 : Nat) * fx / (2 * sigma * sigma : Nat))
  let sum := 2 * w.foldl (· + ·) 0 - w.headD 0
  w.map fun x => x * fx / max 1 sum

/-- Forward elimination of symmetric equations without pivoting: each row loses its first column as it is used. None where a pivot is not positive. -/
def eliminateFx : Nat → List (List Int) → Option (List (List Int))
  | 0, _ => some []
  | _, [] => some []
  | k + 1, r :: rest =>
    match r with
    | [] => none
    | p :: tail =>
      if p ≤ 0 then none
      else
        let less := fun (u : List Int) => match u with
          | [] => []
          | a :: t => if a = 0 then t else List.zipWith (fun x y => x - a * y / p) t tail
        (eliminateFx k (rest.map less)).map fun l => r :: l

/-- Back substitution over the rows that elimination leaves. -/
def solveFx (rows : List (List Int)) : List Int :=
  rows.foldr (fun r xs =>
    let coef := (r.drop 1).take xs.length
    let rhs := (r.drop 1).getD xs.length 0
    ((rhs - (List.zipWith fxMul coef xs).foldl (· + ·) 0) * fx / max 1 (r.headD 1)) :: xs) []

/-- The q of a window that minimise Σ (s_i - Σ g_l q_(i-l))² + λ Σ (q_i - q_(i-1))², the first sum without the last L slices. `s` and `past` are in mg, `past` newest first; `lam` in 1/256. -/
def deconvolve (sigma l lam : Nat) (s past : List Nat) : Option (List Int) :=
  let m := s.length
  let g := halfKernel sigma l
  let at_ := fun (d : Nat) => g.getD d 0
  -- equations kept: the observed mass less what the past slices bring
  let eqs := (List.range (m - l)).map fun i =>
    (i, (s.getD i 0 : Int) * fx - ((List.range (l - i)).foldl (fun a k => a + at_ (i + k + 1) * (past.getD k 0 : Int)) 0))
  let dist := fun (i j : Nat) => (i - j) + (j - i)
  let lamF : Int := (lam : Int) * fx / 256
  let rows := (List.range m).map fun j =>
    let mine := eqs.filter fun e => decide (dist e.1 j ≤ l)
    let quad := (List.range m).map fun k =>
      let c := if dist j k ≤ 2 * l then (mine.map fun e => at_ (dist e.1 j) * at_ (dist e.1 k)).foldl (· + ·) 0 / fx else 0
      c + (if j = k then (if j + 1 < m then 2 * lamF else lamF) else if dist j k = 1 then -lamF else 0)
    quad ++ [(mine.map fun e => fxMul (at_ (dist e.1 j)) e.2).foldl (· + ·) 0 + (if j = 0 then lamF * (past.getD 0 0 : Int) else 0)]
  -- each row keeps the columns from its own on
  (eliminateFx m rows).map solveFx

end Sys2Proof.Machine
end

