-- ==== Sys2Proof/Machine/Geodesy.lean ====
section
/-! DEFINITION. The Transverse Mercator projection of R393, in whole numbers: angles in 10⁻¹⁵ rad, functions scaled by 10¹⁵, lengths in µm. The WGS-84 and UTM figures are those that R393 names without writing them out (log entry 77). -/

namespace Sys2Proof.Machine

open Sys2Proof

/-- Sine and cosine of an angle in 10⁻¹⁵ rad. -/
def sinRad (x : Int) : Int := series (x * x / one15) (fun k => (((2 * k + 2) * (2 * k + 3) : Nat) : Int)) 18 0 x
def cosRad (x : Int) : Int := series (x * x / one15) (fun k => (((2 * k + 1) * (2 * k + 2) : Nat) : Int)) 18 0 one15

/-- Hyperbolic sine and cosine. -/
def sinhRad (x : Int) : Int := series (-(x * x / one15)) (fun k => (((2 * k + 2) * (2 * k + 3) : Nat) : Int)) 18 0 x
def coshRad (x : Int) : Int := series (-(x * x / one15)) (fun k => (((2 * k + 1) * (2 * k + 2) : Nat) : Int)) 18 0 one15

/-- Area hyperbolic tangent of a small number. -/
def atanhRad (t : Int) : Int := atanSeries (-(t * t / one15)) 12 0 t

/-- The first eccentricity of WGS-84 times 10¹⁵, and the coefficients of the projection's series times 10²⁴. -/
def ecc15 : Int := 81819190842621
def tmCoef : List Int := [837731820624470000000, 760852777357231000, 1197645503329450, 2429170607202]

/-- Easting from the central meridian and northing from the equator in µm, at scale 0.9996, of a latitude and of a longitude from the central meridian. -/
def tmForward (phi dl : Int) : Int × Int :=
  let sp := sinRad phi
  let cp := cosRad phi
  let sg := sinhRad (ecc15 * atanhRad (ecc15 * sp / one15) / one15)
  -- sine of the conformal latitude over the cosine of the latitude's scale
  let s := sp * root (one15 * one15 + sg * sg) / one15 - sg
  let h := root (cp * cp + s * s)
  let xi := atan2Rad s (cp * cosRad dl / one15)
  let eta := atanhRad (sinRad dl * cp / max 1 h)
  let terms := (List.range 4).map fun (j : Nat) =>
    let k : Int := 2 * ((j : Int) + 1)
    let c := tmCoef.getD j 0
    let sinK := sinRad (wrapRad (k * xi))
    let cosK := cosRad (wrapRad (k * xi))
    (c * cosK / one15 * sinhRad (k * eta) / 10 ^ 24, c * sinK / one15 * coshRad (k * eta) / 10 ^ 24)
  let e := terms.foldl (fun a t => a + t.1) eta
  let n := terms.foldl (fun a t => a + t.2) xi
  (6364902166165 * e / one15, 6364902166165 * n / one15)

end Sys2Proof.Machine
end

