-- ==== Sys2Proof/Machine/YieldModel.lean ====
section
/-! DEFINITION. The model stage of the yield mapper: mass flow, transport, cut slices, the header and the contributions (chapter 16).
The stage computes in binary64; the model computes in whole mg and µs and in fixed point (log entry 77). -/

namespace Sys2Proof.Machine

open Sys2Proof

def BAD_MAPCFG : Nat := 0x78
def BAD_GRID : Nat := 0x79
def yldOrigin : Nat := org 1 4 0
def yldTarget : Nat := org 1 4 127
def ySTOPPED : Nat := 0
def yIDLE : Nat := 1
def yMAPPING : Nat := 2
def yDRAINING : Nat := 3
def yREPLAYING : Nat := 4

def Block.yldState (b : Block) : Nat := b.get R.YLD_STATUS_STATE
def Block.modYld (b : Block) (f : Yield → Yield) : Block := { b with yld := f b.yld }
def Block.yldRefusal (b : Block) : Option Nat := b.unitRefusal yldTarget

/-! ## Inputs (R378, R379) -/

/-- The field reader of slot `k` as an IN block with MODE LATEST. -/
def Block.yldCfg (b : Block) (k : Nat) : BlkCfg :=
  { ty := 0x01, fm0 := 4 * b2n (bit (b.get (R.YLD_INk_SRC_TYPE k)) 2) + b.get (R.YLD_INk_SRC_TYPE k) % 4 + 8 * b.get (R.YLD_INk_CFG_F_IN k), fm1 := 0, init := 0, confMin := 1, up := 255, down := 255, staleOk := false
    ps := [b.get (R.YLD_INk_SRC_STREAM k), b.get (R.YLD_INk_SRC_OFFSET k) + 4096 * b.get (R.YLD_INk_SRC_TYPE k) + 65536 * b.get (R.YLD_INk_CFG_F_IN k), 0xFFFF, 0, max 1 (b.get (R.YLD_INk_CFG_MAX_AGE k)), 0, 0] }

/-- Usable under R258 with CONF_MIN 1 and STALE_OK 0. -/
def Sig.fresh (x : Sig) : Bool := x.valid && !x.masked && !x.stale && decide (1 ≤ x.conf)

/-- The slot of a role. -/
def Block.yldSlot (b : Block) (role : Nat) : Option Nat := (List.range 16).find? fun k => b.get (R.YLD_INk_SRC_STREAM k) != 0 && b.get (R.YLD_INk_CFG_ROLE k) == role

/-- The latched signal of a role, where usable, in thousandths. -/
def Block.yldValue (b : Block) (role : Nat) : Option Int :=
  (b.yldSlot role).bind fun k => let x := (b.yld.slots.getD k {}).sig; if x.fresh then some (x.raw * 1000 / (2 ^ x.f : Nat)) else none

/-- The packets of a step enter the slots of their streams; slot `k` latches. -/
def Block.yldLatch (b : Block) (k : Nat) : Block :=
  let c := b.yldCfg k
  if b.get (R.YLD_INk_SRC_STREAM k) = 0 then b
  else
    let o := c.latch b.now (b.yld.slots.getD k {}).toInst
    let b := b.modYld fun s => { s with slots := updAt s.slots k fun _ => SolSlot.ofInst o.inst }
    let y := o.inst.y0
    (((b.set (R.YLD_INk_STAT_CONF k) y.conf).setB (R.YLD_INk_STAT_VALID k) y.valid).setB (R.YLD_INk_STAT_STALE k) (y.stale || !o.inst.seen)).setB (R.YLD_INk_STAT_AGED k) (decide (c.pu 4 ≤ o.inst.age))

/-- End of a slot's sample in module time (R379). -/
def Block.yldEnd (b : Block) (e : Fin 16 × Packet) : Nat := b.unstamp e.2.stamp + b.get (R.YLD_INk_SPAN_SPAN e.1) * 10 * us

/-- A packet of the slot's stream without ERROR. -/
def Block.yldTakes (b : Block) (e : Fin 16 × Packet) : Bool := b.get (R.YLD_INk_SRC_STREAM e.1) != 0 && b.get (R.YLD_INk_SRC_STREAM e.1) == e.2.stream && !e.2.error && b.heard e.2

/-- Packets of a role among those of this step. -/
def Block.yldPackets (b : Block) (role : Nat) (pkts : List (Fin 16 × Packet)) : List Packet :=
  match b.yldSlot role with
  | none => []
  | some k => (pkts.filter fun e => e.1.val == k).map (·.2)

/-- Signals of a role's packets. -/
def Block.yldSignals (b : Block) (role : Nat) (pkts : List (Fin 16 × Packet)) : List (Sig × Packet) :=
  match b.yldSlot role with
  | none => []
  | some k => (b.yldPackets role pkts).map fun p => ((b.yldCfg k).extract p, p)

/-! ## Mass flow and moisture (R380, R381) -/

/-- Wet mass flow in mg/s of a signal in ppm at an elevator speed in 10⁻³ min⁻¹, and PLATE_EV. -/
def Block.massFlow (b : Block) (s : Int) (ne : Nat) : Nat × Bool :=
  let d := s - b.use R.YLD_MF_CFG_S0
  let nref := max 1 (b.get R.YLD_MF_REF_N_REF)
  if ne < 50 * nref then (0, decide (0 < d))
  else
    let xs := (List.range 8).map fun k => (b.use (R.YLD_MF_Sk_S k) * 1000 : Int)
    let ys := (List.range 8).map fun k => (b.use (R.YLD_MF_Qk_Q k) * 1000 : Int)
    let g := max 0 (interp xs ys true (d * nref * 1000000 / ne)).1
    ((g * b.use R.YLD_MF_REF_K_M / 4096).toNat, false)

/-- Moisture in 0.01 % of a current in nA. -/
def Block.moistOf (b : Block) (i : Int) : Nat :=
  let xa : Int := b.use R.YLD_MOIST_A_I_UA * 1000
  let ya : Int := b.use R.YLD_MOIST_A_M
  (clampI 0 5000 (ya + rquot ((b.use R.YLD_MOIST_B_M - ya) * (i - xa)) (b.use R.YLD_MOIST_B_I_UA * 1000 - xa))).toNat

/-! ## The transport model (R382 to R384) -/

/-- Time in µs, counted back over steps of 0.1 s newest first, in which a shaft makes `need` / 6·10¹⁰ revolutions; `rem` µs of the first step are left. -/
def walkBack : List Nat → Nat → Nat → Nat → Nat
  | [], _, _, o => o
  | n :: r, rem, need, o => if need ≤ n * rem then o + (if n = 0 then 0 else need / n) else walkBack r 100000 (need - n * rem) (o + rem)

/-- The offset at which stage `s` began to carry what it delivered at offset `o`. -/
def Block.stageBack (b : Block) (s o : Nat) : Nat :=
  walkBack ((b.yld.recs.drop (o / 100000)).map fun x => x.speeds.getD s 0) (100000 - o % 100000) (max 1 (b.use (R.YLD_TM_STAGEs_R s)) * 600000000) o

/-- τ, whether it was limited, σ (µs) and τ_hf (µs) at this step. -/
def Block.transport (b : Block) : Nat × Bool × Nat × Nat :=
  let o3 := b.stageBack 3 0
  let fix := b.use R.YLD_TM_FIX_T_FIX * 10000
  let o2 := o3 + fix
  let o1 := b.stageBack 2 o2
  let o0 := b.stageBack 1 o1
  let oc := b.stageBack 0 o0
  let sq := fun (cv t : Nat) => (cv * t / 256) ^ 2
  let var := sq (b.use (R.YLD_TM_STAGEs_CV 3)) o3 + sq (b.use R.YLD_TM_FIX_CV_FIX) fix + sq (b.use (R.YLD_TM_STAGEs_CV 2)) (o1 - o2) + sq (b.use (R.YLD_TM_STAGEs_CV 1)) (o0 - o1) + sq (b.use (R.YLD_TM_STAGEs_CV 0)) (oc - o0)
  let sp := (b.yld.recs.head?.map (·.speeds)).getD []
  let turn := fun s => let n := sp.getD s 0; if n = 0 then 655350000 else max 1 (b.use (R.YLD_TM_STAGEs_R s)) * 600000000 / n
  let tau := max 4000000 (min 40000000 oc)
  (tau, tau != oc, max 100000 (isqrt var 32), turn 0 + turn 1)

/-- c_tm (Table 16.2). -/
def Block.cTm (b : Block) (range : Bool) : Nat :=
  let sp := (b.yld.recs.head?.map (·.speeds)).getD []
  let off := fun (pct : Nat) => (List.range 4).all fun s =>
    let r := b.get (R.YLD_TM_REFs_N_REF s) * 1000
    !b.flag (R.YLD_TM_REFs_CAL s) || decide (((sp.getD s 0 : Int) - r).natAbs * 100 ≤ pct * r)
  if b.yld.stale.any (10 < ·) then 0
  else if range then 64
  else if (List.range 4).all fun s => !b.flag (R.YLD_TM_REFs_CAL s) then 96
  else if off 15 then 255
  else if off 30 then 160
  else 64

/-- The method of a step (R386): 0 DECONV, 1 SHIFT, 2 SMEAR. -/
def Block.yldMethod (b : Block) (c : Nat) : Nat := if b.use R.YLD_DEC_THR_TM_DECONV ≤ c then 0 else if b.use R.YLD_DEC_THR_TM_SHIFT ≤ c then 1 else 2

/-! ## The cut timeline (R385, R386) -/

/-- Mass added to slice `i` of a timeline in ascending order. -/
def addSlice (i : Int) (m wet conf : Nat) (range : Bool) : List YieldSlice → List YieldSlice
  | [] => [{ i := i, s := m, wet := wet, conf := conf, range := range }]
  | y :: r =>
    if i < y.i then { i := i, s := m, wet := wet, conf := conf, range := range } :: y :: r
    else if i = y.i then { y with s := y.s + m, wet := y.wet + wet, conf := min y.conf conf, range := y.range || range } :: r
    else y :: addSlice i m wet conf range r

/-- Every slice up to `n` exists. -/
def fillSlices (n : Int) (l : List YieldSlice) : List YieldSlice :=
  match l.getLast? with
  | none => l
  | some y => l ++ (List.range (n - y.i).toNat).map fun k => { i := y.i + 1 + k }

/-- Shares of a total in proportion to weights, in whole mg, summing to the total. -/
def shareOut (total : Nat) (w : List Nat) : List Nat :=
  let sum := w.foldl (· + ·) 0
  (w.foldl (fun (a : List Nat × Nat) x => (a.1 ++ [if sum = 0 then 0 else (a.2 + x) * total / sum - a.2 * total / sum], a.2 + x)) ([], 0)).1

/-- The unfinalised estimates are scaled to A - F; with a sum of 0 the mass is shared in proportion to s. -/
def Yield.scale (y : Yield) : Yield :=
  let qs := y.slices.map (·.q)
  let w := if qs.any (0 < ·) then qs else y.slices.map (·.s)
  { y with slices := (y.slices.zip (shareOut (y.a - y.f) w)).map fun e => { e.1 with q := e.2 } }

/-- Mass of a slice before the window: a final one, or one that is not final yet. -/
def Yield.past (y : Yield) (i : Int) : Nat :=
  match y.slices.find? fun x => x.i == i with
  | some x => x.q
  | none => ((y.finals.find? fun e => e.1 == i).map (·.2)).getD 0

/-- The estimates of the window of the last WIN slices up to `n`, as weights in 2^-20 mg. Where the least squares have no single minimum they are free. -/
def Block.yldEstimate (b : Block) (method sigma l : Nat) (n : Int) : Block := b.modYld fun y =>
  let lo := n - b.use R.YLD_DEC_WIN
  let lam := b.use R.YLD_DEC_LAMBDA
  let win := y.slices.filter fun x => decide (lo < x.i) && decide (x.i ≤ n)
  let first := (win.head?.map (·.i)).getD n
  let args : List Int := [(sigma : Int), lam, n] ++ win.map fun x => (x.s : Int)
  let sol := if method = 0 then deconvolve sigma l lam (win.map (·.s)) ((List.range l).map fun (k : Nat) => y.past (first - 1 - k)) else none
  let est := fun (x : YieldSlice) =>
    if x.i ≤ lo || n < x.i then x.q * 2 ^ 20
    else if method = 0 then match sol with
      | some q => (q.getD (x.i - first).toNat 0 / 2 ^ 76).toNat
      | none => (Config.freeReal 1610 (x.i :: args)).toNat
    else if method = 1 then x.s * 2 ^ 20 else x.q * 2 ^ 20
  let y : Yield := { y with slices := y.slices.map fun x => { x with q := est x } }
  y.scale

/-! ## Across the header (R388, R389) -/

/-- Nearest of a list of stamped things to a time. -/
def nearestIn {α : Type} (l : List (Nat × α)) (t : Nat) : Option (Nat × α) :=
  l.foldl (fun a x => match a with | none => some x | some y => if (x.1 - t) + (t - x.1) < (y.1 - t) + (t - y.1) then some x else a) none

/-- Height proxies of the sections at a cut time (ns): p_s where the head is usable. -/
def Block.proxies (b : Block) (t : Nat) : List (Option Nat) :=
  let v := ((nearestIn b.yld.fused t).map fun x => (fusU x.2).toNat).getD 0
  let at_ := t - (if v = 0 then 0 else b.use R.YLD_LAT_L_AHEAD * 100 * sec / v)
  let heads := ((nearestIn b.yld.sweeps at_).map (·.2)).getD []
  (List.range (b.get R.YLD_HDR_N_SEC)).map fun s =>
    let h := b.get (R.YLD_SECs_HEAD s)
    if h = 0 then none else ((heads.getD (h - 1) none : Option Int)).map fun x => (x - (b.use R.YLD_LAT_H_STUB : Int)).toNat

/-- Mean torques around a time, where usable throughout. -/
def Block.torques (b : Block) (t : Nat) : Option (Nat × Nat) :=
  let at_ := t + b.use R.YLD_LAT_D_AUG * 100 * ms
  let l := b.yld.recs.filter fun r => decide (at_ ≤ r.t + 500 * ms) && decide (r.t ≤ at_ + 500 * ms)
  let ls := l.filterMap (·.tl)
  let rs := l.filterMap (·.tr)
  if l.isEmpty || ls.length ≠ l.length || rs.length ≠ l.length then none
  else
    let a := ls.foldl (· + ·) 0 / l.length
    let c := rs.foldl (· + ·) 0 / l.length
    if max 1 (b.use R.YLD_LAT_T_T_MIN * 1000) ≤ a + c then some (a, c) else none

/-- Section weights with a common sum, and the lateral cap. -/
def Block.sectionWeights (b : Block) (t secs : Nat) : List Nat × Nat :=
  let n := b.get R.YLD_HDR_N_SEC
  let split := b.get R.YLD_HDR_SPLIT
  let p := b.proxies t
  let active := fun s => bit secs s
  let half := fun (lo hi : Nat) =>
    let l := (List.range n).filter fun s => decide (lo ≤ s) && decide (s < hi) && active s
    let heads := !l.isEmpty && l.all (fun s => (p.getD s none).isSome) && l.any fun s => decide (0 < (p.getD s none).getD 0)
    let w := l.map fun s => (s, if heads then (p.getD s none).getD 0 else 1)
    (w, (w.map (·.2)).foldl (· + ·) 0, heads, l.length)
  let (wl, sl, hl, cl) := half 0 split
  let (wr, sr, hr, cr) := half split n
  let tq := b.torques t
  let used := split != 0 && tq.isSome
  let (gl, gr) := if cl = 0 then (0, 1) else if cr = 0 then (1, 0) else match (if used then tq else none) with
    | some x => x
    | none => if hl && hr then (sl, sr) else (cl, cr)
  let of := fun s => match (wl.find? (·.1 == s)), (wr.find? (·.1 == s)) with
    | some e, _ => e.2 * gl * max 1 sr
    | none, some e => e.2 * gr * max 1 sl
    | none, none => 0
  let heads := (cl == 0 || hl) && (cr == 0 || hr)
  ((List.range n).map of, if heads && (used || split == 0) then 255 else if used then 192 else if heads then 160 else 96)

/-! ## Placing the crop (R390, R391, R393) -/

/-- A pose: latitude, longitude (10⁻¹⁰ degree), heading (10⁻⁹ rad), CONF_POS. -/
structure Pose where
  lat : Int
  lon : Int
  psi : Int
  conf : Nat
  deriving DecidableEq, Repr

/-- The pose at a time (ns), from the two states that bracket it. -/
def Block.poseAt (b : Block) (t : Nat) : Option Pose :=
  let l := b.yld.fused
  match l.find? fun x => decide (x.1 ≤ t), (l.filter fun x => decide (t ≤ x.1)).getLast? with
  | some x, some y =>
    let c := min (bytesAt x.2 70 1) (bytesAt y.2 70 1)
    if c < max 1 (b.use R.YLD_PLACE_POS_MIN) || x.1 + 200 * ms < y.1 then none
    else
      let den : Int := max 1 (y.1 - x.1 : Nat)
      let num : Int := (t - x.1 : Nat)
      let mix := fun (a c : Int) => a + (c - a) * num / den
      let pa : Int := (fusPsi x.2 : Int) * 100000
      let pb : Int := (fusPsi y.2 : Int) * 100000
      some { lat := mix (signed 64 (bytesAt x.2 8 8)) (signed 64 (bytesAt y.2 8 8)), lon := mix (signed 64 (bytesAt x.2 16 8)) (signed 64 (bytesAt y.2 16 8)),
             psi := pa + wrapAngle (pb - pa) * num / den, conf := c }
  | _, _ => none

/-- A point of the grid in mm from E0, N0: the Transverse Mercator projection of a point `e`, `n` µm from a latitude and longitude in its tangent plane. It is computed to 1 mm, and beyond 6° of the central meridian not at all (R393): the last millimetre, and a point out there, are free. -/
def Block.gridPoint (b : Block) (lat lon e n : Int) : Int × Int :=
  let a : List Int := [lat, lon, e, n, b.get R.YLD_T_GRID_ZONE, b.get R.YLD_T_GRID_SOUTH]
  let rad := fun (d : Int) => d * pi15 / (180 * 10 ^ 10)
  let (re, rn) := planeRadii lat
  let dl := rad (lon - (6 * (b.get R.YLD_T_GRID_ZONE : Int) - 183) * 10 ^ 10) + e * one15 / max 1 re
  let p := tmForward (rad lat + n * one15 / max 1 rn) dl
  let at_ := fun (v : Int) (k : Nat) => if dl.natAbs ≤ 104719755119660 then v / 1000 + Config.freeReal k a % 3 - 1 else Config.freeReal k a
  (at_ (p.1 + 500000000000) 1601 - b.geti R.YLD_T_E0_M * 1000, at_ (p.2 + (if b.flag R.YLD_T_GRID_SOUTH then 10000000000000 else 0)) 1602 - b.geti R.YLD_T_N0_M * 1000)

/-- Tile, cell and sub-cell bit of a grid point. -/
def gridCell (p : Int × Int) : Int × Int × Nat × Nat :=
  let tx := p.1 / 256000
  let ty := p.2 / 256000
  let x := (p.1 - 256000 * tx).toNat
  let y := (p.2 - 256000 * ty).toNat
  (tx, ty, y / 500 * 512 + x / 500, y % 500 / 125 * 4 + x % 500 / 125)

/-- The sub-elements of section `s` between two poses: their grid points. -/
def Block.subElements (b : Block) (p q : Pose) (de dn : Int) (adv : Nat) (s : Nat) : List (Int × Int) :=
  let n := max 1 (b.get R.YLD_HDR_N_SEC)
  let w : Int := b.get R.YLD_HDR_WIDTH_CM * 10000 / n
  let x := b.geti R.YLD_HDR_X_MM * 1000
  let edge := fun (k : Nat) => b.geti R.YLD_HDR_Y_MM * 1000 + (2 * (k : Int) - n) * w / 2
  let na := max 1 (ceilDiv adv 125000)
  let nc := max 1 (ceilDiv w.toNat 125000)
  let at_ := fun (psi y : Int) => ((x * sin15 psi + y * cos15 psi) / one15, (x * cos15 psi - y * sin15 psi) / one15)
  (List.range na).flatMap fun (i : Nat) => (List.range nc).map fun (j : Nat) =>
    let y : Int := edge s + (edge (s + 1) - edge s) * (2 * (j : Int) + 1) / (2 * nc : Nat)
    let a := at_ p.psi y
    let c := at_ q.psi y
    let u : Int := 2 * (i : Int) + 1
    let d : Int := 2 * na
    b.gridPoint p.lat p.lon (a.1 + (c.1 + de - a.1) * u / d) (a.2 + (c.2 + dn - a.2) * u / d)

/-- A contribution joins those of the same tile, cell and pass. -/
def mergeContribution (c : Contribution) : List Contribution → List Contribution
  | [] => [c]
  | x :: r =>
    if x.tx = c.tx ∧ x.ty = c.ty ∧ x.cell = c.cell ∧ x.pass = c.pass then
      { x with mass := x.mass + c.mass, moist := if x.mass + c.mass = 0 then x.moist else (x.moist * x.mass + c.moist * c.mass) / (x.mass + c.mass)
               bits := x.bits ||| c.bits, conf := min x.conf c.conf, fl := x.fl ||| c.fl, sec := c.sec } :: r
    else x :: mergeContribution c r

/-- The contributions of a final slice with a mass, or none where it is not placeable. -/
def Block.place (b : Block) (x : YieldSlice) (mass wet method cTm : Nat) (carried flushed : Bool) : Option (List Contribution) :=
  let t1 := (x.i + 1).toNat * 100 * ms
  let t0 := t1 - 100 * ms
  match b.yld.recs.find? (·.t == t1), b.poseAt t0, b.poseAt t1 with
  | some r, some p, some q =>
    let (de, dn) := toPlane q.lat q.lon p.lat p.lon
    let adv := (de * sin15 p.psi + dn * cos15 p.psi) / one15
    let n := b.get R.YLD_HDR_N_SEC
    let secs := r.secs % 2 ^ n
    if !r.work || adv < 10000 || secs = 0 then none
    else
      let (w, cap) := b.sectionWeights (t0 + 50 * ms) secs
      let mcap := [255, 160, 64].getD method 64
      let conf := min (min (min (min mcap cTm) x.conf) cap) (min p.conf q.conf)
      let fl := 2 * b2n (method == 1) + 4 * b2n (method == 2) + 8 * b2n (decide (conf < b.use R.YLD_DEC_THR_LOW_THR)) + 16 * b2n (cap == 96) + 32 * b2n carried + 64 * b2n flushed + 128 * b2n x.range
      let parts := (List.range n).zip (shareOut mass w)
      let cells : List Contribution := parts.flatMap fun (s, m) =>
        if !bit secs s then []
        else
          let pts := b.subElements p q de dn adv.toNat s
          (pts.zip (shareOut m (pts.map fun _ => 1))).map fun (g, m) =>
            let (tx, ty, cell, k) := gridCell g
            ({ tx := tx, ty := ty, cell := cell, mass := m, moist := if mass = 0 then 0 else wet / mass, bits := 2 ^ k, conf := conf, fl := fl, pass := b.get R.YLD_STATUS_PASS, sec := s } : Contribution)
      if cells.any fun c => decide (32767 < c.tx) || decide (c.tx < -32768) || decide (32767 < c.ty) || decide (c.ty < -32768) then none
      else some cells
  | _, _, _ => none

/-! ## Final slices (R386, R390, R396) -/

/-- Carried mass that has waited longer than CARRY_S counts as unplaced. -/
def Block.dropCarry (b : Block) (i : Int) : Block :=
  let old := b.yld.carry.filter fun c => decide (c.i + b.use R.YLD_PLACE_CARRY_S * 10 < i)
  (b.modYld fun y => { y with carry := y.carry.filter (fun c => !decide (c.i + b.use R.YLD_PLACE_CARRY_S * 10 < i)), unplaced := y.unplaced + (old.map (·.mass)).foldl (· + ·) 0 })

/-- One final slice: placed with what is carried to it, joined to the last placeable slice of this step, or carried. The accumulator holds the contributions so far and the last placeable slice with its mass. -/
def Block.finalOne (method cTm : Nat) (flushed : Bool) (a : Block × List (YieldSlice × Nat × Nat × Bool)) (x : YieldSlice) : Block × List (YieldSlice × Nat × Nat × Bool) :=
  let b := a.1.dropCarry x.i
  let wet := if x.s = 0 then 0 else x.wet * x.q / x.s
  match b.place x x.q wet method cTm false flushed with
  | some _ =>
    let c := b.yld.carry
    (b.modYld fun y => { y with carry := [] }, a.2 ++ [(x, x.q + (c.map (·.mass)).foldl (· + ·) 0, wet + (c.map (·.wet)).foldl (· + ·) 0, !c.isEmpty)])
  | none =>
    if x.q = 0 then (b, a.2)
    else match a.2.getLast? with
      | some (y, m, w, _) =>
        if x.i ≤ y.i + b.use R.YLD_PLACE_CARRY_S * 10 then (b, a.2.dropLast ++ [(y, m + x.q, w + wet, true)])
        else (b.modYld fun s => { s with carry := s.carry ++ [{ i := x.i, mass := x.q, wet := wet }] }, a.2)
      | none => (b.modYld fun s => { s with carry := s.carry ++ [{ i := x.i, mass := x.q, wet := wet }] }, a.2)

/-- The bytes of a contribution (Table 16.4). -/
def Contribution.bytes (c : Contribution) : List Nat :=
  le 2 (lowBits 16 c.tx) ++ le 2 (lowBits 16 c.ty) ++ le 4 c.cell ++ le 4 (min (2 ^ 32 - 1) c.mass) ++ le 2 c.moist ++ le 2 c.bits ++ [c.conf, c.fl] ++ le 2 c.pass ++ [c.sec, 0, 0, 0]

/-- Bytes of a backlog, and the mass of the oldest packets dropped so that the rest fits. -/
def backlogBytes (l : List YieldPacket) : Nat := (l.map fun e => e.pkt.data.length).foldl (· + ·) 0
def dropOldest (room : Nat) : List YieldPacket → Nat × List YieldPacket
  | [] => (0, [])
  | e :: r => if backlogBytes (e :: r) ≤ room then (0, e :: r) else let (m, l) := dropOldest room r; (e.mass + m, l)

/-- Contribution packets leave for the tile engine and stay in the backlog of 16 MiB; a full backlog drops its oldest (R396). -/
def Block.contribute (b : Block) (l : List Contribution) (first : Nat) : Block :=
  b.eachOf (chunk 170 (l.length / 170 + 1) l) fun part b =>
    if part.isEmpty then b
    else
      let layer := if b.yldState = yREPLAYING then 0xFF else 0
      let data := le 4 b.yld.cseq ++ le 2 part.length ++ [layer, 0] ++ le 8 first ++ part.flatMap Contribution.bytes
      let p : Packet := { kind := .sample, stream := (b.route? yldOrigin 0).getD 0, origin := yldOrigin, stamp := stampOf first, replay := layer == 0xFF, data := data }
      let b := b.sample yldOrigin 0 data 255 true (some (stampOf first)) false false (layer == 0xFF)
      let mass := (part.map (·.mass)).foldl (· + ·) 0
      let b := b.modYld fun y => { y with cseq := (y.cseq + 1) % 2 ^ 32, backlog := y.backlog ++ [{ cseq := y.cseq, pkt := p, mass := mass }] }
      let (lost, kept) := dropOldest 16777216 b.yld.backlog
      if kept.length = b.yld.backlog.length then b
      else
        let b := b.modYld fun y => { y with backlog := kept, dropped := y.dropped + lost }
        (b.set R.YLD_DROPPED_G (min (2 ^ 32 - 1) (b.yld.dropped / 1000))).set R.FAB_EDGE_SUMMARY_YIELD_BACKLOG 1

/-- Slices become final: they leave the window, enter F, and their contributions are sent. -/
def Block.finalise (b : Block) (l : List YieldSlice) (method cTm : Nat) (flushed : Bool) : Block :=
  if l.isEmpty then b
  else
    let b := b.modYld fun y => { y with slices := y.slices.filter (fun x => !l.any (·.i == x.i)), finals := ((l.map fun x => (x.i, x.q)).reverse ++ y.finals).take 1300, f := y.f + (l.map (·.q)).foldl (· + ·) 0 }
    let (b, placed) := l.foldl (Block.finalOne method cTm flushed) (b, [])
    let cs := (placed.flatMap fun (x, m, w, c) => (b.place x m w method cTm c flushed).getD []).foldl (fun a c => mergeContribution c a) []
    let first := (placed.head?.map fun e => e.1.i.toNat * 100 * ms).getD 0
    (b.contribute cs first).set R.YLD_UNPLACED_G (min (2 ^ 32 - 1) (b.yld.unplaced / 1000))

/-- A flush finalises every slice at once (R402); carried mass has no slice left to wait for. -/
def Block.yldFlush (b : Block) : Block :=
  let c := b.get R.YLD_STATUS_C_TM
  let b := b.modYld Yield.scale
  let b := b.finalise b.yld.slices (b.get R.YLD_STATUS_METHOD) c true
  let b := b.modYld fun y => { y with carry := [], unplaced := y.unplaced + (y.carry.map (·.mass)).foldl (· + ·) 0 }
  b.set R.YLD_UNPLACED_G (min (2 ^ 32 - 1) (b.yld.unplaced / 1000))

/-- The window empties and the ledgers return to 0. -/
def Block.yldEmpty (b : Block) : Block := b.modYld fun y => { y with slices := [], finals := [], newest := none, a := 0, f := 0, carry := [] }

/-! ## Calibration (R401) -/

/-- One step of the selected run: the kinds 2, 3 and 4 of MODE_POLICY are PLATE_ZERO, MASS and TRANSPORT. -/
def Block.calStep (b : Block) (signals : List Int) (wet : Nat) (rise : Bool) : Block :=
  let kind := if b.calRuns && 2 ≤ b.calKind && b.calKind ≤ 4 then b.calKind - 1 else 0
  let b := if b.yld.cal.kind = kind then b else
    (((b.set R.YLD_CAL_STAT_RUN kind).set R.YLD_CAL_STAT_READY (if kind = 0 then b.get R.YLD_CAL_STAT_READY else 0)).set R.YLD_CAL_ACC_G (if kind = 2 then 0 else b.get R.YLD_CAL_ACC_G)).modYld fun y => { y with cal := { kind := kind, refs := y.cal.refs } }
  let c := b.yld.cal
  let ready := fun (b : Block) (first second : Nat) =>
    (((b.set R.YLD_CAL_CAND_FIRST (min 65535 first)).set R.YLD_CAL_CAND_SECOND (min 65535 second)).set R.YLD_CAL_STAT_READY 1).modYld fun y => { y with cal := { y.cal with replay := b.modeSet mREPLAY } }
  let last := b.yld.recs.headD { t := 0, speeds := [], work := false, secs := 0, tl := none, tr := none }
  match kind with
  | 1 =>
    if last.work || last.speeds.getD 3 0 * 2 < b.get R.YLD_MF_REF_N_REF * 1000 || 200 ≤ c.count then b
    else
      let b := b.modYld fun y => { y with cal := { y.cal with sum := c.sum + rquot (signals.foldl (· + ·) 0) (max 1 signals.length), count := c.count + 1 } }
      if c.count + 1 = 200 then ready b ((rquot b.yld.cal.sum 200).toNat / 16) 0 else b
  | 2 =>
    if !b.acting mHARVEST || b.mode.facts.mf21 then b
    else
      let b := b.modYld fun y => { y with cal := { y.cal with sum := c.sum + wet } }
      let a := (b.yld.cal.sum / 1000).toNat
      let b := b.set R.YLD_CAL_ACC_G (min (2 ^ 32 - 1) a)
      if a = 0 || b.get R.YLD_CAL_W_G = 0 then b else ready b (b.use R.YLD_MF_REF_K_M * b.get R.YLD_CAL_W_G / a) 0
  | 3 =>
    if !b.acting mHARVEST then b
    else if !c.edge then
      if rise && 300 ≤ c.low then b.modYld fun y => { y with cal := { y.cal with edge := true, tau := y.tau, sigma := y.sigma, mass := [], speeds := [0, 0, 0, 0] } }
      else
        let low := decide (wet * 50 < c.mean)
        b.modYld fun y => { y with cal := { y.cal with low := if low then c.low + 1 else 0, mean := if low then c.mean else wet } }
    else if 600 ≤ c.mass.length then b
    else
      let b := b.modYld fun y => { y with cal := { y.cal with mass := c.mass ++ [wet], speeds := (c.speeds.zip last.speeds).map fun e => e.1 + e.2, tau := if c.mass.length * 100000 ≤ y.tau then y.tau else c.tau, sigma := if c.mass.length * 100000 ≤ y.tau then y.sigma else c.sigma } }
      let c := b.yld.cal
      if c.mass.length < 600 then b
      else
        let mean := (c.mass.drop 500).foldl (· + ·) 0 / 100
        let reach := fun (pct : Nat) => (List.range 600).find? fun k => decide (mean * pct ≤ c.mass.getD k 0 * 100)
        match reach 50, reach 16, reach 84 with
        | some t5, some t1, some t8 =>
          let us_ := fun (k : Nat) => (k + 1) * 100000
          let fix := b.use R.YLD_TM_FIX_T_FIX * 10000
          let b := b.modYld fun y => { y with cal := { y.cal with refs := c.speeds.map fun x => x / 600000 } }
          if mean = 0 then b.set R.YLD_EV_CAL_FAIL 1
          else ready b (4096 * (us_ t5 - fix) / max 1 (c.tau - fix)) (4096 * (us_ t8 - us_ t1) / max 1 (2 * c.sigma))
        | _, _, _ => b.set R.YLD_EV_CAL_FAIL 1
  | _ => b

/-- ACCEPT copies the candidate of the last run into the calibration fields. -/
def Block.yldAccept (b : Block) : Block :=
  if !b.flag R.YLD_CAL_STAT_READY then b
  else
    let b := { b with sys := { b.sys with calKept := true } }
    let first := b.get R.YLD_CAL_CAND_FIRST
    let second := b.get R.YLD_CAL_CAND_SECOND
    match b.get R.YLD_CAL_STAT_RUN with
    | 1 => b.setS R.YLD_MF_CFG_S0 (first * 16)
    | 2 => b.setS R.YLD_MF_REF_K_M first
    | 3 => b.each 4 fun s b =>
      let b := (b.setS (R.YLD_TM_STAGEs_R s) (max 1 (min 65535 (b.get (R.YLD_TM_STAGEs_R s) * first / 4096)))).setS (R.YLD_TM_STAGEs_CV s) (min 255 (b.get (R.YLD_TM_STAGEs_CV s) * second / 4096))
      (b.set (R.YLD_TM_REFs_N_REF s) (b.yld.cal.refs.getD s 0)).set (R.YLD_TM_REFs_CAL s) 1
    | _ => b

/-! ## The step (R379 to R402) -/

/-- PASS rises (R392). -/
def Block.newPass (b : Block) : Block := b.set R.YLD_STATUS_PASS (if b.get R.YLD_STATUS_PASS = 65535 then 1 else b.get R.YLD_STATUS_PASS + 1)

/-- What the step records: speeds held up to 1 s, WORK, SECTIONS, torques; sweeps and fused states of 64 s; the rise of WORK. -/
def Block.yldRecord (b : Block) (t : Nat) (pkts : List (Fin 16 × Packet)) : Block × Bool :=
  let prev := (b.yld.recs.head?.map (·.speeds)).getD [0, 0, 0, 0]
  let vals := (List.range 4).map fun s => b.yldValue (3 + s)
  let speeds := (List.range 4).map fun s => match vals.getD s none with | some v => v.toNat | none => prev.getD s 0
  let work : Bool := match b.yldSlot 11 with | none => true | some _ => (b.yldValue 11).any fun (v : Int) => decide (0 < v)
  let secs := match b.yldSlot 12 with
    | none => 0xFFFF
    | some k => if (b.yld.slots.getD k {}).sig.conf = 0 then (b.yld.recs.head?.map (·.secs)).getD 0xFFFF else (b.yld.slots.getD k {}).sig.raw.toNat
  let sweep := (b.yldPackets 9 pkts).map fun p => (b.unstamp p.stamp, (List.range 32).map fun n =>
    let o := 16 + 20 * n
    if bytesAt p.data (o + 16) 1 = 0 || bytesAt p.data o 1 ≠ 2 then none else some ((bytesAt p.data (o + 6) 2 : Int) - bytesAt p.data (o + 4) 2))
  let fused := (b.yldPackets 10 pkts).map fun p => (b.unstamp p.stamp, p.data)
  let keep := t - 64 * sec
  let rise := work && !b.yld.workWas
  let gap := decide (b.use R.YLD_PLACE_PASS_GAP_S * 10 ≤ b.yld.workOff)
  let b := b.modYld fun y => { y with
    recs := ({ t := t, speeds := speeds, work := work, secs := secs, tl := (b.yldValue 7).map Int.toNat, tr := (b.yldValue 8).map Int.toNat } :: y.recs).take 640
    stale := (List.range 4).map fun s => if (vals.getD s none).isSome then 0 else y.stale.getD s 0 + 1
    sweeps := (sweep.reverse ++ y.sweeps).filter fun x => decide (keep ≤ x.1)
    fused := (fused.reverse ++ y.fused).filter fun x => decide (keep ≤ x.1)
    workWas := work, workOff := if work then 0 else y.workOff + 1 }
  (b.when (rise && gap && b.yldState != ySTOPPED) (·.newPass), rise)

/-- Arrived wet mass in mg with the lowest CONF, the signals, and the moisture of the step. -/
def Block.arrived (b : Block) (prev : Nat) (pkts : List (Fin 16 × Packet)) : Block × Nat × Nat × List Int :=
  let ne := ((b.yld.recs.head?.map (·.speeds)).getD []).getD 3 0
  let span := ((b.yldSlot 1).map fun k => b.get (R.YLD_INk_SPAN_SPAN k)).getD 0
  let all := b.yldSignals 1 pkts
  let late := pkts.filter fun e => decide (b.yldEnd e ≤ prev)
  let ok := all.filter fun e => e.1.fresh
  let flows := ok.map fun e => b.massFlow (e.1.raw / (2 ^ e.1.f : Nat)) ne
  let b := (b.inc R.YLD_CNT_LATE_COUNT late.length).when (flows.any (·.2)) fun b => b.set R.YLD_EV_PLATE_EV 1
  let wet := (flows.map fun q => q.1 * span / 100000).foldl (· + ·) 0
  let mo := (b.yldSignals 2 pkts).filter fun e => e.1.fresh
  let conf := (ok.map fun e => e.1.conf).foldl min 255
  let held := wet != 0 && mo.isEmpty
  let conf := if held then min 128 conf else (mo.map fun e => e.1.conf).foldl min conf
  let b := b.when (!mo.isEmpty) fun b =>
    let mean := rquot ((mo.map fun e => (b.moistOf (e.1.raw / (2 ^ e.1.f : Nat)) : Int)).foldl (· + ·) 0) mo.length
    b.modYld fun y => { y with moist := some mean.toNat }
  (b, wet, conf, ok.map fun e => e.1.raw / (2 ^ e.1.f : Nat))

/-- The dry mass of a step enters the timeline (R385), or is spread over the last known transit (SMEAR). -/
def Block.placeMass (b : Block) (t dry moist conf method tau : Nat) (range : Bool) : Block :=
  let tk : Int := t / 1000
  let add := fun (b : Block) (i : Int) (m : Nat) => b.modYld fun y => { y with slices := addSlice i m (m * moist) conf range y.slices }
  let b := b.modYld fun y => { y with a := y.a + dry }
  let floor := (b.yld.slices.head?.map (·.i)).getD (-(2 ^ 62))
  let c := tk - tau
  let n := c / 100000
  let b :=
    if method = 2 then
      let (lo, hi) := match b.yld.good with
        | some (t', s') => ((tk - t' - 3 * s') / 100000, (tk - t' + 3 * s') / 100000)
        | none => ((tk - 40000000) / 100000, (tk - 4000000) / 100000)
      let is := (List.range (hi - max lo floor + 1).toNat).map fun (k : Nat) => max lo floor + (k : Int)
      let is := if is.isEmpty then [max hi floor] else is
      let b := (is.zip (shareOut dry (is.map fun _ => 1))).foldl (fun b e =>
        let b := add b e.1 e.2
        b.modYld fun y => { y with slices := y.slices.map fun x => if x.i = e.1 then { x with q := x.q + e.2 } else x }) b
      b
    else
      let i := (c - 50000) / 100000
      let fr := (c - 50000 - 100000 * i).toNat
      let m1 := dry * fr / 100000
      add (add b (max floor i) (dry - m1)) (max floor (i + 1)) m1
  b.modYld fun y => { y with newest := some (match y.newest with | some m => max m n | none => n), slices := fillSlices n y.slices }

/-- The status SAMPLE of a step (R396). -/
def Block.yldStatus (b : Block) : Block :=
  let y := b.yld
  let c := b.get R.YLD_STATUS_C_TM
  let data := le 2 (min 65535 (y.tau / 10000)) ++ le 2 (min 65535 (y.sigma / 10000)) ++ le 2 (min 65535 (y.tauHf / 10000)) ++ [b.get R.YLD_STATUS_METHOD, c] ++ le 2 (b.get R.YLD_STATUS_PASS) ++ [b.yldState, 0, 0, 0, 0, 0]
  let b := { b with tile := { b.tile with status := FusedIn.add b.now b.tile.status (b.atIsland yldOrigin 1 5) data b.sys.mtime false } }
  b.sample yldOrigin 1 data c (c != 0)

/-- Transitions of Table 16.7 at a step. -/
def Block.yldModes (b : Block) (l : Nat) : Block :=
  let harvest := b.acting mHARVEST && !b.withheld mHARVEST 0
  let st := b.yldState
  if b.acting mREPLAY && (st == yMAPPING || st == yDRAINING) then (b.yldFlush.set R.YLD_STATUS_STATE yREPLAYING).modYld fun y => { y with drainEnd := none }
  else if !b.acting mREPLAY && st == yREPLAYING then b.yldEmpty.set R.YLD_STATUS_STATE yIDLE
  else if st = yIDLE && harvest then b.set R.YLD_STATUS_STATE yMAPPING
  else if st = yMAPPING && !harvest then
    (b.set R.YLD_STATUS_STATE yDRAINING).modYld fun y => { y with drainEnd := some (b.now + min (60 * sec) ((b.yld.tau + 2 * l * 100000 + 2000000) * 1000)) }
  else if st = yDRAINING && harvest then (b.set R.YLD_STATUS_STATE yMAPPING).modYld fun y => { y with drainEnd := none }
  else b

/-- One step of the model stage with the packets that arrived since the last one; a sample whose end lies beyond this step waits for its own (R379). -/
def Block.yieldStep (b : Block) (pkts : List (Fin 16 × Packet)) : Block :=
  if b.yldState = ySTOPPED || (b.island 1).run ≠ .running then b
  else
    let prev := b.yld.stepAt
    let b := b.toBoundary (100 * ms) (prev.any fun t => decide (b.sys.mtime ≤ t))
    let t := b.sys.mtime
    let b := b.boundary 0x46000000 0x46001000
    let (pkts, early) := ((b.yld.early ++ pkts).filter b.yldTakes).partition fun e => decide (b.yldEnd e ≤ t)
    let b := b.modYld fun y => { y with early := early }
    let b := b.eachOf pkts fun e b =>
      let k := e.1.val
      b.modYld fun s => { s with slots := updAt s.slots k fun x => SolSlot.ofInst ((b.yldCfg k).arrive e.2 b.now x.toInst).1 }
    let b := b.each 16 fun k b => b.yldLatch k
    let (b, rise) := b.yldRecord t pkts
    let (tau, range, sigma, hf) := b.transport
    let c := b.cTm range
    let method := b.yldMethod c
    let l := ceilDiv (3 * sigma) 100000
    let b := ((b.set R.YLD_STATUS_C_TM c).set R.YLD_STATUS_METHOD method).set R.YLD_TM_B_STALE 0
    let b := b.when range fun b => b.set R.YLD_EV_TAU_RANGE_EV 1
    let b := b.modYld fun y => { y with tau := tau, sigma := sigma, tauHf := hf, stepAt := some t, good := if 0 < c then some (tau, sigma) else y.good }
    let b := b.yldModes l
    let (b, wet, conf, sigs) := b.arrived (prev.getD 0) pkts
    let moist := b.yld.moist.getD 0
    let dry := wet * (10000 - moist) / 10000
    let b := b.calStep sigs wet rise
    let st := b.yldState
    let b := if st = yIDLE || st = ySTOPPED then b
      else
        let b := b.placeMass t dry moist conf method tau range
        let n := b.yld.newest.getD 0
        let b := b.yldEstimate method sigma l n
        b.finalise (b.yld.slices.filter fun x => decide (x.i + 2 * (l : Int) ≤ n)) method c false
    b.yldStatus

/-- PASS and SEASON share a record ring (R392). -/
def passKept : List Fld := [R.YLD_STATUS_PASS, R.YLD_T_SEASON_SEASON]

def execYieldStep (pkts : List (Fin 16 × Packet)) (s : State) : Result := s.goKept passKept fun b => b.yieldStep pkts

/-- The drain time ends: the rest is flushed. -/
def execDrainExpired (s : State) : Result := s.go fun b =>
  match b.yld.drainEnd with
  | none => b
  | some t =>
    let b := b.reach t
    if b.yldState = yDRAINING then (b.yldFlush.set R.YLD_STATUS_STATE yIDLE).modYld fun y => { y with drainEnd := none } else b

/-- An acknowledgement releases every contribution packet up to its CSEQ. -/
def execYieldAck (cseq : BitVec 32) (s : State) : Result := s.go fun b => b.modYld fun y => { y with
  backlog := y.backlog.filter fun e => decide (2 ^ 31 ≤ (cseq.toNat + 2 ^ 32 - e.cseq) % 2 ^ 32) }

/-- After a loss of island 5 the backlog is sent again from the first packet not acknowledged (R404). -/
def Block.yldResend (b : Block) : Block := b.eachOf b.yld.backlog fun e b => b.post e.pkt

/-! ## Stop and start -/

def yldCounters : List Fld := [R.YLD_UNPLACED_G, R.YLD_DROPPED_G, R.YLD_CNT_LATE_COUNT]

def Block.yldClear (b : Block) : Block := (b.clear yldCounters).modYld fun y => { y with unplaced := 0, dropped := 0 }

/-- START: the window is empty, A and F are 0, CSEQ begins at 0; packets not yet acknowledged stay in the backlog (R396). -/
def Block.yldStart (b : Block) : Block :=
  let b := (b.yldClear.resync fun o => o == yldOrigin).set R.YLD_TM_B_STALE 1
  { (b.set R.YLD_STATUS_STATE yIDLE) with yld := { cal := { refs := b.yld.cal.refs }, backlog := b.yld.backlog } }

/-- STOP or QUIESCE: a flush, then STOPPED. -/
def Block.yldStop (b : Block) (byStop : Bool) : Block :=
  if b.yldState = ySTOPPED then b
  else (b.yldFlush.set R.YLD_STATUS_STATE ySTOPPED).modYld fun y => { y with byStop := byStop, drainEnd := none }

def execYldStop (s : State) : Result := s.ask s.blk.yldRefusal (·.yldStop true)
def execYldStart (s : State) : Result := s.ask s.blk.yldRefusal fun b => if b.yldState = ySTOPPED && b.yld.byStop then b.yldStart else b
def execYldClrCnt (s : State) : Result := s.ask s.blk.yldRefusal (·.yldClear)
def execYldNewPass (s : State) : Result := s.askKept s.blk.yldRefusal passKept (·.newPass)
def execYldFlush (s : State) : Result := s.ask s.blk.yldRefusal fun b => if b.yldState = ySTOPPED then b else b.yldFlush

/-- A read of YLD_TM latches YLD_TM_B; a read of YLD_LEDGER_A latches YLD_LEDGER_F. -/
def Block.yldTmLatch (b : Block) : Block :=
  ((b.set R.YLD_TM_TAU (min 65535 (b.yld.tau / 10000))).set R.YLD_TM_SIGMA (min 65535 (b.yld.sigma / 10000))).set R.YLD_TM_B_TAU_HF (min 65535 (b.yld.tauHf / 10000))
def Block.yldLedgerLatch (b : Block) : Block := (b.set R.YLD_LEDGER_A_G (min (2 ^ 32 - 1) (b.yld.a / 1000))).set R.YLD_LEDGER_F_G (min (2 ^ 32 - 1) (b.yld.f / 1000))

def execYldTmRead (s : State) : Result := s.go (·.yldTmLatch)
def execYldLedgerRead (s : State) : Result := s.go (·.yldLedgerLatch)

/-- A reset of island 1 loses the window and the backlog; PASS and the calibration fields are retained (R404). -/
def Block.yldReset (b : Block) : Block :=
  let vals := yldRetained.map fun f => (f, b.get f)
  let mapped := b.yldState != ySTOPPED && b.yldState != yIDLE
  let b := { (b.resetRegs 0x46000000 0x46001000) with yld := {} }
  let b := b.eachOf vals fun e b => b.set e.1 e.2
  b.setB R.YLD_EV_LOSS_EV mapped

end Sys2Proof.Machine
end

