-- ==== Sys2Proof/Machine/TileEngine.lean ====
section
/-! DEFINITION. The tile engine of the yield mapper: cells, tiles in the store, the prior map's feed-forward ratio and the fleet's deltas (R394 to R406). A TILE_PUT is written at once where the store writes, else it waits in T0 staging (log entry 78). -/

namespace Sys2Proof.Machine

open Sys2Proof

def tileOrigin : Nat := org 5 2 0
def ffOrigin : Nat := org 5 2 1
def deltaOrigin : Nat := org 5 2 2
def tileTarget : Nat := org 5 2 127

def Block.modTile (b : Block) (f : TileEng → TileEng) : Block := { b with tile := f b.tile }
def Block.tileRuns (b : Block) : Bool := b.flag R.YLD_T_STATUS_RUN && (b.island 5).run == .running
def Block.tileRefusal (b : Block) : Option Nat := b.unitRefusal tileTarget

/-! ## Cell records (R394, R395) -/

/-- The 16 bytes of a cell record (Table 16.3). -/
def CellRec.bytes (c : CellRec) : List Nat := le 4 c.mass ++ le 2 c.moist ++ le 2 c.cover ++ [c.conf, c.fl] ++ le 2 c.pass ++ [c.sec, c.count, 0, 0]

/-- The cell record that 16 bytes hold. -/
def cellRec (d : List Nat) : CellRec :=
  { mass := bytesAt d 0 4, moist := bytesAt d 4 2, cover := bytesAt d 6 2, conf := bytesAt d 8 1, fl := bytesAt d 9 1, pass := bytesAt d 10 2, sec := bytesAt d 12 1, count := bytesAt d 13 1 }

/-- Moisture of two masses together; of no mass at all the spec gives none. -/
def mixMoist (m1 p1 m2 p2 total : Nat) : Nat :=
  if total = 0 then Config.ratioOfZero ((p1 : Int) + p2) % 65536 else min 65535 (roundDiv ((p1 * m1 + p2 * m2 : Nat) : Int) total).toNat

/-- A contribution changes a cell (R395). -/
def CellRec.apply (c : CellRec) (x : Contribution) : CellRec :=
  let mass := min (2 ^ 32 - 1) (c.mass + x.mass)
  let isOver := (c.cover &&& x.bits) != 0 && c.pass != x.pass
  { mass := mass, moist := mixMoist c.mass c.moist x.mass x.moist mass, cover := c.cover ||| x.bits
    conf := if c.mass = 0 && c.cover = 0 then x.conf else min c.conf x.conf
    fl := c.fl ||| x.fl ||| b2n isOver, pass := if c.pass = 0 then x.pass else c.pass, sec := x.sec, count := min 255 (c.count + 1) }

/-- Two layers of one cell merged (R398). What the merged record holds beside mass, cover, confidence and moisture is not stated. -/
def CellRec.merge (c x : CellRec) : CellRec :=
  if c = {} then x else if x = {} then c
  else
    let mass := min (2 ^ 32 - 1) (c.mass + x.mass)
    let free := fun (k w : Nat) => lowBits w (Config.freeReal 1620 [k, c.fl, c.pass, c.sec, c.count, x.fl, x.pass, x.sec, x.count])
    { mass := mass, moist := mixMoist c.mass c.moist x.mass x.moist mass, cover := c.cover ||| x.cover, conf := min c.conf x.conf, fl := free 0 8, pass := free 1 16, sec := free 2 8, count := free 3 8 }

/-- The record of a cell; a cell never written is empty. -/
def cellAt (l : List (Nat × CellRec)) (i : Nat) : CellRec := ((l.find? (·.1 == i)).map (·.2)).getD {}

/-- The list of cells with one replaced. -/
def putCell (l : List (Nat × CellRec)) (i : Nat) (c : CellRec) : List (Nat × CellRec) := (l.filter (·.1 != i)) ++ [(i, c)]

/-! ## Tiles in the store (R397, R425) -/

def TilePart.isOf (p : TilePart) (season layer : Nat) (tx ty : Int) : Bool := p.season == season && p.layer == layer && p.tx == tx && p.ty == ty

/-- The store's parts with one put in place: its generation rises by 1. -/
def putPart (l : List TilePart) (p : TilePart) : List TilePart :=
  let old := l.find? fun x => x.isOf p.season p.layer p.tx p.ty && x.part == p.part
  (l.filter fun x => !(x.isOf p.season p.layer p.tx p.ty && x.part == p.part)) ++ [{ p with gen := (old.map (·.gen + 1)).getD 0 }]

/-- The cells that a quarter row holds. -/
def TilePart.cells (p : TilePart) : List (Nat × CellRec) :=
  if p.part = 0 then [] else
    ((List.range 128).map fun k => ((p.part - 1) * 128 + k, cellRec ((p.bytes.drop (16 * k)).take 16))).filter fun e => e.2 != {}

/-- The season store writes: it runs or stops, and a drive of its set is ONLINE. -/
def Block.storeWrites (b : Block) : Bool :=
  (b.get R.SST_STATUS_STATE == 2 || b.get R.SST_STATUS_STATE == 3) && (List.range 4).any fun d => b.bitOf R.SST_POLICY_DRIVES d && b.get (R.SST_Dd_STAT_STATE d) == 1

/-- The acknowledgement of every contribution packet up to a CSEQ (R396). -/
def Block.tileAck (b : Block) (c : Nat) : Block := (b.set R.YLD_T_ACK_CSEQ c).sample tileOrigin 0 (le 4 c)

/-- Staged tile parts are put in place, and what waited for them is acknowledged. -/
def Block.landParts (b : Block) : Block :=
  let due := b.tile.ackDue
  let b := { b with sst := { b.sst with parts := [] }, tile := { b.tile with stored := b.sst.parts.foldl putPart b.tile.stored, ackDue := none } }
  match due with
  | some c => b.tileAck c
  | none => b
def Block.putParts (b : Block) : Block := if b.sst.parts.isEmpty || !b.storeWrites then b else b.landParts

/-- Tile parts enter T0 staging, and are written where the store writes (log entry 78). -/
def Block.stageParts (b : Block) (l : List TilePart) : Block := Block.putParts { b with sst := { b.sst with parts := b.sst.parts ++ l } }

/-- The tile parts as the engine finds them: those on the drives, and those still staged. -/
def Block.tileParts (b : Block) : List TilePart := b.sst.parts.foldl putPart b.tile.stored

/-- A tile as the store holds it. -/
def storedTile (l : List TilePart) (season layer : Nat) (tx ty : Int) : Option (List (Nat × CellRec)) :=
  let ps := l.filter fun p => p.isOf season layer tx ty
  if ps.isEmpty then none else some (ps.flatMap TilePart.cells)

/-- SENDER of a fleet layer, as its tile header holds it. -/
def storedSender (l : List TilePart) (season layer : Nat) : Option Nat :=
  (l.find? fun p => p.season == season && p.layer == layer && p.part == 0).map fun p => bytesAt p.bytes 20 8

/-- The header of a tile (Table 16.5). The own layer's unit is this module: its SENDER is a digest of the unit identifier (R467). -/
def Block.tileHeader (b : Block) (t : Tile) : List Nat :=
  let who := if t.layer = 0 then b.get R.EHR_SENDER_LO_SENDER + 2 ^ 32 * b.get R.EHR_SENDER_HI_SENDER else b.tile.senders.getD (t.layer - 1) 0
  let h := le 4 (b.get R.YLD_T_SEASON_SEASON) ++ [b.get R.YLD_T_GRID_ZONE, b.get R.YLD_T_GRID_SOUTH, t.layer, 0] ++ le 2 (lowBits 16 t.tx) ++ le 2 (lowBits 16 t.ty) ++
    le 4 (b.get R.YLD_T_E0_M) ++ le 4 (b.get R.YLD_T_N0_M) ++ le 8 who ++ le 4 (t.cells.filter fun e => e.2.cover != 0).length ++ le 8 b.counter ++ List.replicate 20 0
  h ++ le 4 (crc32 h)

/-- Dirty rows of a tile written to T0: its header and the quarter rows. -/
def Block.writeTile (b : Block) (t : Tile) : Block :=
  if t.dirty.isEmpty then b
  else
    let part := fun (k : Nat) (d : List Nat) => ({ season := b.get R.YLD_T_SEASON_SEASON, layer := t.layer, tx := t.tx, ty := t.ty, part := k, bytes := d } : TilePart)
    let rows := t.dirty.flatMap fun r => (List.range 4).map fun q =>
      let k := 4 * r + q
      part (k + 1) ((List.range 128).flatMap fun i => (cellAt t.cells (128 * k + i)).bytes)
    b.stageParts (part 0 (b.tileHeader t) :: rows)

/-- Every dirty row of every tile is written to T0; the acknowledgement names the highest CSEQ that no waiting contribution withholds (R396, R397). -/
def Block.writeDirty (b : Block) : Block :=
  let b := b.eachOf b.tile.tiles fun t b => b.writeTile t
  let b := b.modTile fun e => { e with tiles := e.tiles.map fun t => if t.dirty.isEmpty then t else { t with dirty := [], wrote := b.sys.mtime } }
  match b.tile.applied with
  | none => b
  | some c =>
    let c := (b.tile.queue.head?.map fun q => q.1 + 2 ^ 32 - 1).getD c % 2 ^ 32
    if b.sst.parts.isEmpty then b.tileAck c else b.modTile fun e => { e with ackDue := some c }

def Block.dirtyRows (b : Block) : Nat := (b.tile.tiles.map fun t => t.dirty.length).foldl (· + ·) 0

/-! ## Deltas (R399) -/

/-- The delta of a live tile that changed since its last one. -/
def Block.sendDelta (b : Block) (tx ty : Int) : Block :=
  match b.tile.tiles.find? fun t => t.layer == 0 && t.tx == tx && t.ty == ty with
  | none => b
  | some t =>
    if t.delta.isEmpty || b.isLost 1 then b
    else
      let dseq := ((b.tile.sent.find? fun e => e.1 == tx && e.2.1 == ty).map (·.2.2)).getD 0
      let parts := chunk 201 (t.delta.length / 201 + 1) t.delta
      let b := b.eachOf ((List.range parts.length).zip parts) fun e b =>
        let data := le 4 (b.get R.YLD_T_SEASON_SEASON) ++ [b.get R.YLD_T_GRID_ZONE, b.get R.YLD_T_GRID_SOUTH] ++ le 2 (lowBits 16 tx) ++ le 2 (lowBits 16 ty) ++
          le 4 dseq ++ le 2 e.1 ++ le 2 parts.length ++ le 2 e.2.length ++ List.replicate 12 0 ++ e.2.flatMap fun i => le 4 i ++ (cellAt t.cells i).bytes
        (b.sample deltaOrigin 0 data).inc R.YLD_T_CNT_B_DELTAS_TX
      b.modTile fun s => { s with
        sent := (s.sent.filter fun e => !(e.1 == tx && e.2.1 == ty)) ++ [(tx, ty, (dseq + 1) % 2 ^ 32)]
        tiles := s.tiles.map fun x => if x.layer = 0 ∧ x.tx = tx ∧ x.ty = ty then { x with delta := [] } else x }

/-! ## The cache (R397) -/

/-- A tile enters the cache; a 33rd of its kind evicts the least recently written one, after the dirty rows have been written and acknowledged. -/
def Block.cacheTile (b : Block) (layer : Nat) (tx ty : Int) : Block :=
  if b.tile.tiles.any fun t => t.layer == layer && t.tx == tx && t.ty == ty then b
  else
    let kin := b.tile.tiles.filter fun t => (t.layer == 0) == (layer == 0)
    let b := if kin.length < 32 then b
      else match kin.foldl (fun (a : Option Tile) t => match a with | none => some t | some x => if t.wrote < x.wrote then some t else a) none with
        | none => b
        | some t =>
          let b := (b.when (!t.dirty.isEmpty) (·.writeDirty)).when (t.layer == 0) fun b => b.sendDelta t.tx t.ty
          (b.modTile fun s => { s with tiles := s.tiles.filter fun x => !(x.layer == t.layer && x.tx == t.tx && x.ty == t.ty) }).inc R.YLD_T_CNT_A_EVICTIONS
    let got := storedTile b.tileParts (b.get R.YLD_T_SEASON_SEASON) layer tx ty
    let b := b.modTile fun s => { s with tiles := s.tiles ++ [{ layer := layer, tx := tx, ty := ty, cells := got.getD [] }] }
    (b.inc R.YLD_T_CNT_A_READS (b2n got.isSome)).set R.YLD_T_STATUS_LIVE (b.tile.tiles.filter (·.layer == 0)).length

/-- A contribution applies to its cached tile. -/
def Block.applyContribution (b : Block) (x : Contribution) : Block :=
  let row := x.cell / 512
  let b := b.modTile fun s => { s with tiles := s.tiles.map fun t =>
    if t.layer = 0 ∧ t.tx = x.tx ∧ t.ty = x.ty then
      { t with cells := putCell t.cells x.cell ((cellAt t.cells x.cell).apply x), dirty := if t.dirty.contains row then t.dirty else t.dirty ++ [row]
               delta := if t.delta.contains x.cell then t.delta else t.delta ++ [x.cell] }
    else t }
  if 256 ≤ b.dirtyRows then b.writeDirty else b

/-- Contribution `k` of a packet. -/
def contributionAt (d : List Nat) (k : Nat) : Contribution :=
  let o := 16 + 24 * k
  { tx := signed 16 (bytesAt d o 2), ty := signed 16 (bytesAt d (o + 2) 2), cell := bytesAt d (o + 4) 4 % 2 ^ 18, mass := bytesAt d (o + 8) 4, moist := bytesAt d (o + 12) 2,
    bits := bytesAt d (o + 14) 2, conf := bytesAt d (o + 16) 1, fl := bytesAt d (o + 17) 1, pass := bytesAt d (o + 18) 2, sec := bytesAt d (o + 20) 1 }

/-- A contribution packet at unit 0: a replay's passes to T1 (R403), any other applies, or waits for its tile's read-back. -/
def Block.contributionPacket (b : Block) (p : Packet) : Block :=
  if !b.tileRuns || p.error then b
  else if bytesAt p.data 6 1 = 0xFF then
    (b.inc R.YLD_T_CNT_C_REPLAY_CNT).send { p with origin := tileOrigin, replay := true }
  else
    let cseq := bytesAt p.data 0 4
    let b := b.modTile fun s => { s with applied := some cseq }
    b.each (bytesAt p.data 4 2) fun k b =>
      let x := contributionAt p.data k
      if b.tile.tiles.any fun t => t.layer == 0 && t.tx == x.tx && t.ty == x.ty then b.applyContribution x
      else b.modTile fun s => { s with queue := s.queue ++ [(cseq, x)], reading := if s.reading.any fun r => r.1 == x.tx && r.2.1 == x.ty then s.reading else s.reading ++ [(x.tx, x.ty, b.now)] }

def execContributionPacket (p : Packet) (s : State) : Result := s.go fun b => b.contributionPacket p

/-! ## Lookups (R406) -/

/-- Layers that a lookup reads. -/
def lookupLayers (layer : Nat) : List Nat := if layer = 15 then List.range 9 else [layer]

/-- The lookup of QTILE, INDEX and LAYER is answered, waits for a read-back, or names no tile. -/
def Block.lookup (b : Block) : Block :=
  let tx := b.geti R.YLD_T_QTILE_TX
  let ty := b.geti R.YLD_T_QTILE_TY
  let i := b.get R.YLD_T_QCELL_INDEX
  let layers := lookupLayers (b.get R.YLD_T_QCELL_LAYER)
  let cached := fun l => b.tile.tiles.find? fun t => t.layer == l && t.tx == tx && t.ty == ty
  let held := fun l => (storedTile b.tileParts (b.get R.YLD_T_SEASON_SEASON) l tx ty).isSome
  let words := fun (b : Block) (d : List Nat) => (b.each 4 fun n b => b.set (R.YLD_T_QWn_BYTES n) (if n = 0 then bytesAt d 0 4 else 0)).modTile fun s => { s with lookup := d }
  if layers.any fun l => (cached l).isNone && held l then
    (words (b.set R.YLD_T_QSTAT_STATE 1) (List.replicate 16 0)).modTile fun s => { s with reading := if s.reading.any fun r => r.1 == tx && r.2.1 == ty then s.reading else s.reading ++ [(tx, ty, b.now)] }
  else if layers.any fun l => (cached l).isSome then
    words (b.set R.YLD_T_QSTAT_STATE 0) ((layers.map fun l => cellAt (((cached l).map (·.cells)).getD []) i).foldl CellRec.merge {}).bytes
  else words (b.set R.YLD_T_QSTAT_STATE 2) (List.replicate 16 0)

def execTileLookup (index : Fin 262144) (layer : Fin 16) (s : State) : Result :=
  s.ask s.blk.tileRefusal fun b =>
    let b := (b.set R.YLD_T_QCELL_INDEX index).set R.YLD_T_QCELL_LAYER (if 9 ≤ layer.val then 15 else layer)
    if b.tileRuns then b.lookup else b

/-- The read of word 0 latches words 1 to 3. -/
def Block.qwLatch (b : Block) : Block := b.each 3 fun n b => b.set (R.YLD_T_QWn_BYTES (n + 1)) (if b.get R.YLD_T_QSTAT_STATE = 0 then bytesAt b.tile.lookup (4 * n + 4) 4 else 0)
def execYldQwRead (s : State) : Result := s.go (·.qwLatch)

/-! ## Read-back (R397) -/

/-- A tile comes back from the store, or is created empty; what waited for it applies in arrival order. -/
def Block.readBack (b : Block) (tx ty : Int) : Block :=
  if !b.tileRuns || b.isLost 1 || !b.tile.reading.any fun r => r.1 == tx && r.2.1 == ty then b
  else
    let mine := fun (c : Contribution) => c.tx == tx && c.ty == ty
    let due := b.tile.queue.filter fun q => mine q.2
    let season := b.get R.YLD_T_SEASON_SEASON
    let layers := (List.range 9).filter fun l => (l == 0 && !due.isEmpty) || (storedTile b.tileParts season l tx ty).isSome
    let b := b.modTile fun s => { s with queue := s.queue.filter fun q => !mine q.2, reading := s.reading.filter fun r => !(r.1 == tx && r.2.1 == ty) }
    let b := b.eachOf layers fun l b => b.cacheTile l tx ty
    let b := b.eachOf due fun q b => b.applyContribution q.2
    b.when (b.get R.YLD_T_QSTAT_STATE == 1 && b.geti R.YLD_T_QTILE_TX == tx && b.geti R.YLD_T_QTILE_TY == ty) (·.lookup)

def execTileReadbackDone (tx ty : Int) (s : State) : Result := s.go fun b => b.readBack tx ty

/-- A read-back exceeds 500 ms; the queue keeps waiting. -/
def execTileWait (tx ty : Int) (s : State) : Result := s.go fun b =>
  match b.tile.reading.find? fun r => r.1 == tx && r.2.1 == ty with
  | some r => (b.reach (r.2.2 + 500 * ms)).set R.YLD_T_EV_TILE_WAIT_EV 1
  | none => b

/-! ## Periods -/

/-- FLUSH_S elapses. -/
def execTileFlush (s : State) : Result := s.go fun b =>
  if !b.tileRuns then b
  else
    let b := b.reach (b.tile.flushAt + b.use R.YLD_T_TIMES_FLUSH_S * sec)
    b.writeDirty.modTile fun t => { t with flushAt := b.now }

/-- Every live tile that changed since its last delta sends one. -/
def Block.sendDeltas (b : Block) : Block := b.eachOf (b.tile.tiles.filter (·.layer == 0)) fun t b => b.sendDelta t.tx t.ty

/-- DELTA_S elapses. -/
def execDeltaSend (s : State) : Result := s.go fun b =>
  if !b.tileRuns then b
  else
    let b := b.reach (b.tile.deltaAt + b.use R.YLD_T_TIMES_DELTA_S * sec)
    b.sendDeltas.modTile fun t => { t with deltaAt := b.now }

/-! ## The feed-forward ratio (R398) -/

/-- The prior map: cells of the prior season, merged over the layers, by their centres in mm from E0, N0. -/
def Block.priorCells (b : Block) : List (Int × Int × CellRec) :=
  let season := b.get R.YLD_T_PRIOR_SEASON
  let ps := b.tileParts.filter fun p => p.season == season
  let all : List (Int × Int × Nat × CellRec) := ps.flatMap fun p => p.cells.map fun e => (p.tx, p.ty, e.1, e.2)
  let merged := all.foldl (fun (a : List (Int × Int × Nat × CellRec)) e =>
    if a.any fun x => x.1 == e.1 && x.2.1 == e.2.1 && x.2.2.1 == e.2.2.1 then
      a.map fun x => if x.1 = e.1 ∧ x.2.1 = e.2.1 ∧ x.2.2.1 = e.2.2.1 then (x.1, x.2.1, x.2.2.1, CellRec.merge x.2.2.2 e.2.2.2) else x
    else a ++ [e]) []
  merged.map fun e => (e.1 * 256000 + (e.2.2.1 % 512 * 500 + 250 : Nat), e.2.1 * 256000 + (e.2.2.1 / 512 * 500 + 250 : Nat), e.2.2.2)

/-- Mass in mg and sub-cells covered of the cells in a rectangle: its near edge `near` mm beyond the cutter bar at `p`, along `f` (mm per m). -/
def Block.rectangle (b : Block) (cells : List (Int × Int × CellRec)) (p f : Int × Int) (near : Int) : Nat × Nat :=
  let len : Int := max 1 (b.use R.YLD_T_FF_FF_LEN) * 1000
  let half : Int := b.get R.YLD_HDR_WIDTH_CM * 5000
  let inside := cells.filter fun c =>
    let d := (c.1 - p.1, c.2.1 - p.2)
    let along := d.1 * f.1 + d.2 * f.2
    let across := (d.1 * f.2 - d.2 * f.1) - b.geti R.YLD_HDR_Y_MM * 1000
    decide (b.use R.YLD_T_FF_PRIOR_MIN ≤ c.2.2.conf) && decide (near * 1000 ≤ along) && decide (along < (near + len) * 1000) && decide ((across.natAbs : Int) ≤ half)
  ((inside.map fun c => c.2.2.mass).foldl (· + ·) 0, (inside.map fun c => popCount 16 c.2.2.cover).foldl (· + ·) 0)

/-- The step of unit 1 at a 100 ms boundary. -/
def Block.ffRatio (b : Block) : Block :=
  if !b.tileRuns then b
  else
    let b := b.toBoundary (100 * ms) (b.tile.stepAt.any fun t => decide (b.sys.mtime ≤ t))
    let b := (b.boundary 0x46080000 0x46081000).modTile fun s => { s with stepAt := some b.sys.mtime }
    let fused := FusedIn.here b.now b.tile.fused
    let d := (fused.map (·.data)).getD (List.replicate 80 0)
    let at_ := (fused.map (·.at_)).getD 0
    let lat := signed 64 (bytesAt d 8 8)
    let lon := signed 64 (bytesAt d 16 8)
    let psi : Int := (fusPsi d : Int) * 100000
    let x := b.geti R.YLD_HDR_X_MM * 1000
    let on := fun (m : Int) => b.gridPoint lat lon (m * sin15 psi / one15) (m * cos15 psi / one15)
    let p := on x
    let q := on (x + 1000000)
    let f := (q.1 - p.1, q.2 - p.2)
    let status := FusedIn.here b.now b.tile.status
    let tau := (status.map fun x => bytesAt x.data 4 2).getD 0
    let from_ := (status.map (·.at_)).getD 0
    let ahead : Int := fusU d * (tau * 10 + b.use R.YLD_T_FF_FF_LEAD * 100 : Nat) / 1000
    let lost := b.isLost 1 || b.get R.YLD_T_PRIOR_SEASON = 0
    let cells := if lost then [] else b.priorCells
    let now_ := b.rectangle cells p f 0
    let far := b.rectangle cells p f ahead
    let area := max 1 (b.get R.YLD_HDR_WIDTH_CM * max 1 (b.use R.YLD_T_FF_FF_LEN))
    let k255 := fun (e : Nat × Nat) => min 255 (255 * e.2 * 100 / (64 * area))
    let yld := fun (e : Nat × Nat) => if e.2 = 0 then Config.ratioOfZero e.1 else e.1 * 64 / e.2
    let ya := yld far
    let yn := yld now_
    let r := if yn = 0 then Config.ratioOfZero ya else ya * 65536 / yn
    let r := max 4096 (min 1048576 r)
    let thin := decide (now_.1 * 64 < 10000 * now_.2) || now_.2 == 0
    let old := fused.isNone || decide (at_ + 300 * ms < b.sys.mtime) || status.isNone || decide (from_ + sec < b.sys.mtime)
    let conf := if thin || old || lost then 0 else min (min (k255 far) (k255 now_)) (bytesAt d 70 1)
    let g := min 65535 (published (if far.2 = 0 then ya else far.1 * 64) (1000 * max 1 far.2)).toNat
    let tiles := if lost then [] else ((b.tileParts.filter fun s => s.season == b.get R.YLD_T_PRIOR_SEASON && s.part == 0 && s.layer == 0).filter fun s =>
      let near := fun (v t : Int) => decide (t * 256000 - 300000 ≤ v) && decide (v ≤ (t + 1) * 256000 + 300000)
      near p.1 s.tx && near p.2 s.ty)
    let b := b.sample ffOrigin 0 (le 4 r ++ le 2 g ++ [k255 far, 0]) conf (conf != 0)
    let b := ((b.set R.YLD_T_FF_STAT_RATIO (min 65535 (r / 16))).set R.YLD_T_FF_STAT_CONF conf).set R.YLD_T_FF_STAT_K_AHEAD (k255 far)
    ((b.set R.YLD_T_FF_STAT2_STALE 0).set R.YLD_T_STATUS_PRIOR (min 32 tiles.length)).modTile fun s => { s with yAhead := g }

def execFfRatio (s : State) : Result := s.go (·.ffRatio)

/-- A read of YLD_T_FF_STAT latches YLD_T_FF_STAT2. -/
def Block.ffLatch (b : Block) : Block := b.set R.YLD_T_FF_STAT2_Y_AHEAD b.tile.yAhead
def execYldFfRead (s : State) : Result := s.go (·.ffLatch)

/-! ## Deltas of the fleet (R400) -/

/-- A received part is applied to its sender's layer or discarded. -/
def Block.fleetDelta (b : Block) (sender : Nat) (p : Packet) : Block :=
  if !b.tileRuns then b
  else if bytesAt p.data 0 4 ≠ b.get R.YLD_T_SEASON_SEASON then b.inc R.YLD_T_CNT_C_DELTA_STALE
  else
    let known := b.tile.senders.contains sender
    if !known && 8 ≤ b.tile.senders.length then b.inc R.YLD_T_CNT_C_SENDER_REFUSED
    else
      let b := b.modTile fun s => if known then s else { s with senders := s.senders ++ [sender] }
      let b := b.set R.YLD_T_STATUS_FLEET b.tile.senders.length
      let slot := b.tile.senders.idxOf sender + 1
      let tx := signed 16 (bytesAt p.data 6 2)
      let ty := signed 16 (bytesAt p.data 8 2)
      let dseq := bytesAt p.data 10 4
      let last := b.tile.dseqs.find? fun e => e.1 == slot && e.2.1 == tx && e.2.2.1 == ty
      if last.any fun e => decide (dseq < e.2.2.2) then b.inc R.YLD_T_CNT_C_DELTA_STALE
      else
        let entries := (List.range (bytesAt p.data 18 2)).map fun k => (bytesAt p.data (32 + 20 * k) 4 % 2 ^ 18, cellRec ((p.data.drop (36 + 20 * k)).take 16))
        let b := b.cacheTile slot tx ty
        let b := b.modTile fun s => { s with
          dseqs := (s.dseqs.filter fun e => !(e.1 == slot && e.2.1 == tx && e.2.2.1 == ty)) ++ [(slot, tx, ty, dseq)]
          tiles := s.tiles.map fun t =>
            if t.layer = slot ∧ t.tx = tx ∧ t.ty = ty then
              { t with cells := entries.foldl (fun c e => putCell c e.1 e.2) t.cells, dirty := entries.foldl (fun r e => if r.contains (e.1 / 512) then r else r ++ [e.1 / 512]) t.dirty }
            else t }
        let b := b.inc R.YLD_T_CNT_B_DELTAS_RX
        if 256 ≤ b.dirtyRows then b.writeDirty else b

def execFleetDelta (sender : Nat) (p : Packet) (s : State) : Result := s.go fun b => b.fleetDelta sender p

/-! ## Stop, start and losses -/

def tileCounters : List Fld := [R.YLD_T_CNT_A_READS, R.YLD_T_CNT_A_EVICTIONS, R.YLD_T_CNT_B_DELTAS_TX, R.YLD_T_CNT_B_DELTAS_RX, R.YLD_T_CNT_C_DELTA_STALE, R.YLD_T_CNT_C_SENDER_REFUSED, R.YLD_T_CNT_C_REPLAY_CNT]

def Block.tileClear (b : Block) : Block := b.clear tileCounters

/-- The senders of the season, slot 1 first, as the store's fleet layers name them. -/
def seasonSenders (l : List TilePart) (season : Nat) : List Nat := ((List.range 8).map fun k => storedSender l season (k + 1)).takeWhile (·.isSome) |>.filterMap id

/-- The engine starts: its cache is read back from T0 as tiles are needed. -/
def Block.tileStart (b : Block) : Block :=
  let b := ((b.tileClear.resync fun o => o / 128 == tileOrigin / 128).set R.YLD_T_STATUS_RUN 1).set R.YLD_T_FF_STAT2_STALE 1
  let b := b.modTile fun s => { s with tiles := [], queue := [], reading := [], applied := none, dseqs := [], senders := seasonSenders s.stored (b.get R.YLD_T_SEASON_SEASON), flushAt := b.now, deltaAt := b.now, stepAt := none, byStop := false }
  (b.set R.YLD_T_STATUS_LIVE 0).set R.YLD_T_STATUS_FLEET b.tile.senders.length

/-- STOP or QUIESCE: every dirty row is written, then the engine stops. -/
def Block.tileStop (b : Block) (byStop : Bool) : Block :=
  if !b.flag R.YLD_T_STATUS_RUN then b else (b.writeDirty.set R.YLD_T_STATUS_RUN 0).modTile fun s => { s with byStop := byStop }

def execYldTStop (s : State) : Result := s.ask s.blk.tileRefusal (·.tileStop true)
def execYldTStart (s : State) : Result := s.ask s.blk.tileRefusal fun b => if !b.flag R.YLD_T_STATUS_RUN && b.tile.byStop then b.tileStart else b
def execYldTClrCnt (s : State) : Result := s.ask s.blk.tileRefusal (·.tileClear)
def execYldTFlush (s : State) : Result := s.ask s.blk.tileRefusal fun b => if b.tileRuns then b.writeDirty else b

/-- A loss of island 1 takes the cache: on return its tiles are those of T0, and changed cells stay marked for the next delta (R399, R404). -/
def Block.tileCacheLost (b : Block) : Block :=
  let season := b.get R.YLD_T_SEASON_SEASON
  let parts := b.tileParts
  b.modTile fun s => { s with queue := [], reading := [], tiles := (s.tiles.filter fun t => t.layer == 0 && !t.delta.isEmpty).map fun t => { t with cells := (storedTile parts season 0 t.tx t.ty).getD [], dirty := [] } }

/-- A reset of island 5: registers at their reset values but the retained season; what stands on the drives stays. -/
def Block.tileReset (b : Block) : Block :=
  let season := b.get R.YLD_T_SEASON_SEASON
  { ((b.resetRegs 0x46080000 0x46081000).set R.YLD_T_SEASON_SEASON season) with tile := { stored := b.tile.stored, sent := b.tile.sent } }

end Sys2Proof.Machine
end

