-- ==== Sys2Proof/Machine/Store.lean ====
section
/-! DEFINITION. The season store: blocks, drives, shedding, the requests of its clients and the replay source (chapter 17). -/

namespace Sys2Proof.Machine

open Sys2Proof

def BAD_STORE_POLICY : Nat := 0x7A
def NOT_MOUNTED : Nat := 0x7B
def NO_DATA : Nat := 0x7C
def BAD_OP : Nat := 0x7D
def DRIVE_ERROR : Nat := 0x7E
def BAD_KEY : Nat := 0x70

def sstOrigin : Nat := org 5 1 0
def replayOrigin : Nat := org 5 1 2
def sstTarget : Nat := org 5 1 127

/-- Engine states. -/
def stSTOPPED : Nat := 0
def stMOUNTING : Nat := 1
def stRUNNING : Nat := 2
def stSTOPPING : Nat := 3
def stNO_DRIVES : Nat := 4

/-- Drive states (Table 17.7). -/
def dABSENT : Nat := 0
def dONLINE : Nat := 1
def dSUSPECT : Nat := 2
def dRESETTING : Nat := 3
def dFAILED : Nat := 4
def dFOREIGN : Nat := 5

/-- Replay source states. -/
def rCLOSED : Nat := 0
def rOPENING : Nat := 1
def rREADY : Nat := 2
def rPLAYING : Nat := 3
def rPAUSED : Nat := 4
def rENDED : Nat := 5

def Block.sstState (b : Block) : Nat := b.get R.SST_STATUS_STATE
def Block.modSst (b : Block) (f : Sst → Sst) : Block := { b with sst := f b.sst }
def Block.drive (b : Block) (d : Nat) : StDrive := b.sst.drives.getD d {}
def Block.modDrive (b : Block) (d : Nat) (f : StDrive → StDrive) : Block := b.modSst fun s => { s with drives := updAt s.drives d f }
def Block.driveState (b : Block) (d : Nat) : Nat := b.get (R.SST_Dd_STAT_STATE d)
def Block.sstRefusal (b : Block) : Option Nat := b.unitRefusal sstTarget

/-- A drive enters a state; SST_STATUS.ONLINE follows. -/
def Block.driveGo (b : Block) (d st : Nat) : Block := (b.set (R.SST_Dd_STAT_STATE d) st).setBit R.SST_STATUS_ONLINE d (st == dONLINE)

/-- Drives of the set that are ONLINE, in link order. -/
def Block.onlineDrives (b : Block) : List Nat := (List.range 4).filter fun d => b.bitOf R.SST_POLICY_DRIVES d && b.driveState d == dONLINE

/-! ## Capacity (R410, R411) -/

/-- Drives of the set that hold its label. -/
def Block.setDrives (b : Block) : List Nat := (List.range 4).filter fun d => b.bitOf R.SST_POLICY_DRIVES d && [dONLINE, dSUSPECT, dRESETTING].contains (b.driveState d)

/-- Tiers 0 and 1 are mirrored; tiers 2 and 3 are mirrored (Table 17.1). -/
def Block.mirrored (b : Block) (tier : Nat) : Bool := b.get R.SST_POLICY_POLICY == 1 || (b.get R.SST_POLICY_POLICY == 2 && decide (tier < 2))

/-- Usable blocks of the set, labels and journal taken off. -/
def Block.usable (b : Block) : Nat :=
  let gb := (b.setDrives.map fun d => b.get (R.SST_Dd_CAP_GB d)).foldl (· + ·) 0
  (if b.get R.SST_POLICY_POLICY = 1 then gb / 2 else gb) * 1000000000 * 995 / 1000 / 4096

/-- Blocks of that space in use on its drives: a mirrored block of TIER_MIRROR takes two. -/
def Block.usedBlocks (b : Block) : Nat :=
  let left := b.setDrives
  ((b.sst.written.filter (fun x => x.done.any left.contains) ++ b.sst.staged).map fun x => if b.get R.SST_POLICY_POLICY = 2 && x.tier < 2 then 2 else 1).foldl (· + ·) 0

/-- Blocks free outside the reserve of 1 % for T0 and T1. -/
def Block.freeBlocks (b : Block) : Nat := b.usable - b.usable / 100 - b.usedBlocks

/-- Room outside the T0 reserve, whose size the chapter does not state (R418). -/
def Block.roomT1 (b : Block) : Bool := decide (b.usedBlocks + (Config.freeReal 1700 [b.usable]).toNat < b.usable)

/-- With RECYCLE the oldest block of another season is reclaimed, T3 before T2 (R411). -/
def Block.reclaim (b : Block) : Block :=
  if 0 < b.freeBlocks || !b.flag R.SST_POLICY_RECYCLE then b
  else
    let old := fun (tier : Nat) => b.sst.written.find? fun x => x.tier == tier && bytesAt x.bytes 12 4 != b.get R.YLD_T_SEASON_SEASON
    match (old 3 <|> old 2) with
    | some x => b.modSst fun s => { s with written := s.written.filter (· != x), recs := s.recs.filter fun r => !(r.tier == x.tier && r.bseq == x.bseq) }
    | none => b

/-- Commands that write blocks. -/
def Sst.writes (s : Sst) : List StCmd := s.cmds.filter (·.req.isNone)

/-- Staged bytes of T0 and T1, tile parts among them. -/
def Block.t01Bytes (b : Block) : Nat :=
  (b.sst.staged.filter (·.tier < 2)).length * 4096 + ((b.sst.opened.take 2).map fun o => o.data.length).foldl (· + ·) 0 + (b.sst.parts.map fun x => x.bytes.length).foldl (· + ·) 0

/-- Bytes in the STAGING region: a block's space is held until every command on it has ended (R417). -/
def Block.stagingBytes (b : Block) : Nat :=
  let s := b.sst
  let held := (s.staged.filter (2 ≤ ·.tier)).length + ((s.writes.filter fun c => 2 ≤ c.tier && !s.staged.any fun x => x.tier == c.tier && x.bseq == c.bseq).map fun c => (c.tier, c.bseq)).eraseDups.length
  held * 4096 + ((s.opened.drop 2).map fun o => o.data.length).foldl (· + ·) 0

/-- FREE, the backlog's and the Millpond buffer's figures. -/
def Block.sstFigures (b : Block) : Block :=
  let s := b.sst
  let mib := b.stagingBytes / 1048576
  let b := ((b.set R.SST_FREE_GB (min (2 ^ 32 - 1) (b.freeBlocks * 4096 / 1000000000))).set R.SST_BACKLOG_T01_KIB (min 65535 (b.t01Bytes / 1024))).set R.SST_MP_STAGING_MIB mib
  let b := b.set R.SST_MP_PEAK_MIB (max (b.get R.SST_MP_PEAK_MIB) mib)
  let b := b.each 4 fun d b => b.set (R.SST_Dd_STAT_TAGS d) (s.cmds.filter (·.drive == d)).length
  let waits := s.staged.any fun x => x.done.isEmpty && !s.writes.any fun c => c.tier == x.tier && c.bseq == x.bseq
  (b.set R.FAB_TAG_STORE_LIVE_LIVE s.cmds.length).setB R.FAB_STATUS_STORE_TAG_WAITING ((waits && !b.onlineDrives.isEmpty) || !s.reads.isEmpty)

/-! ## Writing (R414, R415, R417) -/

/-- Drives a block goes to (Table 17.1): a pair under mirroring, else the k-th online drive. A mirrored pair of TIER_MIRROR is the last two links of the set. -/
def Block.targets (b : Block) (tier bseq : Nat) : List Nat :=
  let on := b.onlineDrives
  let set_ := (List.range 4).filter fun d => b.bitOf R.SST_POLICY_DRIVES d
  if b.mirrored tier then
    if b.get R.SST_POLICY_POLICY = 2 then set_.drop (set_.length - 2)
    else if set_.length ≤ 2 then set_ else if bseq % 2 = 0 then [0, 1] else [2, 3]
  else if on.isEmpty then [] else [on.getD (bseq % on.length) 0]

/-- The lowest free entry of a queue. -/
def Block.freeEntry (b : Block) (d q : Nat) : Option Nat :=
  (List.range (min 1024 (b.drive d).entries)).find? fun e => !b.sst.cmds.any fun c => c.drive == d && c.queue == q && c.entry == e

/-- A write of a block is submitted to a drive, where a tag is free. -/
def Block.command (b : Block) (d tier bseq : Nat) (owed : Bool) : Block :=
  match b.freeEntry d tier with
  | none => b
  | some e => b.modSst fun s => { s with cmds := s.cmds ++ [{ drive := d, queue := tier, entry := e, tier := tier, bseq := bseq, at_ := b.now, owed := owed }] }

/-- A staged block goes to those of its drives that are ONLINE and neither hold nor are being sent it; a striped block has one write under way at a time. -/
def Block.submit (b : Block) (x : StBlk) : Block :=
  let busy := fun d => x.done.contains d || b.sst.writes.any fun c => c.drive == d && c.tier == x.tier && c.bseq == x.bseq
  let ts := b.targets x.tier x.bseq
  if !b.mirrored x.tier && b.sst.writes.any fun c => c.tier == x.tier && c.bseq == x.bseq then b
  else b.eachOf (ts.filter fun d => b.driveState d == dONLINE && !busy d) fun d b => b.command d x.tier x.bseq false

/-- Everything that waits for a drive is submitted: staged blocks, then owed copies, oldest first. -/
def Block.submitAll (b : Block) : Block :=
  if b.sstState ≠ stRUNNING && b.sstState ≠ stSTOPPING then b
  else
    let b := b.putParts.eachOf b.sst.staged fun x b => b.submit x
    b.each 4 fun d b =>
      if b.driveState d ≠ dONLINE then b
      else b.eachOf (b.drive d).owed fun o b => if b.sst.writes.any fun c => c.drive == d && c.owed && c.tier == o.1 && c.bseq == o.2 then b else b.command d o.1 o.2 true

/-- A block whose copies suffice becomes written; copies missing on a drive that does not answer are owed. -/
def Block.settle (b : Block) (tier bseq : Nat) : Block :=
  match b.sst.staged.find? fun x => x.tier == tier && x.bseq == bseq with
  | none => b
  | some x =>
    let ts := b.targets tier bseq
    let away := ts.filter fun d => !x.done.contains d && [dSUSPECT, dRESETTING, dFAILED].contains (b.driveState d)
    let due := if b.mirrored tier then ts.filter fun d => !x.done.contains d && !away.contains d else []
    if x.done.isEmpty || !due.isEmpty then b
    else
      let b := b.modSst fun s => { s with staged := s.staged.filter (fun y => !(y.tier == tier && y.bseq == bseq)), written := s.written ++ [x] }
      let b := b.inc (R.SST_TIERt_BLK_COUNT tier)
      if b.mirrored tier then b.eachOf away fun d b => (b.modDrive d fun v => { v with owed := v.owed ++ [(tier, bseq)] }).inc (R.SST_Dd_DEBT_BLOCKS d) else b

/-- Every staged block is judged again: a drive has stopped answering. -/
def Block.settleStaged (b : Block) : Block := b.eachOf b.sst.staged fun x b => b.settle x.tier x.bseq

/-- A drive now holds a copy of a written block, owed to it or not. -/
def Block.copied (b : Block) (d tier bseq : Nat) : Block :=
  let b := b.modSst fun s => { s with written := s.written.map fun x => if x.tier = tier ∧ x.bseq = bseq ∧ d ∉ x.done then { x with done := x.done ++ [d] } else x }
  b.when ((b.drive d).owed.contains (tier, bseq)) fun b =>
    (b.modDrive d fun v => { v with owed := v.owed.filter (· != (tier, bseq)) }).set (R.SST_Dd_DEBT_BLOCKS d) (b.get (R.SST_Dd_DEBT_BLOCKS d) - 1)

/-! ## Blocks (R412, R413) -/

/-- One bit of CRC-32C, reflected. -/
def crc32cBit (c : Nat) : Nat := if c % 2 = 1 then (c / 2) ^^^ 0x82F63B78 else c / 2

/-- CRC-32C of bytes. -/
def crc32c (l : List Nat) : Nat := (l.foldl (fun c x => (List.range 8).foldl (fun c _ => crc32cBit c) (c ^^^ (x % 256))) 0xFFFFFFFF) ^^^ 0xFFFFFFFF

/-- The bytes of a block (Table 17.3). -/
def Block.blockBytes (b : Block) (tier bseq : Nat) (o : OpenBlk) : List Nat :=
  let body := o.data ++ List.replicate (4064 - o.data.length) 0
  let h := le 2 1 ++ [tier, 2 * b2n (decide (o.data.length < 4064)) + 4 * b2n o.cont] ++ le 8 bseq ++ le 4 (b.get R.YLD_T_SEASON_SEASON) ++
    le 2 ((o.first.map (32 + ·)).getD 0xFFFF) ++ le 2 o.data.length ++ le 8 b.counter
  h ++ le 4 (crc32c (h ++ body)) ++ body

/-- The open block of a tier closes and is submitted. -/
def Block.closeBlock (b : Block) (tier : Nat) (cont : Bool) : Block :=
  let o := b.sst.opened.getD tier {}
  if o.data.isEmpty then b
  else
    let n := b.sst.bseq.getD tier 0
    let x : StBlk := { tier := tier, bseq := n, bytes := b.blockBytes tier n o, close := b.counter, since := o.since }
    let b := b.modSst fun s => { s with opened := updAt s.opened tier fun _ => { cont := cont, since := b.now }, bseq := updAt s.bseq tier (· + 1), staged := s.staged ++ [x] }
    b.submitAll

/-- The bytes of a record enter the open block of a tier, which closes when full; a record may go on in the next block. -/
def Block.fillBlock (tier : Nat) : Nat → List Nat → Bool → Block → Block
  | 0, _, _, b => b
  | fuel + 1, bytes, starts, b =>
    if bytes.isEmpty then b
    else
      let o := b.sst.opened.getD tier {}
      let room := 4064 - o.data.length
      let now_ := bytes.take room
      let rest := bytes.drop room
      let b := b.modSst fun s => { s with opened := updAt s.opened tier fun o => { o with
        data := o.data ++ now_, first := if starts && o.first.isNone then some o.data.length else o.first, since := if o.data.isEmpty then b.now else o.since } }
      let b := if 4064 ≤ o.data.length + now_.length then b.closeBlock tier (!rest.isEmpty) else b
      Block.fillBlock tier fuel rest false b

/-- A packet is recorded in a tier, padded to a multiple of 8 bytes. -/
def Block.record (b : Block) (tier : Nat) (p : Packet) : Block :=
  let d := packetBytes p
  let d := d ++ List.replicate ((8 - d.length % 8) % 8) 0
  let b := b.modSst fun s => { s with recs := s.recs ++ [{ tier := tier, bseq := s.bseq.getD tier 0, inst := b.unstamp p.stamp, p := p }] }
  Block.fillBlock tier 4 d true b

/-- A record of a tier is discarded and counted, at the edge of R62 (R418). -/
def Block.dropBytes (b : Block) (tier records bytes : Nat) : Block :=
  let b := b.modSst fun s => { s with
    gaps := updAt s.gaps tier fun g => { first := if g.count = 0 then b.sys.mtime else g.first, last := b.sys.mtime, count := g.count + records, bytes := g.bytes + bytes }
    dropped := updAt s.dropped tier (· + bytes) }
  (b.set (R.SST_TIERt_DROP_KIB tier) (min (2 ^ 32 - 1) (b.sst.dropped.getD tier 0 / 1024))).set R.FAB_EDGE_SUMMARY_STORE_SHED 1

/-- A GAP record (R419). Instants of a gap without a discarded record are not stated. -/
def Block.gapRecord (b : Block) (tier code : Nat) (g : StGap) : Block :=
  let t := fun (k v : Nat) => if g.count = 0 then (Config.freeReal 1701 [k, tier, b.sys.mtime]).toNat else v
  let p : Packet := { kind := .event, stream := 0xFF01, origin := sstOrigin, stamp := b.stamp, data := le 2 code ++ [tier, 0, 0, 0, 0, 0] ++ le 8 (t 0 g.first) ++ le 8 (t 1 g.last) ++ le 4 g.count ++ le 4 (g.bytes / 1024) }
  ((b.record tier p).inc R.SST_CNT_FAULT_GAPS).modSst fun s => { s with gaps := updAt s.gaps tier fun _ => {} }

/-! ## Arrivals (R407, R418) -/

/-- The shedding level sheds a tier. -/
def Block.sheds (b : Block) (tier : Nat) : Bool := tier != 0 && decide (4 ≤ b.get R.SST_STATUS_LEVEL + tier)

/-- A packet for a tier: recorded, shed, or refused for want of capacity. -/
def Block.toTier (b : Block) (tier : Nat) (p : Packet) : Block :=
  let n := 16 + p.data.length
  let b := b.reclaim
  if b.sheds tier then b.dropBytes tier 1 n
  else if 2 ≤ tier && b.freeBlocks = 0 && 0 < b.usable then (b.dropBytes tier 1 n).set R.SST_EV_FULL_EV 1
  else b.record tier p

/-- A packet of a recorded stream arrives. -/
def Block.tierPacket (b : Block) (p : Packet) : Block :=
  let st := b.sstState
  match b.sst.streams.find? (·.stream == p.stream) with
  | none => b
  | some x =>
    if st = stSTOPPED || st = stSTOPPING || (b.island 5).run ≠ .running then b
    else
      let n := if p.resync then 0 else x.count
      let b := b.modSst fun s => { s with streams := s.streams.map fun y => if y.stream = p.stream then { y with count := n + 1 } else y }
      let ts := (if x.t1 then [1] else []) ++ (if x.t2 != 0 && n % x.t2 = 0 then [2] else []) ++ (if x.t3 then [3] else [])
      (if st = stNO_DRIVES then b.eachOf ts fun t b => b.dropBytes t 1 (16 + p.data.length) else b.eachOf ts fun t b => b.toTier t p).sstFigures

def execTierPacket (p : Packet) (s : State) : Result := s.go fun b => b.tierPacket p

/-- The shadow sink records a SETPOINT in T1 with REPLAY set (R92). -/
def Block.shadowSink (b : Block) (p : Packet) : Block :=
  let p := { p with replay := true }
  let st := b.sstState
  if st = stSTOPPED || st = stSTOPPING || (b.island 5).run ≠ .running then b
  else (if st = stNO_DRIVES then b.dropBytes 1 1 (16 + p.data.length) else b.toTier 1 p).sstFigures

/-- While REPLAY acts, every SETPOINT goes to the shadow sink and reaches no field cell (R92). -/
def Block.setpointOrShadow (b : Block) (ch : Nat) (p : Packet) : Block := if b.acting 1 then b.shadowSink p else b.setpoint ch p

def execFieldSetpoint (ch : Fin 192) (p : Packet) (s : State) : Result := s.go fun b => b.setpointOrShadow ch p

/-- The SETPOINT that a repetition of a jog stands for; a jog held or shadowed moves no channel, and one under REPLAY goes to the shadow sink (Table 4.5). -/
def Block.jogShadow (b : Block) (ch cmd : Nat) (v : Int) : Block :=
  if !(b.mode.jogs.any fun j => j.ch == ch && j.shadow && !j.held) then b
  else b.shadowSink { kind := .setpoint, stream := (b.route? managerOrigin 1).getD 0, origin := managerOrigin, stamp := b.stamp, conf := 255, valid := true, data := le 2 (lowBits 16 v) ++ [cmd, 0, 0, 0, 0, 0] }

/-- The close timer of a tier's open block expires: 20 ms for T0 and T1, 100 ms for T2 and T3. -/
def Block.closeTimer (b : Block) (tier : Nat) : Block :=
  let o := b.sst.opened.getD tier {}
  if o.data.isEmpty then b else ((b.reach (o.since + (if tier < 2 then 20 else 100) * ms)).closeBlock tier false).sstFigures

def execBlockClose (tier : Fin 4) (s : State) : Result := s.go fun b => b.closeTimer tier

/-- Every open block closes at once. -/
def Block.closeAll (b : Block) : Block := b.each 4 fun t b => b.closeBlock t false

def execSstFlush (s : State) : Result := s.ask s.blk.sstRefusal fun b => b.closeAll.sstFigures

/-! ## Drive events (R415, R417, R421) -/

/-- STOPPING ends when nothing is staged. -/
def Block.stopDone (b : Block) : Block :=
  if b.sstState = stSTOPPING && b.sst.staged.isEmpty && b.sst.parts.isEmpty then (b.set R.SST_STATUS_STATE stSTOPPED).quiesceDone sstTarget else b

/-! ### Reads of clients (R414, R425) -/

/-- A copy of a block can be read from a drive. -/
def Block.answers (b : Block) (d : Nat) : Bool := b.driveState d == dONLINE || b.driveState d == dSUSPECT

/-- A block of a tier, written, by its BSEQ. -/
def Block.findBlock (b : Block) (tier bseq : Nat) : Option StBlk := b.sst.written.find? fun x => x.tier == tier && x.bseq == bseq

/-- The part of a tile that a request names, as it stands on the drives. -/
def Block.findPart (b : Block) (d : List Nat) : Option TilePart :=
  b.tile.stored.find? fun x => x.isOf (bytesAt d 4 4) (bytesAt d 1 1) (signed 16 (bytesAt d 12 2)) (signed 16 (bytesAt d 14 2)) && x.part == bytesAt d 2 2

/-- The mirror copy of a block: MIRROR_COPY set, and the CRC with it (Table 17.3). -/
def mirrorCopy (l : List Nat) : List Nat :=
  let h := l.take 3 ++ [withBit (l.getD 3 0) 0 true] ++ (l.drop 4).take 24
  h ++ le 4 (crc32c (h ++ l.drop 32)) ++ l.drop 32

/-- The answer to a read that drive `d` completed: READ_BLOCK or TILE_GET. The second drive of a pair holds the mirror copies. -/
def Block.readAnswer (b : Block) (d : Nat) (p : Packet) : Block :=
  if bytesAt p.data 0 1 = 1 then
    let tier := bytesAt p.data 1 1
    match b.findBlock tier (bytesAt p.data 4 8) with
    | none => b.refuse sstOrigin NO_DATA p
    | some x => b.answer sstOrigin p (if b.mirrored tier && (b.targets tier x.bseq).getD 1 4 == d then mirrorCopy x.bytes else x.bytes)
  else match b.findPart p.data with
    | none => b.refuse sstOrigin NO_DATA p
    | some x => b.answer sstOrigin p x.bytes

/-- A read goes to the first drive that holds the data and answers, with a tag of queue 6 or, for a tile, of queue 5; it waits while every entry of that queue is live. -/
def Block.readStart (b : Block) (p : Packet) : Block :=
  let blk := bytesAt p.data 0 1 == 1
  let held := if blk then (b.findBlock (bytesAt p.data 1 1) (bytesAt p.data 4 8)).map (·.done) else (b.findPart p.data).map fun _ => (List.range 4).filter fun d => b.bitOf R.SST_POLICY_DRIVES d
  let q := if blk then 6 else 5
  match held with
  | none => b.refuse sstOrigin NO_DATA p
  | some l =>
    match l.find? b.answers with
    | none => b.refuse sstOrigin DRIVE_ERROR p
    | some d => match b.freeEntry d q with
      | none => b.modSst fun s => { s with reads := s.reads ++ [p] }
      | some e => b.modSst fun s => { s with cmds := s.cmds ++ [{ drive := d, queue := q, entry := e, tier := 0, bseq := 0, at_ := b.now, req := some p }] }

/-- Reads that waited for a tag begin, in their order. -/
def Block.readsGo (b : Block) : Block :=
  let l := b.sst.reads
  (b.modSst fun s => { s with reads := [] }).eachOf l fun p b => b.readStart p

/-- The controller is reset: every outstanding command ends failed and its tag is freed; a failed write is submitted again and counted, a failed read is answered with DRIVE_ERROR (R421). -/
def Block.resetDrive (b : Block) (d : Nat) : Block :=
  let b := (b.driveGo d dRESETTING).inc (R.SST_Dd_CNT_RESETS d)
  let b := b.modDrive d fun v => { v with resetAt := b.now, resets := b.now :: recent b.now (600 * sec) v.resets }
  let mine := b.sst.cmds.filter (·.drive == d)
  let b := (b.modSst fun s => { s with cmds := s.cmds.filter (·.drive != d) }).eachOf (mine.filterMap (·.req)) fun p b => b.refuse sstOrigin DRIVE_ERROR p
  let b := b.settleStaged
  let again := (mine.filter fun c => c.req.isNone && !c.owed && b.sst.staged.any fun x => x.tier == c.tier && x.bseq == c.bseq).length
  (b.inc R.SST_CNT_FAULT_REISSUE again).submitAll.readsGo.stopDone.sstFigures

def Block.findCmd (b : Block) (d q e : Nat) : Option StCmd := b.sst.cmds.find? fun c => c.drive == d && c.queue == q && c.entry == e

/-- T0 staging has room for one more request (R418: 16 MiB with T1). -/
def Block.t0Room (b : Block) : Bool := decide (b.t01Bytes < 16777216)

/-- A drive completes a command. -/
def Block.completion (b : Block) (d q e : Nat) (ok : Bool) : Block :=
  match b.findCmd d q e with
  | none => b
  | some c =>
    if !ok then (b.inc (R.SST_Dd_CNT_ERRORS d)).resetDrive d
    else
      let b := b.modSst fun s => { s with cmds := s.cmds.filter (· != c) }
      let b := b.when (b.driveState d == dSUSPECT && decide ((b.drive d).stallAt ≤ c.at_)) fun b => b.driveGo d dONLINE
      let b := if let some p := c.req then b.readAnswer d p
        else if c.owed || !(b.sst.staged.any fun (x : StBlk) => x.tier == c.tier && x.bseq == c.bseq) then b.when (c.owed || b.mirrored c.tier) fun b => b.copied d c.tier c.bseq
        else (b.modSst fun s => { s with staged := s.staged.map fun (x : StBlk) => if x.tier = c.tier ∧ x.bseq = c.bseq then { x with done := x.done ++ [d] } else x }).settle c.tier c.bseq
      b.submitAll.readsGo.stopDone.sstFigures

/-- A T2 or T3 write stalls: its block goes to the next online drive, its drive becomes SUSPECT. -/
def Block.stall (b : Block) (d q e : Nat) : Block :=
  match b.findCmd d q e with
  | none => b
  | some c =>
    if c.tier < 2 || c.owed || c.req.isSome then b
    else
      let b := b.reach (c.at_ + b.use R.SST_TIMES_STALL_MS * ms)
      let b := b.when (b.driveState d == dONLINE) fun b => ((b.driveGo d dSUSPECT).set R.SST_EV_STALL_EV 1).modDrive d fun v => { v with stallAt := b.now }
      let on := b.onlineDrives
      let next := (on.find? (d < ·)) <|> on.head?
      let staged := b.sst.staged.any fun x => x.tier == c.tier && x.bseq == c.bseq
      let twice := b.sst.writes.any fun y => y.drive != d && y.tier == c.tier && y.bseq == c.bseq
      let b := match next with
        | some n => if staged && !twice then (b.command n c.tier c.bseq false).inc R.SST_CNT_FAULT_REISSUE else b
        | none => b
      b.settleStaged.sstFigures

def execDriveStall (d : Fin 4) (q : Fin 8) (entry : Fin 1024) (s : State) : Result := s.go fun b => b.stall d q entry

/-- The oldest T2 or T3 block unwritten 450 ms after its first record is discarded. -/
def Block.discardOldest (b : Block) : Block :=
  match b.sst.staged.find? (2 ≤ ·.tier) with
  | none => b
  | some x =>
    let b := b.reach (x.since + 450 * ms)
    let n := (b.sst.recs.filter fun r => r.tier == x.tier && r.bseq == x.bseq).length
    let b := b.modSst fun s => { s with staged := s.staged.filter (· != x), recs := s.recs.filter fun r => !(r.tier == x.tier && r.bseq == x.bseq) }
    (b.dropBytes x.tier n 4096).stopDone.sstFigures

def execBlockDiscard (s : State) : Result := s.go (·.discardOldest)

/-- A command outstanding for CMD_TIMEOUT_MS resets the controller. -/
def Block.cmdTimeout (b : Block) (d q e : Nat) : Block :=
  match b.findCmd d q e with
  | none => b
  | some c => ((b.reach (c.at_ + b.use R.SST_TIMES2_CMD_TIMEOUT_MS * ms)).inc (R.SST_Dd_CNT_TIMEOUTS d)).resetDrive d

def execDriveCmdTimeout (d : Fin 4) (q : Fin 8) (entry : Fin 1024) (s : State) : Result := s.go fun b => b.cmdTimeout d q entry

def execDriveLinkDown (d : Fin 4) (s : State) : Result := s.if_ (s.blk.driveState d == dONLINE || s.blk.driveState d == dSUSPECT) fun b => b.resetDrive d

/-- FAILED; a read that waited finds another drive or none. -/
def Block.driveFails (b : Block) (d : Nat) : Block := ((b.driveGo d dFAILED).raise sstOrigin R.SST_EV_FAIL_EV).readsGo

/-- A drive's controller is ready: after a reset ONLINE again, or FAILED at the third reset in 10 min or past CMD_TIMEOUT_MS; at a start or RESCAN, within MOUNT_S, its label decides. -/
def Block.driveReady (b : Block) (d gen gb entries : Nat) (own : Bool) : Block :=
  let st := b.driveState d
  if st = dRESETTING then
    if 3 ≤ (recent b.now (600 * sec) (b.drive d).resets).length || (b.drive d).resetAt + b.use R.SST_TIMES2_CMD_TIMEOUT_MS * ms < b.now then b.driveFails d else (b.driveGo d dONLINE).submitAll.sstFigures
  else if (b.drive d).scan.any (fun t => decide (b.now ≤ t + b.use R.SST_TIMES2_MOUNT_S * sec)) && (st = dABSENT || st = dFAILED || st = dFOREIGN) then
    let b := (b.modDrive d fun v => { v with scan := none, entries := entries }).set (R.SST_Dd_STAT_SPEED d) gen
    let b := b.set (R.SST_Dd_CAP_GB d) (min 8000 gb)
    (b.driveGo d (if own then dONLINE else dFOREIGN)).submitAll.sstFigures
  else b

def execDriveReady (d : Fin 4) (gen : Fin 4) (gb entries : Nat) (own : Bool) (s : State) : Result := s.go fun b => b.driveReady d gen gb entries own

def execDriveResetTimeout (d : Fin 4) (s : State) : Result :=
  s.if_ (s.blk.driveState d == dRESETTING) fun b => ((b.reach ((b.drive d).resetAt + b.use R.SST_TIMES2_CMD_TIMEOUT_MS * ms)).driveFails d).sstFigures

/-! ## Shedding (R418, R419) -/

/-- Age of the oldest T2 or T3 record not yet written, in ms. -/
def Block.storeAge (b : Block) : Nat :=
  let s := (b.sst.staged.filter (2 ≤ ·.tier)).map (·.since) ++ ((b.sst.opened.drop 2).filter fun o => !o.data.isEmpty).map (·.since)
  (s.map fun t => (b.now - t) / ms).foldl max 0

/-- The level changes by one evaluation of Table 17.6; what a tier that is not shed has lost becomes its GAP record. -/
def Block.shedEvaluate (b : Block) : Block :=
  if b.sstState = stSTOPPED || (b.island 5).run ≠ .running then b
  else
    let b := b.toBoundary (10 * ms) (b.sst.evalAt.any fun t => decide (b.sys.mtime ≤ t))
    let b := (b.boundary 0x46800000 0x46801000).modSst fun s => { s with evalAt := some b.sys.mtime }
    let b := b.reclaim
    let level := b.get R.SST_STATUS_LEVEL
    let age := b.storeAge
    let shed := b.use R.SST_TIMES_SHED_MS
    let cap := b.sst.regions.getD 1 256 * 1048576
    let t01 := b.use R.SST_T01_T01_MAX_MIB * 1048576
    let reserve := b.freeBlocks == 0 && decide (0 < b.usable)
    let noRoom := decide (0 < b.usable) && !b.roomT1
    let overSince := if level != 0 && shed ≤ age then some (b.sst.overAt.getD b.now) else none
    let up1 := decide (shed ≤ age) || decide (cap ≤ b.stagingBytes) || reserve
    let up2 := overSince.any (fun t => decide (t + shed * ms ≤ b.now)) || b.isLost 1 || b.sstState == stMOUNTING
    let up3 := decide (t01 ≤ b.t01Bytes) || noRoom
    let want := if up3 then 3 else if up2 then 2 else if up1 then 1 else 0
    let calm1 := decide (age * 2 < shed) && decide (b.stagingBytes * 2 < cap) && !reserve
    let calm := match level with
      | 3 => decide (b.t01Bytes * 2 < t01) && !noRoom
      | 2 => calm1 && !b.isLost 1 && b.sstState == stRUNNING
      | _ => calm1
    let b := (b.set R.SST_BACKLOG_AGE_MS (min 65535 age)).modSst fun s => { s with overAt := overSince, okAt := if calm then some (s.okAt.getD b.now) else none }
    let b := if level < want then
        (((b.set R.SST_STATUS_LEVEL want).raise sstOrigin R.SST_EV_SHED_EV).set R.FAB_EDGE_SUMMARY_STORE_SHED 1).modSst fun s => { s with okAt := none }
      else if level != 0 && b.sst.okAt.any (fun t => decide (t + b.use R.SST_TIMES2_RESTORE_S * sec ≤ b.now)) then
        let b := (b.set R.SST_STATUS_LEVEL (level - 1)).raise sstOrigin R.SST_EV_RESTORE_EV
        let tier := 4 - level
        (b.gapRecord tier 0x0200 (b.sst.gaps.getD tier {})).modSst fun s => { s with okAt := some b.now }
      else b
    let late := (List.range 4).filter fun t => !b.sheds t && decide (0 < (b.sst.gaps.getD t {}).count)
    let fell := decide (b.get R.SST_STATUS_LEVEL < level)
    let b := b.when (!reserve && b.sstState != stNO_DRIVES) fun b => b.eachOf late fun t b => b.gapRecord t (if fell then 0x0200 else 0x0201) (b.sst.gaps.getD t {})
    b.submitAll.sstFigures

def execShedEvaluate (s : State) : Result := s.go (·.shedEvaluate)

/-! ## Mounting (R422) -/

/-- The engine runs: the span lost at its last stop is a GAP record in every tier that had begun. -/
def Block.mounted (b : Block) : Block :=
  let b := b.set R.SST_STATUS_STATE stRUNNING
  let b := match b.sst.lostAt with
    | none => b
    | some t => (b.each 4 fun tier (b : Block) =>
        match (b.sst.written.filter fun (x : StBlk) => x.tier == tier).getLast? with
        | none => b
        | some x => b.gapRecord tier 0x0201 { first := x.close, last := t, count := (Config.freeReal 1702 [tier, t]).toNat + 1, bytes := (Config.freeReal 1703 [tier, t]).toNat }).modSst fun s => { s with lostAt := none }
  b.submitAll.sstFigures

def execMountDone (s : State) : Result := s.if_ (s.blk.sstState == stMOUNTING && !s.blk.onlineDrives.isEmpty && s.blk.setDrives == s.blk.onlineDrives) (·.mounted)

def execMountTimeout (s : State) : Result := s.if_ (s.blk.sstState == stMOUNTING) fun b =>
  let b := b.reach (b.sst.mountAt + b.use R.SST_TIMES2_MOUNT_S * sec)
  if b.onlineDrives.isEmpty then b.set R.SST_STATUS_STATE stNO_DRIVES else b.mounted

def sstCounters : List Fld := [R.SST_MP_PEAK_MIB, R.SST_CNT_FAULT_REISSUE, R.SST_CNT_FAULT_GAPS, R.SST_CNT_FAULT_DRIVE_LOST, R.SST_RP_STAT_FALLBACK] ++
  ((List.range 4).flatMap fun k => [R.SST_TIERt_BLK_COUNT k, R.SST_TIERt_DROP_KIB k, R.SST_Dd_CNT_TIMEOUTS k, R.SST_Dd_CNT_RESETS k, R.SST_Dd_CNT_ERRORS k])

def Block.sstClear (b : Block) : Block := (b.clear sstCounters).modSst fun s => { s with dropped := List.replicate 4 0 }

def execSstClrCnt (s : State) : Result := s.ask s.blk.sstRefusal fun b => b.sstClear.sstFigures

/-- Labels are read: at a start every drive of the set, at RESCAN those absent, failed or foreign. -/
def Block.rescan (b : Block) : Block := b.each 4 fun d b => b.when ([dABSENT, dFAILED, dFOREIGN].contains (b.driveState d)) fun b => b.modDrive d fun v => { v with scan := some b.now }

/-- The engine begins to mount. -/
def Block.sstMount (b : Block) : Block := ((b.resync fun o => o / 128 == sstOrigin / 128).set R.SST_STATUS_STATE stMOUNTING).rescan.modSst fun s => { s with mountAt := b.now, evalAt := none, overAt := none, okAt := none, byStop := false }

def execSstStart (s : State) : Result := s.ask s.blk.sstRefusal fun b => if b.sstState = stSTOPPED && b.sst.byStop then b.sstMount else b

def execSstRescan (s : State) : Result := s.ask s.blk.sstRefusal (·.rescan)

/-- STOP or QUIESCE: every staged block is written, then the engine is STOPPED. -/
def Block.sstStop (b : Block) (byStop : Bool) : Block :=
  if b.sstState = stSTOPPED then b
  else
    let b := b.closeAll.modSst fun s => { s with byStop := byStop }
    (if b.sst.staged.isEmpty && b.sst.parts.isEmpty then b.set R.SST_STATUS_STATE stSTOPPED else b.set R.SST_STATUS_STATE stSTOPPING).sstFigures

def Block.rpState (b : Block) : Nat := b.get R.SST_RP_STAT_STATE

def execSstStop (s : State) : Result :=
  s.ask (s.blk.sstRefusal <|> (if s.blk.rpState = rPLAYING || s.blk.rpState = rPAUSED then some BUSY else none)) (·.sstStop true)

/-- SST_FMT labels and empties the drives of its mask. -/
def Block.format (b : Block) (mask : Nat) : Block :=
  let hit := (List.range 4).filter (bit mask)
  let b := b.eachOf hit fun d b =>
    let st := b.driveState d
    let b := if st = dFOREIGN then b.driveGo d dONLINE else b
    b.modDrive d fun v => { v with owed := [], scan := if st == dFAILED || st == dABSENT then some b.now else v.scan }
  let b := b.eachOf hit fun d b => b.set (R.SST_Dd_DEBT_BLOCKS d) 0
  let left := fun (x : StBlk) => x.done.any fun d => !hit.contains d
  let b := b.modSst fun s => { s with written := (s.written.filter left).map fun x => { x with done := x.done.filter fun d => !hit.contains d } }
  let b := b.modSst fun s => { s with recs := s.recs.filter fun (r : StRec) => s.written.any fun (x : StBlk) => x.tier == r.tier && x.bseq == r.bseq }
  if b.sst.written.isEmpty then (b.modSst fun s => { s with bseq := List.replicate 4 0 }).modTile fun t => { t with stored := [] } else b

def execSstFmt (key : BitVec 16) (mask : Fin 16) (s : State) : Result :=
  s.ask (s.blk.sstRefusal <|> (if mask.val = 0 then none else if key ≠ 0xB1EF then some BAD_KEY else if s.blk.sstState ≠ stSTOPPED then some BUSY else none)) fun b => (b.format mask).sstFigures

/-! ## Clients (R425) -/

/-- APPEND: the data becomes a record of its tier; the answer names the block that holds it. -/
def Block.append (b : Block) (p : Packet) (tier : Nat) : Block :=
  let r := { p with data := p.data.drop 16 }
  let n := b.sst.bseq.getD tier 0
  ((b.toTier tier r).sstFigures).answer sstOrigin p (le 8 n)

/-- TILE_PUT: a part enters T0; the previous copy stays until it is put in place. -/
def Block.tilePut (b : Block) (p : Packet) (layer part : Nat) : Block :=
  let d := p.data
  (b.stageParts [{ season := bytesAt d 4 4, layer := layer, tx := signed 16 (bytesAt d 12 2), ty := signed 16 (bytesAt d 14 2), part := part, bytes := d.drop 16 }]).sstFigures.answer sstOrigin p []

/-- A STORE_REQ at unit 0. Requests of one source execute in issue order: one waits behind another of its source. -/
def Block.storeReq (b : Block) (p : Packet) : Block :=
  let d := p.data
  let op := bytesAt d 0 1
  let tier := bytesAt d 1 1
  let part := bytesAt d 2 2
  let st := b.sstState
  let no := fun (c : Nat) => b.refuse sstOrigin c p
  if p.kind ≠ .storeReq || (b.island 5).run ≠ .running then b
  else if b.quiesced sstTarget || st = stSTOPPED || st = stSTOPPING then no BUSY
  else if op = 0 || 5 < op then no BAD_OP
  else if (op = 4 || op = 5) && (2048 < part || 8 < tier) then no BAD_OP
  else if op ≤ 3 && 3 < tier then no BAD_OP
  else if op = 3 && (d.length < 17 || 4096 < d.length) then no BAD_OP
  else if op = 4 && d.length ≠ (if part = 0 then 80 else 2064) then no BAD_LENGTH
  else if op ≠ 3 && op ≠ 4 && (st = stMOUNTING || st = stNO_DRIVES) then no NOT_MOUNTED
  else if b.sst.waiting.any fun x => x.origin == p.origin then b.modSst fun s => { s with waiting := s.waiting ++ [p] }
  else if op = 3 || op = 4 then
    if !b.t0Room then (if st = stNO_DRIVES then no NOT_MOUNTED else b.modSst fun s => { s with waiting := s.waiting ++ [p] })
    else if op = 3 then b.append p tier else b.tilePut p tier part
  else if op = 2 then
    match (b.sst.written.filter fun x => x.tier == tier && decide (bytesAt d 4 8 ≤ x.close)).head? with
    | none => no NO_DATA
    | some x => b.answer sstOrigin p (le 8 x.bseq ++ le 8 x.close)
  else b.readStart p

/-- Requests that waited for T0 staging go on once it has room, in their order. -/
def Block.drainWaiting (b : Block) : Block :=
  let l := b.sst.waiting
  (b.modSst fun s => { s with waiting := [] }).eachOf l fun p b => b.storeReq p

def execDriveCompletion (d : Fin 4) (q : Fin 8) (entry : Fin 1024) (ok : Bool) (s : State) : Result := s.go fun b => (b.completion d q entry ok).drainWaiting
def execReadBlock (p : Packet) (s : State) : Result := s.go fun b => b.storeReq p
def execFind (p : Packet) (s : State) : Result := s.go fun b => b.storeReq p
def execAppend (p : Packet) (s : State) : Result := s.go fun b => b.storeReq p
def execTilePut (p : Packet) (s : State) : Result := s.go fun b => b.storeReq p
def execTileGet (p : Packet) (s : State) : Result := s.go fun b => b.storeReq p

/-! ## Replay (R426 to R428) -/

def Block.rpFrom (b : Block) : Nat := b.get R.SST_RP_FROM_LO_NS + 2 ^ 32 * b.get R.SST_RP_FROM_HI_NS
def Block.rpTo (b : Block) : Nat := b.get R.SST_RP_TO_LO_NS + 2 ^ 32 * b.get R.SST_RP_TO_HI_NS

/-- The source takes no OPEN and no write of FROM or TO. -/
def Block.rpHeld (b : Block) : Bool := decide (rOPENING ≤ b.rpState) && decide (b.rpState ≤ rPAUSED)

def execReplayOpen (s : State) : Result :=
  s.ask (s.blk.sstRefusal <|> (if s.blk.rpHeld then some BUSY else none)) fun b => (b.set R.SST_RP_STAT_STATE rOPENING).set R.SST_RP_STAT_CODE 0

/-- A record placed by its instant, after those of the same instant. -/
def insertRec (r : StRec) : List StRec → List StRec
  | [] => [r]
  | x :: l => if r.inst < x.inst then r :: x :: l else x :: insertRec r l

/-- Records that the interval plays: those of marked streams in T3, and those of T2 that T3 lacks. -/
def Block.playable (b : Block) : List StRec :=
  let marked := fun (r : StRec) => b.sst.streams.any fun x => x.stream == r.p.stream && x.replay
  let all := b.sst.recs.filter fun r => marked r && decide (b.rpFrom ≤ r.inst) && decide (r.inst < b.rpTo) && b.sst.written.any fun x => x.tier == r.tier && x.bseq == r.bseq
  let t3 := all.filter (·.tier == 3)
  let t2 := all.filter fun r => r.tier == 2 && !t3.any fun x => x.p.stream == r.p.stream && x.inst == r.inst
  (t3 ++ t2).foldl (fun l r => insertRec r l) []

/-- The read-ahead completes: READY, or CLOSED where the interval holds nothing. -/
def Block.replayReady (b : Block) : Block :=
  let l := b.playable
  if l.isEmpty then (b.set R.SST_RP_STAT_STATE rCLOSED).set R.SST_RP_STAT_CODE NO_DATA
  else ((b.set R.SST_RP_STAT_STATE rREADY).set R.SST_RP_LAG_MS 0).modSst fun s => { s with play := l }

def execReplayReady (s : State) : Result := s.if_ (s.blk.rpState == rOPENING) (·.replayReady)

def execReplayClose (s : State) : Result :=
  s.ask (s.blk.sstRefusal <|> (if s.blk.rpState = rPLAYING || s.blk.rpState = rPAUSED then some BUSY else none)) fun b => (b.set R.SST_RP_STAT_STATE rCLOSED).modSst fun s => { s with play := [] }

/-- Δ grows. -/
def Block.lag (b : Block) (ns : Nat) : Block :=
  (b.modSst fun s => { s with delta := s.delta + ns }).set R.SST_RP_LAG_MS (min (2 ^ 32 - 1) (b.get R.SST_RP_LAG_MS + ns / ms))

/-- A replayed fused state or convoy solution goes on to the stages that take it (R27, R427). -/
def Block.replayFeeds (b : Block) (p : Packet) (due : Nat) : Block :=
  let toward := fun (i : Nat) => if b.fab.dests.any (fun d => d.1 == p.stream && oIsland d.2 == i) && b.flag (R.FAB_LINKk_UP (linkOf 5 i)) && (b.island i).run == .running then some (b.now + 1 + b.freshW 60 15 % 20000) else none
  let at5 := if b.fab.dests.any fun d => d.1 == p.stream && oIsland d.2 == 5 then some (b.now + 1 + b.freshW 60 15 % 20000) else none
  if b.route? (fusOrigin 0) 0 = some p.stream then
    { b with steer := { b.steer with coming := FusedIn.add b.now b.steer.coming (toward 2) p.data due true }
             tile := { b.tile with fused := FusedIn.add b.now b.tile.fused at5 p.data due true } }
  else if b.route? cvyOrigin 0 = some p.stream then { b with steer := { b.steer with cvy := FusedIn.add b.now b.steer.cvy (toward 2) (p.data ++ [p.conf]) due true } }
  else b

/-- The next record leaves at its instant + Δ, or `wait` ns later where it was not in memory. -/
def Block.replayEmit (b : Block) (wait : Nat) : Block :=
  match b.sst.play with
  | [] => b
  | r :: l =>
    let b := if wait = 0 then b else (b.lag wait).set R.SST_RP_STAT_LAG_EV 1
    let due := ((r.inst : Int) + b.sst.delta).toNat
    let b := b.toModule due
    let b := (b.modSst fun s => { s with play := l }).inc R.SST_RP_STAT_FALLBACK (b2n (r.tier == 2))
    (b.replayFeeds r.p due).post { r.p with origin := replayOrigin, stamp := stampOf due, replay := true, resync := false }

def execReplayEmit (wait : Nat) (s : State) : Result := s.if_ (s.blk.rpState == rPLAYING) fun b => b.replayEmit wait

/-- Playing reaches TO, every record of the interval played. -/
def Block.replayEnd (b : Block) : Block :=
  let due := ((b.rpTo : Int) + b.sst.delta).toNat
  let b := b.toModule due
  ((b.set R.SST_RP_STAT_STATE rENDED).raise replayOrigin R.SST_RP_STAT_END_EV).modSst fun s => { s with play := [] }

def execReplayEnd (s : State) : Result := s.if_ (s.blk.rpState == rPLAYING && s.blk.sst.play.isEmpty) (·.replayEnd)

/-- Playing pauses while island 1 or 5 is lost, and Δ grows by the pause. -/
def Block.rpPause (b : Block) : Block := if b.rpState = rPLAYING then (b.set R.SST_RP_STAT_STATE rPAUSED).modSst fun s => { s with pauseAt := some b.sys.mtime } else b
def Block.rpResume (b : Block) : Block :=
  if b.rpState = rPAUSED && !b.isLost 1 && !b.isLost 5 then
    ((b.set R.SST_RP_STAT_STATE rPLAYING).lag (b.sys.mtime - b.sst.pauseAt.getD b.sys.mtime)).modSst fun s => { s with pauseAt := none }
  else b

/-! ## Power-fail and losses (R423, R424) -/

/-- T2 and T3 blocks not yet written, with the open ones as they will close. -/
def Block.bulk (b : Block) : List StBlk := b.closeAll.sst.staged.filter (2 ≤ ·.tier)

/-- The last `lost` of those blocks in order of age, and in the order T2 before T3. -/
def Block.bulkYoung (b : Block) (lost dead : Nat) : List StBlk :=
  let l := b.bulk
  (l.drop (l.length - lost)).filter fun x => dead != 0 || b.onlineDrives.isEmpty || decide (b.now ≤ x.since + 500 * ms)
def Block.bulkLast (b : Block) (lost : Nat) : List StBlk :=
  let l := b.bulk.filter (·.tier == 2) ++ b.bulk.filter (·.tier == 3)
  l.drop (l.length - lost)

/-- Span in ms of the data of discarded blocks, which ended at elapsed time `t`. -/
def Block.lostSpan (_b : Block) (gone : List StBlk) (t : Nat) : Nat := (t - (gone.map (·.since)).foldl min t + ms - 1) / ms

/-- Blocks discarded with their records, counted in SST_TIERt_DROP. -/
def Block.discard (b : Block) (gone : List StBlk) : Block := b.eachOf gone fun x b =>
  let n := (b.sst.recs.filter fun r => r.tier == x.tier && r.bseq == x.bseq).length
  (b.modSst fun s => { s with recs := s.recs.filter fun r => !(r.tier == x.tier && r.bseq == x.bseq) }).dropBytes x.tier n 4096

/-- The write of C: open blocks close, GAP records of running shedding go first, T0, T1 and every T2 and T3 block are written but those of `gone`, which are discarded and counted, `dead` of them because no drive answered. -/
def Block.sstCommit (b : Block) (gone : List StBlk) (dead : Nat) : Block :=
  if b.sstState = stSTOPPED then b
  else
    let b := b.when (b.rpState == rPLAYING) fun b => b.set R.SST_RP_STAT_STATE rENDED
    let b := b.closeAll
    let b := b.each 4 fun t b => b.when (b.sheds t) fun b => b.gapRecord t 0x0200 (b.sst.gaps.getD t {})
    let b := b.closeAll
    let isGone := fun (x : StBlk) => gone.any fun y => y.tier == x.tier && y.bseq == x.bseq
    let ok := b.sst.staged.filter (·.tier < 2) ++ b.sst.staged.filter fun x => 2 ≤ x.tier && !isGone x
    let b := b.discard gone
    let b := b.eachOf ok fun x b => b.inc (R.SST_TIERt_BLK_COUNT x.tier)
    let b := if b.onlineDrives.isEmpty then b.modSst fun s => { s with parts := [] } else b.landParts
    let b := b.modSst fun s => { s with staged := [], cmds := [], reads := [], written := s.written ++ ok.map (fun x => { x with done := if x.done.isEmpty then b.targets x.tier x.bseq else x.done }), lostAt := some b.sys.mtime }
    (b.inc R.SST_CNT_FAULT_DRIVE_LOST (if b.onlineDrives.isEmpty then gone.length else min dead gone.length)).sstFigures

/-- An orderly shutdown flushes the store: everything staged is written but for the last `lost` blocks of T3 and then T2. -/
def Block.sstShutdown (b : Block) (lost dead : Nat) : Block :=
  let gone := b.bulkLast lost
  (b.sstCommit gone dead).modSst fun s => if gone.isEmpty then { s with lostAt := none } else s

/-- A loss of island 1 takes the T2 and T3 records staged, in closed blocks and open ones, and pauses a replay. -/
def Block.sstIsland1Lost (b : Block) : Block :=
  let gone := b.sst.staged.filter (2 ≤ ·.tier)
  let opened := [2, 3].filter fun t => !(b.sst.opened.getD t {}).data.isEmpty
  let b := b.eachOf opened fun t b =>
    let k := b.sst.bseq.getD t 0
    let n := (b.sst.recs.filter fun r => r.tier == t && r.bseq == k).length
    (b.modSst fun s => { s with recs := s.recs.filter fun r => !(r.tier == t && r.bseq == k) }).dropBytes t n (b.sst.opened.getD t {}).data.length
  let b := b.modSst fun s => { s with staged := s.staged.filter (·.tier < 2), cmds := s.cmds.filter (·.tier < 2), opened := (s.opened.take 2) ++ [{}, {}] }
  let b := b.discard gone
  let b := b.eachOf [2, 3] fun t b => b.when ((gone.any (·.tier == t) || opened.contains t) && b.sstState != stSTOPPED) fun b => b.gapRecord t 0x0201 (b.sst.gaps.getD t {})
  b.rpPause.sstFigures

/-- A reset of island 5 loses the engine, its staging and its commands; the written blocks stay on the drives, and the interval of a paused replay is kept. -/
def Block.sstReset (b : Block) : Block :=
  let b := b.rpPause
  let b := b.resetRegs 0x46800000 0x46800200
  let s := b.sst
  { b with sst := { delta := s.delta, streams := s.streams.map (fun x => { x with count := 0 }), regions := s.regions, bseq := s.bseq, written := s.written,
                    recs := s.recs.filter (fun r => s.written.any fun x => x.tier == r.tier && x.bseq == r.bseq), lostAt := some b.sys.mtime, play := s.play, pauseAt := s.pauseAt } }

/-- A write that BAD_POLICY refuses, judged on the block as the write would leave it: POLICY 3, or a policy that the set's drives cannot meet (R410). -/
def Block.badPolicy (after : Block) : Bool :=
  let n := popCount 4 (after.get R.SST_POLICY_DRIVES)
  match after.get R.SST_POLICY_POLICY with
  | 0 => n == 0
  | 1 => !(after.get R.SST_POLICY_DRIVES == 3 || n == 4)
  | 2 => decide (n < 2)
  | _ => true

end Sys2Proof.Machine
end

