-- ==== Sys2Proof/Machine/Recorder.lean ====
section
/-! DEFINITION. The event recorder: triggers, snapshots, records and the region, flushes, freezes, the window, export and clearing (chapter 23). -/

namespace Sys2Proof.Machine

open Sys2Proof

def BAD_TRIGGER : Nat := 0x57
def UNEXPORTED : Nat := 0x6F

def evrOrigin : Nat := org 0 4 0
def evrStaging : Nat := 1365
def evrRegion : Nat := 349525
def Block.modEvr (b : Block) (f : Evr → Evr) : Block := { b with evr := f b.evr }

/-- STAGED follows the staging area. -/
def Block.evrCount (b : Block) : Block := b.set R.EVR_STATUS_STAGED b.evr.staged.length

/-! ## Records (Table 23.2) -/

/-- Every snapshot word is settled. -/
def EvrRec.complete (r : EvrRec) : Bool := r.words.all (·.isSome)

/-- The 192 bytes of a record. -/
def recordBytes (r : EvrRec) : List Nat :=
  let words := (List.range 32).flatMap fun i => le 4 (match r.words.getD i none with | some (v, _) => v | none => 0)
  let valid := (List.range 32).foldl (fun n i => withBit n i (match r.words.getD i none with | some (_, ok) => ok | none => false)) 0
  let body := le 4 r.rseq ++ le 4 r.gen ++ le 8 r.mtime ++ le 4 r.stamp ++ le 2 r.code ++ le 2 r.origin ++ [r.trig, r.flags] ++ le 2 r.mode ++ le 2 r.len ++ le 2 r.missed ++
    (r.data.take 16 ++ List.replicate (16 - r.data.length) 0) ++ words ++ le 4 valid ++ List.replicate 8 0
  body ++ le 4 (crc32 body)

/-- Address of the record with an RSEQ, and its lines. -/
def recordAt (k : Nat) : Nat := 0x50000000 + 192 * k
def recordLines (k : Nat) : List Nat := [3 * k, 3 * k + 1, 3 * k + 2]

/-! ## Flushing (R545) -/

/-- The staged records that a flush writes now: those complete before the first incomplete one. -/
def Block.evrReady (b : Block) : List EvrRec := b.evr.staged.takeWhile (·.complete)

/-- Records written to the region. -/
def writeRecords (m : Memory) (l : List EvrRec) : Memory := l.foldl (fun (m : Memory) r => Memory.writeBytes m (recordAt r.rseq) (recordBytes r)) m

/-- A flush starts, unless the region is frozen. -/
def Block.evrFlush (b : Block) : Block :=
  if b.flag R.EVR_STATUS_FROZEN || b.evr.staged.isEmpty then b else b.modEvr fun e => { e with flushing := true }

/-- An APPEND of up to 21 records from EXPORTED on (R552). -/
def Block.evrExport (b : Block) (m : Memory) : Block :=
  let from_ := b.get R.EVR_EXPORTED_COUNT
  let n := min 21 (b.get R.EVR_WRITTEN_COUNT - from_)
  if b.evr.export_ ≠ 0 || n = 0 then b
  else
    let b := (b.modEvr fun e => { e with export_ := n, errAt := none }).set R.EVR_STATUS_EXPORTING 1
    b.request { kind := .storeReq, stream := 0, origin := evrOrigin, data := [3, 0] ++ List.replicate 14 0 ++ Memory.readBytes m (recordAt from_) (192 * n) } 5

/-- The records of a flush are in the region; export follows (R552). -/
def Block.evrFlushed (b : Block) (m : Memory) : Block :=
  let l := b.evrReady
  if !b.evr.flushing || b.flag R.EVR_STATUS_FROZEN then b
  else
    let b := b.linesWritten (l.flatMap fun (r : EvrRec) => recordLines r.rseq)
    let b := b.inc R.EVR_WRITTEN_COUNT l.length
    let b := (b.modEvr fun e => { e with staged := e.staged.drop l.length, flushing := decide (l.length < e.staged.length) }).evrCount
    b.when (b.flag R.EVR_CFG_EXPORT_AUTO) fun b => b.evrExport m

/-- What a flush writes. -/
def Block.evrFlushMem (b : Block) (m : Memory) : Memory := if !b.evr.flushing || b.flag R.EVR_STATUS_FROZEN then m else writeRecords m b.evrReady

/-- What the recorder's record ring holds (R544). -/
def evrKeptFields : List Fld := [R.EVR_WRITTEN_COUNT, R.EVR_EXPORTED_COUNT, R.EVR_GEN_REGION_GEN]

def execEvrFlushDone (s : State) : Result := s.goBoth fun b m => let m' := b.evrFlushMem m; (b.evrFlushed m').ringsFollow b m' evrKeptFields

def execEvrFlushTimer (s : State) : Result := s.go fun b =>
  match b.evr.staged with
  | [] => b
  | r :: _ => (b.reach (r.since + max 1 (b.get R.EVR_CFG_FLUSH_S) * sec)).evrFlush

def execEvrFlush (s : State) : Result := s.ask none (·.evrFlush)

/-! ## Triggers (R541, R546, R549) -/

/-- A trigger takes an event. -/
def Block.evrMatch (b : Block) (t origin code : Nat) : Bool :=
  b.flag (R.EVR_Tt_CFG_EN t) && ((origin ^^^ b.get (R.EVR_Tt_ORIGIN_O_VALUE t)) &&& b.get (R.EVR_Tt_ORIGIN_O_MASK t)) == 0 &&
    ((code ^^^ b.get (R.EVR_Tt_CODE_C_VALUE t)) &&& b.get (R.EVR_Tt_CODE_C_MASK t)) == 0

/-- An event finds no room. -/
def Block.evrNoSlot (b : Block) : Block := ((b.inc R.EVR_CNT_MISSED_NO_SLOT).set R.FAB_EDGE_SUMMARY_RECORDER 1).modEvr fun e => { e with missed := min 65535 (e.missed + 1) }

/-- A record forms: it takes the next RSEQ, its snapshot reads leave, and it is staged. -/
def Block.evrForm (b : Block) (t origin code stamp : Nat) (data : List Nat) (soft : Bool) : Block :=
  let n := b.get (R.EVR_Tt_CFG_WORDS t)
  let r : EvrRec := {
    rseq := b.get R.EVR_NEXT_RSEQ, gen := b.get R.EVR_GEN_REGION_GEN, mtime := b.counter, stamp := stamp, code := code, origin := origin, trig := t
    flags := b2n (b.flag (R.EVR_Tt_CFG_FAULT t)) + 2 * b2n soft + 8 * b2n (b.flag R.PWR_STATUS_PF)
    mode := b.get R.MODE_ACTIVE_FLAGS + 4096 * b.get R.SUP_MTIME_STATUS_STATE
    len := data.length, missed := b.evr.missed, data := data, words := List.replicate n none, since := b.now }
  let b := (b.incW R.EVR_NEXT_RSEQ).inc (R.EVR_Tt_CNT_RECORDS t)
  let b := (b.modEvr fun e => { e with staged := e.staged ++ [r], missed := 0, formed := e.formed.filter (fun x => x.1 != t) ++ [(t, b.now)] }).evrCount
  let b := b.each n fun w b => b.readReq evrOrigin (b.get (R.EVR_Tt_ADDRw_ADDR t w)) 1
  let full := b.get R.EVR_WRITTEN_COUNT + b.evr.staged.length == evrRegion
  let b := b.when full fun b => (b.set R.EVR_STATUS_FULL 1).set R.EVR_STATUS_FULL_EV 1
  b.when ((n == 0 && b.flag (R.EVR_Tt_CFG_FAULT t)) || decide (683 ≤ b.evr.staged.length)) (·.evrFlush)

/-- A trigger that took an event forms a record or counts why it does not. -/
def Block.evrTake (b : Block) (t origin code stamp : Nat) (data : List Nat) (soft : Bool) : Block :=
  let held := match b.evr.formed.find? fun x => x.1 == t with
    | some x => !soft && decide (b.now < x.2 + b.get (R.EVR_Tt_CFG_HOLDOFF_MS t) * ms)
    | none => false
  if held then ((b.inc R.EVR_CNT_MISSED_HOLDOFF).set R.FAB_EDGE_SUMMARY_RECORDER 1).modEvr fun e => { e with missed := min 65535 (e.missed + 1) }
  else if !b.flag R.EVR_STATUS_RUNNING || b.flag R.PWR_STATUS_COMMITTED then b.evrNoSlot
  else if evrRegion ≤ b.get R.EVR_WRITTEN_COUNT + b.evr.staged.length then
    (((b.when (!b.flag R.EVR_STATUS_FULL) fun b => (b.set R.EVR_STATUS_FULL 1).set R.EVR_STATUS_FULL_EV 1).inc R.EVR_CNT_FULL_REFUSED).set R.FAB_EDGE_SUMMARY_RECORDER 1).modEvr fun e => { e with missed := min 65535 (e.missed + 1) }
  else if evrStaging ≤ b.evr.staged.length then b.evrNoSlot
  else b.evrForm t origin code stamp data soft

/-- The first trigger that takes an event acts on it. -/
def Block.evrEvent (b : Block) (p : Packet) : Block :=
  let code := bytesAt p.data 0 2
  match (List.range 64).find? fun t => b.evrMatch t p.origin code with
  | none => b.inc R.EVR_CNT_UNMATCHED_COUNT
  | some t => b.evrTake t p.origin code p.stamp p.data false

/-- An EVENT arrives at island 0; before the recorder has resumed it waits (R548). -/
def Block.evrArrive (b : Block) (p : Packet) : Block :=
  if p.kind ≠ .event || (b.island 0).run ≠ .running then b
  else if b.evr.live then b.evrEvent p
  else if b.evr.input.length < 256 then b.modEvr fun e => { e with input := e.input ++ [p] }
  else b.evrNoSlot

def execEventPacket (p : Packet) (s : State) : Result := s.go fun b => b.evrArrive p

def execEvrSoft (trig : Fin 64) (writer : Fin 65536) (s : State) : Result := s.ask none fun b => b.evrTake trig writer 0x0002 b.stamp [] true

/-! ## Snapshots (R542) -/

/-- A word settles; a record that is thereby complete under a FAULT trigger starts a flush. -/
def Block.evrSettle (b : Block) (rseq w : Nat) (v : Nat) (ok : Bool) : Block :=
  match b.evr.staged.find? fun r => r.rseq == rseq with
  | none => b
  | some r =>
    if w < r.words.length && (r.words.getD w none).isNone then
      let r' := { r with words := updAt r.words w fun _ => some (v, ok) }
      let b := b.modEvr fun e => { e with staged := e.staged.map fun x => if x.rseq = rseq then r' else x }
      let b := b.when (!ok) fun b => b.inc R.EVR_CNT_WORDS_INVALID
      b.when (r'.complete && bit r.flags 0) (·.evrFlush)
    else b

/-- Words of a record that are not answered 2 ms after it formed hold TIMEOUT. -/
def execSnapshotTimeout (rseq : Nat) (s : State) : Result := s.go fun b =>
  match b.evr.staged.find? fun r => r.rseq == rseq && !r.complete with
  | none => b
  | some r => (b.reach (r.since + 2 * ms)).each r.words.length fun w b => b.evrSettle rseq w TIMEOUT false

/-! ## Control -/

def execEvrStop (s : State) : Result := s.ask none fun b => b.set R.EVR_STATUS_RUNNING 0
def execEvrStart (s : State) : Result := s.ask none fun b => b.set R.EVR_STATUS_RUNNING 1

def execEvrClrCnt (s : State) : Result := s.ask none fun b =>
  (b.clear [R.EVR_CNT_MISSED_HOLDOFF, R.EVR_CNT_MISSED_NO_SLOT, R.EVR_CNT_FULL_REFUSED, R.EVR_CNT_FULL_LOST, R.EVR_CNT_UNMATCHED_COUNT, R.EVR_CNT_WORDS_INVALID]).each 64 fun t b => b.set (R.EVR_Tt_CNT_RECORDS t) 0

/-- The release of a freeze starts a flush (R550). -/
def Block.evrRelease (b : Block) : Block := ((b.set R.EVR_FREEZE_FREEZE 0).set R.EVR_STATUS_FROZEN 0).evrFlush

def Block.evrFreeze (b : Block) (freeze : Bool) (maxS : Nat) : Block :=
  let was := b.flag R.EVR_STATUS_FROZEN
  let b := b.set R.EVR_FREEZE_FREEZE_MAX_S (max 1 (min 600 maxS))
  if freeze && !was then ((b.set R.EVR_FREEZE_FREEZE 1).set R.EVR_STATUS_FROZEN 1).modEvr fun e => { e with freezeAt := b.now, flushing := false }
  else if !freeze && was then b.evrRelease
  else b

def execEvrFreezeWrite (freeze : Bool) (maxS : Fin 1024) (s : State) : Result := s.ask none fun b => b.evrFreeze freeze maxS

def execEvrFreezeExpired (s : State) : Result := s.if_ (s.blk.flag R.EVR_STATUS_FROZEN) fun b =>
  ((b.reach (b.evr.freezeAt + b.get R.EVR_FREEZE_FREEZE_MAX_S * sec)).set R.EVR_STATUS_FREEZE_EXP_EV 1).evrRelease

/-! ## The window (R551) -/

/-- The bytes of record `k` as it stands: in staging, in the region, or zeros where it is not formed. -/
def Block.evrBytes (b : Block) (m : Memory) (k : Nat) : List Nat :=
  match b.evr.staged.find? fun r => r.rseq == k with
  | some r => recordBytes r
  | none => if k < b.get R.EVR_WRITTEN_COUNT then Memory.readBytes m (recordAt k) 192 else List.replicate 192 0

/-- The window from a cursor on: its bytes, the formed records in it, and its words that lie in POISONED lines. -/
def Block.evrWindow (b : Block) (m : Memory) (c : Nat) : List Nat × Nat × List Nat :=
  let l := (List.range 21).map (c + ·)
  let inRegion := fun (k : Nat) => decide (k < b.get R.EVR_WRITTEN_COUNT) && !b.evr.staged.any fun r => r.rseq == k
  ((l.flatMap fun k => b.evrBytes m k), (l.filter fun k => decide (k < b.get R.EVR_NEXT_RSEQ)).length,
    (List.range 1008).filter fun w => inRegion (c + w / 48) && b.poison.contains (3 * (c + w / 48) + w % 48 / 16))

def execEvrCursorWrite (rseq : Fin 524288) (s : State) : Result := s.ask none fun b =>
  let c := min 349524 rseq.val
  ((b.set R.EVR_CURSOR_RSEQ c).set R.EVR_WIN_STAT_STALE 1).modEvr fun e => { e with loading := some (b.evrWindow s.mem c) }

def execEvrWindowLoaded (s : State) : Result := s.go fun b =>
  match b.evr.loading with
  | none => b
  | some (w, n, bad) => ((b.set R.EVR_WIN_STAT_STALE 0).set R.EVR_WIN_STAT_COUNT n).modEvr fun e => { e with loading := none, window := w, bad := bad }

/-! ## Export and clearing (R552, R553) -/

def execEvrExport (s : State) : Result := s.ask none fun b => b.evrExport s.mem

/-- An APPEND is answered. -/
def Block.evrAnswer (b : Block) (m : Memory) (code : Nat) : Block :=
  let n := b.evr.export_
  if n = 0 then b
  else
    let b := (b.modEvr fun e => { e with export_ := 0 }).set R.EVR_STATUS_EXPORTING 0
    if code = 0 then (b.inc R.EVR_EXPORTED_COUNT n).evrExport m
    else (b.set R.EVR_STATUS_EXPORT_ERR_EV 1).modEvr fun e => { e with errAt := some b.now }

def execEvrExportAnswer (code : Fin 256) (s : State) : Result := s.goKept evrKeptFields fun b => b.evrAnswer s.mem code

def execEvrExportRetry (s : State) : Result := s.go fun b =>
  match b.evr.errAt with
  | none => b
  | some t => (b.reach (t + sec)).evrExport s.mem

/-- Why a clear is refused. -/
def Block.evrClearRefusal (b : Block) (key : Nat) (force : Bool) : Option Nat :=
  if key ≠ 0xB1EF then some BAD_KEY
  else if b.flag R.EVR_STATUS_FROZEN || b.evr.export_ ≠ 0 then some BUSY
  else if b.get R.EVR_EXPORTED_COUNT < b.get R.EVR_WRITTEN_COUNT && !force then some UNEXPORTED
  else none

/-- Outstanding words hold TIMEOUT. -/
def settleAll (r : EvrRec) : EvrRec := { r with words := r.words.map fun w => some (w.getD (TIMEOUT, false)) }

/-- How many words of the staged records are outstanding. -/
def Block.evrOpen (b : Block) : Nat := (b.evr.staged.map fun r => (r.words.filter (·.isNone)).length).foldl (· + ·) 0

/-- The region descriptor. -/
def regionDescriptor (gen mtime : Nat) : List Nat := le 2 1 ++ [0, 0] ++ le 4 gen ++ le 8 mtime ++ List.replicate 48 0

def Block.evrClear (b : Block) (force : Bool) : Block :=
  let lost := b.get R.EVR_WRITTEN_COUNT + b.evr.staged.length - b.get R.EVR_EXPORTED_COUNT
  let b := b.when force fun b => b.inc R.EVR_CNT_FULL_LOST lost
  let written := (b.evr.staged.flatMap fun (r : EvrRec) => recordLines r.rseq) ++ [0xFFFFF]
  let b := b.linesWritten written
  let b := ((((b.inc R.EVR_CNT_WORDS_INVALID b.evrOpen).incW R.EVR_GEN_REGION_GEN).clear [R.EVR_WRITTEN_COUNT, R.EVR_EXPORTED_COUNT, R.EVR_NEXT_RSEQ, R.EVR_STATUS_FULL]).modEvr fun e => { e with staged := [], flushing := false, errAt := none }).evrCount
  b

def execEvrClear (key : BitVec 16) (force : Bool) (s : State) : Result :=
  match s.blk.evrClearRefusal key.toNat force with
  | some c => s.go fun b => b.status c
  | none => s.goBoth fun b m =>
    ((b.evrClear force).status 0).ringsFollow b (Memory.writeBytes (writeRecords m (b.evr.staged.map settleAll)) 0x53FFFFC0 (regionDescriptor ((b.get R.EVR_GEN_REGION_GEN + 1) % 2 ^ 32) b.counter)) evrKeptFields

/-! ## Power and starts (R547, R548) -/

/-- The commit point and step 4 of an orderly shutdown: a freeze ends, snapshots end, and every staged record is written. -/
def Block.evrDump (b : Block) : Block :=
  let l := b.evr.staged
  let b := b.inc R.EVR_CNT_WORDS_INVALID b.evrOpen
  let b := b.linesWritten (l.flatMap fun (r : EvrRec) => recordLines r.rseq)
  let b := ((b.set R.EVR_FREEZE_FREEZE 0).set R.EVR_STATUS_FROZEN 0).inc R.EVR_WRITTEN_COUNT l.length
  (b.modEvr fun e => { e with staged := [], flushing := false }).evrCount
def Block.evrDumpMem (b : Block) (m : Memory) : Memory := writeRecords m (b.evr.staged.map settleAll)

/-- A whole record stands in slot `k` of a generation. -/
def recordHolds (m : Memory) (gen k : Nat) : Bool :=
  let d := Memory.readBytes m (recordAt k) 192
  bytesAt d 0 4 == k && bytesAt d 4 4 == gen && bytesAt d 188 4 == crc32 (d.take 188)

/-- Whole records from slot `n` on, at most `fuel` of them. -/
def wholeFrom (m : Memory) (gen : Nat) : Nat → Nat → Nat
  | 0, n => n
  | fuel + 1, n => if recordHolds m gen n then wholeFrom m gen fuel (n + 1) else n

/-- What a start of island 0 finds: the records kept in staging that are written with RESTORED set, after the whole records of an interrupted flush. -/
def Block.evrKept (b : Block) (m : Memory) (powerOn : Bool) : List EvrRec :=
  let n := wholeFrom m (b.get R.EVR_GEN_REGION_GEN) evrStaging (b.get R.EVR_WRITTEN_COUNT)
  if powerOn then [] else ((b.evr.staged.map settleAll).filter fun r => decide (n ≤ r.rseq)).map fun r => { r with flags := withBit r.flags 2 true }

/-- The recorder restores its state at a start of island 0 and resumes. -/
def Block.evrStart (b : Block) (m : Memory) (powerOn : Bool) : Block :=
  let kept := b.evrKept m powerOn
  let n := wholeFrom m (b.get R.EVR_GEN_REGION_GEN) evrStaging (b.get R.EVR_WRITTEN_COUNT) + kept.length
  let waiting := b.evr.input
  let missed := b.evr.missed
  let written := b.get R.EVR_WRITTEN_COUNT
  let exported := b.get R.EVR_EXPORTED_COUNT
  let gen := b.get R.EVR_GEN_REGION_GEN
  let b := b.linesWritten (kept.flatMap fun (r : EvrRec) => recordLines r.rseq)
  let b := ((((b.set R.EVR_WRITTEN_COUNT (max written n)).set R.EVR_EXPORTED_COUNT exported).set R.EVR_GEN_REGION_GEN gen).set R.EVR_NEXT_RSEQ (max written n)).set R.EVR_STATUS_RUNNING 1
  let b := (b.modEvr fun _ => { live := true, missed := missed }).evrCount
  let b := b.when (evrRegion ≤ max written n) fun b => b.set R.EVR_STATUS_FULL 1
  b.eachOf waiting fun p b => b.evrEvent p
def Block.evrStartMem (b : Block) (m : Memory) (powerOn : Bool) : Memory := writeRecords m (b.evrKept m powerOn)

/-- A module-scope reset: the registers fall to their reset values but those of the retained class; staging stays. -/
def Block.evrReset (b : Block) : Block :=
  let written := b.get R.EVR_WRITTEN_COUNT
  let exported := b.get R.EVR_EXPORTED_COUNT
  let gen := b.get R.EVR_GEN_REGION_GEN
  let b := b.resetRegs 0x4B000000 0x4B008000
  let b := ((b.set R.EVR_WRITTEN_COUNT written).set R.EVR_EXPORTED_COUNT exported).set R.EVR_GEN_REGION_GEN gen
  b.modEvr fun e => { staged := e.staged, missed := e.missed }

end Sys2Proof.Machine
end

