-- ==== Sys2Proof/Machine/Islands.lean ====
section
/-! DEFINITION. Islands and cells: reset, loss, reload and start; module time and its steps (chapters 1, 3 and 5). -/

namespace Sys2Proof.Machine

open Sys2Proof

/-! ## Resets -/

/-- Cells of an island (Table 1.4). -/
def cellsOf (i : Nat) : List Nat :=
  if 6 ≤ i then (List.range 8).map (8 * (i - 6) + ·) else List.range ([7, 5, 3, 16, 7, 4].getD i 0)

/-- The origin that names the module as a whole (R15, R16). -/
def moduleOrigin : Nat := org 15 31 127

/-- The EVENT of a reset (R129, Table 23.1). -/
def Block.resetEvent (b : Block) (cause origin : Nat) : Block := b.eventRaw (islOrigin 0) ([0x10, 0, cause, 0] ++ le 2 origin ++ [0, 0])

/-- Counters and flags of an island-scope reset (R129). -/
def Block.recordIslandReset (b : Block) (i cause : Nat) : Block :=
  let b := (b.set (R.SUP_RST_ISLk_CAUSE i) cause).inc (R.SUP_RST_ISLk_COUNT i)
  let b := (b.setBit R.SUP_DEF_FLAGS_ISLAND i true).set (R.SUP_DEF_CELLk_CELL i) (R.SUP_DEF_CELLk_CELL i).reset
  b.resetEvent cause (islOrigin i)

/-- What the blocks of an island lose at its reset (Table 1.5). -/
def Block.islandBlocks (b : Block) (i : Nat) : Block :=
  match i with
  | 1 => (((b.yldReset.dspReset.ehrReset.cryReset.partsReset.whdEndAll).sstIsland1Lost).tileCacheLost)
  | 2 => b.leReset.solReset.managerReset.pairsReset
  | 3 => b.fReset.gnsReset
  | 4 => b.mbReset.ethReset.timingReset.tarnReset.resetRegs 0x42000000 0x42010000
  | 5 => b.sstReset.tileReset
  | _ => b.eachOf (cellsOf i) fun c b => b.cellReset c

/-- A running partial reconfiguration ends: its LOAD packets that still wait for a tag are given up, ABORT goes to every target, and each keeps its old configuration (R70, R81, R83). -/
def Block.prEnds (b : Block) (code entry : Nat) : Block :=
  match b.img.step with
  | none => b
  | some _ =>
    let targets := (b.img.prList.flatMap fun e => ((b.img.active.sections[e.2]?).map sectionTargets).getD []).eraseDups
    let b := ((b.set R.IMG_PR_STATUS_STATE 5).set R.IMG_PR_STATUS_CODE code).set R.IMG_PR_STATUS_ENTRY entry
    let b := (b.set R.IMG_STATUS_STATE 3).set R.IMG_STATUS_CODE code
    let b := (b.modFab fun x => { x with waiting := x.waiting.filter fun w => w.load.isNone }).tagCounts
    ({ b with img := { b.img with step := none, prList := [] } }).loadAborts targets

/-- Entry of the partial reconfiguration whose section has a target in island `i`. -/
def Block.prEntryIn (b : Block) (i : Nat) : Option Nat :=
  (b.img.prList.find? fun e => ((b.img.active.sections[e.2]?).map fun x => oIsland x.target == i).getD false).map (·.1)

/-- A reset of an island aborts a running partial reconfiguration: with ISLAND_LOST where it holds a target, else with RELOAD_BUSY (R83). -/
def Block.reloadAborts (b : Block) (i : Nat) : Block :=
  match b.prEntryIn i with
  | some e => b.prEnds ISLAND_LOST e
  | none => b.prEnds RELOAD_BUSY 0

/-- GNSS time is lost: HOLDOVER, the bound growing from its value now (R33). -/
def Block.mtHoldover (b : Block) : Block :=
  if b.get R.SUP_MTIME_STATUS_STATE = 2 then { (b.set R.SUP_MTIME_STATUS_STATE 3) with sys := { b.sys with b0 := b.get R.SUP_MTIME_ERR_BOUND_NS, leftLock := some b.now } } else b

/-- The step under way can still be aborted by the loss of an island: the loss comes before INSTANT - 1 ms (R70). -/
def Block.lossAborts (b : Block) : Bool := b.img.step.any fun s => s.stage != .armed || decide (b.sys.mtime + ms < s.instant)

/-- Island 0 declares an island lost (R26, R60, R61, Table 1.5): LOST, every packet held for it and every request to it answered, nets and a reconfiguration that need it ended; without island 3 module time goes into HOLDOVER and fused states carry CONF 0. -/
def Block.declareLost (b : Block) (i : Nat) : Block :=
  if b.isLost i || b.bitOf R.IMG_STATUS_RELOAD_PENDING i == false && !b.bitOf R.SUP_ISL_STATUS_HELD i then b
  else
    let b := ((((b.setBit R.SUP_ISL_STATUS_LOST i true).answerHeld (heldTo i) ISLAND_LOST).failTagsTo i).netsLost i)
    let b := b.when ((b.prEntryIn i).isSome && b.lossAborts) fun b => b.prEnds ISLAND_LOST ((b.prEntryIn i).getD 0)
    b.when (i == 3) fun b => b.mtHoldover.modSteer fun t => { t with coming := [], fused := t.fused.take 70 ++ ([0, 0, 0, 0] : List Nat).take (t.fused.length - 70) ++ t.fused.drop 74 }

/-- Island 0 holds an island in reset and marks it lost: only a reset of module scope releases it (R25, R522). -/
def Block.holdIsland (b : Block) (i : Nat) : Block := ((b.setBit R.SUP_ISL_STATUS_HELD i true).fallDue).declareLost i

/-- What an island's reset or power-down leaves of the loader's work in it: nothing. -/
def Block.loadsGone (b : Block) (i : Nat) : Block :=
  { b with img := { b.img with staged := b.img.staged.filter (fun x => oIsland x.target != i), quiesced := b.img.quiesced.filter (fun t => oIsland t != i), owing := b.img.owing.filter (fun m => oIsland m.target != i), cells := b.img.cells.filter (·.1 != i) } }

/-- The island whose reload begins next: ascending number, none but island 1 itself while island 1 is not up (R23). -/
def Block.nextReload (b : Block) : Option Nat :=
  let waits := fun (i : Nat) => (b.island i).run == .reloading
  if waits 1 then some 1
  else if (b.island 1).run != .running then none
  else (List.range 9).find? fun i => i != 0 && waits i

/-- The next reload begins where none is in progress. -/
def Block.reloadNext (b : Block) : Block := if b.sys.reload.isSome then b else { b with sys := { b.sys with reload := b.nextReload } }

/-- The reload of an island ends or is given up. -/
def Block.reloadOver (b : Block) (i : Nat) : Block := if b.sys.reload = some i then { b with sys := { b.sys with reload := none } } else b

/-- A reset of island 1 abandons the reload that it runs: that island is held in reset, lost and without what it staged, until island 1 is up (R23). -/
def Block.abandonReload (b : Block) : Block :=
  match b.sys.reload with
  | none => b
  | some j =>
    if j = 1 then b.reloadOver 1
    else
      let b := ((b.reloadOver j).modIsland j fun x => { x with run := .inReset }).loadsGone j
      ({ b with sys := { b.sys with abandoned := b.sys.abandoned ++ [j] } }).declareLost j

/-- A reset of an island asserts (R22 to R25, R60, R129). -/
def Block.islandReset (b : Block) (i cause : Nat) : Block :=
  if b.bitOf R.SUP_ISL_STATUS_HELD i || (b.island i).run == .poweredDown then b
  else
    let b := b.reloadAborts i
    let counts := cause != 0x14
    let l := if counts then b.now :: recent b.now (60 * sec) (b.island i).resets else (b.island i).resets
    let b := (b.islandBlocks i).recordIslandReset i cause
    let b := b.modIsland i fun x => { x with run := .inReset, resets := l }
    let b := ((b.fabricReset i).netsLost i).loadsGone i
    let b := { b with sys := { b.sys with abandoned := b.sys.abandoned.filter (· != i) } }
    let held := counts && 3 ≤ l.length
    let b := b.setBit R.IMG_STATUS_RELOAD_PENDING i (!held)
    let b := b.when held fun b => b.holdIsland i
    ((b.reloadOver i).when (i == 1) (·.abandonReload)).reloadNext

/-- The cause codes of an island-scope reset (Table 5.9). -/
def execIslandResetAssert (k : Fin 8) (cause : Fin 4) (s : State) : Result := s.go fun b => b.islandReset (k + 1) (0x10 + cause)

def execIslandLostDeclare (k : Fin 8) (s : State) : Result := s.go fun b => b.declareLost (k + 1)

/-- The limit of 1 ms of the links of an island that are down begins anew at the release of its reset (R48). -/
def Block.linkLimits (b : Block) (i : Nat) : Block :=
  b.each 36 fun k b => if ((linkEnds k).1 = i || (linkEnds k).2 = i) && !b.flag (R.FAB_LINKk_UP k) then b.modLink k fun l => { l with downAt := some b.now } else b

/-- A reset is released: the island waits for its reload; the cells of a field island hold their units stopped. -/
def Block.islandRelease (b : Block) (i : Nat) : Block :=
  if (b.island i).run != .inReset || b.bitOf R.SUP_ISL_STATUS_HELD i || b.sys.abandoned.contains i || b.upd.safeHold || b.pwr.inReset then b
  else ((b.modIsland i fun x => { x with run := .reloading, beaconAt := b.now }).linkLimits i).reloadNext

def execIslandResetRelease (k : Fin 8) (s : State) : Result := s.go fun b => b.islandRelease (k + 1)

/-! ## Starting what an island holds -/

/-- A field cell begins, its duty window preset, its deferred EVENTs sent (R167, R176). -/
def Block.cellBegin (b : Block) (c : Nat) (preset : Bool) (keep : List Nat := []) : Block :=
  let late := (List.range 8).map fun u => (b.ch (8 * c + u)).core.late
  let b := b.cellStart c keep
  b.each 8 fun u b =>
    let ch := 8 * c + u
    let b := b.when preset fun b => b.dutyPreset ch
    (b.eachOf (late.getD u []) fun bit b => b.event (chOrigin ch) (R.FC_CH_STATUS_ON ch).addr bit).modCore ch fun k => { k with late := [] }

/-- A section of a type is selected for a target. -/
def Block.selectedFor (b : Block) (t target : Nat) : Bool := !(b.selectedSections fun x => x.type == t && (sectionTargets x).contains target).isEmpty

/-- The streams that the units of a cell begin restart (R59, R61). -/
def Block.resyncCellOf (b : Block) (i c : Nat) : Block := b.resync fun o => oIsland o == i && oCell o == c

/-- The message-bus ports of cell `c` start, and the Tarn ports. -/
def Block.mbCellStart (b : Block) (c : Nat) : Block := b.each 8 fun u b => (b.when (b.selectedFor 0x50 (mbOrigin (8 * c + u))) fun b => b.mbCommit (8 * c + u)).mbImageStart (8 * c + u)
def Block.tarnCellStart (b : Block) (c : Nat) : Block := b.each 8 fun u b => b.tStart (8 * (c - 4) + u)

/-- The partitions of the selected sections start. -/
def Block.partsStart (b : Block) : Block := b.eachOf (b.selectedSections fun x => x.type == 0x20 || x.type == 0x21) fun e b => b.partStart (oUnit e.1.target)

/-- The units of an island start: what a START to every target of it does. -/
def Block.islandStart (b : Block) (i : Nat) (preset : Bool) : Block :=
  match i with
  | 1 => b.partsStart.yldStart.dspStart.ehrStart
  | 2 => ((b.leStart.solStart).pairsStart).modeReenter
  | 3 => b.fStart.gnsStart (b.get (R.SUP_RST_ISLk_CAUSE 3) == 0x14)
  | 4 => (((((b.mbCellStart 0).mbCellStart 1).mbCellStart 2).tarnCellStart 4).tarnCellStart 5).evtStart
  | 5 => b.sstMount.tileStart
  | _ => b.eachOf (cellsOf i) fun c b => b.cellBegin c preset

/-- The sections of a scope. -/
def inIsland (i : Nat) (x : Section) : Bool := oIsland x.target == i

/-- A reload that meets a section which cannot be loaded: the island stays in reset and lost, the failure counts towards R25, and the next island's reload begins (R23, R72). -/
def Block.reloadFails (b : Block) (i code sect : Nat) : Block :=
  let l := b.now :: recent b.now (60 * sec) (b.island i).resets
  let b := ((b.loadAborts (b.targetsOf (inIsland i))).loadError code sect).modIsland i fun x => { x with run := .inReset, resets := l }
  let b := (b.declareLost i).when (decide (3 ≤ l.length)) fun b => (b.setBit R.IMG_STATUS_RELOAD_PENDING i false).holdIsland i
  (b.reloadOver i).reloadNext

/-- Islands whose reload was abandoned are loaded again from the beginning once island 1 is up (R23). -/
def Block.readmit (b : Block) : Block :=
  let l := b.sys.abandoned
  ({ b with sys := { b.sys with abandoned := [] } }).eachOf l fun j b => b.islandRelease j

/-- The sections of an island in force and its units started, at one COMMIT INSTANT 5 ms after the last DATA is answered (R70, R72). -/
def Block.reloadInto (b : Block) (i : Nat) : Block :=
  let t := b.sys.mtime + 5 * ms
  let b := (b.loadTrail (b.selectedSections (inIsland i)) (fun _ => true) t t).toModule t
  let b := (b.loadSections (inIsland i)).modIsland i fun x => { x with run := .running, beaconAt := b.now }
  ((b.set (R.SUP_CELL_HELDk_CELL i) 0).failTagsTo i).resyncIsland i

/-- The reload of an island completes: its sections are in force, its units start, its LOST bit clears, and the next island follows (R22 to R26, R61, R72). -/
def Block.reloadDone (b : Block) (i : Nat) : Block :=
  if (b.island i).run != .reloading || b.sys.reload != some i then b
  else match b.loadFault (inIsland i) with
    | some (code, sect) => b.reloadFails i code sect
    | none =>
      let b := (((b.reloadInto i).setBit R.SUP_ISL_STATUS_LOST i false).setBit R.IMG_STATUS_RELOAD_PENDING i false).inc R.IMG_RELOAD_CNT_ISLAND
      let b := { b with img := { b.img with cells := b.img.cells.filter (·.1 != i) } }
      let b := (b.islandStart i true).when (i == 5) (·.yldResend)
      ((b.reloadOver i).when (i == 1) (·.readmit)).reloadNext

def execIslandReloadComplete (k : Fin 8) (s : State) : Result := s.go fun b => b.reloadDone (k + 1)

/-! ## Cells (R72, R73) -/

/-- A selected section that covers a cell, its units or it alone. -/
def coversCell (i c : Nat) (x : Section) : Bool := oIsland x.target == i && decide (oCell x.target ≤ c) && decide (c < oCell x.target + x.span)

/-- The ports of one cell of island 4 lose what they hold. -/
def Block.mbCellReset (b : Block) (c : Nat) : Block := b.each 8 fun u b =>
  let n := 8 * c + u
  let b := b.eachOf (b.port n).queue fun q b => b.refuse (islOrigin 4) ISLAND_LOST q.pkt
  let term := (b.get (R.MB_PHY_TERM_EN n), b.get (R.MB_PHY_TBC_EN n))
  let b := ((b.resetRegs (0x47000000 + 0x1000 * n) (0x47001000 + 0x1000 * n)).resetRegs (0x47100000 + 0x800 * n) (0x47100800 + 0x800 * n)).modPort n fun _ => {}
  (b.set (R.MB_PHY_TERM_EN n) term.1).set (R.MB_PHY_TBC_EN n) term.2

def Block.tarnCellReset (b : Block) (c : Nat) : Block := b.each 8 fun u b =>
  let p := 8 * (c - 4) + u
  { b.resetRegs (0x42000000 + 0x1000 * p) (0x42001000 + 0x1000 * p) with tarn := updAt b.tarn p fun _ => {} }

/-- The tracking channels of a correlator cell lose what they track. -/
def Block.corrReset (b : Block) (c : Nat) : Block := b.each 32 fun u b => if b.gch (32 * c + u) = chIDLE then b else b.gchIdle (32 * c + u)

/-- The RF front ends lose their supply state. -/
def Block.antsReset (b : Block) : Block := { b.resetRegs 0x44800014 0x4480001C with gnss := { b.gnss with retry := [none, none], jammed := 0 } }

/-- The convoy solver loses its state. -/
def Block.cvyReset (b : Block) : Block := { b.resetRegs 0x45080000 0x45080100 with cvy := {} }

/-- What a cell loses at its reset; the rest of its island runs on (R72). The cells of the LPDDR5 controller, of the inertial sensor, of the storage root ports and of the Millpond controller have no registers of their own. -/
def Block.cellBlocks (b : Block) (i c : Nat) : Block :=
  match i, c with
  | 1, 0 => b.partsReset
  | 1, 2 => b.dspReset
  | 1, 3 => b.cryReset
  | 1, 4 => b.yldReset
  | 2, 0 => b.leReset
  | 2, 1 => b.solReset
  | 2, 2 => b.managerReset.pairsReset
  | 3, 12 => b.antsReset
  | 3, 13 => b
  | 3, 14 => b.fReset
  | 3, 15 => b.cvyReset
  | 3, _ => b.corrReset c
  | 5, 1 => b.sstReset
  | 5, 2 => b.tileReset
  | 4, 3 => b.ethReset
  | 4, 4 => b.tarnCellReset 4
  | 4, 5 => b.tarnCellReset 5
  | 4, 6 => b.timingReset.netsLostEvt
  | 4, _ => b.mbCellReset c
  | _, _ => if 6 ≤ i then (b.cellReset c).netsLostCell c else b

/-- A cell reset (R125, R129): it aborts a running partial reconfiguration with RELOAD_BUSY (R83), only its own units stop, and its sections are loaded again. -/
def Block.resetCell (b : Block) (i c cause : Nat) : Block :=
  let b := (b.prEnds RELOAD_BUSY 0).cellBlocks i c
  let mine := fun (t : Nat) => oIsland t == i && oCell t == c
  let b := { b with img := { b.img with staged := b.img.staged.filter (fun x => !mine x.target), quiesced := b.img.quiesced.filter (fun t => !mine t), owing := b.img.owing.filter fun m => !mine m.target } }
  b.recordCellReset i c cause

/-- The lockstep cores disagree: cell 2 of island 2 is reset with cause 0x21 (R212). -/
def Block.lockstepMismatch (b : Block) : Block := b.resetCell 2 2 0x21

/-- Island 2 runs its lockstep cell. -/
def Block.lockstepRuns (b : Block) : Bool := (b.island 2).run == .running && !b.cellOff (org 2 2 127)

def execDcpSampleArrival (n : Fin 48) (second : Bool) (p : Packet) (mismatch : Bool) (s : State) : Result := s.go fun b =>
  if !b.lockstepRuns then b else if mismatch then b.lockstepMismatch else if b.heard p then b.pairArrival n second p else b

def execDcpCheck (mismatch : Bool) (s : State) : Result := s.go fun b =>
  if !b.lockstepRuns then b else if mismatch then b.lockstepMismatch else b.pairCheck

/-- The units of one cell start, their streams at SEQ 0 with RESYNC. -/
def Block.cellUnitsStart (b : Block) (i c : Nat) : Block :=
  let b := b.resyncCellOf i c
  match i, c with
  | 1, 0 => b.partsStart
  | 1, 2 => b.dspStart
  | 1, 4 => b.yldStart
  | 2, 0 => b.leStart
  | 2, 1 => b.solStart
  | 2, 2 => b.pairsStart.modeReenter
  | 3, 14 => b.fStart
  | 3, 15 => b.cvyStart
  | 5, 1 => b.sstMount
  | 5, 2 => b.tileStart
  | 4, 0 => b.mbCellStart 0
  | 4, 1 => b.mbCellStart 1
  | 4, 2 => b.mbCellStart 2
  | 4, 4 => b.tarnCellStart 4
  | 4, 5 => b.tarnCellStart 5
  | 4, 6 => b.evtStart
  | _, _ => if 6 ≤ i then b.cellBegin c true else b

/-- The origins within a cell. -/
def cellScope (i c t : Nat) : Bool := oIsland t == i && oCell t == c

/-- A cell that cannot be loaded is held off (R73). -/
def Block.cellHeld (b : Block) (i c code sect : Nat) : Block :=
  let b := ((b.loadAborts (b.targetsOf (coversCell i c) (cellScope i c))).loadError code sect).setBit (R.SUP_CELL_HELDk_CELL i) c true
  let b := b.when (decide (6 ≤ i)) fun b => b.modCell c fun k => { k with run := .heldOff }
  (b.event loaderOrigin (R.SUP_CELL_HELDk_CELL i).addr c)

/-- The reload of a cell completes: its share of its sections is in force at one COMMIT INSTANT, its units start (R70, R72). -/
def Block.cellReloadDone (b : Block) (i c : Nat) : Block :=
  if !b.img.cells.contains (i, c) then b
  else
    let b := { b with img := { b.img with cells := b.img.cells.filter (· != (i, c)) } }
    match b.loadFault (coversCell i c) with
    | some (code, sect) => b.cellHeld i c code sect
    | none =>
      let t := b.sys.mtime + 5 * ms
      let b := (b.loadTrail (b.selectedSections (coversCell i c)) (cellScope i c) t t).toModule t
      let b := (b.loadSections (coversCell i c) (cellScope i c)).setBit (R.SUP_CELL_HELDk_CELL i) c false
      (b.inc R.IMG_RELOAD_CNT_CELL).cellUnitsStart i c

def execCellReloadComplete (island : Fin 9) (cell : Fin 31) (s : State) : Result := s.go fun b => b.cellReloadDone island cell

/-! ## Watchdogs, rails and software resets of islands and cells (R125 to R128) -/

/-- A BEACON arrives: one from an island feeds its watchdog; one from island 0 keeps the island's copy of module time, which the model keeps as one (R32). -/
def execBeacon (sender : Fin 9) (s : State) : Result := s.go fun b => b.modIsland sender fun x => { x with beaconAt := b.now }

/-- An island's watchdog expires without a BEACON. -/
def Block.watchdogExpires (b : Block) (i : Nat) : Block :=
  if !b.released i then b else (b.reach ((b.island i).beaconAt + b.sys.watchdog * ms)).islandReset i 0x11

def execIslandWatchdog (k : Fin 8) (s : State) : Result := s.go fun b => b.watchdogExpires (k + 1)

/-- A target that SUP_RST_CTRL refuses: island 0, a reserved code, no such cell, or a scope that does not match the action bit. -/
def badTarget (o : Nat) (cell : Bool) : Bool :=
  let i := oIsland o
  i == 0 || decide (8 < i) || oUnit o != 127 || (if cell then !(cellsOf i).contains (oCell o) else oCell o != 31)

def BAD_TARGET : Nat := 0x71

def execSupRstIsland (key : BitVec 16) (s : State) : Result :=
  let o := s.blk.get R.SUP_RST_TARGET_ORIGIN
  s.ask (if key.toNat ≠ 0xB1EF then some BAD_KEY else if badTarget o false then some BAD_TARGET else none) fun b => b.islandReset (oIsland o) 0x10

def execSupRstCell (key : BitVec 16) (s : State) : Result :=
  let o := s.blk.get R.SUP_RST_TARGET_ORIGIN
  s.ask (if key.toNat ≠ 0xB1EF then some BAD_KEY else if badTarget o true then some BAD_TARGET else none) fun b => b.resetCell (oIsland o) (oCell o) 0x20

/-- An island detects a sequencer fault in one of its cells. -/
def execCellFaultReset (island : Fin 8) (cell : Fin 31) (s : State) : Result :=
  s.if_ ((cellsOf (island + 1)).contains cell.val) fun b => b.resetCell (island + 1) cell 0x21

/-! ## A link that does not retrain (R48) -/

def execLinkRetrainTimeout (link : Fin 36) (s : State) : Result := s.go fun b =>
  let (i, j) := linkEnds link
  match (b.link link).downAt with
  | none => b
  | some t =>
    if b.flag (R.FAB_LINKk_UP link) || !b.released i || !b.released j || b.isLost i || b.isLost j then b
    else ((b.reach (t + ms)).set R.FAB_ERR_STAT_LINK_FAILED 1 |>.islandReset j 0x13).declareLost j

/-! ## Module time (R28 to R34) -/

/-- A read of SUP_MTIME_LO latches the high word (R10). -/
def Block.mtimeLatch (b : Block) : Block := (b.set R.SUP_MTIME_LO_NS_LO b.counter).set R.SUP_MTIME_HI_NS_HI (b.counter / 2 ^ 32)

def execSupMtimeLoRead (s : State) : Result := s.go (·.mtimeLatch)

/-- GNSS time is applied: LOCKED, with a bound the spec gives no formula for. -/
def Block.mtLocked (b : Block) : Block :=
  let was := b.get R.SUP_MTIME_STATUS_STATE
  let b := (b.set R.SUP_MTIME_STATUS_STATE 2).setOpen R.SUP_MTIME_ERR_BOUND_NS
  let b := { b with sys := { b.sys with leftLock := none } }
  b.when (was == 0) (·.ehrHellos)

/-- A rate adjustment in ppb, 0 to 10,000, that the hardware chooses within its ±10 ppm (R30, log entry 97); the count is slowed by it while the offset left is positive, and sped up while it is negative. -/
def rateOf (n : Int) : Int := (n.natAbs % 10001 : Nat)

/-- A correction from island 3: offset of module time against GNSS time in ps. Up to 100 µs it is slewed; the first larger one before any GNSS time was applied steps module time once, at an instant at least 10 ms ahead (R30, R31). -/
def Block.mtCorrect (b : Block) (ofs : Int) : Block :=
  if ofs.natAbs ≤ 100000000 then
    let rate := rateOf (b.fresh 0)
    { b.spend.mtLocked with sys := { b.spend.mtLocked.sys with slew := ofs / 1000, rateAdj := rate } }
  else if b.get R.SUP_MTIME_STATUS_STATE ≤ 1 && !b.sys.stepped && b.sys.step.isNone then
    { b.spend with sys := { b.sys with step := some (b.sys.mtime + 10 * ms + b.open_, -ofs / 1000) } }
  else b

def execMtimeCorrection (ofs : Int) (s : State) : Result := s.if_ (2 ≤ s.blk.get R.PWR_STATE_STATE) fun b => b.mtCorrect ofs

/-- The announced instant arrives: every copy of module time steps. STEP_US is the step in whole µs, towards minus infinity (DESIGN CHOICE, log entry 135: the spec names no rounding). Timers run on elapsed time, and frames, epochs and cycles realign (R31, R253). -/
def Block.mtStep (b : Block) : Block :=
  match b.sys.step with
  | none => b
  | some (t, d) =>
    let b := b.toModule t
    let us_ := d / 1000
    let b := { b with sys := { b.sys with mtime := ((b.sys.mtime : Int) + d).toNat, step := none, stepped := true } }
    let b := ((b.seti R.SUP_MTIME_STEP_STEP_US (clampI (-2147483647) 2147483647 us_)).set R.SUP_MTIME_STATUS_STEPPED 1).eventRaw (org 0 6 127) ([0x13, 0, 0, 0] ++ le 4 (lowBits 32 (clampI (-2147483647) 2147483647 us_)))
    let b := (b.mtLocked.fStep.loopRealign).ethStep d
    let b := b.modUpd fun u => { u with sched := u.sched.map fun x => { x with skipped := b.get R.PWR_STATE_STATE == 3 && x.last.isNone && decide (t < x.instant) && decide (x.instant < b.sys.mtime) } }
    { b with solver := { b.solver with realign := true } }

def execMtimeStep (s : State) : Result := s.go (·.mtStep)

def execMtimeHoldover (s : State) : Result := s.go (·.mtHoldover)

/-- After 4 h of holdover: FREE. -/
def execMtimeFree (s : State) : Result := s.if_ (s.blk.get R.SUP_MTIME_STATUS_STATE == 3) fun b =>
  (b.reach (b.sys.leftLock.getD b.now + 14400 * sec)).set R.SUP_MTIME_STATUS_STATE 4

end Sys2Proof.Machine
end

