-- ==== Sys2Proof/Machine/Backup.lean ====
section
/-! DEFINITION. The backup domain: calendar, alarms, PWR_REQ, supply and loss (chapter 21: R494 to R507). -/

namespace Sys2Proof.Machine

open Sys2Proof

def TIME_OWNED : Nat := 0x64
def BAD_CALENDAR : Nat := 0x65

/-- Origin of the domain (R16). -/
def bkpOrigin : Nat := 0x9FFF

def Block.modBkp (b : Block) (f : Backup → Backup) : Block := { b with bkp := f b.bkp }

/-- Software and island 0 reach the domain: island 0 is out of reset and out of its low-power wait. -/
def Block.bkpReach (b : Block) : Bool := !b.pwr.inReset && decide (2 ≤ b.get R.PWR_STATE_STATE)

/-! ## PWR_REQ (R504, R505) -/

/-- The pin sinks current: the request is latched, and no module-scope reset is asserted. -/
def Block.pwrReqPin (b : Block) : Bool := b.flag R.BKP_PWRREQ_ACTIVE && !b.pwr.inReset

/-- A cause sets the request latch; one that arrives while it is set changes nothing. -/
def Block.pwrRequest (b : Block) : Block :=
  if b.flag R.BKP_PWRREQ_ACTIVE then b else (b.set R.BKP_PWRREQ_ACTIVE 1).modBkp fun k => { k with reqAt := b.now, maxAt := b.now }

/-- The request ends. -/
def Block.requestEnds (b : Block) : Block := b.set R.BKP_PWRREQ_ACTIVE 0

/-- LEVEL mode. -/
def Block.reqLevel (b : Block) : Bool := !b.flag R.BKP_PWRREQ_MODE

def execPwrreqSet (s : State) : Result := s.if_ s.blk.bkpReach fun b => b.pwrRequest.status 0

def execPwrreqClr (s : State) : Result := s.if_ s.blk.bkpReach fun b => (b.when b.reqLevel (·.requestEnds)).status 0

def execPwrreqPulseEnd (s : State) : Result := s.if_ (s.blk.flag R.BKP_PWRREQ_ACTIVE && !s.blk.reqLevel) fun b =>
  (b.reach (b.bkp.reqAt + max 1 (b.get R.BKP_PWRREQ_PULSE_MS) * 10 * ms)).requestEnds

/-- REQ_MAX_S runs only while LOGIC_BAT is not valid. -/
def execPwrreqMax (s : State) : Result := s.if_ (s.blk.flag R.BKP_PWRREQ_ACTIVE && s.blk.reqLevel && !s.blk.flag R.PWR_STATUS_LOGIC_VALID) fun b =>
  ((b.reach (b.bkp.maxAt + b.get R.BKP_PWRREQ_REQ_MAX_S * sec)).requestEnds).set R.BKP_STATUS_REQ_TIMEOUT 1

/-- LOGIC_BAT ceases to be valid: REQ_MAX_S begins to run. -/
def Block.reqMaxRuns (b : Block) : Block := b.modBkp fun k => { k with maxAt := b.now }

/-! ## Alarms (R502, R503) -/

/-- Alarm `a` matches the second that the RTC holds. -/
def Block.alarmMatches (b : Block) (a : Nat) : Bool :=
  let want := [R.BKP_ALMa_TIME_SEC a, R.BKP_ALMa_TIME_MIN a, R.BKP_ALMa_TIME_HOUR a, R.BKP_ALMa_TIME_WDAY a, R.BKP_ALMa_DATE_DAY a, R.BKP_ALMa_DATE_MONTH a, R.BKP_ALMa_DATE_YEAR a].map b.use
  let mask := b.use (R.BKP_ALMa_CFG_MASK a)
  b.use (R.BKP_ALMa_CFG_EN a) != 0 && (List.range 7).all fun k => bit mask k || want.getD k 0 == (rtcFields b.bkp.secs).getD k 0

/-- A match: FLAG, the request where REQ is set, the EVENT now or once island 0 is up, and outside RUN a pending wake where the alarm is enabled. -/
def Block.alarmActs (b : Block) (a : Nat) : Block :=
  let f := R.BKP_ALMa_CFG_FLAG a
  let b := b.set f 1
  let b := b.when (b.use (R.BKP_ALMa_CFG_REQ a) != 0) (·.pwrRequest)
  let b := if b.bkpReach then b.event bkpOrigin f.addr f.lo else b.modBkp fun k => { k with events := k.events ++ [a] }
  let wakes := b.bitOf R.PWR_WAKE_EN_SRC a && (b.get R.PWR_STATE_STATE != 3 || b.pwr.inReset)
  b.when wakes fun b => { b with pwr := { b.pwr with wake := some (b.pwr.wake.getD (a + 1)) } }

/-- EVENTs of alarms that waited for island 0. -/
def Block.alarmEvents (b : Block) : Block :=
  let l := b.bkp.events
  (b.eachOf l fun a b => b.event bkpOrigin (R.BKP_ALMa_CFG_FLAG a).addr (R.BKP_ALMa_CFG_FLAG a).lo).modBkp fun k => { k with events := [] }

/-! ## The calendar -/

/-- The RTC counts into a new second; at the end of its range it stops with RTC_VALID clear (R497). Written alarm fields come into use, and both alarms are tested. -/
def Block.rtcSecond (b : Block) : Block :=
  let b := b.reach (b.bkp.secAt + sec)
  if b.bkp.ended then b
  else if rtcRange ≤ b.bkp.secs + 1 then (b.set R.BKP_STATUS_RTC_VALID 0).modBkp fun k => { k with ended := true }
  else
    let b := (b.modBkp fun k => { k with secs := k.secs + 1, secAt := k.secAt + sec }).boundary 0x49000030 0x49000050
    let hit := (List.range 2).filter b.alarmMatches
    b.eachOf hit fun a b => b.alarmActs a

def execRtcSecond (s : State) : Result := s.go (·.rtcSecond)

/-- The second count that the SET registers name; none for a date or time that does not exist or lies outside the range of R497. -/
def Block.setSeconds (b : Block) : Option Nat :=
  let t := b.get R.BKP_RTC_SET_TIME_TIME
  let d := b.get R.BKP_RTC_SET_DATE_DATE
  let (sc, mi, ho) := (t % 64, t / 256 % 64, t / 65536 % 32)
  let (da, mo, ye) := (d % 32, d / 256 % 16, d / 65536 % 256)
  if sc < 60 && mi < 60 && ho < 24 && 1 ≤ mo && mo ≤ 12 && ye < 220 && 1 ≤ da && da ≤ monthDays (1980 + ye) mo then
    some (dayCount (1980 + ye) mo da * 86400 + ho * 3600 + mi * 60 + sc)
  else none

/-- BKP_CTRL.SET (R498). -/
def Block.rtcSetRefusal (b : Block) : Option Nat :=
  if b.get R.SUP_MTIME_STATUS_STATE = 2 then some TIME_OWNED else if b.setSeconds.isNone then some BAD_CALENDAR else none

def Block.rtcSet (b : Block) : Block := b.rtcPut (b.setSeconds.getD 0) (b.get R.BKP_RTC_SET_BOUND_MS * ms)

def execBkpRtcSet (s : State) : Result := if s.blk.bkpReach then s.ask s.blk.rtcSetRefusal (·.rtcSet) else s.go id

/-- While LOCKED island 0 sets the RTC every 64 s, and at the first whole second after the leap-second count changes; each set takes place at a whole second of module time. -/
def execRtcAutoSet (s : State) : Result := s.if_ (s.blk.bkpReach && s.blk.get R.SUP_MTIME_STATUS_STATE == 2) fun b =>
  let changed := b.bkp.leap.isSome && b.sys.leap != b.bkp.leap
  ((if changed then b else b.reach (b.bkp.autoAt + 64 * sec)).toBoundary sec changed).rtcFromModule

/-- A calibration window of 1,024 s ends with a measured rate error in ppb, positive for a fast RTC (R500). -/
def Block.calWindow (b : Block) (rate : Int) : Block :=
  let b := b.reach (b.bkp.calAt + 1024 * sec)
  let b := b.modBkp fun k => { k with calAt := b.now }
  if 250000 < rate.natAbs then b.raise bkpOrigin R.BKP_STATUS_CAL_FAIL
  else b.seti R.BKP_RTC_CAL_TRIM (clampI (-255) 255 (b.geti R.BKP_RTC_CAL_TRIM + rquot rate 954))

def execRtcCalWindow (rate : Int) (s : State) : Result :=
  s.if_ (s.blk.bkpReach && s.blk.flag R.BKP_RTC_CAL_AUTO && s.blk.get R.SUP_MTIME_STATUS_STATE == 2) fun b => b.calWindow rate

/-- A read of BKP_RTC_TIME latches date, sub-second and bound at the same instant (R501). -/
def Block.rtcLatch (b : Block) : Block :=
  let f := rtcFields (b.rtcTicks / 32768)
  let b := ([R.BKP_RTC_TIME_SEC, R.BKP_RTC_TIME_MIN, R.BKP_RTC_TIME_HOUR, R.BKP_RTC_DATE_WDAY, R.BKP_RTC_DATE_DAY, R.BKP_RTC_DATE_MONTH, R.BKP_RTC_DATE_YEAR].zip f).foldl (fun (b : Block) e => b.set e.1 e.2) b
  (b.set R.BKP_RTC_SUB_SUBSEC (b.rtcTicks % 32768)).set R.BKP_RTC_BOUND_US b.rtcBoundUs

def execBkpRtcRead (s : State) : Result := s.if_ s.blk.bkpReach (·.rtcLatch)

/-! ## Supply and loss -/

/-- The rail, in mV, falls below VBAK + 50 mV or below 2.9 V: the domain switches to VBAK, no tick lost and no word altered (R495). -/
def execBkpSwitchVbak (rail vbak : Nat) (s : State) : Result := s.if_ (!s.blk.flag R.BKP_STATUS_SOURCE && (decide (rail < vbak + 50) || decide (rail < 2900))) fun b =>
  ((b.set R.BKP_STATUS_SOURCE 1).inc R.BKP_STATUS_SWITCHES).set R.BKP_STATUS_SWITCH_EV 1

/-- The rail exceeds both 3.0 V and VBAK + 150 mV. -/
def execBkpSwitchRail (rail vbak : Nat) (s : State) : Result := s.if_ (decide (3000 < rail) && decide (vbak + 150 < rail)) fun b => b.set R.BKP_STATUS_SOURCE 0

/-- The domain's own power-on reset (R507): every BKP_ field at its reset value, the calendar at its begin, no request, and what stands in the backup SRAM lost:
the hot-start copies, the mode word, the counters of the backup class and the lockout state. -/
def Block.bkpPor (b : Block) : Block :=
  let b := b.resetRegs 0x49000000 0x49000054
  let b := (((b.set R.PWR_PF_CNT_ABORTS 0).set R.PWR_PF_CNT_COMMITS 0).set R.SUP_RST_CAUSE_COUNT 0).resetRegs 0x4D00000C 0x4D000014
  { b with bkp := { secAt := b.now }
           mode := { b.mode with bak := none }
           gnss := { b.gnss with copies := b.gnss.copies.map fun c => { c with valid := false } }
           whd := { b.whd with paths := b.whd.paths.map fun (p : WhdPath) => { p with attempts := [], lockEnd := none } } }

def execBkpPor (s : State) : Result := s.goMem (·.bkpPor) (fun _ m => Memory.zero m 0x49010000 0x10000)

end Sys2Proof.Machine
end

