-- ==== Sys2Proof/Machine/Loader.lean ====
section
/-! DEFINITION. The image loader: LOAD packets at their targets, and partial reconfiguration (chapter 3: R68 to R73, R79 to R83). -/

namespace Sys2Proof.Machine

open Sys2Proof

/-! ## Targets -/

/-- The section a LOAD packet names. -/
def Block.loadSection (b : Block) (m : LoadMsg) : Option Section := b.img.active.sections[m.section_]?

/-- What a target does with a LOAD packet: one to a lost or powered-down island or cell is answered by the router of island 0, one that names no section of the target with SECTION_BAD (R68, R606). -/
def Block.atTarget (b : Block) (m : LoadMsg) (named : Bool) (f : Block → Block) : Block :=
  if b.barred m.target then b.refuse (islOrigin 0) ISLAND_LOST { kind := .load, stream := 0, origin := loaderOrigin, tag := m.tag }
  else if named && !((b.loadSection m).any fun x => (sectionTargets x).contains m.target) then b.loadAnswer m SECTION_BAD
  else f b

/-- The staging of a section at a target. -/
def Staging.isOf (m : LoadMsg) (y : Staging) : Bool := y.target == m.target && y.section_ == m.section_

/-- A staging takes the place of the one of the same section and target. -/
def Block.putStaging (b : Block) (m : LoadMsg) (x : Staging) : Block :=
  { b with img := { b.img with staged := b.img.staged.filter (fun (y : Staging) => !Staging.isOf m y) ++ [x] } }

/-- A target stages bytes apart from its running configuration. Bytes that do not follow those received, or go beyond TOTAL, are dropped and the packet answered with OK: DESIGN CHOICE (log entry 134). -/
def Block.loadData (b : Block) (m : LoadMsg) : Block :=
  let old := (b.img.staged.find? (Staging.isOf m)).getD { target := m.target, section_ := m.section_, total := m.total }
  let x := if m.offset = old.data.length && m.offset + m.data.length ≤ old.total then { old with data := old.data ++ m.data } else old
  (b.putStaging m x).loadAnswer m 0

def execLoadData (m : LoadMsg) (s : State) : Result := s.go fun b => b.atTarget m true fun b => b.loadData m

/-- A COMMIT is checked against completeness and the hardware limits, and armed (R69). -/
def Block.loadCommit (b : Block) (m : LoadMsg) : Block :=
  match b.loadSection m with
  | none => b.loadAnswer m SECTION_BAD
  | some x =>
    let whole := x.length = 0 || b.img.staged.any fun y => Staging.isOf m y && y.data == x.bytes
    let code := if whole then b.limitCode x else SECTION_BAD
    if code ≠ 0 then b.loadAnswer m code
    else (b.putStaging m { target := m.target, section_ := m.section_, total := x.length, data := x.bytes, armed := some m.instant }).loadAnswer m 0

def execLoadCommit (m : LoadMsg) (s : State) : Result := s.go fun b => b.atTarget m true fun b => b.loadCommit m

/-- A target stops producing samples and taking setpoints (R82). -/
def Block.targetQuiesce (b : Block) (t : Nat) : Block :=
  let b := { b with img := { b.img with quiesced := b.img.quiesced.filter (· != t) ++ [t] } }
  let c := oCell t
  let u := oUnit t
  match oIsland t, c with
  | 1, 0 => b.mbxAbandon u
  | 1, 2 => b.dspEndAll
  | 1, 4 => b.yldStop false
  | 2, 0 => b.leStop false
  | 2, 1 => b.solStop false
  | 3, 13 => b.fStop false
  | 3, 14 => b.fStop false
  | 3, 15 => { b with cvy := { b.cvy with waiting := [] } }
  | 3, _ => b.gnsStop false
  | 4, 3 => b
  | 4, 4 => b.tStop u false
  | 4, 5 => b.tStop (8 + u) false
  | 4, 6 => b.netsLostEvt
  | 4, _ => b.mbQuiesce (8 * c + u)
  | 5, 1 => b.sstStop false
  | 5, 2 => b.tileStop false
  | i, _ => if 6 ≤ i then (b.cellStop c .quiesced).netsLostCell c else b

/-- A quiesced target still has a frame, cycle or sweep in progress, or blocks to write (R82, R268, chapters 10, 12 and 17). -/
def Block.restless (b : Block) (t : Nat) : Bool :=
  match oIsland t, oCell t with
  | 2, 0 => b.leState == leSTOPPING
  | 2, 1 => b.solver.stopping
  | 4, 4 => (b.tarnPort (oUnit t)).stopping
  | 4, 5 => (b.tarnPort (8 + oUnit t)).stopping
  | 5, 1 => b.sstState == stSTOPPING
  | 4, c => decide (c < 3) && (b.port (8 * c + oUnit t)).halt == some 1
  | _, _ => false

/-- QUIESCE: answered when the target has come to rest. -/
def Block.loadQuiesce (b : Block) (m : LoadMsg) : Block :=
  let b := b.targetQuiesce m.target
  if b.restless m.target then { b with img := { b.img with owing := b.img.owing ++ [m] } } else b.loadAnswer m 0

def execLoadQuiesce (m : LoadMsg) (s : State) : Result := s.go fun b => b.atTarget m false fun b => b.loadQuiesce m

/-- The units of a target start; their streams begin at SEQ 0 with RESYNC. -/
def Block.targetStart (b : Block) (t : Nat) : Block :=
  let b := ({ b with img := { b.img with quiesced := b.img.quiesced.filter (· != t) } }).resync fun o => o == t || (oUnit t == 127 && cellTarget o == t)
  let c := oCell t
  let u := oUnit t
  match oIsland t, c with
  | 0, _ => b
  | 1, 0 => b.partStart u
  | 3, 15 => b.cvyStart
  | 4, 3 => b
  | 4, 4 => b.tStart u
  | 4, 5 => b.tStart (8 + u)
  | 4, 6 => b.evtStart
  | 4, _ => b.mbImageStart (8 * c + u)
  | i, _ => if 6 ≤ i then b.cellBegin c false b.img.keep else b.cellUnitsStart i c

/-- START takes effect at its INSTANT (R81). -/
def Block.loadStart (b : Block) (m : LoadMsg) : Block := ((b.toModule m.instant).targetStart m.target).loadAnswer m 0

def execLoadStart (m : LoadMsg) (s : State) : Result := s.go fun b => b.atTarget m false fun b => b.loadStart m

/-- ABORT discards the staging at once; a quiesced target goes on with the configuration it had (R69, R81). -/
def Block.loadAbort (b : Block) (m : LoadMsg) : Block :=
  let was := b.quiesced m.target
  let b := { b.quiesceDone m.target with img := { (b.quiesceDone m.target).img with staged := b.img.staged.filter fun y => y.target != m.target } }
  (b.when was fun b => b.targetStart m.target).loadAnswer m 0

def execLoadAbort (m : LoadMsg) (s : State) : Result := s.go fun b => b.atTarget m false fun b => b.loadAbort m

/-! ## The COMMIT INSTANT -/

/-- Function code and protection values of a channel as a section gives them (R82). -/
def protKey (x : Section) (ch : Nat) : List Nat :=
  [R.FC_CH_FUNC_FUNC ch, R.FC_CH_FUNC_BOND ch, R.FC_CH_PROT_SOFT_THR ch, R.FC_CH_PROT_BLANK_US ch, R.FC_CH_PROT_SOFT_ACT ch, R.FC_CH_PROT_SOFT_N ch, R.FC_CH_PROT_LIM_TIME ch,
   R.FC_CH_GEYSER_WIN ch, R.FC_CH_GEYSER_GLIM_TIME ch].map fun f => (valueOf x f).getD f.reset

/-- The section of a type that is selected for a target. -/
def Block.selectedAt (b : Block) (type t : Nat) : Option Section := ((b.selectedSections fun y => y.type == type && (sectionTargets y).contains t).head?).map (·.1)

/-- A field of a target holds another value than its selected section gave it: software wrote it (R74). -/
def Block.overwritten (b : Block) (old : Section) (t : Nat) : Bool := (fieldsFor old t).any fun v => (fieldRow v).any fun e => b.get e.1 != v.val % 2 ^ e.1.wid && e.2.acc == .rw

/-- Channels of a cell that a commit leaves undisturbed: those whose function and protection are the same in the old and the new section; all of them where no CHANNELS section is installed. -/
def Block.undisturbed (b : Block) (t : Nat) (x : Section) : List Nat :=
  let chans := (List.range 8).map (8 * oCell t + ·)
  if x.type = 0x71 then chans.filter fun ch => (b.selectedAt 0x71 t).any fun o => protKey o ch == protKey x ch else chans

/-- A target installs its staged section: a field channel whose function and protection stay the same is undisturbed, every other channel turns off (R82). A value that software had written is reported as replaced (R74). -/
def Block.commitAt (b : Block) (y : Staging) : Block :=
  match b.img.active.sections[y.section_]? with
  | none => b
  | some x =>
    let t := y.target
    let c := oCell t
    let field := decide (6 ≤ oIsland t)
    let same := if field then b.undisturbed t x else []
    let lost := (b.selectedAt x.type t).any fun o => b.overwritten o t
    let b := b.installFor x t
    let b := b.when lost fun b => if c = 31 then b.setBit R.SUP_DEF_FLAGS_ISLAND (oIsland t) true else b.setBit (R.SUP_DEF_CELLk_CELL (oIsland t)) (c % 8 + (if field then 0 else c / 8 * 8)) true
    let b := b.when field fun b => (b.eachOf ((List.range 8).map (8 * c + ·)) fun ch b => if same.contains ch then b else b.bothOff ch).modCell c fun k => { k with run := .stopped, byStop := false }
    let b := b.when (x.type == 0x50) fun b => b.mbCommit (8 * c + oUnit t)
    let b := b.when (x.type == 0x53) fun b => b.modTarn (8 * (c - 4) + oUnit t) fun t => { t with changed := true }
    let keep := if field && x.type = 0x71 then b.img.keep.filter (fun ch => ch / 8 != c) ++ same else if field && !b.img.keep.any (fun ch => ch / 8 == c) then b.img.keep ++ same else b.img.keep
    { b with img := { b.img with keep := keep, quiesced := b.img.quiesced.filter (· != t) } }

/-- The first INSTANT of an armed COMMIT arrives: every target armed for it installs, and a partial reconfiguration has ended. -/
def Block.commitInstant (b : Block) : Block :=
  match b.img.staged.filterMap (·.armed) with
  | [] => b
  | i0 :: r =>
    let t := r.foldl min i0
    let b := b.toModule t
    let (now, later) := b.img.staged.partition fun y => y.armed == some t
    let b := { b with img := { b.img with staged := later } }
    let b := { b with img := { b.img with keep := [] } }
    let b := (b.eachOf (now.filter fun y => (b.img.active.sections[y.section_]?).any fun x => x.type != 0x71) fun y b => b.commitAt y).eachOf (now.filter fun y => (b.img.active.sections[y.section_]?).any fun x => x.type == 0x71) fun y b => b.commitAt y
    let b := b.eachOf now fun y b => b.select y.section_
    match b.img.step with
    | some s => if s.stage = .armed && s.instant = t then { ((b.set R.IMG_PR_STATUS_STATE 4).set R.IMG_PR_STATUS_CODE 0).set R.IMG_STATUS_STATE 3 with img := { b.img with step := none, prList := [] } } else b
    | none => b

def execCommitInstant (s : State) : Result := s.go (·.commitInstant)

/-! ## The loader (R70, R80, R81) -/

/-- Every target of the running partial reconfiguration with each of its sections. -/
def Block.prTargets (b : Block) : List (Nat × Nat × Section) :=
  b.img.prList.flatMap fun e => match b.img.active.sections[e.2]? with | some x => (sectionTargets x).map fun t => (t, e.2, x) | none => []

/-- The island whose selected sections a list would bring above its budget (Table 3.7), with the list's entry for it. -/
def Block.prBudget (b : Block) (l : List (Nat × Nat)) : Option (Nat × Nat) :=
  let after := b.eachOf l fun e b => b.select e.2
  ((l.filterMap fun e => (b.img.active.sections[e.2]?).map fun x => (e.1, oIsland x.target)).find? fun e => decide (2 ≤ e.2) &&
    decide (32 * mib < ((after.selectedSections (inIsland e.2)).map fun y => y.1.length).foldl (· + ·) 0)).map fun e => (LOAD_BUDGET, e.1)

/-- Why PR_START is refused, and the list entry (R75, R80). -/
def Block.prRefusal (b : Block) : Option (Nat × Nat) :=
  let l := ((List.range 8).filter fun n => b.flag (R.IMG_PR_LISTn_EN n)).map fun n => (n, b.get (R.IMG_PR_LISTn_INDEX n))
  let bad := l.find? fun e => match b.img.active.sections[e.2]? with
    | none => true
    | some x => !(x.partialOk || x.isDefault) || l.any fun o => o.1 < e.1 && (b.img.active.sections[o.2]?.any fun y => sameTarget x y)
  match bad with
  | some e => some (NOT_PARTIAL, e.1)
  | none =>
    if l.isEmpty then some (NOT_PARTIAL, 0)
    else if b.get R.IMG_STATUS_RELOAD_PENDING ≠ 0 || !b.img.cells.isEmpty || b.img.step.isSome || b.upd.activating then some (RELOAD_BUSY, 0)
    else match l.find? fun e => b.img.active.sections[e.2]?.any fun x => b.get R.MODE_ACTIVE_FLAGS &&& x.guard != 0 with
      | some e => some (IN_USE, e.1)
      | none => b.prBudget l

/-- IMG_CTRL.PR_START: the checks of R80, then QUIESCE to every target. -/
def Block.prStart (b : Block) : Block :=
  match b.prRefusal with
  | some (code, entry) => (((b.set R.IMG_PR_STATUS_CODE code).set R.IMG_PR_STATUS_ENTRY entry).set R.IMG_STATUS_CODE code).status code
  | none =>
    let l := ((List.range 8).filter fun n => b.flag (R.IMG_PR_LISTn_EN n)).map fun n => (n, b.get (R.IMG_PR_LISTn_INDEX n))
    let b := { b with img := { b.img with prList := l, prEnd := b.now + b.get R.IMG_PR_TIMEOUT_TIMEOUT_MS * ms } }
    let ts := (b.prTargets.map (·.1)).eraseDups
    let b := { b with img := { b.img with step := some { due := ts.map fun t => (t, 0) } } }
    let b := ((((b.set R.IMG_PR_STATUS_STATE 1).set R.IMG_PR_STATUS_CODE 0).set R.IMG_PR_STATUS_ENTRY 0).set R.IMG_STATUS_STATE 4).status 0
    b.sendLoads (ts.map fun t => { op := 4, target := t })

def execPrStart (s : State) : Result := s.go (·.prStart)

def Block.setStep (b : Block) (x : LoadStep) : Block := { b with img := { b.img with step := some x } }

/-- Every byte is answered: one COMMIT INSTANT for all targets, at least 5 ms ahead (R70). -/
def Block.prCommit (b : Block) (s : LoadStep) : Block :=
  let at_ := b.sys.mtime + 5 * ms
  let l := b.prTargets
  (b.setStep { s with stage := .committing, due := l.map (fun e => (e.1, e.2.1)), instant := at_, plan := [], open_ := 0 }).sendLoads (l.map fun e => { op := 2, target := e.1, section_ := e.2.1, total := e.2.2.length, instant := at_ })

/-- Every target is quiesced: digests are checked and DATA begins, at most 16 packets unanswered (R68). -/
def Block.prData (b : Block) (s : LoadStep) : Block :=
  let b := b.set R.IMG_PR_STATUS_STATE 2
  match b.img.prList.find? fun e => b.img.active.sections[e.2]?.any fun x => !digestOk x with
  | some e => (b.loadError DIGEST_MISMATCH e.2).prEnds DIGEST_MISMATCH e.1
  | none =>
    let l := b.prTargets.flatMap fun e => dataMsgs e.1 e.2.1 e.2.2
    if l.isEmpty then b.prCommit s
    else (b.setStep { s with stage := .data, plan := l.drop 16, open_ := min 16 l.length }).sendLoads (l.take 16)

/-- The list entry whose section has a target. -/
def Block.prEntryOf (b : Block) (t : Nat) : Nat := ((b.img.prList.find? fun e => b.img.active.sections[e.2]?.any fun x => (sectionTargets x).contains t).map (·.1)).getD 0

/-- An answer reaches the loader, which goes on with the step or aborts it (R70, R81). -/
def Block.prAnswer (b : Block) (s : LoadStep) (m : LoadMsg) (code : Nat) : Block :=
  if code ≠ 0 then b.prEnds code (b.prEntryOf m.target)
  else match s.stage with
    | .quiescing =>
      let s := { s with due := s.due.erase (m.target, m.section_) }
      if s.due.isEmpty then b.prData s else b.setStep s
    | .data =>
      match s.plan with
      | x :: r => (b.setStep { s with plan := r }).sendLoads [x]
      | [] => if s.open_ ≤ 1 then b.prCommit s else b.setStep { s with open_ := s.open_ - 1 }
    | .committing =>
      let s := { s with due := s.due.erase (m.target, m.section_) }
      if s.due.isEmpty then (b.set R.IMG_PR_STATUS_STATE 3 |>.setStep { s with stage := .armed }).sendLoads (((b.prTargets.map (·.1)).eraseDups).map fun t => { op := 5, target := t, instant := s.instant })
      else b.setStep s
    | .armed => b

/-- A LOAD_RSP returns to the loader: a refusal of a section of a cell under reload holds the cell off, one of an island's reload fails the reload (R72, R73). -/
def Block.loadRsp (b : Block) (m : LoadMsg) (code : Nat) : Block :=
  let b := b.freeTag m.tag
  match b.img.step with
  | some s => b.prAnswer s m code
  | none =>
    let i := oIsland m.target
    let c := oCell m.target
    if code = 0 then b
    else if b.img.cells.contains (i, c) then ({ b with img := { b.img with cells := b.img.cells.filter (· != (i, c)) } }).cellHeld i c code m.section_
    else if b.sys.reload = some i then b.reloadFails i code m.section_
    else b.loadError code m.section_

def execLoadRsp (m : LoadMsg) (code : Fin 256) (s : State) : Result := s.go fun b => b.loadRsp m code

/-- INSTANT - 3 ms: a missing answer aborts the step; the code that is then shown is not stated. -/
def Block.answerDeadline (b : Block) : Block :=
  match b.img.step with
  | none => b
  | some s =>
    if s.stage ≠ .committing then b
    else
      let b := b.toModule (s.instant - 3 * ms)
      (b.prEnds (b.open_ % 256) (b.prEntryOf (s.due.headD (0, 0)).1)).spend

def execLoadAnswerDeadline (s : State) : Result := s.go (·.answerDeadline)

/-- IMG_CTRL.PR_ABORT: no effect after the INSTANT. -/
def execPrAbort (s : State) : Result := s.ask none fun b => b.prEnds 0 0

/-- TIMEOUT_MS passes before every COMMIT is answered. -/
def execPrTimeout (s : State) : Result := s.go fun b =>
  match b.img.step with
  | none => b
  | some s => if s.stage = .armed then b else (b.reach b.img.prEnd).prEnds PR_TIMED_OUT 0

end Sys2Proof.Machine
end

