-- ==== Sys2Proof/Machine/ModuleStart.lean ====
section
/-! DEFINITION. Module-scope resets and the start: what survives, the choice of the image, the steps of Table 5.5 (chapters 3, 5 and 22: R29, R67, R71, R105, R115, R125 to R131, R510, R511, R516, R523, R548, R608). -/

namespace Sys2Proof.Machine

open Sys2Proof

def Block.modPwr (b : Block) (f : Pwr → Pwr) : Block := { b with pwr := f b.pwr }

/-! ## Update reports (R520, Table 19.7) -/

/-- What a report says of an image: version, epoch and manifest digest. -/
structure ImageId where
  version : Nat := 0
  epoch   : Nat := 0
  digest  : Nat := 0
  deriving DecidableEq, Repr

def imageId (g : Image) : ImageId := { version := g.version, epoch := g.epoch, digest := imageDigest g }

/-- The image of a role, as a report names it; zeros where there is none. -/
def Block.idOf (b : Block) (role : Nat) : ImageId := ((b.imageOf role).map imageId).getD {}

/-- A report of the update block, sent to every SCHEDULER peer at once or when one comes up. -/
def Block.report (b : Block) (op reason id : Nat) (g : ImageId) (instant event : Nat) : Block :=
  let d := [op, reason, 0, 0] ++ le 4 id ++ le 4 g.version ++ le 4 g.epoch ++ le 48 g.digest ++ le 8 instant ++ le 8 event ++ [0, 0, 0, 0]
  let b := b.when (reason != 0) fun b => b.set R.UPD_STATUS_REASON reason
  let b := b.when (op == 0x15) fun b => b.inc R.UPD_CNT_REFUSED
  (b.modUpd fun u => { u with reports := u.reports ++ [d] }).sendReports

/-! ## Module-scope reset (R125, R129 to R131) -/

/-- Registers of the backup and the retained class, of the unit and of the physical supply, which a module-scope reset does not touch. -/
def moduleKept : List Fld :=
  [R.PWR_PF_CNT_ABORTS, R.PWR_PF_CNT_COMMITS, R.SUP_RST_CAUSE_COUNT, R.PWR_LAST_SHUT_RESULT, R.PWR_LAST_SHUT_KIND, R.PWR_LAST_SHUT_FLUSH_MS, R.PWR_LAST_SHUT_T23_LOST_MS,
   R.PWR_STATUS_LOGIC_VALID, R.PWR_STATUS_IGN, R.PWR_RES_VOLT, R.PWR_SUPPLY_LOGIC_MV, R.PWR_SUPPLY_VBAK_MV,
   R.UPD_STATUS_PENDING_CONFIRM, R.UPD_STATUS_FALL_DUE, R.UPD_STATUS_NO_OXBOW, R.UPD_STATUS_SNAPSHOT_HELD, R.UPD_MIN_EPOCH_EPOCH, R.UPD_REVOKED_MASK, R.UPD_RET_FMT_STORED, R.UPD_RUN_RUN_S,
   R.WHD_STATUS_TOOL, R.YLD_T_SEASON_SEASON] ++ yldRetained

/-- Address ranges kept whole: identification, backup domain, lockout state, WHD_MAC; the recorder and the health block restore theirs themselves. -/
def keptRange (a : Nat) : Bool :=
  [(0x40000000, 0x40000100), (0x49000000, 0x49000054), (0x4D00000C, 0x4D000014), (0x4D000030, 0x4D000038), (0x4B000000, 0x4B008000), (0x4C000000, 0x4C002000)].any fun r => decide (r.1 ≤ a) && decide (a < r.2)

/-- Termination switches are bistable (R430). -/
def keptTerm : List Fld := (List.range 24).flatMap fun p => [R.MB_PHY_TERM_EN p, R.MB_PHY_TBC_EN p]

/-- Every register but those kept at its reset value. -/
def Block.resetModuleRegs (b : Block) : Block :=
  let kept := (moduleKept ++ keptTerm).map fun f => (f, b.get f)
  let b := { b with regs := b.regs.filter (fun e => keptRange (e.1 / 32)), inuse := b.inuse.filter fun e => keptRange (e.1 / 32) }
  b.eachOf kept fun e b => b.set e.1 e.2

/-- A module-scope reset asserts. Every island and cell is in reset, every output off, every packet gone; the backup domain and the retained store go on. One that comes while another is asserted finds STATE at its reset value, so that the state taken in is then STANDBY (DESIGN CHOICE, log entry 141: the spec does not say which state counts). -/
def Block.moduleReset (b : Block) (cause : Nat) : Block :=
  let taken := b.get R.PWR_STATE_STATE
  let b := b.modeHalt
  let b := b.each 8 fun i b => b.islandBlocks (i + 1)
  let b := ((b.evrReset).hltReset).dspHeldOff.resetModuleRegs
  let b := (b.set R.SUP_RST_CAUSE_CAUSE cause).when (cause != 1) fun b => b.inc R.SUP_RST_CAUSE_COUNT
  { b with
    out := []
    sys := { mtime := b.sys.mtime, calKept := b.sys.calKept }
    fab := {}
    img := {}
    chans := List.replicate 192 { core := { offSince := b.now } }
    cells := List.replicate 24 {}
    scopes := List.replicate 9 {}
    pairs := List.replicate 48 {}
    evtIn := List.replicate 2 {}
    pwr := { railUp := b.pwr.railUp, inReset := true, cause := cause, takenIn := taken, validAt := b.pwr.validAt, wake := b.pwr.wake, resetLow := b.pwr.resetLow }
    mode := { bak := b.mode.bak }
    loop := {}
    solver := {}
    gnss := { copies := b.gnss.copies }
    sst := { written := b.sst.written, recs := b.sst.recs, bseq := b.sst.bseq }
    upd := { b.upd with stage := none, activating := false, safeHold := false, reports := [], runAt := none }
    whd := { paths := b.whd.paths.map fun (p : WhdPath) => { attempts := p.attempts, lockEnd := p.lockEnd } } }

/-! ## Module time is seeded (R29) -/

/-- RTC time in ns since 1980-01-01, with its sub-second count. -/
def Block.rtcNs (b : Block) : Nat := b.rtcTicks * sec / 32768

def Block.seedTime (b : Block) : Block :=
  let leap := b.gnss.newest.bind (·.leap)
  let b := { b with bkp := { b.bkp with seedGuess := leap.isNone } }
  let b := (b.clear [R.SUP_MTIME_STATUS_STATE]).set R.SUP_MTIME_ERR_BOUND_NS 0xFFFFFFFF
  let b := { b with sys := { b.sys with leap := leap, step := none, stepped := false, slew := 0, rateAdj := 0, b0 := 0, leftLock := none } }
  if b.flag R.BKP_STATUS_RTC_VALID then
    { (b.set R.SUP_MTIME_STATUS_STATE 1) with sys := { b.sys with mtime := b.rtcNs + leap.getD 18 * sec - 5 * 86400 * sec } }
  else { b with sys := { b.sys with mtime := 0 } }

/-! ## Power-down of islands (R110, R606) -/

/-- An island loses its supply: what it held is gone, packets to it are answered with ISLAND_LOST; it is not declared lost. -/
def Block.powerDown (b : Block) (i : Nat) : Block :=
  if (b.island i).run == .poweredDown then b
  else
    let b := ((b.islandBlocks i).fabricReset i).failTagsTo i
    let b := b.modIsland i fun x => { run := .poweredDown, resets := x.resets }
    let b := (b.setBit R.IMG_STATUS_RELOAD_PENDING i false).set (R.SUP_CELL_HELDk_CELL i) 0
    let b := b.loadsGone i
    ({ b with sys := { b.sys with abandoned := b.sys.abandoned.filter (· != i) } }.reloadOver i).reloadNext

/-- An island is held in reset under R25. -/
def Block.isHeld (b : Block) (i : Nat) : Bool := b.bitOf R.SUP_ISL_STATUS_HELD i

/-- An island comes up, its rail at the planned margin, its links trained, no longer lost once it is loaded (R26); out of a power-state start with cause 0x14 and its defaults-applied flags (R125, R129), out of a module-scope reset without a reset of its own. One that R25 holds stays in reset and lost. -/
def Block.powerUp (b : Block) (i : Nat) (record : Bool) : Block :=
  if b.isHeld i then b.modIsland i fun x => { x with run := .inReset }
  else
    let b := (b.when record fun b => b.recordIslandReset i 0x14).hltPowerUp i
    let b := (b.modIsland i fun x => { x with run := .running, beaconAt := b.now }).setBit R.SUP_ISL_STATUS_LOST i false
    b.each 36 fun k b => b.retrain k

/-! ## The snapshot of the record rings (R523) -/

/-- Rings with a byte listed in the memory between two addresses, one ring per `span` bytes. -/
def ringsIn (m : Memory) (lo hi span : Nat) : List Nat :=
  (m.foldl (fun (l : List Nat) (c : Host.Cell) => if lo ≤ c.1 && c.1 < hi && l.head? != some ((c.1 - lo) / span) then (c.1 - lo) / span :: l else l) []).reverse

/-- The current entry of every ring is copied into the snapshot area. -/
def Block.snapMem (b : Block) (m : Memory) : Memory :=
  (ringsIn m 0x54000000 0x58000000 4096).foldl (fun (r : Memory) k => match b.ringEntry m k with | some d => Memory.writeBytes r (0x6FF00000 + 64 * k) d | none => r) (Memory.zero m 0x6FF00000 0x100000)

def Block.snapTake (b : Block) (m : Memory) : Block :=
  let lines := (ringsIn m 0x54000000 0x58000000 4096).filterMap fun k => if (b.ringEntry m k).isSome then some (lineOf 0x6FF00000 + k) else none
  let b := { b with poison := b.poison.filter fun x => decide (x < lineOf 0x6FF00000) }
  (((b.mramWrote lines).set R.UPD_STATUS_SNAPSHOT_HELD 1).modUpd fun u => { u with oldFmt := b.get R.UPD_RET_FMT_STORED }).commit_ id

/-- Snapshot entries that go back to their rings: ring, address and bytes of the new entry, its GEN one above the ring's highest. -/
def Block.snapBack (b : Block) (m : Memory) : List (Nat × List Nat) :=
  (ringsIn m 0x6FF00000 0x70000000 64).filterMap fun k =>
    let a := 0x6FF00000 + 64 * k
    if b.poisoned a then none
    else
      let d := Memory.readBytes m a 64
      let g := ((b.ringEntry m k).map (bytesAt · 4 4)).getD (bytesAt d 4 4) + 1
      some (0x54000000 + 4096 * k + 64 * (g % 64), d.take 4 ++ le 4 g ++ d.drop 8)

def Block.snapRestore (b : Block) (m : Memory) : Block × Memory :=
  let l := b.snapBack m
  let bad := (b.poison.filter fun x => decide (lineOf 0x6FF00000 ≤ x)).length
  let b := ((b.inc R.UPD_CNT_REFUSED bad).set R.UPD_STATUS_SNAPSHOT_HELD 0).set R.UPD_RET_FMT_STORED b.upd.oldFmt
  let b := (b.mramWrote (l.map fun e => lineOf e.1)).commit_ id
  ({ b with poison := b.poison.filter fun x => !(l.map fun e => lineOf e.1).contains x }, l.foldl (fun (r : Memory) e => Memory.writeBytes r e.1 e.2) m)

/-! ## Which image starts (R67, R71, R510, R512) -/

/-- Why an image does not start. -/
def Block.startFault (b : Block) (g : Image) : ImageVerdict :=
  let v := b.imageVerdict g
  if v.code ≠ 0 then v
  else if g.epoch < b.get R.UPD_MIN_EPOCH_EPOCH then { code := ROLLBACK }
  else if b.get R.UPD_RET_FMT_STORED < g.minFmt then { code := RETAINED_UNMIGRATABLE }
  else match (({ b with img := { b.img with active := g } } : Block).selectDefaults).loadFault fun _ => true with
    | some (c, i) => { code := c, section_ := i }
    | none => {}

/-- The image taken into the loader, with what IMG_ shows of it. -/
def Block.takeImage (b : Block) (g : Image) : Block :=
  let b := ({ b with img := { b.img with active := g } } : Block).selectDefaults
  (((b.set R.IMG_VERSION_VERSION g.version).set R.IMG_EPOCH_EPOCH g.epoch).set R.IMG_RETAINED_FMT_IMAGE_FMT g.retFmt).set R.IMG_RETAINED_FMT_MIN_FMT g.minFmt

/-- The OXBOW image starts: one commit makes it ACTIVE and frees the slot it replaced. -/
def Block.fallBackTo (b : Block) (g : Image) (m : Memory) : Block × Memory :=
  let b := ((b.set R.UPD_STATUS_PENDING_CONFIRM 0).set R.UPD_STATUS_FALL_DUE 0).commit_ fun l => (freeRole 1 l).map fun (s : UpdSlot) => if s.role = 3 then { s with role := 1 } else s
  let b := ((b.set R.UPD_STATUS_FALLEN_BACK 1).inc R.UPD_CNT_FALLBACKS).modUpd fun u => { u with owed := some (0x13, b.counter) }
  let (b, m) := if b.flag R.UPD_STATUS_SNAPSHOT_HELD then b.snapRestore m else (b, m)
  (b.takeImage g, m)

/-- No slot starts: SAFE_HOLD (R511). -/
def Block.safeHold_ (b : Block) : Block := ((b.set R.IMG_STATUS_STATE 5).modUpd fun u => { u with safeHold := true }).updShow

/-- The supervisor checks the ACTIVE slot and falls back where it must. -/
def Block.chooseImage (b : Block) (m : Memory) : Block × Memory :=
  let due := b.flag R.UPD_STATUS_FALL_DUE && !b.flag R.UPD_STATUS_NO_OXBOW && (b.imageOf 3).isSome
  let v := ((b.imageOf 1).map b.startFault).getD { code := BAD_MAGIC }
  match b.imageOf 1, !due && v.code == 0 with
  | some g, true => (b.takeImage g, m)
  | _, _ =>
    let b := if due then b else ((b.set R.IMG_STATUS_CODE v.code).set R.IMG_ERR_DETAIL_SECTION v.section_).set R.IMG_ERR_DETAIL_SIG_BLOCK v.block
    match b.imageOf 3 with
    | some g =>
      let w := b.startFault g
      if w.code = 0 then b.fallBackTo g m
      else ((((b.set R.IMG_STATUS_CODE w.code).set R.IMG_ERR_DETAIL_SECTION w.section_).set R.IMG_ERR_DETAIL_SIG_BLOCK w.block).safeHold_, m)
    | none => (b.safeHold_, m)

/-! ## The schedule and the report owed (R516, R520) -/

/-- A standing schedule is restored; one whose STAGED slot is gone or differs is cleared. -/
def Block.schedRestore (b : Block) : Block :=
  match b.upd.sched with
  | none => b.updShow
  | some s =>
    match b.imageOf 2 with
    | some g =>
      if imageDigest g = s.digest then
        (((((b.modUpd fun u => { u with sched := some { s with last := none, skipped := false } }).set R.UPD_SCHED_LO_NS s.instant).set R.UPD_SCHED_HI_NS (s.instant / 2 ^ 32)).set R.UPD_SCHED_ID_ID s.id).set R.UPD_WINDOW_MIN s.window).updShow
      else ((b.modUpd fun u => { u with sched := none }).updShow).report 0x15 5 s.id (imageId g) s.instant b.counter
    | none => ((b.modUpd fun u => { u with sched := none }).updShow).report 0x15 5 s.id {} s.instant b.counter

/-- The report owed at the first full RUN, and the count of seconds of RUN. -/
def Block.fullRun (b : Block) : Block :=
  let b := b.modUpd fun u => { u with runAt := if b.flag R.UPD_STATUS_PENDING_CONFIRM then some b.now else none }
  match b.upd.owed with
  | none => b
  | some (op, t) => (b.modUpd fun u => { u with owed := none }).report op 0 b.upd.actId (b.idOf 1) b.upd.actInst t

/-! ## Entry into RUN -/

/-- Steps 3 to 8 of Table 5.5 for the islands of a list that R25 does not hold, from the instant of reset release or wake: loaded, started at START, full RUN with MODE_ACTIVE restored; `atStart` is what resumes at START in islands that stayed up. COMMIT and START have one INSTANT, at least 5 ms after the DATA (R70). -/
def Block.enterRun (b : Block) (m : Memory) (isles : List Nat) (cold : Bool) (wake startUs fullUs : Nat) (atStart : Block → Block := id) : Block × Memory :=
  let t := b.now
  let b := (b.set R.PWR_STATE_STATE 3).set R.PWR_STATE_WAKE wake
  let all := isles
  let isles := isles.filter fun i => !b.isHeld i
  let startUs := max 5000 startUs
  let at_ := b.sys.mtime + startUs * us
  let b := b.eachOf all fun i b => b.powerUp i (!cold)
  let b := b.eachOf isles fun i b => (b.loadTrail (b.selectedSections (inIsland i)) (fun _ => true) at_ at_).loadSections (inIsland i)
  let fresh := b.get R.UPD_RET_FMT_STORED < b.img.active.retFmt && !b.flag R.UPD_STATUS_SNAPSHOT_HELD
  let (b, m) := if fresh then (b.snapTake m, b.snapMem m) else (b, m)
  let b := b.reach (t + startUs * us)
  let b := atStart (b.eachOf isles fun i b => b.islandStart i false)
  let b := (b.reach (t + max startUs fullUs * us)).set R.IMG_STATUS_STATE 3
  (((b.updShow).modeRestore).hltRun.fullRun, m)

/-! ## The start after a module-scope reset -/

/-- The supervisor comes up: recorder, reset EVENT, BACKUP_LOST, module time, lockouts, EVENTs that waited (Table 5.5 step 2, R129, R502, R507, R531). -/
def Block.supervisorUp (b : Block) (m : Memory) : Block × Memory :=
  let on := b.pwr.cause = 1
  let (b, m) := (b.dirRead.evrStart m on, b.evrStartMem m on)
  let b := (b.modPwr fun p => { p with inReset := false, railUp := true, validAt := some (p.validAt.getD b.now) }).set R.PWR_STATUS_LOGIC_VALID 1
  let b := (b.modIsland 0 fun x => { x with run := .running, beaconAt := b.now }).hltPowerUp 0
  let b := (b.when b.bkp.lost fun b => b.set R.SUP_DEF_FLAGS_BACKUP_LOST 1).modBkp fun k => { k with lost := false }
  let b := b.seedTime
  let b := b.resetEvent b.pwr.cause moduleOrigin
  let b := if b.flag R.BKP_STATUS_RTC_VALID then b else b.modWhd fun w => { w with paths := w.paths.map fun (p : WhdPath) => { p with attempts := [], lockEnd := p.lockEnd.map fun _ => b.rtcSecs + 600 } }
  (b.alarmEvents, m)

/-- The whole start: `ign` is the level of IGN at reset release. -/
def Block.moduleStart (b : Block) (m : Memory) (ign : Bool) (startUs fullUs : Nat) : Block × Memory :=
  if !b.pwr.inReset || b.pwr.resetLow then (b, m)
  else
    let (cause, taken, wake) := (b.pwr.cause, b.pwr.takenIn, b.pwr.wake)
    let (b, m) := (b.setB R.PWR_STATUS_IGN ign).supervisorUp m
    let b := if cause = 5 || cause = 6 then b.fallDue else b
    let (b, m) := b.chooseImage m
    let stood := b
    let b := (b.schedRestore).modPwr fun p => { p with wake := none }
    let run := (3 ≤ cause && taken == 3) || ign || wake.isSome
    let w := if ign then 0 else wake.getD 0xFF
    -- without an image the supervisor alone runs
    if b.upd.safeHold then (((b.set R.PWR_STATE_STATE 3).set R.PWR_STATE_WAKE w).updShow, m)
    else
      -- phase 0: the sections of island 0
      let (b, m) := (b.loadSections (inIsland 0)).schedFollow stood m
      if run then
        let late := if b.flag R.UPD_STATUS_FALLEN_BACK then 400000 else 0
        let startUs := min startUs (400000 + late)
        b.enterRun m (List.range 9 |>.drop 1) true w startUs (max startUs (min fullUs (1000000 + late)))
      else ((b.each 8 fun i b => b.modIsland (i + 1) fun x => { x with run := .poweredDown }).set R.PWR_STATE_STATE 1, m)

def execModuleStart (ign : Bool) (startUs fullUs : Nat) (s : State) : Result := s.goBoth fun b m => b.moduleStart m ign startUs fullUs

/-- RESET_IN rises: the start runs from its release (R126). -/
def execResetInRelease (ign : Bool) (startUs fullUs : Nat) (s : State) : Result := s.goBoth fun b m =>
  if b.pwr.resetLow then (b.modPwr fun p => { p with resetLow := false }).moduleStart m ign startUs fullUs else (b, m)

end Sys2Proof.Machine
end

