-- ==== Sys2Proof/Machine/PowerStates.lean ====
section
/-! DEFINITION. Power states: shutdown, wake, power-fail, resets of module scope (chapter 5: R88, R109 to R113, R118 to R122, R125 to R128, R607, R609; R345 of chapter 14). -/

namespace Sys2Proof.Machine

open Sys2Proof

/-- The module runs with an image. -/
def Block.inRun (b : Block) : Bool := b.get R.PWR_STATE_STATE == 3 && !b.pwr.inReset && !b.upd.safeHold
def Block.inParked (b : Block) : Bool := b.get R.PWR_STATE_STATE == 2 && !b.pwr.inReset

/-! ## Leaving RUN -/

/-- Steps 1 and 2 of R113: modes cease to act, every field channel turns off; the mapper flushes, and its contributions reach the tile engine. -/
def Block.ceaseRun (b : Block) : Block :=
  let b := (b.modeHalt.modPwr fun p => { p with ceased := true }).resolveAll
  if b.yldState = ySTOPPED then b
  else
    let n := b.out.length
    let b := b.yldFlush
    b.eachOf ((b.out.drop n).filter fun p => p.origin == yldOrigin) fun p b => b.contributionPacket p

/-- Whole seconds of RUN are added to UPD_RUN, which is retained. -/
def Block.recordRun (b : Block) : Block :=
  match b.upd.runAt with
  | none => b
  | some t => (b.inc R.UPD_RUN_RUN_S ((b.now - t) / sec)).modUpd fun u => { u with runAt := some (t + (b.now - t) / sec * sec) }

/-- Recorder staging is written to the region, and the retained records that the image marks for shutdown, with those that hold the recorder's counts and UPD_RUN, to their rings (R113, R120, R521, R544). -/
def Block.keepRecords (b : Block) (m : Memory) : Block × Memory :=
  let m := b.evrDumpMem m
  b.evrDump.ringsPut m fun r => r.shutdown || covers r R.EVR_WRITTEN_COUNT.addr || covers r R.UPD_RUN_RUN_S.addr

/-- Steps 3 and 4 of R113 are done: the backlog is written but for the last `lost` blocks of T3 and then T2, `dead` of them without an answering drive; recorder staging and retained records are flushed. -/
def Block.flushDone (b : Block) (m : Memory) (lost dead : Nat) : Block × Memory :=
  let b := b.writeDirty
  let b := b.sstShutdown lost dead
  (((b.mramSave).hltRunEnd true).recordRun).keepRecords m

/-- RESULT 2 of PWR_LAST_SHUT: a drive did not answer. -/
def Block.shutResult (b : Block) (before : Block) (dead : Nat) : Nat := if dead = 0 && before.get R.SST_CNT_FAULT_DRIVE_LOST = b.get R.SST_CNT_FAULT_DRIVE_LOST then 1 else 2

/-- Hot-start data is written at the end of operation (R346), and the RTC is set from module time at a whole second while LOCKED (R498). -/
def Block.parkTime (b : Block) (m : Memory) : Block × Memory :=
  let (b, m) := if b.gnsRuns then (b.hotWrite, b.hotBytes m) else (b, m)
  (if b.get R.SUP_MTIME_STATUS_STATE = 2 then (b.toBoundary sec false).rtcFromModule else b, m)

/-- Timers and flags of a shutdown cleared. -/
def Block.endShutdown (b : Block) : Block :=
  (b.set R.PWR_STATUS_SHUT_PENDING 0).modPwr fun p => { p with ignWaitEnd := none, runonEnd := none, flushEnd := none, ceased := false, parkEnd := none, byReq := false, wake := none }

/-- Entry into STANDBY; an orderly shutdown ends a LEVEL request unless KEEP is set (R505). -/
def Block.toStandby (b : Block) (m : Memory) (orderly : Bool) : Block × Memory :=
  let (b, m) := b.parkTime m
  let b := ((b.dspEndAll).whdEndAll).ehrStop.mramSave
  let b := b.each 24 fun p b => b.mbOff p
  let b := b.each 8 fun i b => b.powerDown (i + 1)
  let b := b.when (orderly && b.reqLevel && !b.flag R.BKP_PWRREQ_KEEP) (·.requestEnds)
  let b := b.modHlt fun h => { h with dark := true }
  (((b.endShutdown).set R.PWR_STATE_STATE 1).hltDark, m)

/-- Entry into PARKED: cores 1 to 7 and the display cell of island 1 and islands 2, 3, 5 to 8 lose their supply, wake-enabled ports receive, Tarn chains are unpowered (R110, R442, R455, R483). -/
def Block.toParked (b : Block) (m : Memory) : Block × Memory :=
  let (b, m) := b.parkTime m
  let b := b.dspEndAll
  let b := b.each 7 fun k b => ((b.mbxAbandon (k + 1)).modPart (k + 1) fun p => { p with hbEnd := none })
  let b := (b.set R.SUP_PART_STATUS_LOADED (b.get R.SUP_PART_STATUS_LOADED % 2)).set R.SUP_PART_STATUS_HUNG (b.get R.SUP_PART_STATUS_HUNG % 2)
  let b := b.each 24 fun p b => b.mbPark p
  let b := b.each 16 fun p b => ((b.set (R.TARN_STATUS_STATE p) tOFF).set (R.TARN_STATUS_PWR_ON p) 0).modTarn p fun _ => {}
  let b := (b.ethLinksDown fun p => b.flag (R.ETH_Pp_CFG_WAKE_EN p)).ehrPark
  let every := b.get R.GNS_PARK_REFRESH_MIN
  let b := b.eachOf [2, 3, 5, 6, 7, 8] fun i b => b.powerDown i
  let b := (b.endShutdown.mtHoldover).set R.PWR_STATE_STATE 2
  (b.hltDark.hltPark.modPwr fun p => { p with parkEnd := some (b.now + b.get R.PWR_PARK_PARK_MAX_H * 3600 * sec), refreshMin := every, refreshAt := b.now }, m)

/-- The orderly shutdown is recorded and the target state entered; step 3 of R113 began `flushS` seconds ago. -/
def Block.shutDone (b : Block) (m : Memory) (flushS lost dead : Nat) : Block × Memory :=
  let lostMs := b.lostSpan (b.bulkLast lost) (b.now - flushS * sec)
  let (c, m) := b.flushDone m lost dead
  let b := (((c.set R.PWR_LAST_SHUT_RESULT (c.shutResult b dead)).set R.PWR_LAST_SHUT_KIND 2).set R.PWR_LAST_SHUT_FLUSH_MS (min 255 flushS)).set R.PWR_LAST_SHUT_T23_LOST_MS (min 65535 lostMs)
  if b.pwr.target = 2 then b.toParked m else b.toStandby m true

/-! ## The events of Table 5.4 in RUN -/

/-- A shutdown is asked for. -/
def Block.askShutdown (b : Block) (target : Nat) (byReq : Bool) : Block :=
  let b := (b.set R.PWR_STATUS_SHUT_PENDING 1).modPwr fun p => { p with target := target, byReq := byReq }
  if b.flag R.PWR_STATUS_STATIONARY then b.modPwr fun p => { p with ignWaitEnd := none, runonEnd := some (b.now + if byReq then 0 else b.get R.PWR_CFG_RUNON_S * sec) }
  else b.modPwr fun p => { p with runonEnd := none, ignWaitEnd := some (b.now + b.get R.PWR_CFG_IGN_WAIT_S * sec) }

def execIgnFall (s : State) : Result := s.go fun b =>
  let was := b.flag R.PWR_STATUS_IGN
  let b := b.set R.PWR_STATUS_IGN 0
  b.when (was && b.inRun) fun b => b.askShutdown (if b.flag R.PWR_CFG_IGN_TARGET then 2 else 1) false

/-- IGN rises: a pending shutdown is withdrawn, but not one whose store flush is under way (DESIGN CHOICE, log entry 143: the spec does not say); in STANDBY and PARKED it is wake source 0, which WAKE takes. -/
def execIgnRise (s : State) : Result := s.go fun b =>
  let b := b.set R.PWR_STATUS_IGN 1
  if b.inRun then b.when (b.flag R.PWR_STATUS_SHUT_PENDING && b.pwr.flushEnd.isNone) (·.endShutdown)
  else b.when (b.get R.PWR_STATE_STATE == 1 || b.get R.PWR_STATE_STATE == 2) fun b => b.modPwr fun p => { p with wake := some 0 }

/-- PARKED is left for STANDBY: recorder staging and retained records are flushed. -/
def Block.parkedToStandby (b : Block) (m : Memory) : Block × Memory :=
  let (b, m) := b.keepRecords m
  b.toStandby m false

def execPwrCtrlStandby (s : State) : Result := s.goBoth fun b m =>
  if b.inRun then ((b.askShutdown 1 true).status 0, m) else if b.inParked then let r := b.parkedToStandby m; (r.1.status 0, r.2) else (b.status 0, m)

def execPwrCtrlParked (s : State) : Result := s.go fun b => (b.when b.inRun fun b => b.askShutdown 2 true).status 0

def execPwrCtrlExtend (s : State) : Result := s.go fun b =>
  (b.when (b.pwr.runonEnd.isSome && b.inRun) fun b => b.modPwr fun p => { p with runonEnd := some (b.now + b.get R.PWR_CFG_RUNON_S * sec) }).status 0

/-- The machine becomes stationary (R88): a controlled stop has ended, and a pending shutdown runs on. -/
def execStationary (s : State) : Result := s.if_ (s.blk.get R.PWR_STATE_STATE == 3) fun b =>
  if b.flag R.PWR_STATUS_STATIONARY then b
  else
    let b := (b.set R.PWR_STATUS_STATIONARY 1).modMode fun m => { m with stopping := false }
    b.when (b.flag R.PWR_STATUS_SHUT_PENDING) fun b => b.modPwr fun p => { p with ignWaitEnd := none, runonEnd := some (b.now + if p.byReq then 0 else b.get R.PWR_CFG_RUNON_S * sec) }

/-- It ceases to be stationary: a running RUNON_S stops and IGN_WAIT_S starts again. -/
def execStationaryLost (s : State) : Result := s.go fun b =>
  let b := b.set R.PWR_STATUS_STATIONARY 0
  b.when (b.pwr.runonEnd.isSome && b.inRun) fun b => b.modPwr fun p => { p with runonEnd := none, ignWaitEnd := some (b.now + b.get R.PWR_CFG_IGN_WAIT_S * sec) }

def execIgnWaitExpired (s : State) : Result := s.go fun b =>
  match b.pwr.ignWaitEnd with
  | none => b
  | some t =>
    if b.flag R.PWR_STATUS_STATIONARY || !b.inRun then b
    else (((b.reach t).set R.PWR_STATUS_IGN_WAIT_EXPIRED 1).controlledStop 1).modPwr fun p => { p with ignWaitEnd := none }

/-- RUNON_S expires while stationary: the orderly shutdown begins. Its store flush takes `flush` seconds, or is still under way at the limit of 60 s. In a ride-through it waits for the abort (R120). -/
def Block.runonExpires (b : Block) (m : Memory) (flush : Option (Fin 61)) (dead : Nat) : Block × Memory :=
  match b.pwr.runonEnd with
  | none => (b, m)
  | some t =>
    if !b.flag R.PWR_STATUS_STATIONARY || !b.inRun || b.pwr.flushEnd.isSome || b.pwr.pfAt.isSome then (b, m)
    else
      let b := (b.reach t).ceaseRun
      match flush with
      | some n => (b.reach (b.now + n * sec)).shutDone m n 0 dead
      | none => (b.modPwr fun p => { p with runonEnd := none, flushEnd := some (b.now + 60 * sec) }, m)

def execRunonExpired (flush : Option (Fin 61)) (dead : Nat) (s : State) : Result := s.goBoth fun b m => b.runonExpires m flush dead

/-- 60 s have passed: the T3 and the T2 data that remain are discarded and counted (R113); `dead`: a drive did not answer. -/
def execFlushLimit (dead : Nat) (s : State) : Result := s.goBoth fun b m =>
  match b.pwr.flushEnd with
  | none => (b, m)
  | some t => if b.pwr.pfAt.isSome then (b, m) else ((b.reach t).set R.PWR_STATUS_FLUSH_LIMIT 1).shutDone m 60 (b.sst.staged.length + 4) dead

/-! ## Wake (R111) -/

/-- A source is enabled in PWR_WAKE_EN. -/
def Block.wakeEnabled (b : Block) (src : Nat) : Bool := src == 0 || b.bitOf R.PWR_WAKE_EN_SRC (src - 1)

/-- What resumes at START in the islands that stayed up in PARKED: cores 1 to 7 and the display cell reloaded, ports and chains started, what was received delivered. -/
def Block.resumeParked (b : Block) : Block :=
  let other := fun (x : Section) => oIsland x.target == 1 && ((x.type == 0x20 || x.type == 0x21) && oUnit x.target != 0 || oCell x.target == 2)
  let b := (b.dspReset.loadSections other).setBit (R.SUP_DEF_CELLk_CELL 1) 2 true
  let b := b.eachOf (b.selectedSections other) fun e b => b.when (oCell e.1.target == 0) fun b => b.partStart (oUnit e.1.target)
  let b := ((b.dspStart.mbCellStart 0).mbCellStart 1).mbCellStart 2
  ((b.tarnCellStart 4).tarnCellStart 5).ehrWake

/-- A wake: in STANDBY the whole start with module time seeded again, in PARKED the start of what was powered down. In BACKUP an alarm's wake waits for the start. -/
def Block.wakeUp (b : Block) (m : Memory) (src startUs fullUs : Nat) : Block × Memory :=
  let startUs := min startUs 400000
  let fullUs := max startUs (min fullUs 1000000)
  if b.pwr.inReset || !b.wakeEnabled src then (b, m)
  else match b.get R.PWR_STATE_STATE with
    | 0 => (b.when (src == 1 || src == 2) fun b => b.modPwr fun p => { p with wake := some (p.wake.getD src) }, m)
    | 1 =>
      if 5 < src then (b, m)
      else
        let b := (b.modPwr fun p => { p with wake := none }).seedTime
        (b.alarmEvents).enterRun m (List.range 9 |>.drop 1) false src startUs fullUs
    | 2 =>
      let isles := [2, 3, 5, 6, 7, 8].filter fun i => (b.island i).run == .poweredDown
      let b := (b.modPwr fun p => { p with wake := none, parkEnd := none }).modGns fun g => { g with refresh := none }
      b.enterRun m isles false src startUs fullUs (·.resumeParked)
    | _ => (b, m)

def execWake (src : Fin 9) (startUs fullUs : Nat) (s : State) : Result := s.goBoth fun b m => b.wakeUp m src startUs fullUs

/-- A received frame that wakes the module leaves its wake pending for WAKE. -/
def Block.wakeBy (b : Block) (src : Nat) : Block := b.when (b.inParked && b.wakeEnabled src) fun b => b.modPwr fun p => { p with wake := some (p.wake.getD src) }

/-- A valid CAN frame; in PARKED one that passes a filter with WAKE set wakes the module (R442). -/
def execCanFrameRx (n : Fin 24) (f : CanFrame) (sof : Nat) (s : State) : Result := s.go fun b =>
  let (b, wake) := b.frameRx n f sof (b.parked && b.pwr.wake.isNone)
  b.when wake fun b => b.wakeBy 6

/-- An Ethernet frame; in PARKED one for the host port's unicast address wakes the module (R455). -/
def execEthFrameRx (p : Fin 16) (f : EthFrame) (fcsBad : Bool) (s : State) : Result := s.go fun b =>
  let wake := b.parked && b.portUp p && f.dst == hostMac && !fcsBad && b.flag (R.ETH_Pp_CFG_WAKE_EN p)
  (b.ethRx p f fcsBad).when wake fun b => b.wakeBy 7

/-- A DTLS record; in PARKED a delivered ANNOUNCE or OPEN wakes the module (R483). -/
def execDtlsRecordRx (n : Fin 16) (num : Nat) (frame : List Nat) (close : Bool) (s : State) : Result := s.go fun b =>
  let (b, wake) := b.recordArrives n num frame close
  b.when wake fun b => b.wakeBy 8

/-! ## PARKED -/

def execParkMaxExpired (s : State) : Result := s.goBoth fun b m =>
  match b.pwr.parkEnd with
  | none => (b, m)
  | some t => if b.inParked then (b.reach t).parkedToStandby m else (b, m)

/-- LOGIC_BAT has stood below BAT_MIN for 60 s. -/
def execParkBatLow (s : State) : Result := s.goBoth fun b m => if b.inParked && b.get R.PWR_PARK_BAT_MIN != 0 then b.parkedToStandby m else (b, m)

/-- A refresh begins every REFRESH_MIN minutes of PARKED (R345). -/
def Block.refreshStart (b : Block) : Block :=
  if !b.inParked || b.pwr.refreshMin = 0 || (b.island 3).run != .poweredDown then b
  else
    let b := b.reach (b.pwr.refreshAt + b.pwr.refreshMin * 60 * sec)
    let b := (b.powerUp 3 true).when (!b.isHeld 3) fun b => (b.loadSections (inIsland 3)).islandStart 3 false
    (b.modPwr fun p => { p with refreshAt := b.now }).modGns fun g => { g with refresh := some b.now }

def execGnssParkRefresh (s : State) : Result := s.go (·.refreshStart)

/-- The refresh ends: hot-start data written, island 3 powered down, HOLDOVER. -/
def execGnssRefreshEnd (s : State) : Result := s.goBoth fun b m =>
  match b.gnss.refresh with
  | none => (b, m)
  | some _ =>
    if !b.inParked then (b, m)
    else
      let (b, m) := if b.gnsRuns then (b.hotWrite, b.hotBytes m) else (b, m)
      ((b.powerDown 3).mtHoldover.modGns fun g => { g with refresh := none }, m)

/-! ## Supply (R109, R118 to R122, R607, R609) -/

/-- The rest of BACKUP: islands 1 to 8 held in reset, island 0 in its low-power wait. -/
def Block.toBackup (b : Block) : Block :=
  let b := (((b.modeHalt).dspPowerFail).whdEndAll).each 24 fun p b => b.mbOff p
  let b := b.each 8 fun i b => b.modIsland (i + 1) fun x => { run := .inReset, resets := x.resets }
  let b := (b.endShutdown.modPwr fun p => { p with pfAt := none, inReset := false }).modHlt fun h => { h with dark := true }
  (b.set R.PWR_STATE_STATE 0).modUpd fun u => { u with runAt := none }

/-- LOGIC_BAT fails. In RUN the power-fail sequence begins; in PARKED and STANDBY the commit point is now, and the shutdown record takes `flushMs`. While the module is held in reset it goes to BACKUP without a commit point or a record (DESIGN CHOICE, log entry 142: the spec does not say what that failure records). -/
def Block.logicFails (b : Block) (m : Memory) (flushMs : Nat) : Block × Memory :=
  let was := b.flag R.PWR_STATUS_LOGIC_VALID
  let b := ((b.set R.PWR_STATUS_LOGIC_VALID 0).modPwr fun p => { p with validAt := none }).when was (·.reqMaxRuns)
  if b.pwr.inReset || b.get R.PWR_STATE_STATE = 0 then (b.when b.pwr.inReset (·.toBackup), m)
  else if b.get R.PWR_STATE_STATE = 3 then
    if b.pwr.pfAt.isSome then (b, m)
    else
      let b := b.capTestAbort
      let ride := b.rideAvail
      let b := (b.set R.PWR_STATUS_PF 1).modPwr fun p => { p with pfAt := some b.now, ride := ride }
      let b := b.eventRaw (islOrigin 0) [0x11, 0, ride, 0, 0, 0, 0, 0]
      (b.sendAlarm 0x0004 (islOrigin 0) ride true, m)
  else
    let b := b.capTestAbort
    let (b, m) := if b.get R.PWR_STATE_STATE = 2 then b.keepRecords m else (b, m)
    let b := (b.set R.PWR_STATUS_COMMITTED 1).inc R.PWR_PF_CNT_COMMITS
    let b := (((b.set R.PWR_LAST_SHUT_KIND 1).set R.PWR_LAST_SHUT_RESULT 1).set R.PWR_LAST_SHUT_FLUSH_MS (min 255 flushMs)).set R.PWR_LAST_SHUT_T23_LOST_MS 0
    ((b.reach (b.now + flushMs * ms)).toBackup, m)

def execLogicBatFail (flushMs : Nat) (s : State) : Result := s.goBoth fun b m => b.logicFails m flushMs

/-- LOGIC_BAT becomes valid; it feeds the logic again, and the reserve holds what a ride-through left it. -/
def execLogicBatValid (s : State) : Result := s.go fun b =>
  let b := match b.pwr.pfAt with | some d => b.when (!b.flag R.PWR_STATUS_LOGIC_VALID) fun b => b.reserveDrain (b.now - d) | none => b
  if b.flag R.PWR_STATUS_LOGIC_VALID && b.pwr.validAt.isSome then b else (b.unreverse.set R.PWR_STATUS_LOGIC_VALID 1).modPwr fun p => { p with validAt := some b.now }

/-- The sequence would abort before its commit point: the end of 10 ms without a break. -/
def Block.abortAt (b : Block) : Option Nat :=
  match b.pwr.pfAt, b.pwr.validAt with
  | some d, some v => if v + 10 * ms ≤ d + b.pwr.ride * ms then some (v + 10 * ms) else none
  | _, _ => none

/-- LOGIC_BAT has been valid for 10 ms before C: RUN goes on without a reset (R121). -/
def execPfAbort (s : State) : Result := s.go fun b =>
  match b.abortAt with
  | none => b
  | some t =>
    let b := ((((b.reach t).set R.PWR_STATUS_PF 0).set R.PWR_STATUS_ABORTED 1).inc R.PWR_PF_CNT_ABORTS).modPwr fun p => { p with pfAt := none }
    b.eventRaw (islOrigin 0) ([0x12, 0, 0, 0] ++ le 2 (b.get R.PWR_PF_CNT_ABORTS) ++ le 2 (b.get R.PWR_PF_CNT_COMMITS))

/-- The commit point C and the steps of Table 5.7 to BACKUP. Operands: FLUSH_MS, T2 and T3 blocks not written by C + 35 ms, those whose drives did not answer, and whether the reserve was exhausted before step 8. -/
def Block.pfCommit (b : Block) (m : Memory) (flushMs lost dead : Nat) (exhausted : Bool) : Block × Memory :=
  match b.pwr.pfAt, b.abortAt with
  | some d, none =>
    let b := b.reach (d + b.pwr.ride * ms)
    let c := b.now
    let b := (b.set R.PWR_STATUS_COMMITTED 1).inc R.PWR_PF_CNT_COMMITS
    let b := b.ceaseRun
    let (b, m) := b.keepRecords m
    let gone := b.bulkYoung lost dead
    let lostMs := b.lostSpan gone c
    let before := b
    let b := b.writeDirty.sstCommit gone dead
    let result := b.shutResult before dead
    let b := (b.hltRunEnd false).reserveDrain (c - d + 40 * ms)
    let flush := min flushMs 40
    let b := if exhausted then (((b.set R.PWR_LAST_SHUT_RESULT 3).set R.PWR_LAST_SHUT_KIND 1).setOpen R.PWR_LAST_SHUT_FLUSH_MS).setOpen R.PWR_LAST_SHUT_T23_LOST_MS
      else (((b.set R.PWR_LAST_SHUT_RESULT result).set R.PWR_LAST_SHUT_KIND 1).set R.PWR_LAST_SHUT_FLUSH_MS flush).set R.PWR_LAST_SHUT_T23_LOST_MS (min 65535 lostMs)
    ((b.reach (c + flush * ms)).toBackup.modPwr fun p => { p with railUp := !exhausted }, m)
  | _, _ => (b, m)

def execPfCommit (flushMs lost dead : Nat) (exhausted : Bool) (s : State) : Result := s.goBoth fun b m => b.pfCommit m flushMs lost dead exhausted

/-- LOGIC_BAT has been valid for 100 ms in BACKUP: a supply-dip reset where the always-on rail stayed up, else a power-on reset; MODULE_START runs the start (R122). -/
def execBackupExit (s : State) : Result := s.go fun b =>
  match b.pwr.validAt with
  | none => b
  | some v => if b.get R.PWR_STATE_STATE = 0 && !b.pwr.inReset then (b.reach (v + 100 * ms)).moduleReset (if b.pwr.railUp then 2 else 1) else b

/-- The reserve falls to 12 V: the always-on and the standby rail fall, and the next start is a power-on reset. -/
def execReserveExhausted (s : State) : Result := s.if_ (!s.blk.flag R.PWR_STATUS_LOGIC_VALID) fun b => (b.modPwr fun p => { p with railUp := false }).set R.PWR_RES_VOLT 48

/-! ## Resets of module scope -/

/-- A low pulse of RESET_IN of `low` ns so far; whether one of 2 µs to 10 µs is taken is open (R126). In BACKUP nothing runs that it could reset, and a level that stays low keeps the module in reset once LOGIC_BAT has come back. -/
def execResetInAssert (low : Nat) (s : State) : Result := s.go fun b =>
  if low < 2 * us then b
  else if b.get R.PWR_STATE_STATE = 0 then b.when (10 * us ≤ low) fun b => b.modPwr fun p => { p with resetLow := true }
  else if 10 * us ≤ low then (b.moduleReset 3).modPwr fun p => { p with resetLow := true }
  else if b.open_ % 2 = 1 then b.spend.moduleReset 3
  else b.spend

/-- SUP_RST_CTRL.MODULE with its key: retained records are written first (R127). -/
def execSupRstModule (key : BitVec 16) (s : State) : Result :=
  if key.toNat ≠ 0xB1EF then s.go fun b => b.status BAD_KEY
  else s.goBoth fun b m =>
    let (b, m) := b.mramSave.recordRun.ringsPut m fun r => r.shutdown || covers r R.UPD_RUN_RUN_S.addr
    ((b.moduleReset 4).status 0, m)

def execIsland0Watchdog (s : State) : Result := s.if_ (s.blk.get R.PWR_STATE_STATE != 0 && !s.blk.pwr.inReset) fun b => b.moduleReset 5

/-- A rail monitor trips: its island is reset, or the module for island 0 (R125). -/
def execRailMonitor (island : Fin 9) (s : State) : Result := s.if_ (s.blk.get R.PWR_STATE_STATE != 0 && !s.blk.pwr.inReset) fun b =>
  if island.val = 0 then b.moduleReset 6 else b.islandReset island 0x12

/-! ## Calibration results (Table 4.5, R247, R401) -/

/-- MODE_CAL.ACCEPT applies the candidate results of the last run. -/
def execModeCalAccept (s : State) : Result := s.askKept none yldRetained fun b => { b.yldAccept with tarn := b.tarn.map fun (t : TarnPort) => { t with kHeld := [] } }

end Sys2Proof.Machine
end

