-- ==== Sys2Proof/Machine/Update.lean ====
section
/-! DEFINITION. Image update: schedules, activation and deferral, confirmation, migration (chapter 22: R512, R515 to R523). -/

namespace Sys2Proof.Machine

open Sys2Proof

/-! ## The STAGED slot -/

/-- The status code last answered. -/
def Block.updCode (b : Block) (c : Nat) : Block := b.set R.UPD_STATUS_CODE c

/-- The schedule is cleared; the image stays STAGED. -/
def Block.clearSched (b : Block) : Block := (b.modUpd fun u => { u with sched := none }).updShow

/-- The STAGED slot is freed by a commit in another way than by activation: UPDATE clears with cause REQUEST. -/
def Block.freeStaged (b : Block) : Block :=
  if (b.slotOf 2).isNone then b else ((b.clearSched).commit_ (freeRole 2)).modeSystem mUPDATE false 1

/-- UPD_CTRL.DISCARD. -/
def execUpdDiscard (key : BitVec 16) (s : State) : Result := if key.toNat ≠ 0xB1EF then s.go fun b => b.status BAD_KEY else s.goSched fun b => b.clearSched.freeStaged.status 0

/-- UPD_CTRL.CANCEL. -/
def execUpdCancel (key : BitVec 16) (s : State) : Result := if key.toNat ≠ 0xB1EF then s.go fun b => b.status BAD_KEY else s.goSched fun b => b.clearSched.status 0

/-! ## Schedules (R515) -/

/-- REASON for which a schedule is refused; `fleet` gives version, epoch and digest of an ANNOUNCE. -/
def Block.schedReason (b : Block) (instant : Nat) (fleet : Option (Nat × Nat × Nat)) : Nat :=
  let busy := [1, 2, 6, 7].contains b.updState || b.upd.safeHold
  match b.imageOf 2 with
  | none => 5
  | some g =>
    let same := match fleet with | some (v, e, d) => v == g.version && e == g.epoch && d == imageDigest g | none => true
    if busy || !same then 5
    else if g.epoch < b.get R.UPD_MIN_EPOCH_EPOCH then 6
    else if instant < b.sys.mtime + 10 * sec && (fleet.isSome || instant != 0) then 4
    else 0

/-- A schedule is accepted in place of any that stands. -/
def Block.schedAccept (b : Block) (id instant window : Nat) (fleet : Bool) : Block :=
  let w := if window = 0 then b.get R.UPD_WINDOW_MIN else min 240 window
  let d := (b.idOf 2).digest
  let b := b.modUpd fun u => { u with sched := some { id := id, instant := instant, window := w, fleet := fleet, digest := d } }
  ((((b.set R.UPD_SCHED_LO_NS instant).set R.UPD_SCHED_HI_NS (instant / 2 ^ 32)).set R.UPD_SCHED_ID_ID id).set R.UPD_WINDOW_MIN w).updShow

/-- A schedule from UPD_CTRL or a session: the status with which it is answered. -/
def Block.schedLocal (b : Block) (id instant window : Nat) : Block × Nat :=
  let r := b.schedReason instant none
  if r = 0 then (b.schedAccept id instant window false, 0)
  else (((b.updCode UPD_STATE).report 0x15 r id (b.idOf 2) instant b.counter), UPD_STATE)

/-- UPD_CTRL.SCHEDULE takes UPD_SCHED and UPD_WINDOW. -/
def execUpdSchedule (key : BitVec 16) (s : State) : Result :=
  if key.toNat ≠ 0xB1EF then s.go fun b => b.status BAD_KEY
  else s.goSched fun b =>
    let r := b.schedLocal (b.get R.UPD_SCHED_ID_ID) (b.get R.UPD_SCHED_LO_NS + 2 ^ 32 * b.get R.UPD_SCHED_HI_NS) (b.get R.UPD_WINDOW_MIN)
    r.1.status r.2

/-- An ANNOUNCE of a SCHEDULER peer. -/
def Block.announceIn (b : Block) (x : FleetSched) : Block :=
  if !b.bitOf (R.EHR_PEERn_CFG_ROLE x.peer) 2 then b
  else
    let r := b.schedReason x.instant (some (x.version, x.epoch, x.digest))
    if r = 0 then b.schedAccept x.id x.instant x.window true
    else b.report 0x15 r x.id { version := x.version, epoch := x.epoch, digest := x.digest } x.instant b.counter

def execAnnounce (x : FleetSched) (s : State) : Result := s.goSched fun b => b.announceIn x

/-- A standing schedule has this SCHEDULE_ID. -/
def Block.schedIs (b : Block) (id : Nat) : Bool := b.upd.sched.any fun x => x.id == id

def execFleetCancel (x : FleetSched) (s : State) : Result := s.goSched fun b => if b.bitOf (R.EHR_PEERn_CFG_ROLE x.peer) 2 && b.schedIs x.id then b.clearSched else b

/-! ## Activation (R517 to R519) -/

/-- At the instant less 1 s steps 1 to 11 of R67 are repeated on the STAGED slot. -/
def Block.precheck (b : Block) : Block :=
  match b.upd.sched, b.imageOf 2 with
  | some x, some g =>
    if x.instant = 0 then b
    else
      let b := b.toModule (x.instant - sec)
      let v := b.imageVerdict g
      if v.code = 0 then b else ((b.updCode v.code).freeStaged).report 0x15 7 x.id (imageId g) x.instant b.counter
  | _, _ => b

def execUpdPrecheck (s : State) : Result := s.goSched fun b => if b.inRun then b.precheck else b

/-- REASON of the first cause of Table 22.3 that applies; 0 for none. -/
def Block.deferReason (b : Block) (x : UpdSched) : Nat :=
  if !b.flag R.PWR_STATUS_STATIONARY || [mHARVEST, mUNLOAD, mDRIVERLESS].any b.demands then 1
  else if b.modeSet mDEGRADED || b.modeSet mREPLAY || !b.mode.jogs.isEmpty || b.calRuns then 2
  else if b.get R.IMG_STATUS_RELOAD_PENDING != 0 || !b.img.cells.isEmpty || b.img.step.isSome then 3
  else if x.fleet && (b.get R.SUP_MTIME_STATUS_STATE != 2 || decide (500000 < b.mtBound)) then 4
  else 0

/-- The activation is deferred: the first deferral and every change of REASON are reported. -/
def Block.deferred (b : Block) (x : UpdSched) (r : Nat) : Block :=
  if x.first.isSome && x.reason == r then b
  else
    let b := (b.modUpd fun u => { u with sched := some { x with first := some (x.first.getD b.sys.mtime), reason := r } }).updShow
    let b := (b.inc R.UPD_CNT_DEFERRALS).report 0x11 r x.id (b.idOf 2) x.instant b.counter
    b.sendAlarm 0x0005 supOrigin r false

/-- The commit of step 3: STAGED becomes ACTIVE with PENDING_CONFIRM, the former ACTIVE becomes OXBOW, the former OXBOW slot is freed. -/
def Block.activationCommit (b : Block) (x : UpdSched) : Block :=
  let a := b.sys.mtime
  let b := (((b.set R.UPD_STATUS_PENDING_CONFIRM 1).set R.UPD_STATUS_FALL_DUE 0).set R.UPD_STATUS_NO_OXBOW 0).set R.UPD_RUN_RUN_S 0
  let b := b.modUpd fun u => { u with sched := none, actAt := a, actId := x.id, actInst := x.instant, window := x.window, owed := some (0x12, a), activating := true }
  b.commit_ fun l => (freeRole 3 l).map fun (s : UpdSlot) => if s.role = 1 then { s with role := 3 } else if s.role = 2 then { s with role := 1 } else s

/-- Table 22.4 from the activation second; the store's flush takes `flush` seconds, 60 of them at the limit of R113, which leaves `lost` blocks. -/
def Block.activate (b : Block) (m : Memory) (x : UpdSched) (flush lost dead : Nat) : Block × Memory :=
  let b := (b.modeCommit (withBit (b.get R.MODE_ACTIVE_FLAGS) mUPDATE false) fun _ => (0, 8)).modeBackup
  let b := (b.ceaseRun).activationCommit x
  let b := (b.reach (b.now + flush * sec)).when (flush == 60) fun b => b.set R.PWR_STATUS_FLUSH_LIMIT 1
  let (b, m) := b.schedFollow { b with upd := { b.upd with sched := some x } } m
  let (b, m) := b.flushDone m (if flush = 60 then lost else 0) dead
  (b.moduleReset 4, m)

/-- The next evaluation of a schedule: at once where a forward step skipped its instant; else at the instant, or at the first whole second after it that has not been evaluated, so that none fires a second time after a backward step (R31, R518). -/
def Block.toEvaluation (b : Block) (x : UpdSched) : Block :=
  if x.skipped then b
  else match x.last with
    | some t => (b.toModule t).toBoundary sec true
    | none => if x.instant ≠ 0 && b.sys.mtime ≤ x.instant then b.toModule x.instant else b.toBoundary sec (x.instant != 0)

/-- The instant, or a whole second of module time after it: deferral causes are evaluated. A local instant of 0 waits for the first whole second without a cause. -/
def Block.activationCheck (b : Block) (m : Memory) (flush lost dead : Nat) : Block × Memory :=
  match b.upd.sched with
  | none => (b, m)
  | some x =>
    if !b.inRun || !b.mode.live then (b, m)
    else
      let b := b.toEvaluation x
      let x := { x with last := some b.sys.mtime, skipped := false }
      let b := b.modUpd fun u => { u with sched := some x }
      let r := b.deferReason x
      if r = 0 then b.activate m x flush lost dead
      else if x.instant = 0 then (b, m)
      else (b.deferred x r).schedFollow b m

def execUpdActivationCheck (flush : Fin 61) (lost dead : Nat) (s : State) : Result := s.goBoth fun b m => b.activationCheck m flush lost dead

/-- DEFER_MAX_H passes from the instant with the schedule still deferred: it lapses with the last REASON. -/
def Block.deferLapse (b : Block) : Block :=
  match b.upd.sched with
  | none => b
  | some x =>
    if x.first.isNone || !b.inRun then b
    else
      let b := b.toModule (x.instant + b.get R.UPD_WINDOW_DEFER_MAX_H * 3600 * sec)
      (b.clearSched).report 0x15 x.reason x.id (b.idOf 2) x.instant b.counter

def execUpdDeferLapse (s : State) : Result := s.goSched (·.deferLapse)

/-! ## Confirmation (R521 to R523) -/

/-- UPD_CONFIRM.CONFIRM. -/
def Block.confirmRefusal (b : Block) (key : Nat) : Option Nat :=
  if key ≠ 0xB1EF then some BAD_KEY
  else if !b.flag R.UPD_STATUS_PENDING_CONFIRM || b.flag R.UPD_STATUS_FALL_DUE then some UPD_STATE
  else none

/-- One commit confirms: MIN_EPOCH rises to the image's epoch, a stale OXBOW image is freed, the snapshot is released. -/
def Block.confirm (b : Block) : Block :=
  let g := (b.imageOf 1).getD {}
  let e := max (b.get R.UPD_MIN_EPOCH_EPOCH) g.epoch
  let stale := (b.imageOf 3).any fun o => decide (o.epoch < e)
  let b := b.recordRun.modUpd fun u => { u with runAt := none }
  let b := ((b.set R.UPD_STATUS_PENDING_CONFIRM 0).set R.UPD_STATUS_SNAPSHOT_HELD 0).set R.UPD_MIN_EPOCH_EPOCH e
  let b := (b.when stale fun b => b.set R.UPD_STATUS_NO_OXBOW 1).commit_ fun l => if stale then freeRole 3 l else l
  b.report 0x14 0 b.upd.actId (imageId g) b.upd.actInst b.counter

def execUpdConfirm (key : BitVec 16) (s : State) : Result := s.askKept (s.blk.confirmRefusal key.toNat) [R.UPD_RUN_RUN_S, R.UPD_MIN_EPOCH_EPOCH] (·.confirm)

/-- The migration is done: STORED takes the image's format, and an EVENT names the old and the new one. -/
def Block.migDone (b : Block) : Block :=
  let old := b.get R.UPD_RET_FMT_STORED
  let new := b.img.active.retFmt
  (b.set R.UPD_RET_FMT_STORED new).event supOrigin R.UPD_RET_FMT_STORED.addr 0 (le 2 old ++ le 2 new)

def execMigDone (key : BitVec 16) (s : State) : Result := s.askKept (if key.toNat ≠ 0xB1EF then some BAD_KEY else none) [R.UPD_RET_FMT_STORED] (·.migDone)

def execMigFail (key : BitVec 16) (s : State) : Result := s.ask (if key.toNat ≠ 0xB1EF then some BAD_KEY else none) (·.fallDue)

/-- UPD_RUN reaches the window unconfirmed. -/
def execUpdWindowExpired (s : State) : Result := s.go fun b =>
  match b.upd.runAt with
  | none => b
  | some t =>
    if !b.flag R.UPD_STATUS_PENDING_CONFIRM || !b.inRun then b
    else (b.reach (t + (b.upd.window * 60 - b.get R.UPD_RUN_RUN_S) * sec)).fallDue

/-- Every 60 s the count is recorded. -/
def execUpdRunRecord (s : State) : Result := s.goKept [R.UPD_RUN_RUN_S] fun b =>
  match b.upd.runAt with
  | none => b
  | some t => if b.inRun then (b.reach (t + 60 * sec)).recordRun else b

/-! ## Staging (R514) -/

/-- Why STAGE_BEGIN of a path is refused. -/
def Block.stageRefusal (b : Block) (path : Nat) : Option Nat :=
  if b.upd.sched.isSome || b.upd.activating || (b.flag R.UPD_STATUS_PENDING_CONFIRM && !b.upd.safeHold) || (b.upd.stage.any fun x => x.path != path || x.verify) then some UPD_STATE else none

/-- A STAGED slot is freed, and the free slot becomes the target. -/
def Block.stageBegin (b : Block) (path length digest : Nat) : Block :=
  let b := b.freeStaged
  match b.slotOf 0 with
  | none => b
  | some k => (b.modUpd fun u => { u with stage := some { slot := k, length := length, digest := digest, path := path } }).updShow

/-- Bytes come in order. -/
def Block.stageDataCode (b : Block) (path offset : Nat) (data : List Nat) : Nat :=
  match b.upd.stage with
  | none => UPD_STATE
  | some x => if x.path ≠ path || x.verify then UPD_STATE else if offset ≠ x.data.length || x.length < offset + data.length then BAD_MESSAGE else 0

def Block.stageData (b : Block) (data : List Nat) : Block := b.modUpd fun u => { u with stage := u.stage.map fun (x : UpdStage) => { x with data := x.data ++ data } }

/-- The checks of the verification, in order, on the image that the staged bytes spell; bytes that spell no image have a bad format (log entry 132). -/
def Block.stageVerdict (b : Block) (x : UpdStage) (g : Image) : ImageVerdict :=
  let v := b.imageVerdict g
  if !imageIn x.data g then { code := BAD_FORMAT }
  else if v.code ≠ 0 then v
  else match g.sections.findIdx? fun c => !digestOk c with
    | some i => { code := DIGEST_MISMATCH, section_ := i }
    | none =>
      if g.epoch < b.get R.UPD_MIN_EPOCH_EPOCH then { code := ROLLBACK }
      else if b.get R.UPD_RET_FMT_STORED < g.minFmt then { code := RETAINED_UNMIGRATABLE }
      else if imageDigest g ≠ x.digest then { code := DIGEST_MISMATCH }
      else {}

/-- The verified image becomes STAGED; in SAFE_HOLD it becomes ACTIVE with PENDING_CONFIRM and NO_OXBOW (R534). -/
def Block.stageCommit (b : Block) (x : UpdStage) (g : Image) : Block :=
  let b := b.modUpd fun u => { u with stage := none }
  if b.upd.safeHold then
    let b := (((b.set R.UPD_STATUS_PENDING_CONFIRM 1).set R.UPD_STATUS_FALL_DUE 0).set R.UPD_STATUS_NO_OXBOW 1).set R.UPD_RUN_RUN_S 0
    (b.modUpd fun u => { u with actAt := b.sys.mtime, actId := 0, actInst := 0, window := b.get R.UPD_WINDOW_MIN }).commit_ fun l => updAt (freeRole 1 (freeRole 3 l)) x.slot fun _ => { role := 1, image := g }
  else
    let b := b.commit_ fun l => updAt l x.slot fun _ => { role := 2, image := g }
    (b.modeSystem mUPDATE true 1).report 0x10 0 0 (imageId g) 0 b.counter

end Sys2Proof.Machine
end

