-- ==== Sys2Proof/Machine/Flags.lean ====
section
/-! DEFINITION. Status and flags that are formed when they are read: words whose fields follow from other state, and channel words that are inert outside their function. -/

namespace Sys2Proof.Machine

open Sys2Proof

/-! ## Words of field channels -/

/-- The cell and the offset within its block of an address in rows 8 to 10. -/
def cellWord (a : Nat) : Option (Nat × Nat) :=
  if 0x41000000 ≤ a ∧ a < 0x41180000 then some ((a - 0x41000000) / 0x10000, (a - 0x41000000) % 0x10000) else none

/-- The channel and the offset within its block of a channel register's address. -/
def chWord (a : Nat) : Option (Nat × Nat) := (cellWord a).bind fun (c, o) => if o < 0x800 then some (8 * c + o / 0x100, o % 0x100) else none

/-- A word of a channel that reads 0 and takes writes without effect, for its function is another one (Registers of chapters 7 to 10). -/
def inertAt (fn r : Nat) : Bool :=
  if r < 0x50 then false
  else if r < 0x90 then !(r == 0x5C || r == 0x74 || r == 0x80 || (2 ≤ fn && fn ≤ 4))
  else if r < 0xB0 then fn != 1
  else if r < 0xBC then fn != 5
  else if r < 0xC0 then fn != 6
  else if r < 0xD0 then fn != 7
  else if r < 0xF0 then fn != 8
  else fn != 9

def Block.inert (b : Block) (a : Nat) : Bool := match chWord a with | some (ch, r) => inertAt (b.fn ch) r | none => false

/-- FC_CELL_STATUS: a bit for each unit. -/
def unitBits (c : Nat) (p : Nat → Bool) : Nat := (List.range 8).foldl (fun v u => withBit v u (p (8 * c + u))) 0

/-- The words of channel `ch` at offset `r` as they stand now: R136, R148, R176, R183, R200, R227. -/
def Block.chLive (b : Block) (ch r : Nat) : Block :=
  if r = 0x20 then b.setB (R.FC_CH_STATUS_ON ch) (b.conducts ch)
  else if r = 0x08 then (if b.fn ch = 1 || b.fn ch = 9 then b else b.set (R.FC_CH_GEYSER_WIN ch) 0)
  else if r = 0x5C then b.set (R.FC_CH_DUTY_FRAC_EFF ch) (b.fracEff ch)
  else if r = 0x74 then
    let b := b.setB (R.FC_CH_DRV_STATUS_BOOST_NOT_READY ch) (!b.flag (R.FC_CELL_STATUS_BOOST_READY (ch / 8)))
    if 2 ≤ b.fn ch && b.fn ch ≤ 4 then b
    else b.clear [R.FC_CH_DRV_STATUS_PHASE ch, R.FC_CH_DRV_STATUS_QUEUED ch, R.FC_CH_DRV_STATUS_NOKINK_EV ch, R.FC_CH_DRV_STATUS_SHORT_EV ch]
  else if r = 0x98 then
    let l := b.lead ch
    let fs : List (Nat → Fld) := [R.FC_CH_LS_STATUS_NET, R.FC_CH_LS_STATUS_OUT, R.FC_CH_LS_STATUS_NET_HOLD, R.FC_CH_LS_STATUS_FROZEN, R.FC_CH_LS_STATUS_FORCED, R.FC_CH_LS_STATUS_NET_SILENT,
      R.FC_CH_LS_STATUS_NET_SHORT_EV, R.FC_CH_LS_STATUS_NET_LATE_EV, R.FC_CH_LS_STATUS_CLAMP_EV, R.FC_CH_LS_STATUS_CLAMP_MJ]
    (b.eachOf fs fun f b => b.set (f ch) (b.get (f l))).setB (R.FC_CH_LS_STATUS_NET_HOLD ch) (b.flag (R.FC_CH_LS_STATUS_NET_HOLD l) || (b.get (R.FC_CH_NET_SRC l) != 0 && !(b.ch l).net.avail))
  else if r = 0xF4 then b.set (R.FC_CH_SUP_STAT_I_REG_MA ch) (b.iReg ch)
  else b

/-- The words of a field cell at offset `o`. -/
def Block.cellLive (b : Block) (c o : Nat) : Block :=
  let b := (b.ripen c).chargeEnds c
  if o < 0x800 then b.chLive (8 * c + o / 0x100) (o % 0x100)
  else if o = 0x804 then
    ((b.set (R.FC_CELL_STATUS_LATCHED c) (unitBits c fun ch => b.flag (R.FC_CH_STATUS_LIM_LATCH ch) || b.flag (R.FC_CH_STATUS_HARD_LATCH ch) || b.flag (R.FC_CH_STATUS_PAIR_LATCH ch))).set
      (R.FC_CELL_STATUS_FAIL_ACT c) (unitBits c fun ch => b.flag (R.FC_CH_STATUS_FAIL_ACT ch))).set (R.FC_CELL_STATUS_SHED c) (unitBits c fun ch => b.flag (R.FC_CH_STATUS_SHED ch))
  else if o = 0x808 then b.when ((b.cell c).charge.isSome && b.flag (R.FC_CELL_STATUS_BOOST_READY c)) fun b => b.set (R.FC_CELL_BOOST_VOLT c) (b.boostBetween c)
  else b

/-! ## Words of the other blocks -/

/-- SUP_MTIME words (R33). -/
def Block.mtimeLive (b : Block) (a : Nat) : Block :=
  if a = 0x40000108 then
    let st := b.get R.SUP_MTIME_STATUS_STATE
    b.set R.SUP_MTIME_STATUS_HOLDOVER_S (if st = 3 || st = 4 then min 65535 ((b.now - b.sys.leftLock.getD b.now) / sec) else 0)
  else if a = 0x4000010C then b.set R.SUP_MTIME_ERR_BOUND_NS b.mtBound
  else b

/-- Operator bounds read as clamped to LO and HI, at LO and HI where none was written. -/
def Block.boundLive (b : Block) (i : Nat) : Block :=
  let fm := b.varFmt i
  let lo := asFmt fm (b.get (R.SOL_VARi_LO_LO i))
  let hi := asFmt fm (b.get (R.SOL_VARi_HI_HI i))
  let v := fun (f : Fld) (d : Int) => clampI lo hi (((b.regs.find? f.key).map (asFmt fm)).getD d)
  (b.seti (R.SOL_VARi_OPLO_OPLO i) (v (R.SOL_VARi_OPLO_OPLO i) lo)).seti (R.SOL_VARi_OPHI_OPHI i) (v (R.SOL_VARi_OPHI_OPHI i) hi)

/-- A word `w` of the recorder's window as it is shown (R551). -/
def Block.winLive (b : Block) (w : Nat) : Block := b.set (R.EVR_WINn_BYTES w) (bytesAt b.evr.window (4 * w) 4)

/-- The block with the word at `a` as a read finds it. -/
def Block.live (b : Block) (a : Nat) : Block :=
  match cellWord a with
  | some (c, o) => b.cellLive c o
  | none =>
    if a < 0x40000200 then b.mtimeLive a
    else if a = 0x40000220 then b.set R.PWR_RES_RIDE_AVAIL_MS b.rideAvail
    else if 0x40000440 ≤ a && a < 0x40000460 then
      let s := (a - 0x40000440) / 8
      if a % 8 = 0 then (b.setBit (R.MODE_PERM_SRCs_SET s) mUPDATE false).setBit (R.MODE_PERM_SRCs_CLR s) mUPDATE false else b.setBit (R.MODE_CONF_SRCs_CONF s) mUPDATE false
    else if 0x41300000 ≤ a && a < 0x41300600 then
      let n := (a - 0x41300000) / 0x20
      if a % 0x20 = 0x0C then b.set (R.FC_DCP_STATUS_DISC_MS n) (if b.get (R.FC_DCP_STATUS_STATE n) = 2 then min 65535 ((b.sys.mtime - (b.pair n).since) / ms) else 0) else b
    else if a = 0x43000008 then b.set R.LE_INFO_INSTANCES b.slots.length
    else if 0x43800200 ≤ a && a < 0x43800A00 then (if a % 0x40 = 0x0C || a % 0x40 = 0x10 then b.boundLive ((a - 0x43800200) / 0x40) else b)
    else if 0x47880100 ≤ a && a < 0x47880500 then (if a % 0x40 = 0x28 then b.set (R.EHR_PEERn_AGE_MS ((a - 0x47880100) / 0x40)) (b.peerAge ((a - 0x47880100) / 0x40)) else b)
    else if a = 0x4A000050 then b.inc R.UPD_RUN_RUN_S ((b.now - b.upd.runAt.getD b.now) / sec)
    else if 0x4B001000 ≤ a && a < 0x4B001FC0 then b.winLive ((a - 0x4B001000) / 4)
    else if 0x4C000560 ≤ a && a < 0x4C000584 then b.set (R.HLT_AVSk_IN_FORCE ((a - 0x4C000560) / 4)) (b.avs ((a - 0x4C000560) / 4))
    else if a = 0x4C000020 then b.inc R.HLT_HOURS_RUN_S b.runSeconds
    else if a = 0x4D00000C || a = 0x4D000010 then
      let p := (a - 0x4D00000C) / 4
      let b := b.when (b.whdPath p).lockEnd.isNone fun b => b.set (R.WHD_LOCKa_ATTEMPTS p) ((b.whdPath p).attempts.filter fun t => decide (b.rtcSecs ≤ t + 600)).length
      b.set (R.WHD_LOCKa_REMAIN_S p) (match (b.whdPath p).lockEnd with | some t => min 65535 (t - b.rtcSecs) | none => 0)
    else b

/-- A w1c field after a write of a mask: ones clear (R8). -/
def clearedBy (old mask : Nat) : Nat := old - (old &&& mask)

end Sys2Proof.Machine
end

