-- ==== Sys2Proof/Machine/Access.lean ====
section
/-! DEFINITION. Access to the control space: who may write a word, when a write is refused and what it stores (R7, R11, R76 to R79, R568 to R574, R605). -/

namespace Sys2Proof.Machine

open Sys2Proof

/-! ## Rows that do not answer (R569, R606) -/

/-- The row whose island or cell does not answer: lost, in reset, or powered down (R569, R606). -/
def Block.rowDown (b : Block) (a : Nat) : Bool :=
  match rowOf a with
  | none => false
  | some _ => let i := islandOf a; i != 0 && (b.barred (rowUnit a) || (b.island i).run == .inReset)

/-! ## Permission (R570 to R573) -/

/-- Bit of an origin's class in the writers of a row: 0 S, 1 M, 2 A, 3 W, 4 Y (Table 25.2). -/
def originClass (o : Nat) : Nat :=
  if o = 0x1000 then 1 else if 0x1001 ≤ o ∧ o ≤ 0x1007 then 2 else if o = 0x0180 then 3 else if o = 0x0181 then 4 else 0

/-- The session of a path holds the WRITE permission (R527). -/
def Block.sessionWrites (b : Block) (p : Nat) : Bool := b.whd.active == some p && b.bitOf R.WHD_STATUS_PERM 1

/-- A write from an origin to one word is permitted (R572, R573). -/
def Block.permitted (b : Block) (o a : Nat) : Bool :=
  match rowOf a with
  | none => false
  | some k =>
    let c := originClass o
    let named := bit ((mapRows[k]?.map (·.writers)).getD 0) c
    let fields := ((wordAt a).map (·.1)).getD []
    if k = 5 then decide (a < 0x40000A00) && o == 0x1000 + (a - 0x40000800) / 0x40
    else if a = 0x4A000054 then c == 1
    else if k = 38 ∧ a < 0x4901D000 then named && oIsland o == 0
    else if k = 44 ∧ (a < 0x54000000 ∨ 0x6FF00000 ≤ a) then named && oIsland o == 0
    else named && (match c with
      | 2 => bit (b.part (o - 0x1000)).writeMask k
      | 3 => b.sessionWrites 0
      | 4 => b.sessionWrites 1 && !(fields.any fun f => f.acc == .wo || f.cls == .H) &&
          !((List.range 16).any fun i => (R.FUS_INi_CTRL_FORCE_MASK i).addr == a) &&
          !((List.range 2).any fun i => [(R.GNS_ANTa_SUPPLY_EN i).addr, (R.DSP_Pn_CTRL_EN i).addr, (R.DSP_Pn_BL_DUTY i).addr].contains a)
      | _ => true)

/-! ## Stopped blocks (R78, R79) -/

/-- The load target whose register block holds an address (R79). -/
def targetOf (a : Nat) : Option Nat :=
  match rowOf a with
  | some 2 | some 3 => some (org 0 1 127)
  | some 4 => some (org 0 2 127)
  | some 5 => if a < 0x40000A00 then some (org 1 0 ((a - 0x40000800) / 0x40)) else none
  | some 6 => some (islOrigin 0)
  | some 8 | some 9 | some 10 => some (fcOrigin ((a - 0x41000000) / 0x10000))
  | some 12 => some (org 2 2 127)
  | some 13 => some (tarnOrigin ((a - 0x42000000) / 0x1000))
  | some 14 | some 15 | some 16 | some 17 | some 18 | some 25 | some 27 => some leTarget
  | some 19 | some 20 | some 21 | some 22 => some solTarget
  | some 23 => some fusTarget
  | some 24 => some gnsTarget
  | some 26 => some (org 3 15 127)
  | some 28 => some yldTarget
  | some 29 => some tileTarget
  | some 30 => some sstTarget
  | some 31 => some (mbTarget ((a - 0x47000000) / 0x1000))
  | some 32 => some (mbTarget ((a - 0x47100000) / 0x800))
  | some 33 => some (if 0x47800E00 ≤ a ∧ a < 0x47801000 then org 4 6 127 else org 4 3 127)
  | some 35 | some 36 => some (org 1 2 127)
  | some 41 => some (org 0 4 127)
  | some 42 => some (org 0 5 127)
  | _ => none

/-- The block at an address runs, so its H fields accept no new value (R78, and the Registers part of each chapter). -/
def Block.running (b : Block) (a : Nat) : Bool :=
  match rowOf a with
  | some 4 => if a = 0x4000042C then b.acting mCALIBRATE else true
  | some 5 => b.flag (R.SUP_MBXk_STAT_BUSY ((a - 0x40000800) / 0x40))
  | some 7 => b.img.step.isSome
  | some 8 | some 9 | some 10 => b.runs ((a - 0x41000000) / 0x10000)
  | some 12 => b.flag (R.FC_DCP_CTRL_EN ((a - 0x41300000) / 0x20))
  | some 13 => let t := b.tState ((a - 0x42000000) / 0x1000); t != tSTOPPED && t != tOFF
  | some 14 | some 15 | some 16 | some 17 | some 18 | some 25 => b.leState != leSTOPPED
  | some 19 | some 20 | some 21 | some 22 => b.solState != solSTOPPED
  | some 23 => b.fState != fSTOPPED
  | some 24 => b.gnsState != gnsSTOPPED
  | some 28 => b.yldState != ySTOPPED
  | some 29 => b.flag R.YLD_T_STATUS_RUN
  | some 30 => if 0x46800200 ≤ a then b.rpState != rCLOSED && b.rpState != rENDED else b.sstState != stSTOPPED
  | some 31 => let t := b.mbMode ((a - 0x47000000) / 0x1000); t != mbSTOPPED && t != mbOFF
  | some 33 => if 0x47800100 ≤ a ∧ a < 0x47800500 then b.flag (R.ETH_Pp_CFG_EN ((a - 0x47800100) / 0x40)) else true
  | some 34 => if 0x47880100 ≤ a then b.flag (R.EHR_PEERn_CFG_EN ((a - 0x47880100) / 0x40)) else b.ehrState != eSTOPPED
  | some 35 =>
    let busy := fun n => b.dspState n != dOFF && b.dspState n != dREST
    if a < 0x48000100 then busy 0 || busy 1 else busy ((a - 0x48000100) / 0x100)
  | some 40 => b.cryState ((a - 0x4A001000) / 0x40) != cIDLE
  | some 41 => b.flag R.EVR_STATUS_RUNNING
  | _ => true

/-! ## Storing a word (R7, R76, R77) -/

/-- Fields that a control step of their own writes, so that storing the word leaves them to it. -/
def ownStep (a lo : Nat) : Bool :=
  match chWord a with
  | some (_, r) => r == 0x94
  | none =>
    match cellWord a with
    | some (_, o) => o == 0x810
    | none =>
      (0x41300000 ≤ a && a < 0x41300600 && a % 0x20 == 0x08) || (0x42000000 ≤ a && a < 0x42010000 && 0x100 ≤ a % 0x1000 && a % 0x1000 < 0x500 && a % 0x20 == 0x0C) ||
      (0x44000400 ≤ a && a < 0x44000800 && a % 0x40 == 0x38) || a == 0x44800014 || a == 0x44800018 || a == 0x47800E00 || a == 0x47800E04 || a == 0x47800E0C ||
      (0x47880100 ≤ a && a < 0x47880500 && a % 0x40 == 0x10 && lo == 0) || (a == 0x48000100 && lo == 0) || (a == 0x48000200 && lo == 0) || a == 0x46080044 || a == 0x4B000008 || a == 0x4B000040

/-- A class S field written: one of a modulated channel remembers the write for the cut-off of R171; WIN has no effect outside functions 0x1 and 0x9 (R145). -/
def Block.setChS (b : Block) (a : Nat) (x : Fld) (n : Nat) : Block :=
  match chWord a with
  | some (ch, _) => if x.key == (R.FC_CH_GEYSER_WIN ch).key && b.fn ch != 1 && b.fn ch != 9 then b else (b.noteWrite ch x).setS x n
  | none => b.setS x n

/-- One field stored under its access code and change class; the common fault bit of digital I/O sets anew, with a new EVENT and count, while a cause holds (R210). -/
def Block.storeField (b : Block) (a i v : Nat) (f : FieldRow) : Block :=
  let x := f.fld a i
  match f.acc with
  | .rw =>
    if ownStep a f.lo then b
    else
      let n := b.fieldTaken a v f
      if f.cls = .S then b.setChS a x n else b.set x n
  | .w1c =>
    let now := b.set x (clearedBy (b.get x) (f.of v))
    match cellWord a with
    | some (c, o) => now.when (o == 0x814 && now.dioHolds c) fun b => b.dioFault c
    | none => now
  | .w1s => b.set x (b.get x ||| f.of v)
  | .ro | .wo | .rs => b

/-- What a stored word means beside its value: a port's chain was changed while stopped; a yield calibration was set; a channel's function or net source changed (R138, R188); a mapper's calibration entry was replaced during its run; the response timeout in use stands until the next 1 ms boundary. -/
def Block.stored (b : Block) (before : Block) (a : Nat) : Block :=
  if 0x42000000 ≤ a ∧ a < 0x42010000 then
    let p := (a - 0x42000000) / 0x1000
    let o := a % 0x1000
    let n := (o - 0x100) / 0x20
    if o = 0x04 || (0x100 ≤ o && o < 0x500 && o % 0x20 = 0) then (b.modTarn p fun t => { t with changed := t.changed || b.tState p == tSTOPPED })
    else if 0x100 ≤ o && o < 0x500 && o % 0x20 = 0x10 && b.calKind = 1 && ((before.tarnPort p).kHeld.find? n).isNone then
      b.modTarn p fun t => { t with kHeld := t.kHeld.put n (before.get (R.TARN_LOSS_CAL_K p n)) }
    else b
  else if let some (ch, r) := chWord a then
    if r = 0x00 then b.funcWritten ch (before.fn ch) else if r = 0x90 then b.netWrittenTo ch (before.get (R.FC_CH_NET_SRC ch), before.get (R.FC_CH_NET_SRC_CH ch)) else b
  else if a = 0x40100034 then
    let f := R.FAB_RSP_TIMEOUT_TIMEOUT_MS
    { b with inuse := b.inuse.put f.key (if before.sys.mtime / ms = before.fab.timeoutAt / ms then before.use f else before.get f), fab := { b.fab with timeoutAt := b.sys.mtime } }
  else if 0x46000000 ≤ a ∧ a < 0x46000300 then
    if yldRetained.any fun f => f.addr == a then { b with sys := { b.sys with calKept := true } } else b
  else b

/-- Word `a` of the loop engine's instance or table memory. -/
def loopWord (a : Nat) : Option LoopWord :=
  if 0x43100000 ≤ a ∧ a < 0x43180000 then some (.inst (Fin.ofNat 4096 ((a - 0x43100000) / 0x80)) (Fin.ofNat 32 (a % 0x80 / 4)))
  else if 0x43200000 ≤ a ∧ a < 0x43240000 then some (.table (Fin.ofNat 65536 ((a - 0x43200000) / 4)))
  else none

/-- A word stored in its registers. -/
def Block.storeWord (b : Block) (a v : Nat) : Block :=
  if b.inert a then b
  else match loopWord a with
    | some w => leWordApply w v b
    | none => match wordAt a with
      | some (l, i) => (b.eachOf l fun f b => b.storeField a i v f).stored b a
      | none => b

/-! ## Refusals (R605) -/

/-- Test 5: the word would change an H field of a running block, or a buffer that guides (R354). -/
def Block.busyWord (b : Block) (m : Memory) (a v : Nat) : Bool :=
  if 0x45100000 ≤ a ∧ a < 0x45200000 then b.pathHeld m ((a - 0x45100000) / 0x40000)
  else if b.inert a then false
  else match wordAt a with
    | some (l, i) => b.running a && l.any fun f => f.acc == .rw && f.cls == .H && b.get (f.fld a i) != b.fieldTaken a v f
    | none => false

/-- Test 6 for one word beside the ranges of its fields, judged on the block as the whole request leaves it. -/
def Block.blockRefusal (b after : Block) (a v : Nat) : Option Nat :=
  match chWord a with
  | some (ch, r) =>
    if r = 0x00 then
      let fn := (R.FC_CH_FUNC_FUNC ch).of v
      let bond := (R.FC_CH_FUNC_BOND ch).of v
      if 9 < fn || (bond != 0 && !(fn == 1 || fn == 2)) then some BAD_GROUP else none
    else if r = 0x90 then (if (R.FC_CH_NET_SRC ch).of v = 1 ∧ 191 < (R.FC_CH_NET_SRC_CH ch).of v then some 0x54 else none)
    else if r = 0xD0 then (if (R.FC_CH_FIN_MODE ch).of v = 3 && (ch % 2 == 0 || after.get (R.FC_CH_FIN_MODE (ch - 1)) != 2) then some 0x56 else none)
    else none
  | none =>
    match loopWord a with
    | some w => leWordCheck w v b after
    | none =>
      match rowOf a with
      | some 12 =>
        let x := (R.FC_DCP_CFG_CH_A 0).of v
        let y := (R.FC_DCP_CFG_CH_B 0).of v
        if a % 0x20 = 0 && (x == y || x / 64 != y / 64 || 191 < x || 191 < y) then some 0x55 else none
      | some 13 =>
        let p := (a - 0x42000000) / 0x1000
        let ring := (R.TARN_CFG_RING p).of v
        if a % 0x1000 = 0x04 && (ring == 3 || (ring == 1 && p % 2 == 1) || (ring == 2 && p % 2 == 0)) then some 0x58 else none
      | some 19 | some 20 | some 21 | some 22 => after.solBadWrite a v
      | some 23 => if 0x44000400 ≤ a ∧ a % 0x40 = 0 ∧ after.fBadSource ((a - 0x44000400) / 0x40) v then some 0x74 else none
      | some 24 => if (a = 0x4480000C && after.badSignal false v) || (a = 0x44800010 && after.badSignal true v) then some 0x75 else none
      | some 25 =>
        if a = 0x45000034 && (191 < R.STR_OUT_CH_A.of v || 191 < R.STR_OUT_CH_B.of v || 23 < R.STR_OUT_PORT.of v || 1 < R.STR_OUT_KIND.of v) then some 0x77 else none
      | some 28 =>
        let n := R.YLD_HDR_N_SEC.of v
        let bad :=
          if a = 0x4600008C then n == 0 || decide (16 < n) || decide (n ≤ R.YLD_HDR_SPLIT.of v)
          else if 0x46000044 ≤ a ∧ a < 0x46000084 ∧ a % 8 = 4 then !rising ((List.range 8).map fun k => (after.get (R.YLD_MF_Sk_S k) : Int))
          else if 0x46000100 ≤ a ∧ a < 0x46000140 then decide (32 < (R.YLD_SECs_HEAD 0).of v)
          else if 0x46000200 ≤ a ∧ a % 0x10 = 4 then decide (12 < (R.YLD_INk_CFG_ROLE 0).of v)
          else false
        if bad then some 0x78 else none
      | some 30 => if a = 0x46800008 && after.badPolicy then some 0x7A else none
      | some 31 =>
        let n := (a - 0x47000000) / 0x1000
        let o := a % 0x1000
        if (o == 0x0C || o == 0x10) && after.badTiming n then some 0x59
        else if o = 0x2C && ((R.MB_SCHED_ROLE n).of v == 3 || 6 < (R.MB_SCHED_CYCLES n).of v) then some BAD_FRAME
        else if 0x300 ≤ o && o < 0x380 then
          let t := (R.MB_WINw_TYPE n 0).of v
          if (R.MB_WINw_REPEAT n 0).of v == 7 || (t == 1 && after.get (R.MB_OBJo_CFG_FORM n ((R.MB_WINw_OBJ n 0).of v)) == 0) then some BAD_FRAME else none
        else none
      | some 34 =>
        let n := (a - 0x47880100) / 0x40
        if 0x47880100 ≤ a ∧ a % 0x40 = 0x10 ∧ ((R.EHR_PEERn_CFG_EN n).of v = 1 ∧ after.badPeer n) then some BAD_PEER
        else if 0x47880100 ≤ a ∧ a % 0x40 = 0x10 ∧ after.get R.EHR_CFG_CVY_PEER = n ∧ b.bitOf (R.EHR_PEERn_CFG_ROLE n) 0 ∧ !bit ((R.EHR_PEERn_CFG_ROLE n).of v) 0 then some BAD_PEER
        else none
      | some 37 =>
        if a = 0x49000030 ∨ a = 0x49000040 then
          (if 59 < (R.BKP_ALMa_TIME_SEC 0).of v || 59 < (R.BKP_ALMa_TIME_MIN 0).of v || 23 < (R.BKP_ALMa_TIME_HOUR 0).of v || (R.BKP_ALMa_TIME_WDAY 0).of v == 0 then some BAD_CALENDAR else none)
        else if a = 0x49000034 ∨ a = 0x49000044 then
          (if (R.BKP_ALMa_DATE_DAY 0).of v == 0 || (R.BKP_ALMa_DATE_MONTH 0).of v == 0 || 12 < (R.BKP_ALMa_DATE_MONTH 0).of v || 219 < (R.BKP_ALMa_DATE_YEAR 0).of v then some BAD_CALENDAR else none)
        else none
      | _ => none

/-- Test 6 for one word. -/
def Block.wordRefusal (b after : Block) (a v : Nat) : Option Nat :=
  if after.inert a then none
  else
    let l := ((wordAt a).map (·.1)).getD []
    (l.findSome? fun f => if f.acc = .rw then f.rules.findSome? (Rule.refusal (f.of v)) else none) <|> b.blockRefusal after a v

/-- Tests 2 to 5 of a write, each over every word: the status of the first that fails and the index of its word. A word of a cell in reset is refused as one of a quiesced target: DESIGN CHOICE (log entry 130). -/
def Block.writeRefusal (b : Block) (m : Memory) (o a : Nat) (ws : List Nat) : Option (Nat × Nat) :=
  let n := ws.length
  let first := fun (code : Nat) (p : Nat → Bool) => ((List.range n).find? p).map fun j => (code, j)
  if b.rowDown a then some (ISLAND_LOST, 0)
  else match unmappedAt a n with
    | some j => some (UNMAPPED, j)
    | none =>
      first REFUSED (fun j => !b.permitted o (a + 4 * j)) <|> first BUSY (fun j => (targetOf (a + 4 * j)).any fun t => b.quiesced t || (oIsland t != 0 && b.cellOff t)) <|>
      first BUSY (fun j => b.busyWord m (a + 4 * j) (ws.getD j 0))

end Sys2Proof.Machine
end

