-- ==== Sys2Proof/Machine/Frame.lean ====
section
/-! DEFINITION. A frame of a rate group with the stages that ride on it: mode states at G3, the path follower and the spout in G2, the supervision limit at G1. -/

namespace Sys2Proof.Machine

open Sys2Proof

/-- A G3 frame start is the mode manager's frame (R86), before the graph enables of step 1 are taken; a G1 frame start is the boundary of MODE_DL_SUPERVISION. -/
def Block.frameHead (b : Block) (g : Nat) : Block :=
  if b.leState ≠ leRUNNING then b
  else
    let b := b.toModule (b.nextFrame g)
    if g = 3 then b.modeFrame else if g = 1 then b.boundary 0x4000041C 0x40000420 else b

/-- The fixed stages of a completed G2 frame (R351). -/
def Block.stages (b : Block) (m : Memory) : Block := (b.follow m).spout

/-- A frame of group `g` whose dispatch takes `t` tenths of a microsecond (R250). -/
def Block.groupFrame (b : Block) (g t : Nat) (m : Memory) : Block :=
  let n := (b.group g).frames
  let b := (b.frameHead g).loopFrame g t
  b.when (g == 2 && decide (n < (b.group g).frames)) fun b => b.stages m

def execGroupFrameStart (g : Fin 4) (t : Nat) (s : State) : Result := s.go fun b => b.groupFrame g t s.mem

end Sys2Proof.Machine
end

