-- ==== Sys2Proof/Machine/Requests.lean ====
section
/-! DEFINITION. READ_REQ, WRITE_REQ and register writes at their target: the control bits a written word starts, what a read latches, the retained store behind its window, and the answer (R39, R40, R133, R134, R573, R605). -/

namespace Sys2Proof.Machine

open Sys2Proof

/-! ## Control bits -/

/-- Control bits of the single blocks with what each does, in the order in which bits of one write act. -/
def controlBits : List (Fld × (State → Result)) :=
  [(R.FAB_CTRL_CLR_COUNTERS, execClrCounters), (R.IMG_CTRL_PR_START, execPrStart), (R.IMG_CTRL_PR_ABORT, execPrAbort), (R.MODE_CAL_ACCEPT, execModeCalAccept), (R.PWR_CTRL_EXTEND, execPwrCtrlExtend),
   (R.LE_CTRL_STOP, execLeStop), (R.LE_CTRL_START, execLeStart), (R.LE_CTRL_CLR_CNT, execLeClrCnt),
   (R.SOL_CTRL_STOP, execSolStop), (R.SOL_CTRL_START, execSolStart), (R.SOL_CTRL_COLD, execSolCold), (R.SOL_CTRL_CLR_CNT, execSolClrCnt),
   (R.FUS_CTRL_STOP, execFusStop), (R.FUS_CTRL_START, execFusStart), (R.FUS_CTRL_REINIT, execFusReinit), (R.FUS_CTRL_CLR_CNT, execFusClrCnt),
   (R.GNS_CTRL_STOP, execGnsStop), (R.GNS_CTRL_START, execGnsStart), (R.GNS_CTRL_COLD, execGnsCold), (R.GNS_CTRL_CLR_CNT, execGnsClrCnt),
   (R.STR_CTRL_CLR_CNT, execStrClrCnt), (R.STR_CTRL_REFIND, execStrRefind), (R.STR_CVY_CTRL_CLR_CNT, execCvyClrCnt), (R.STR_CVY_CTRL_RESET_AMB, execCvyResetAmb),
   (R.YLD_CTRL_STOP, execYldStop), (R.YLD_CTRL_START, execYldStart), (R.YLD_CTRL_CLR_CNT, execYldClrCnt), (R.YLD_CTRL_NEW_PASS, execYldNewPass), (R.YLD_CTRL_FLUSH, execYldFlush),
   (R.YLD_T_CTRL_STOP, execYldTStop), (R.YLD_T_CTRL_START, execYldTStart), (R.YLD_T_CTRL_CLR_CNT, execYldTClrCnt), (R.YLD_T_CTRL_FLUSH, execYldTFlush),
   (R.SST_CTRL_STOP, execSstStop), (R.SST_CTRL_START, execSstStart), (R.SST_CTRL_RESCAN, execSstRescan), (R.SST_CTRL_FLUSH, execSstFlush), (R.SST_CTRL_CLR_CNT, execSstClrCnt),
   (R.SST_RP_CTRL_OPEN, execReplayOpen), (R.SST_RP_CTRL_CLOSE, execReplayClose), (R.ETH_CTRL_CLR_CNT, execEthClrCnt), (R.ETH_CTRL_FLUSH_MAC, execEthFlushMac),
   (R.EHR_CTRL_STOP, execEhrStop), (R.EHR_CTRL_START, execEhrStart), (R.EHR_CTRL_CLR_CNT, execEhrClrCnt), (R.DSP_CTRL_CLR_CNT, execDspClrCnt),
   (R.BKP_CTRL_SET, execBkpRtcSet), (R.BKP_PWRREQ_SET, execPwrreqSet), (R.BKP_PWRREQ_CLR, execPwrreqClr), (R.WHD_CTRL_CLOSE, execWhdCtrlClose),
   (R.EVR_CTRL_STOP, execEvrStop), (R.EVR_CTRL_START, execEvrStart), (R.EVR_CTRL_FLUSH, execEvrFlush), (R.EVR_CTRL_EXPORT, execEvrExport), (R.EVR_CTRL_CLR_CNT, execEvrClrCnt),
   (R.HLT_CTRL_REPLAN, execHltReplan), (R.HLT_CTRL_CAP_TEST, execHltCapTest), (R.HLT_CTRL_CLR_CNT, execHltClrCnt)]

/-- Control bits of channel `ch`. -/
def chBits (ch : Fin 192) : List (Fld × (State → Result)) :=
  [(R.FC_CH_CLEAR_CLR_LIM ch, execClrLim ch), (R.FC_CH_CLEAR_CLR_HARD ch, execClrHard ch), (R.FC_CH_CLEAR_CLR_SHED ch, execClrShed ch), (R.FC_CH_CLEAR_CLR_CNT ch, execFcClrCnt ch), (R.FC_CH_DRV_CTRL_CLR_PAIR ch, execClrPair ch)]

/-- Control bits of field cell `c`. -/
def cellBits (c : Fin 24) : List (Fld × (State → Result)) := [(R.FC_CELL_CTRL_STOP c, execCellStop c), (R.FC_CELL_CTRL_START c, execCellStart c)]

/-- Control bits of Tarn port `p`. -/
def tarnBits (p : Fin 16) : List (Fld × (State → Result)) :=
  [(R.TARN_CTRL_STOP p, execTarnStop p), (R.TARN_CTRL_START p, execTarnStart p), (R.TARN_CTRL_REENUM p, execTarnReenum p), (R.TARN_CTRL_PWR_CLR p, execTarnPwrClr p), (R.TARN_CTRL_CLR_CNT p, execTarnClrCnt p)]

/-- Control bits of message-bus port `n`. -/
def busBits (n : Fin 24) : List (Fld × (State → Result)) :=
  [(R.MB_CTRL_STOP n, execMbStop n), (R.MB_CTRL_START n, execMbStart n), (R.MB_CTRL_ISOLATE n, execMbIsolate n), (R.MB_CTRL_REJOIN n, execMbRejoin n), (R.MB_CTRL_FLUSH_Q n, execMbFlushQ n), (R.MB_CTRL_CLR_CNT n, execMbClrCnt n)]

/-- The bits of a list that a word at an address sets. -/
def bitsSet (a v : Nat) (l : List (Fld × (State → Result))) : List (State → Result) :=
  l.filterMap fun e => if e.1.addr = a && e.1.of v != 0 then some e.2 else none

/-- Bits 18:16 of a keyed control word: with a wrong key the write is refused with BAD_KEY. -/
def keyed (v : Nat) (l : List (State → Result)) : List (State → Result) :=
  let set := (List.range l.length).filterMap fun k => if bit v (16 + k) then l[k]? else none
  if set.isEmpty then [] else if v % 65536 ≠ 0xB1EF then [fun s => s.go (·.status BAD_KEY)] else set

/-- The key that a keyed word holds. -/
def keyOf (v : Nat) : BitVec 16 := BitVec.ofNat 16 v

/-- A written word of row 8 to 10 beside its stored fields. -/
def cellActs (c o a v : Nat) : List (State → Result) :=
  if o < 0x800 then
    let ch : Fin 192 := Fin.ofNat 192 (8 * c + o / 0x100)
    if o % 0x100 = 0x94 then [execNetBitWrite ch (bit v 0) none, execForceWrite ch (Fin.ofNat 4 (v / 2 % 4)) none] else bitsSet a v (chBits ch)
  else if o = 0x810 then [execFreezeWrite (Fin.ofNat 24 c) (bit v 0)]
  else bitsSet a v (cellBits (Fin.ofNat 24 c))

/-- Requests and values of the supervisor's blocks: rows 2 to 5. -/
def supActs (a v : Nat) : List (State → Result) :=
  if a = 0x40000204 then (if v % 4 = 1 then [execPwrCtrlStandby] else if v % 4 = 2 then [execPwrCtrlParked] else []) ++ bitsSet a v controlBits
  else if a = 0x40000300 then
    (if 1 < popCount 3 (v / 65536) && v % 65536 = 0xB1EF then [fun s => s.go (·.status BAD_TARGET)]
     else keyed v [execSupRstModule (keyOf v), execSupRstIsland (keyOf v), execSupRstCell (keyOf v)])
  else if a = 0x40000404 then [execModeReqSet (BitVec.ofNat 12 v)]
  else if a = 0x40000408 then [execModeReqClr (BitVec.ofNat 12 v)]
  else if a = 0x40000414 then [execModeConfirm (BitVec.ofNat 12 v)]
  else if 0x40000800 ≤ a ∧ a < 0x40000A00 ∧ a % 0x40 = 0 ∧ bit v 0 then
    let k := (a - 0x40000800) / 0x40
    [fun s => s.ask (s.blk.mbxRefusal k) fun b => b.service k (b.get (R.SUP_MBXk_CTRL_SVC k))]
  else bitsSet a v controlBits

/-- Requests and values of the blocks from row 33 on. -/
def lateActs (o a v : Nat) : List (State → Result) :=
  if a = 0x47800E00 then [fun s => s.go fun b => (b.ppsCfg 0 v).status 0]
  else if a = 0x47800E04 then [execPpsbDelayWrite false (BitVec.ofNat 32 v)]
  else if a = 0x47800E0C then [execPpsbDelayWrite true (BitVec.ofNat 32 v)]
  else if 0x47880100 ≤ a ∧ a < 0x47880500 ∧ a % 0x40 = 0x10 then [fun s => s.ask s.blk.ehrRefusal fun b => b.peerEnable ((a - 0x47880100) / 0x40) (bit v 0)]
  else if a = 0x48000100 then [execDspEnWrite 0 (bit v 0)]
  else if a = 0x48000200 then [execDspEnWrite 1 (bit v 0)]
  else if a = 0x4A000000 then keyed v [execUpdDiscard (keyOf v), execUpdCancel (keyOf v), execUpdSchedule (keyOf v)]
  else if a = 0x4A000054 then keyed v [execUpdConfirm (keyOf v), execMigDone (keyOf v), execMigFail (keyOf v)]
  else if 0x4A001000 ≤ a ∧ a < 0x4A001200 then (if a % 0x40 = 0 ∧ bit v 0 then [execCryptoGo (Fin.ofNat 8 ((a - 0x4A001000) / 0x40))] else [])
  else if a = 0x4B000000 then bitsSet a v controlBits ++ (if bit v 5 then [execEvrSoft (Fin.ofNat 64 (v / 256)) (Fin.ofNat 65536 o)] else [])
  else if a = 0x4B000008 then [execEvrFreezeWrite (bit v 0) (Fin.ofNat 1024 (v / 65536))]
  else if a = 0x4B000030 then
    (if v / 65536 % 4 = 0 then [] else if v % 65536 ≠ 0xB1EF then [fun s => s.go (·.status BAD_KEY)] else if bit v 16 then [execEvrClear (keyOf v) (bit v 17)] else [])
  else if a = 0x4B000040 then [execEvrCursorWrite (Fin.ofNat 524288 v)]
  else bitsSet a v controlBits

/-- What a word written by an origin does beside storing its fields. -/
def wordActs (o a v : Nat) : List (State → Result) :=
  match cellWord a with
  | some (c, r) => cellActs c r a v
  | none =>
    if a < 0x40100000 then supActs a v
    else if 0x41300000 ≤ a ∧ a < 0x41300600 then (if a % 0x20 = 0x08 then [execDcpEnWrite (Fin.ofNat 48 ((a - 0x41300000) / 0x20)) (bit v 0)] else [])
    else if 0x42000000 ≤ a ∧ a < 0x42010000 then
      let p := Fin.ofNat 16 ((a - 0x42000000) / 0x1000)
      let r := a % 0x1000
      if 0x100 ≤ r ∧ r < 0x500 ∧ r % 0x20 = 0x0C then [execTarnHeadCfgWrite p (Fin.ofNat 32 ((r - 0x100) / 0x20)) (BitVec.ofNat 32 v)] else bitsSet a v (tarnBits p)
    else if 0x44000400 ≤ a ∧ a < 0x44000800 then (if a % 0x40 = 0x38 then [execFusForceMask (Fin.ofNat 16 ((a - 0x44000400) / 0x40)) (bit v 0)] else [])
    else if a = 0x44800014 ∨ a = 0x44800018 then [fun s => s.ask s.blk.gnsRefusal fun b => b.antEnable ((a - 0x44800014) / 4) (bit v 0)]
    else if a = 0x45000044 then
      let buf := Fin.ofNat 4 v
      (if bit v 2 then [execPathCommit buf] else []) ++ (if bit v 3 then [execPathInvalidate buf] else [])
    else if a = 0x46080044 then [execTileLookup (Fin.ofNat 262144 v) (Fin.ofNat 16 (v / 2 ^ 24))]
    else if a = 0x4680001C then [execSstFmt (keyOf v) (Fin.ofNat 16 (v / 65536))]
    else if 0x47000000 ≤ a ∧ a < 0x47018000 then bitsSet a v (busBits (Fin.ofNat 24 ((a - 0x47000000) / 0x1000)))
    else if 0x47800000 ≤ a then lateActs o a v
    else bitsSet a v controlBits

/-- The state a meaning answers; a block has neither fault nor refusal of its own. -/
def resultState (s : State) : Result → State
  | .next t => t
  | .fault _ => s
  | .refused _ => s

/-- The control bits of one word act in turn; the first status that is not 0 ends them. -/
def runActs (s : State) : List (State → Result) → State × Nat
  | [] => (s, 0)
  | f :: r =>
    let t := resultState s (f { s with blk := s.blk.status 0 })
    if t.blk.fab.status = 0 then runActs t r else (t, t.blk.fab.status)

/-! ## The retained store (R132 to R134) -/

/-- The MRAM retained store and the boot flash devices, as origins name them (R16). -/
def retainedOrigin : Nat := org 10 0 127
def flashOrigin (d : Nat) : Nat := org 10 (1 + d) 127

/-- Lines are marked POISONED, each with its EVENT, whose content the spec does not state. -/
def Block.markPoison (b : Block) (lines : List Nat) : Block :=
  b.eachOf lines fun l b => ({ b with poison := b.poison.filter (· != l) ++ [l] }.eventRaw retainedOrigin (le 4 (b.freshW 0 32) ++ le 4 (b.freshW 1 32))).spend

/-- Lines that a range of words touches, and those it covers whole. -/
def linesOf (a n : Nat) : List Nat := if n = 0 then [] else (List.range ((a + 4 * n - 1) / 64 - a / 64 + 1)).map fun k => lineOf (a + 64 * k)
def linesWhole (a n : Nat) : List Nat := (linesOf a n).filter fun l => a ≤ 0x50000000 + 64 * l && 0x50000000 + 64 * l + 64 ≤ a + 4 * n

/-- An address of the retained store's window. -/
def isRetained (a : Nat) : Bool := 0x50000000 ≤ a && a < 0x70000000

/-- Partly covered lines of a write that are POISONED or fail their check now. -/
def Block.badLines (b : Block) (a n : Nat) (failing : List Nat) : List Nat :=
  if isRetained a then (linesOf a n).filter fun l => !(linesWhole a n).contains l && (b.poison.contains l || failing.contains l) else []

/-- Corrections counted on these lines: an operand names a line whose check fails by its number, and one whose error is confined to one 16-bit symbol by its number and bit 23 (R133). -/
def Block.corrects (b : Block) (lines failing : List Nat) : Block :=
  { b with corrected := b.corrected + (lines.filter fun l => !b.poison.contains l && !failing.contains l && failing.contains (l + 0x800000)).length }

/-- The lines of a write leave their poison and count towards wear. -/
def Block.wordsWritten (b : Block) (a n : Nat) : Block :=
  if isRetained a then ({ b with poison := b.poison.filter fun l => !(linesWhole a n).contains l }).mramWrote (linesOf a n) else b

/-! ## Writes -/

/-- One word is stored in its registers or its memory. -/
def State.store (s : State) (a v : Nat) : State :=
  let b := s.blk.storeWord a v
  if ((rowOf a).any memoryRow) && !(0x4901C400 ≤ a && a < 0x4901D000) then { s with blk := b, mem := Memory.putWord s.mem a v } else { s with blk := b }

/-- The words of a permitted write in ascending order, each judged by test 6 on the block `b` as it was and `after` as the whole request leaves it, stored and acted on. The status and word of the first refusal, or 0. -/
def State.storeWords (s : State) (b after : Block) (o a : Nat) (j : Nat) : List Nat → State × Nat × Nat
  | [] => (s, 0, 0)
  | v :: r =>
    match b.wordRefusal after (a + 4 * j) v with
    | some c => (s, c, j)
    | none =>
      let t := s.store (a + 4 * j) v
      let (t, c) := runActs t (if s.blk.inert (a + 4 * j) then [] else wordActs o (a + 4 * j) v)
      if c = 0 then t.storeWords b after o a (j + 1) r else (t, c, j)

/-- A write request at its target: nothing is written when any word is refused (R40). -/
def State.writeWords (s : State) (o a : Nat) (ws failing : List Nat) : State × Nat × Nat :=
  match s.blk.writeRefusal s.mem o a ws with
  | some (c, j) => (s, c, j)
  | none =>
    let bad := s.blk.badLines a ws.length failing
    let s := if isRetained a then { s with blk := s.blk.corrects ((linesOf a ws.length).filter fun l => !(linesWhole a ws.length).contains l) failing } else s
    match bad with
    | l :: _ => ({ s with blk := s.blk.markPoison bad }, POISONED, (0x50000000 + 64 * l - a) / 4)
    | [] =>
      let after := (ws.zipIdx).foldl (fun (b : Block) e => b.storeWord (a + 4 * e.2) e.1) s.blk
      let (t, c, j) := s.storeWords s.blk after o a 0 ws
      if c = 0 then ({ t with blk := t.blk.wordsWritten a ws.length }, 0, 0) else (s, c, j)

/-! ## Reads -/

/-- What the read of a word latches (R10). -/
def Block.readEffect (b : Block) (a : Nat) : Block :=
  match chWord a with
  | some (ch, r) =>
    if r = 0x30 then b.measLatch ch
    else if b.inert a then b
    else if r = 0x6C then b.echoLatch ch
    else if r = 0xC8 then b.ainLatch ch
    else if r = 0xD8 then b.finLatch ch
    else b
  | none =>
    if 0x42000000 ≤ a ∧ a < 0x42010000 then
      let p := (a - 0x42000000) / 0x1000
      let r := a % 0x1000
      if r = 0x14 then b.tSweepLatch p else if 0x800 ≤ r ∧ r < 0xA00 ∧ r % 0x10 = 0 then b.tFrameLatch p ((r - 0x800) / 0x10) else b
    else if 0x43300000 ≤ a ∧ a < 0x43310000 then (if a % 0x10 = 0 then b.sigLatch ((a - 0x43300000) / 0x10) else b)
    else match a with
      | 0x40000100 => b.mtimeLatch
      | 0x43800010 => b.solResLatch
      | 0x44000044 => b.fLatch
      | 0x44800070 => b.pvtLatch
      | 0x448000B0 => b.hdgLatch
      | 0x45000060 => b.strErrLatch
      | 0x45080020 => b.cvyLatch
      | 0x46000008 => b.yldTmLatch
      | 0x460000B4 => b.yldLedgerLatch
      | 0x46080024 => b.ffLatch
      | 0x4608004C => b.qwLatch
      | 0x47800E10 => b.ppsLatch
      | 0x47800F20 => b.evtCapLatch 0
      | 0x47800F28 => b.evtCapLatch 1
      | 0x49000008 => b.rtcLatch
      | _ => b

/-- The supervisor's part of the backup SRAM, whose layout the spec does not state: free values of what it holds. -/
def Block.supervisorWord (b : Block) (m : Memory) (a : Nat) : Nat :=
  let k := b.mode.bak
  lowBits 32 (Config.freeReal 2100 ([(a : Int), (Memory.word m a : Int), (b.get R.PWR_PF_CNT_ABORTS : Int), (b.get R.PWR_PF_CNT_COMMITS : Int), (b.get R.SUP_RST_CAUSE_COUNT : Int)] ++
    (match k with | some (f, q, d) => [(f : Int), (q : Int), (b2n d : Int)] | none => []) ++ (b.whd.paths.flatMap fun p => (p.attempts.map fun (t : Nat) => (t : Int)) ++ [((p.lockEnd.getD 0 : Nat) : Int)])))

/-- The word at an address: fields that read back, reserved bits 0 (R7, R9). -/
def Block.wordValue (b : Block) (m : Memory) (a : Nat) : Nat :=
  if (rowOf a).any memoryRow then (if 0x4901C000 ≤ a ∧ a < 0x4901C400 then b.supervisorWord m a else if 0x4901C400 ≤ a ∧ a < 0x4901D000 then 0 else Memory.word m a)
  else if b.inert a then 0
  else
    let b := b.live a
    match wordAt a with
    | some (l, i) => (l.filter fun f => f.acc != .wo).foldl (fun n f => n + b.get (f.fld a i) * 2 ^ f.lo) 0
    | none => 0

/-- A word that reads POISONED: of the recorder's window, or of a line of the retained store (R133, R551). -/
def Block.poisonedWord (b : Block) (failing : List Nat) (a : Nat) : Bool :=
  if isRetained a then b.poison.contains (lineOf a) || failing.contains (lineOf a) else 0x4B001000 ≤ a && a < 0x4B001FC0 && b.evr.bad.contains ((a - 0x4B001000) / 4)

/-- The words of a mapped read in ascending order. -/
def State.readOn (s : State) (a : Nat) : Nat → List Nat × Block
  | 0 => ([], s.blk)
  | n + 1 =>
    let (l, b) := s.readOn a n
    let x := a + 4 * n
    let b := b.readEffect x
    (l ++ [b.wordValue s.mem x], b)

/-- A read request at its target: status, word index and words. -/
def State.readWords (s : State) (a n : Nat) (failing : List Nat) : State × Nat × Nat × List Nat :=
  if s.blk.rowDown a then (s, ISLAND_LOST, 0, [])
  else match unmappedAt a n with
    | some j => (s, UNMAPPED, j, [])
    | none =>
      let s := if isRetained a then { s with blk := s.blk.corrects (linesOf a n) failing } else s
      match (List.range n).find? fun j => s.blk.poisonedWord failing (a + 4 * j) with
      | some j =>
        let new := (linesOf a n).filter fun l => failing.contains l && !s.blk.poison.contains l
        ((if isRetained a then { s with blk := s.blk.markPoison new } else s), POISONED, j, [])
      | none => let (l, b) := s.readOn a n; ({ s with blk := b }, 0, 0, l)

/-! ## Requests -/

/-- Island 0 runs: requests are answered. -/
def Block.up (b : Block) : Bool := b.bkpReach

/-- The response to a request leaves, unless the module is in reset; one to an island that takes no packet is discarded and counted (R603). Its ORIGIN names the island of the stage that answers: DESIGN CHOICE (log entry 125). -/
def Block.respond (b : Block) (p : Packet) (a code index : Nat) (data : List Nat) : Block :=
  let b := b.status code
  let src := oIsland p.origin
  if b.pwr.inReset then b
  else if src < 9 && src != 0 && b.shut src then b.inc R.FAB_ERR_CNT_COUNT
  else
    let stage := islOrigin (if code = ISLAND_LOST && src < 9 then src else islandOf a)
    if code = 0 then b.answer stage p data else b.refuse stage code p index

/-- A READ_REQ at its target; `failing` names the lines of the retained store whose check fails now, and with bit 23 set those with one symbol in error. -/
def execReadReq (p : Packet) (failing : List Nat) (s : State) : Result :=
  let a := bytesAt p.data 0 4
  let n := bytesAt p.data 4 2
  if p.kind ≠ .readReq || !s.blk.up then .next s
  else if !s.blk.rowDown a && (p.data.length ≠ 8 || n = 0 || 1024 < n) then s.go fun b => b.respond p a BAD_LENGTH 0 []
  else
    let (t, c, j, l) := s.readWords a n failing
    t.go fun b => b.respond p a c j (l.flatMap (le 4))

/-- The words that a WRITE_REQ carries. -/
def writtenWords (d : List Nat) (n : Nat) : List Nat := (List.range n).map fun j => bytesAt d (8 + 4 * j) 4

/-- A WRITE_REQ at its target. -/
def execWriteReq (p : Packet) (failing : List Nat) (s : State) : Result :=
  let a := bytesAt p.data 0 4
  let n := bytesAt p.data 4 2
  if p.kind ≠ .writeReq || !s.blk.up then .next s
  else if !s.blk.rowDown a && (n = 0 || 1022 < n || p.data.length ≠ 8 + 4 * n) then s.go fun b => b.respond p a BAD_LENGTH 0 []
  else
    let (t, c, j) := s.writeWords p.origin a (writtenWords p.data n) failing
    t.go fun b => b.respond p a c j []

/-- A read of a record's snapshot is answered: what the word's register reads as, or the status code of the answer; `failing` as in a READ_REQ. -/
def execSnapshotAnswer (rseq : Nat) (w : Fin 32) (failing : List Nat) (s : State) : Result :=
  match s.blk.evr.staged.find? fun r => r.rseq == rseq with
  | none => .next s
  | some r =>
    if r.words.getD w (some (0, true)) ≠ none then .next s
    else
      let (t, c, _, l) := s.readWords (s.blk.get (R.EVR_Tt_ADDRw_ADDR r.trig w)) 1 failing
      t.go fun b => b.evrSettle rseq w (if c = 0 then l.getD 0 0 else c) (c == 0)

/-- A write of one word by an origin: its fields are stored under their access codes and its control bits act (R7). -/
def execRegisterWrite (origin : Fin 65536) (addr value : BitVec 32) (s : State) : Result :=
  if !s.blk.up then .next s
  else
    let (t, c, _) := s.writeWords origin addr.toNat [value.toNat] []
    t.go fun b => b.status c

end Sys2Proof.Machine
end

