-- ==== Sys2Proof/Machine/Wellhead.lean ====
section
/-! DEFINITION. The Wellhead port, service sessions over it and over relays, and their messages (chapter 22: R513, R514, R524 to R534). -/

namespace Sys2Proof.Machine

open Sys2Proof

/-! ## Answers (R526, R533) -/

/-- A path serves messages: a Wellhead connection in RUN or SAFE_HOLD, or an open relay outside SAFE_HOLD. -/
def Block.pathServes (b : Block) (p : Nat) : Bool :=
  !b.pwr.inReset && b.get R.PWR_STATE_STATE == 3 && (b.whdPath p).conn && (if p = 0 then b.flag R.WHD_STATUS_TOOL else !b.upd.safeHold)

/-- A frame of the open relay: OP, offset or retry time, and data (R480). -/
def Block.relayFrame (b : Block) (peer id op word : Nat) (data : List Nat) : Block :=
  b.reliableOut 7 (le 4 id ++ [op, 0, 0, 0] ++ le 4 word ++ data) none (some peer)

/-- Bytes of the relay's stream, at most 4,096 in a frame. -/
def Block.relayBytes (b : Block) (data : List Nat) : Nat → Block
  | 0 => b
  | k + 1 =>
    if data.isEmpty then b
    else
      let x := b.whdPath 1
      let d := data.take 4096
      ((b.relayFrame x.peer x.relayId 2 x.sent d).modPath 1 fun y => { y with sent := y.sent + d.length }).relayBytes (data.drop 4096) k

/-- The answer to a request of a path: the header of Table 22.7 and its payload. -/
def Block.whdAnswer (b : Block) (p type req status : Nat) (data : List Nat) : Block :=
  let b := b.modWhd fun w => { w with out := w.out ++ [{ path := p, type := type, req := req, status := status, data := data }] }
  if p = 0 then b
  else
    let bytes := [1, type] ++ le 2 1 ++ le 4 req ++ le 4 data.length ++ le 2 status ++ [0, 0] ++ data
    b.relayBytes bytes (bytes.length / 4096 + 1)

/-- Path of a message: 0 Wellhead, 1 relay. -/
def pathOf (m : WhdMsg) : Nat := if m.relay then 1 else 0

/-- The header is not that of a request of a type with a LENGTH: unknown TYPE, wrong LENGTH or a reserved bit set (R527). A VERSION other than 1 and RESPONSE set count as such: DESIGN CHOICE (log entry 133). -/
def badHeader (m : WhdMsg) (type len : Nat) : Bool := m.version != 1 || m.type != type || m.flags != 0 || m.length != len || m.reserved != 0

/-- Why a message is not taken: malformed, not served in SAFE_HOLD, outside an ACTIVE session, or without its permission (R527, R534). -/
def Block.whdGate (b : Block) (m : WhdMsg) (type len : Nat) (perm : Option Nat) (safe : Bool) : Option Nat :=
  if badHeader m type len then some BAD_MESSAGE
  else if b.upd.safeHold && !safe then some NO_AUTHORITY
  else match perm with
    | none => none
    | some k => if b.whd.active == some (pathOf m) && b.bitOf R.WHD_STATUS_PERM k then none else some NO_AUTHORITY

/-! ## Authority (R527 to R531) -/

/-- When both signatures of an AUTH that arrives now are verified, whatever the first one's result: 2.4 ms each on the public-key unit, after the jobs it has and the other path's AUTH (DESIGN CHOICE, log entry 156); in SAFE_HOLD 6 ms each by the boot ROM machine. -/
def Block.verifiedAt (b : Block) (p : Nat) : Nat :=
  if b.upd.safeHold then b.now + 12 * ms
  else
    let jobs := (List.range 8).filter fun k => b.pkJob k && b.cryState k != cIDLE
    let busy := (jobs.map fun k => (b.job k).left - (if b.cryState k = cRUNNING then b.now - (b.job k).since else 0)).foldl (· + ·) 0
    max (b.now + busy) (((b.whdPath (1 - p)).auth.map (·.at_)).getD 0) + 4800 * us

/-- PERM and TOOL_ID of a credential. -/
def credPerm (c : Credential) : Nat := bytesAt c.bytes 36 1
def credTool (c : Credential) : Nat := bytesAt c.bytes 40 16

/-- Module time for a credential, by the RTC while module time is UNSEEDED; without either the Wellhead passes and a relay fails. -/
def Block.credTimeOk (b : Block) (p : Nat) (c : Credential) : Bool :=
  let within := fun (t : Nat) => decide (bytesAt c.bytes 20 8 ≤ t) && decide (t ≤ bytesAt c.bytes 28 8)
  if b.get R.SUP_MTIME_STATUS_STATE ≠ 0 then within b.sys.mtime
  else if b.flag R.BKP_STATUS_RTC_VALID then within b.rtcNs
  else p == 0

/-- The OEM key of an image, where its endorsement verifies under an unrevoked vendor key. -/
def Block.oemKey (b : Block) (g : Image) : Option (List Nat) :=
  match g.blocks with
  | v :: o :: _ => if (b.vendorIndex v.keyId).any b.vendorLive && keyIdOf v.publicKey == v.keyId && endorsed g v o then some o.publicKey else none
  | _ => none

/-- Keys under which the signature of a credential counts: that of the ACTIVE image's OEM block; in SAFE_HOLD those of any slot whose endorsement verifies, or the unrevoked vendor keys where there is none (R528, R534). -/
def Block.credKeys (b : Block) : List (List Nat) :=
  if b.upd.safeHold then
    let l := b.upd.slots.filterMap fun s => b.oemKey s.image
    if l.isEmpty then (List.range 4).filterMap fun k => if b.vendorLive k then b.upd.vendorKeys[k]? else none else l
  else (((b.imageOf 1).bind fun g => g.blocks[1]?).map (·.publicKey)).toList

/-- What the proof signs. -/
def Block.proofText (b : Block) (p nonce : Nat) : List Nat := [0x53, 0x48, 0x56, 0x31, 0x39, 0x32, 0x2D, 0x57, 0x48, 0x44, p] ++ le 48 nonce ++ le 16 b.unitId

/-- An AUTH is valid (R528). -/
def Block.authValid (b : Block) (p : Nat) (c : Credential) : Bool :=
  bytesAt c.bytes 0 2 == 1 && allZero ((c.bytes.drop 37).take 3) && allZero ((c.bytes.drop 153).take 7) && bytesAt c.bytes 2 2 == b.get R.SUP_ID_PART_PART &&
  (bytesAt c.bytes 4 16 == b.unitId || bytesAt c.bytes 4 16 == 0) && b.credKeys.any (fun k => sigOk k (sha384 (c.bytes.take 160)) ((c.bytes.drop 160).take 96)) &&
  b.credTimeOk p c && (p == 0 || bit (credPerm c) 7) && (b.whdPath p).nonce.any fun n => sigOk ((c.bytes.drop 56).take 97) (sha384 (b.proofText p n)) c.proof

/-- An invalid AUTH is counted; the fifth within 600 s of the first of the five locks its path (R531). It ends the connection or relay. -/
def Block.authInvalid (b : Block) (p req : Nat) : Block :=
  let b := (b.whdAnswer p 0x02 req AUTH_FAILED []).inc R.WHD_CNT_INVALID
  let l := ((b.whdPath p).attempts.filter fun t => decide (b.rtcSecs ≤ t + 600)) ++ [b.rtcSecs]
  let b := (b.modPath p fun x => { x with attempts := l }).set (R.WHD_LOCKa_ATTEMPTS p) (min 5 l.length)
  let b := if 5 ≤ l.length then
      (((b.modPath p fun x => { x with lockEnd := some (b.rtcSecs + 600) }).set (R.WHD_LOCKa_LOCKED p) 1).inc R.WHD_CNT_LOCKOUTS).raise supOrigin R.WHD_STATUS_LOCKOUT_EV
    else b
  b.whdEnd p

/-- The relay is told BUSY with RETRY_S and ends. -/
def Block.relayBusy (b : Block) : Block :=
  let x := b.whdPath 1
  ((b.relayFrame x.peer x.relayId 4 (max 1 (b.get R.WHD_CFG_RETRY_S) * 1000) []).inc R.WHD_CNT_BUSY).whdEnd 1

/-- The effective permission of a session (R529). -/
def Block.permOf (b : Block) (p perm : Nat) : Nat :=
  if p = 0 then perm % 256 else withBit (withBit (perm &&& b.get R.WHD_CFG_RELAY_PERM) 4 false) 5 false

/-- A session becomes ACTIVE. -/
def Block.makeActive (b : Block) (p req : Nat) (c : Credential) : Block :=
  let k := b.permOf p (credPerm c)
  let b := (b.modWhd fun w => { w with active := some p }).whdShow
  let b := ((b.set R.WHD_STATUS_PERM k).inc R.WHD_CNT_B_SESSIONS).each 4 fun n b => b.set (R.WHD_TOOLn_ID n) (credTool c / 2 ^ (32 * n))
  b.whdAnswer p 0x02 req 0 [p, k, 0, 0]

/-- Valid AUTHs of one boundary are admitted under R530. -/
def Block.authAdmit (b : Block) (p : Nat) (a : WhdAuth) : Block :=
  if p = 0 then (b.when (b.whd.active == some 1) (·.relayBusy)).makeActive 0 a.req a.cred
  else if b.whd.active.isSome then b.relayBusy
  else b.makeActive 1 a.req a.cred

/-- Instant of module time at which a pending AUTH is answered: the first 1 ms boundary after its verification. -/
def Block.answerAt (b : Block) (a : WhdAuth) : Nat := (b.sys.mtime + (a.at_ - b.now) + ms - 1) / ms * ms

/-- The next boundary at which an AUTH is answered: the clock reaches it, invalid ones are refused and counted, then valid ones admitted, the Wellhead first. -/
def Block.authAnswer (b : Block) : Block :=
  let l := (List.range 2).filterMap fun p => (b.whdPath p).auth.map fun a => (p, a)
  match (l.map fun e => b.answerAt e.2) with
  | [] => b
  | t :: r =>
    let t := r.foldl min t
    let due := l.filter fun e => b.answerAt e.2 == t
    let b := b.toModule t
    let b := b.eachOf due fun e b => b.modPath e.1 fun x => { x with auth := none }
    let ok := due.filter fun e => b.authValid e.1 e.2.cred
    let b := b.eachOf (due.filter fun e => !ok.contains e) fun e b => b.authInvalid e.1 e.2.req
    b.eachOf ok fun e b => b.authAdmit e.1 e.2

/-- An AUTH of the path that is still to be answered is answered first: requests are answered in arrival order (R526). -/
def Block.authSettle (b : Block) (p : Nat) : Block :=
  let b := if (b.whdPath p).auth.isSome then b.authAnswer else b
  if (b.whdPath p).auth.isSome then b.authAnswer else b

/-- A STAGE_END of the path is still to be answered: the next message is processed after it (R526). -/
def Block.verifying (b : Block) (p : Nat) : Bool := b.upd.stage.any fun x => x.path == p && x.verify

/-- A message in arrival order: what it does and the status and payload of its answer; no answer yet where the third is absent. An AUTH before it is answered first; while a verification runs its moment has not come (log entries 5 and 156). -/
def State.message (s : State) (m : WhdMsg) (type len : Nat) (perm : Option Nat) (safe : Bool) (f : State → State × Option (Nat × List Nat)) : Result :=
  let s := { s with blk := s.blk.authSettle (pathOf m) }
  if !s.blk.pathServes (pathOf m) || s.blk.verifying (pathOf m) then .next s
  else
    let s := { s with blk := s.blk.modPath (pathOf m) fun x => { x with lastAt := s.blk.now } }
    match s.blk.whdGate m type len perm safe with
    | some c => s.go fun b => b.whdAnswer (pathOf m) m.type m.req c []
    | none =>
      match f s with
      | (t, none) => .next t
      | (t, some (c, d)) => t.go fun b => if b.pwr.inReset then b else b.whdAnswer (pathOf m) type m.req c d

/-- A message whose effect is a change of the block or a refusal that UPD_STATUS.CODE shows. -/
def State.updMessage (s : State) (m : WhdMsg) (type len perm : Nat) (safe : Bool) (f : Block → Block × Nat) : Result :=
  s.message m type len (some perm) safe fun s =>
    let (b, c) := f s.blk
    let (b, k) := b.schedFollow s.blk s.mem
    ({ s with blk := b.when (c != 0) fun b => b.updCode c, mem := k }, some (c, []))

/-! ## The port (R524, R525) -/

/-- The tool-presence pin is asserted: the PHY is powered, the link comes up, and outside RUN wake source 3 is pending. -/
def execToolPresent (s : State) : Result := s.go fun b =>
  let b := (b.set R.WHD_STATUS_TOOL 1).set R.WHD_STATUS_LINK 1
  let st := b.get R.PWR_STATE_STATE
  b.when (!b.pwr.inReset && (st == 1 || st == 2) && b.wakeEnabled 3) fun b => b.modPwr fun p => { p with wake := some (p.wake.getD 3) }

/-- The pin is released: the session ends within 10 ms. -/
def execToolReleased (s : State) : Result := s.go fun b => ((b.set R.WHD_STATUS_TOOL 0).set R.WHD_STATUS_LINK 0).whdEnd 0

/-- One TCP connection is accepted, a second is reset. -/
def execWhdTcpConnect (s : State) : Result := s.if_ (s.blk.flag R.WHD_STATUS_TOOL && !s.blk.pwr.inReset && s.blk.get R.PWR_STATE_STATE == 3 && !(s.blk.whdPath 0).conn) fun b =>
  (b.set R.WHD_STATUS_LINK 1).modPath 0 fun x => { x with conn := true, lastAt := b.now }

/-- Identity and a fresh nonce (Table 22.8). -/
def Block.helloData (b : Block) (nonce : Nat) : List Nat :=
  le 16 b.unitId ++ le 2 (b.get R.SUP_ID_PART_PART) ++ [b.get R.SUP_ID_PART_REV, b.get R.SUP_ID_PART_GRADE] ++ le 4 (((b.imageOf 1).map (·.version)).getD 0) ++ le 4 (b.get R.UPD_MIN_EPOCH_EPOCH) ++
    [b.updState, b2n b.upd.safeHold, 0, 0] ++ le 48 nonce

def execHello (m : WhdMsg) (s : State) : Result := s.message m 0x01 32 none true fun s =>
  let b := s.blk
  let n := b.open_ % 2 ^ 384
  ({ s with blk := ((b.spend).modPath (pathOf m) fun x => { x with helloAt := some b.now, nonce := some n }).whdShow }, some (0, b.helloData n))


/-- An AUTH: answered LOCKED_OUT without verification while the path is locked, else once both signatures are verified. -/
def execAuth (m : WhdMsg) (c : Credential) (s : State) : Result := s.message m 0x02 352 none true fun s =>
  let p := pathOf m
  let b := s.blk
  if (b.whdPath p).lockEnd.isSome then ({ s with blk := b.inc R.WHD_CNT_B_REFUSED_LOCKED }, some (LOCKED_OUT, []))
  else ({ s with blk := (b.modPath p fun x => { x with helloAt := none, auth := some (x.auth.getD { req := m.req, cred := c, at_ := b.verifiedAt p }) }).whdShow }, none)

def execAuthAnswer (s : State) : Result := s.if_ s.blk.up (·.authAnswer)

/-! ## Ends of sessions (R531, R532) -/

def execClose (m : WhdMsg) (s : State) : Result :=
  let s := { s with blk := s.blk.authSettle (pathOf m) }
  if !s.blk.pathServes (pathOf m) || s.blk.verifying (pathOf m) then .next s
  else if badHeader m 0x03 0 then s.go fun b => b.whdAnswer (pathOf m) m.type m.req BAD_MESSAGE []
  else s.go fun b => (b.whdAnswer (pathOf m) 0x03 m.req 0 []).whdEnd (pathOf m)

def execAuthTimeout (path : Fin 2) (s : State) : Result := s.go fun b =>
  match (b.whdPath path).helloAt with
  | some t => (b.reach (t + 10 * sec)).whdEnd path
  | none => b

def execWhdIdle (path : Fin 2) (s : State) : Result := s.if_ (s.blk.whdPath path).conn fun b =>
  (b.reach ((b.whdPath path).lastAt + b.get R.WHD_CFG_IDLE_S * sec)).whdEnd path

/-- The lockout of a path ends, in RTC seconds: the RTC counts on to its end. -/
def execWhdLockoutEnd (path : Fin 2) (s : State) : Result := s.go fun b =>
  match (b.whdPath path).lockEnd with
  | some t => ((((b.reach (b.bkp.secAt + (t - b.bkp.secs) * sec)).modPath path fun x => { x with lockEnd := none, attempts := [] }).set (R.WHD_LOCKa_LOCKED path) 0).set (R.WHD_LOCKa_ATTEMPTS path) 0)
  | none => b

/-! ## Staging (R514, R534) -/

def execStageBegin (m : WhdMsg) (length digest : Nat) (s : State) : Result := s.updMessage m 0x10 52 2 true fun b =>
  match b.stageRefusal (pathOf m) with
  | some c => (b, c)
  | none => (b.stageBegin (pathOf m) length digest, 0)

def execStageData (m : WhdMsg) (offset : Nat) (data : List Nat) (s : State) : Result := s.updMessage m 0x11 (4 + data.length) 2 true fun b =>
  if 65532 < data.length then (b, BAD_MESSAGE)
  else
    let c := b.stageDataCode (pathOf m) offset data
    (if c = 0 then b.stageData data else b, c)

/-- STAGE_END starts the verification, which is answered when it ends: within 50 ms and IMAGE_LENGTH at 400 MB/s. -/
def execStageEnd (m : WhdMsg) (s : State) : Result := s.message m 0x12 0 (some 2) true fun s =>
  let b := s.blk
  match b.upd.stage with
  | some x =>
    if x.path = pathOf m && !x.verify then
      ({ s with blk := (b.modUpd fun u => { u with stage := some { x with verify := true, req := m.req, endAt := b.now + 50 * ms + x.length * 5 / 2 } }).updShow }, none)
    else ({ s with blk := b.updCode UPD_STATE }, some (UPD_STATE, []))
  | none => ({ s with blk := b.updCode UPD_STATE }, some (UPD_STATE, []))

/-- The verification of the staged image ends; a success in SAFE_HOLD is followed by a module software reset. -/
def Block.stageDone (b : Block) (g : Image) : Block :=
  match b.upd.stage with
  | none => b
  | some x =>
    if !x.verify then b
    else
      let b := b.reach x.endAt
      let v := b.stageVerdict x g
      let b := (b.updCode v.code).whdAnswer x.path 0x12 x.req v.code []
      if v.code ≠ 0 then b.dropStage
      else
        let hold := b.upd.safeHold
        (b.stageCommit x g).when hold fun b => b.moduleReset 4

def execStageVerifyDone (g : Image) (s : State) : Result := s.go fun b => b.stageDone g

def execStageAbort (m : WhdMsg) (s : State) : Result := s.updMessage m 0x13 0 2 true fun b =>
  if b.upd.stage.any fun x => x.path == pathOf m then (b.dropStage, 0) else (b, UPD_STATE)

/-- DISCARD frees STAGED; a standing schedule is cancelled first. -/
def execDiscard (m : WhdMsg) (s : State) : Result := s.updMessage m 0x14 0 2 false fun b =>
  if (b.slotOf 2).isNone || b.upd.sched.isSome then (b, UPD_STATE) else (b.freeStaged, 0)

/-! ## Schedules, status, modes, jogs and revocation -/

def execSchedule (m : WhdMsg) (id instant window : Nat) (s : State) : Result := s.updMessage m 0x20 14 3 false fun b => b.schedLocal id instant window

def execCancel (m : WhdMsg) (id : Nat) (s : State) : Result := s.updMessage m 0x21 4 3 false fun b => if b.schedIs id then (b.clearSched, 0) else (b, UPD_STATE)

/-- STATUS returns the words of UPD_ offsets 0x004 to 0x067. -/
def execStatus (m : WhdMsg) (s : State) : Result := s.message m 0x22 0 (some 0) true fun s =>
  (s, some (0, (List.range 25).flatMap fun n => le 4 (s.blk.wordValue s.mem (0x4A000004 + 4 * n))))

/-- Origin of READ and WRITE of a path (R527). -/
def pathOrigin (m : WhdMsg) : Nat := if m.relay then 0x0181 else 0x0180

def execRead (m : WhdMsg) (addr : BitVec 32) (count : Nat) (failing : List Nat) (s : State) : Result := s.message m 0x30 8 (some 0) false fun s =>
  if count = 0 || 1024 < count then (s, some (BAD_LENGTH, []))
  else
    let (t, c, _, l) := s.readWords addr.toNat count failing
    (t, some (c, l.flatMap (le 4)))

def execWrite (m : WhdMsg) (addr : BitVec 32) (words : List (BitVec 32)) (failing : List Nat) (s : State) : Result := s.message m 0x31 (8 + 4 * words.length) (some 1) false fun s =>
  if words.length = 0 || 1022 < words.length then (s, some (BAD_LENGTH, []))
  else
    let (t, c, _) := s.writeWords (pathOrigin m) addr.toNat (words.map (·.toNat)) failing
    (t, some (c, []))

/-- MODE is submitted as source OPERATOR. -/
def execMode (m : WhdMsg) (set clr conf : BitVec 12) (s : State) : Result := s.message m 0x32 6 (some 4) false fun s =>
  ({ s with blk := s.blk.modeSubmit 1 set.toNat clr.toNat conf.toNat }, some (0, []))

/-- JOG runs or repeats a jog of a channel (R91); `inLoop` says that a closed loop or sequence of another mode drives the function. -/
def execJog (m : WhdMsg) (ch : Fin 192) (v : Int) (cmd : Fin 256) (inLoop : Bool) (s : State) : Result := s.message m 0x33 8 (some 4) false fun s =>
  let b := s.blk
  let c := b.jogStatus ch true inLoop
  let c := if c = 0 && (3 < cmd.val || (2 ≤ cmd.val && b.fn ch != 4)) then BAD_COMMAND else c
  (if c = 0 then { s with blk := (b.jogRun ch cmd v).jogShadow ch cmd v } else s, some (c, []))

/-- Keys that a revocation order names. -/
def orderMask (o : RevokeOrder) : Nat := bytesAt o.bytes 1 1 % 16

/-- A revocation order counts: its magic, part and unit fit, and a vendor key that it does not name signed it (R513). -/
def Block.orderGood (b : Block) (o : RevokeOrder) : Bool :=
  let unit := bytesAt o.bytes 4 16
  let signed := (List.range 4).any fun k => !bit (orderMask o) k && sigOk (b.upd.vendorKeys.getD k []) (sha384 (o.bytes.take 20)) (o.bytes.drop 20)
  bytesAt o.bytes 0 1 == 0x52 && bytesAt o.bytes 2 2 == b.get R.SUP_ID_PART_PART && (unit == 0 || unit == b.unitId) && signed

/-- A revocation order: fuses blow, and STAGED and OXBOW images of a revoked key are freed in the same commit. -/
def Block.revoke (b : Block) (o : RevokeOrder) : Block × Nat :=
  let mask := orderMask o
  let hit := fun (role : Nat) => (b.imageOf role).any fun g => bit mask (b.vendorOf g)
  if !b.orderGood o then (b, AUTH_FAILED)
  else if hit 1 then (b, UPD_STATE)
  else
    let staged := hit 2
    let oxbow := hit 3
    let b := (b.set R.UPD_REVOKED_MASK (b.get R.UPD_REVOKED_MASK ||| mask)).when staged (·.clearSched)
    let b := b.when (staged || oxbow) fun b => b.commit_ fun l => (if oxbow then freeRole 3 else id) ((if staged then freeRole 2 else id) l)
    (b.when staged fun b => b.modeSystem mUPDATE false 1, 0)

def execRevoke (m : WhdMsg) (o : RevokeOrder) (s : State) : Result := s.updMessage m 0x40 116 5 false fun b => b.revoke o

/-! ## Relays (R480, R533) -/

/-- Frames of class 7 reach the service from a peer that holds RELAY, in RUN. -/
def Block.relayPeer (b : Block) (n : Nat) : Bool := b.inRun && b.bitOf (R.EHR_PEERn_CFG_ROLE n) 3

/-- The open relay is the one a frame names. -/
def Block.relayIs (b : Block) (n id : Nat) : Bool := (b.whdPath 1).conn && (b.whdPath 1).peer == n && (b.whdPath 1).relayId == id

def execRelayOpen (n : Fin 16) (id : BitVec 32) (s : State) : Result := s.if_ (s.blk.relayPeer n) fun b =>
  let x := b.whdPath 1
  if x.conn || x.lockEnd.isSome then b.relayFrame n id.toNat 4 (max 1 (b.get R.WHD_CFG_RETRY_S) * 1000) []
  else b.modPath 1 fun x => { x with conn := true, helloAt := none, nonce := none, auth := none, lastAt := b.now, relayId := id.toNat, peer := n, sent := 0, rcvd := 0 }

/-- Bytes of the relay's stream, in order; the messages they complete are commands of their own. -/
def execRelayData (n : Fin 16) (id : BitVec 32) (offset bytes : Nat) (s : State) : Result :=
  s.if_ (s.blk.relayPeer n && s.blk.relayIs n id.toNat && (s.blk.whdPath 1).rcvd == offset && decide (bytes ≤ 4096)) fun b => b.modPath 1 fun x => { x with rcvd := x.rcvd + bytes }

def execRelayClose (n : Fin 16) (id : BitVec 32) (s : State) : Result := s.if_ (s.blk.relayPeer n && s.blk.relayIs n id.toNat) fun b => b.whdEnd 1

end Sys2Proof.Machine
end

