-- ==== Sys2Proof/Machine/Dispatch.lean ====
section
/-! DEFINITION. One arm per command: a direct call of its meaning. -/

namespace Sys2Proof.Machine

/-- The effect of a command on everything but the queue. -/
def exec (i : Instr) (s : State) : Host.Outcome State Fault Refusal :=
  match i with
  | .islandResetAssert k cause => Sys2Proof.Machine.execIslandResetAssert k cause s
  | .islandLostDeclare k => Sys2Proof.Machine.execIslandLostDeclare k s
  | .islandReloadComplete k => Sys2Proof.Machine.execIslandReloadComplete k s
  | .beacon sender => Sys2Proof.Machine.execBeacon sender s
  | .mtimeCorrection ofs => Sys2Proof.Machine.execMtimeCorrection ofs s
  | .mtimeStep => Sys2Proof.Machine.execMtimeStep s
  | .mtimeHoldover => Sys2Proof.Machine.execMtimeHoldover s
  | .mtimeFree => Sys2Proof.Machine.execMtimeFree s
  | .supMtimeLoRead => Sys2Proof.Machine.execSupMtimeLoRead s
  | .packetForward at_ dest p length check lseq => Sys2Proof.Machine.execPacketForward at_ dest p length check lseq s
  | .linkCheckFail link lane up => Sys2Proof.Machine.execLinkCheckFail link lane up s
  | .linkRetrainDone link => Sys2Proof.Machine.execLinkRetrainDone link s
  | .linkRetrainTimeout link => Sys2Proof.Machine.execLinkRetrainTimeout link s
  | .creditReturn link lane up => Sys2Proof.Machine.execCreditReturn link lane up s
  | .readReq p failing => Sys2Proof.Machine.execReadReq p failing s
  | .writeReq p failing => Sys2Proof.Machine.execWriteReq p failing s
  | .registerWrite origin addr value => Sys2Proof.Machine.execRegisterWrite origin addr value s
  | .responseArrival p => Sys2Proof.Machine.execResponseArrival p s
  | .errorNoteArrival dest p => Sys2Proof.Machine.execErrorNoteArrival dest p s
  | .tagWaitLimit source => Sys2Proof.Machine.execTagWaitLimit source s
  | .rspTimeout tag => Sys2Proof.Machine.execRspTimeout tag s
  | .clrCounters => Sys2Proof.Machine.execClrCounters s
  | .loadData m => Sys2Proof.Machine.execLoadData m s
  | .loadCommit m => Sys2Proof.Machine.execLoadCommit m s
  | .loadAbort m => Sys2Proof.Machine.execLoadAbort m s
  | .loadQuiesce m => Sys2Proof.Machine.execLoadQuiesce m s
  | .loadStart m => Sys2Proof.Machine.execLoadStart m s
  | .loadRsp m code => Sys2Proof.Machine.execLoadRsp m code s
  | .commitInstant => Sys2Proof.Machine.execCommitInstant s
  | .loadAnswerDeadline => Sys2Proof.Machine.execLoadAnswerDeadline s
  | .prStart => Sys2Proof.Machine.execPrStart s
  | .prAbort => Sys2Proof.Machine.execPrAbort s
  | .prTimeout => Sys2Proof.Machine.execPrTimeout s
  | .cellReloadComplete island cell => Sys2Proof.Machine.execCellReloadComplete island cell s
  | .modeRequest p => Sys2Proof.Machine.execModeRequest p s
  | .modeReqSet v => Sys2Proof.Machine.execModeReqSet v s
  | .modeReqClr v => Sys2Proof.Machine.execModeReqClr v s
  | .modeConfirm v => Sys2Proof.Machine.execModeConfirm v s
  | .modeEvaluate f => Sys2Proof.Machine.execModeEvaluate f s
  | .waitExpired k => Sys2Proof.Machine.execWaitExpired k s
  | .confirmExpired k => Sys2Proof.Machine.execConfirmExpired k s
  | .supervisionLost => Sys2Proof.Machine.execSupervisionLost s
  | .jogLapse ch => Sys2Proof.Machine.execJogLapse ch s
  | .stationary => Sys2Proof.Machine.execStationary s
  | .stationaryLost => Sys2Proof.Machine.execStationaryLost s
  | .modeCalAccept => Sys2Proof.Machine.execModeCalAccept s
  | .logicBatFail flushMs => Sys2Proof.Machine.execLogicBatFail flushMs s
  | .logicBatValid => Sys2Proof.Machine.execLogicBatValid s
  | .pfAbort => Sys2Proof.Machine.execPfAbort s
  | .pfCommit flushMs lost dead exhausted => Sys2Proof.Machine.execPfCommit flushMs lost dead exhausted s
  | .backupExit => Sys2Proof.Machine.execBackupExit s
  | .moduleStart ign startUs fullUs => Sys2Proof.Machine.execModuleStart ign startUs fullUs s
  | .ignFall => Sys2Proof.Machine.execIgnFall s
  | .ignRise => Sys2Proof.Machine.execIgnRise s
  | .pwrCtrlStandby => Sys2Proof.Machine.execPwrCtrlStandby s
  | .pwrCtrlParked => Sys2Proof.Machine.execPwrCtrlParked s
  | .pwrCtrlExtend => Sys2Proof.Machine.execPwrCtrlExtend s
  | .ignWaitExpired => Sys2Proof.Machine.execIgnWaitExpired s
  | .runonExpired flush dead => Sys2Proof.Machine.execRunonExpired flush dead s
  | .flushLimit dead => Sys2Proof.Machine.execFlushLimit dead s
  | .wake src startUs fullUs => Sys2Proof.Machine.execWake src startUs fullUs s
  | .parkMaxExpired => Sys2Proof.Machine.execParkMaxExpired s
  | .parkBatLow => Sys2Proof.Machine.execParkBatLow s
  | .resetInAssert low => Sys2Proof.Machine.execResetInAssert low s
  | .resetInRelease ign startUs fullUs => Sys2Proof.Machine.execResetInRelease ign startUs fullUs s
  | .supRstModule key => Sys2Proof.Machine.execSupRstModule key s
  | .supRstIsland key => Sys2Proof.Machine.execSupRstIsland key s
  | .supRstCell key => Sys2Proof.Machine.execSupRstCell key s
  | .islandWatchdog k => Sys2Proof.Machine.execIslandWatchdog k s
  | .island0Watchdog => Sys2Proof.Machine.execIsland0Watchdog s
  | .railMonitor island => Sys2Proof.Machine.execRailMonitor island s
  | .cellFaultReset island cell => Sys2Proof.Machine.execCellFaultReset island cell s
  | .reserveExhausted => Sys2Proof.Machine.execReserveExhausted s
  | .fieldSetpoint ch p => Sys2Proof.Machine.execFieldSetpoint ch p s
  | .hardShortTrip ch both more => Sys2Proof.Machine.execHardShortTrip ch both more s
  | .limitTimeExpired ch both more => Sys2Proof.Machine.execLimitTimeExpired ch both more s
  | .geyserClose ch cur => Sys2Proof.Machine.execGeyserClose ch cur s
  | .softEvent ch cur heat => Sys2Proof.Machine.execSoftEvent ch cur heat s
  | .blankEnd ch cur => Sys2Proof.Machine.execBlankEnd ch cur s
  | .overTemp ch => Sys2Proof.Machine.execOverTemp ch s
  | .overTempResume ch => Sys2Proof.Machine.execOverTempResume ch s
  | .shedEval means => Sys2Proof.Machine.execShedEval means s
  | .shedEscalate sc => Sys2Proof.Machine.execShedEscalate sc s
  | .commandTimeout ch => Sys2Proof.Machine.execCommandTimeout ch s
  | .clrLim ch => Sys2Proof.Machine.execClrLim ch s
  | .clrHard ch => Sys2Proof.Machine.execClrHard ch s
  | .clrShed ch => Sys2Proof.Machine.execClrShed ch s
  | .fcClrCnt ch => Sys2Proof.Machine.execFcClrCnt ch s
  | .cellStop c => Sys2Proof.Machine.execCellStop c s
  | .cellStart c => Sys2Proof.Machine.execCellStart c s
  | .studUv st => Sys2Proof.Machine.execStudUv st s
  | .studRecover st => Sys2Proof.Machine.execStudRecover st s
  | .groundLoss => Sys2Proof.Machine.execGroundLoss s
  | .reverseVoltage st => Sys2Proof.Machine.execReverseVoltage st s
  | .loadDump mv => Sys2Proof.Machine.execLoadDump mv s
  | .measInterval ch mean peak gmean gpeak mv ovr => Sys2Proof.Machine.execMeasInterval ch mean peak gmean gpeak mv ovr s
  | .fcMeasRead ch => Sys2Proof.Machine.execFcMeasRead ch s
  | .pwmBoundary ch mean peak mv => Sys2Proof.Machine.execPwmBoundary ch mean peak mv s
  | .fcEchoRead ch => Sys2Proof.Machine.execFcEchoRead ch s
  | .valveQueueStart c => Sys2Proof.Machine.execValveQueueStart c s
  | .boostWaitExpired ch => Sys2Proof.Machine.execBoostWaitExpired ch s
  | .valveBoostEnd ch cur peak quarterVolts => Sys2Proof.Machine.execValveBoostEnd ch cur peak quarterVolts s
  | .valvePeakEnd ch peak => Sys2Proof.Machine.execValvePeakEnd ch peak s
  | .releaseDecayEnd ch => Sys2Proof.Machine.execReleaseDecayEnd ch s
  | .dutySlotEnd ch squares => Sys2Proof.Machine.execDutySlotEnd ch squares s
  | .clrPair ch => Sys2Proof.Machine.execClrPair ch s
  | .netPacket ch p => Sys2Proof.Machine.execNetPacket ch p s
  | .netApply ch clamp => Sys2Proof.Machine.execNetApply ch clamp s
  | .netBitWrite ch v clamp => Sys2Proof.Machine.execNetBitWrite ch v clamp s
  | .forceWrite ch v clamp => Sys2Proof.Machine.execForceWrite ch v clamp s
  | .freezeWrite c v => Sys2Proof.Machine.execFreezeWrite c v s
  | .netSilent ch => Sys2Proof.Machine.execNetSilent ch s
  | .dinTick inp pin ov => Sys2Proof.Machine.execDinTick inp pin ov s
  | .dinHeartbeat ch => Sys2Proof.Machine.execDinHeartbeat ch s
  | .ovClear ch => Sys2Proof.Machine.execOvClear ch s
  | .dcpSampleArrival n second p mismatch => Sys2Proof.Machine.execDcpSampleArrival n second p mismatch s
  | .dcpCheck mismatch => Sys2Proof.Machine.execDcpCheck mismatch s
  | .dcpOutputHeartbeat n => Sys2Proof.Machine.execDcpOutputHeartbeat n s
  | .dcpConsumerTimeout n => Sys2Proof.Machine.execDcpConsumerTimeout n s
  | .dcpEnWrite n en => Sys2Proof.Machine.execDcpEnWrite n en s
  | .ainInterval ch mean p2p vref ovr => Sys2Proof.Machine.execAinInterval ch mean p2p vref ovr s
  | .shuntOpen ch => Sys2Proof.Machine.execShuntOpen ch s
  | .shuntClose ch => Sys2Proof.Machine.execShuntClose ch s
  | .ainValRead ch => Sys2Proof.Machine.execAinValRead ch s
  | .finInterval ch ovr => Sys2Proof.Machine.execFinInterval ch ovr s
  | .finValRead ch => Sys2Proof.Machine.execFinValRead ch s
  | .supRegLimit ch => Sys2Proof.Machine.execSupRegLimit ch s
  | .supLow ch low => Sys2Proof.Machine.execSupLow ch low s
  | .tarnSync p mv ma => Sys2Proof.Machine.execTarnSync p mv ma s
  | .tarnPollAnswer p far frame took => Sys2Proof.Machine.execTarnPollAnswer p far frame took s
  | .tarnPollTimeout p far took => Sys2Proof.Machine.execTarnPollTimeout p far took s
  | .tarnIdent p frame => Sys2Proof.Machine.execTarnIdent p frame s
  | .tarnEnumNoAnswer p => Sys2Proof.Machine.execTarnEnumNoAnswer p s
  | .tarnAck p frame => Sys2Proof.Machine.execTarnAck p frame s
  | .tarnHeadCfgWrite p n v => Sys2Proof.Machine.execTarnHeadCfgWrite p n v s
  | .tarnPowerFault p => Sys2Proof.Machine.execTarnPowerFault p s
  | .tarnPwrRetry p => Sys2Proof.Machine.execTarnPwrRetry p s
  | .tarnOverload60w => Sys2Proof.Machine.execTarnOverload60w s
  | .tarnPoweringDone p => Sys2Proof.Machine.execTarnPoweringDone p s
  | .tarnStop p => Sys2Proof.Machine.execTarnStop p s
  | .tarnStart p => Sys2Proof.Machine.execTarnStart p s
  | .tarnReenum p => Sys2Proof.Machine.execTarnReenum p s
  | .tarnPwrClr p => Sys2Proof.Machine.execTarnPwrClr p s
  | .tarnClrCnt p => Sys2Proof.Machine.execTarnClrCnt p s
  | .tarnSweepRead p => Sys2Proof.Machine.execTarnSweepRead p s
  | .tarnFrameRead p n => Sys2Proof.Machine.execTarnFrameRead p n s
  | .groupFrameStart g t => Sys2Proof.Machine.execGroupFrameStart g t s
  | .groupOverrun g abandoned => Sys2Proof.Machine.execGroupOverrun g abandoned s
  | .graphEnable word => Sys2Proof.Machine.execGraphEnable word s
  | .inPortPacket p => Sys2Proof.Machine.execInPortPacket p s
  | .leStop => Sys2Proof.Machine.execLeStop s
  | .leStart => Sys2Proof.Machine.execLeStart s
  | .leClrCnt => Sys2Proof.Machine.execLeClrCnt s
  | .leStopped => Sys2Proof.Machine.execLeStopped s
  | .instanceWrite w v => Sys2Proof.Machine.execInstanceWrite w v s
  | .leSigRead inst => Sys2Proof.Machine.execLeSigRead inst s
  | .solverCycle pub => Sys2Proof.Machine.execSolverCycle pub s
  | .solverInputPacket p => Sys2Proof.Machine.execSolverInputPacket p s
  | .solverDeadline => Sys2Proof.Machine.execSolverDeadline s
  | .solverResult => Sys2Proof.Machine.execSolverResult s
  | .solverSkipSend => Sys2Proof.Machine.execSolverSkipSend s
  | .solStop => Sys2Proof.Machine.execSolStop s
  | .solStart => Sys2Proof.Machine.execSolStart s
  | .solCold => Sys2Proof.Machine.execSolCold s
  | .solClrCnt => Sys2Proof.Machine.execSolClrCnt s
  | .solResRead => Sys2Proof.Machine.execSolResRead s
  | .inertialSample rates forces temp saturated failed => Sys2Proof.Machine.execInertialSample rates forces temp saturated failed s
  | .fusSample p => Sys2Proof.Machine.execFusSample p s
  | .epochLimit => Sys2Proof.Machine.execEpochLimit s
  | .fusDropout inp => Sys2Proof.Machine.execFusDropout inp s
  | .inertialAbsent => Sys2Proof.Machine.execInertialAbsent s
  | .fusForceMask inp v => Sys2Proof.Machine.execFusForceMask inp v s
  | .fusStop => Sys2Proof.Machine.execFusStop s
  | .fusStart => Sys2Proof.Machine.execFusStart s
  | .fusReinit => Sys2Proof.Machine.execFusReinit s
  | .fusClrCnt => Sys2Proof.Machine.execFusClrCnt s
  | .fusStRead => Sys2Proof.Machine.execFusStRead s
  | .antOpen a ma => Sys2Proof.Machine.execAntOpen a ma s
  | .antShort a => Sys2Proof.Machine.execAntShort a s
  | .antRetry a => Sys2Proof.Machine.execAntRetry a s
  | .gnssChannelAssign n sig sv => Sys2Proof.Machine.execGnssChannelAssign n sig sv s
  | .gnssDwellDone n found => Sys2Proof.Machine.execGnssDwellDone n found s
  | .gnssPullInLock n cno => Sys2Proof.Machine.execGnssPullInLock n cno s
  | .gnssPullInTimeout n => Sys2Proof.Machine.execGnssPullInTimeout n s
  | .gnssTrackLoss n => Sys2Proof.Machine.execGnssTrackLoss n s
  | .gnssLostTimeout n => Sys2Proof.Machine.execGnssLostTimeout n s
  | .gnssReschedule a sig sv => Sys2Proof.Machine.execGnssReschedule a sig sv s
  | .gnssChannelFree n => Sys2Proof.Machine.execGnssChannelFree n s
  | .gnssMeasEpoch meas => Sys2Proof.Machine.execGnssMeasEpoch meas s
  | .gnssNavUnit n check kind nbits bits age eph alm leap => Sys2Proof.Machine.execGnssNavUnit n check kind nbits bits age eph alm leap s
  | .gnssPvtEpoch o => Sys2Proof.Machine.execGnssPvtEpoch o s
  | .rtcmFrame second good msg station moved eph => Sys2Proof.Machine.execRtcmFrame second good msg station moved eph s
  | .rtcmAgeExpired => Sys2Proof.Machine.execRtcmAgeExpired s
  | .gnssJam a band db => Sys2Proof.Machine.execGnssJam a band db s
  | .gnssJamClear a band db => Sys2Proof.Machine.execGnssJamClear a band db s
  | .gnssParkRefresh => Sys2Proof.Machine.execGnssParkRefresh s
  | .gnssRefreshEnd => Sys2Proof.Machine.execGnssRefreshEnd s
  | .gnssHotstartWrite => Sys2Proof.Machine.execGnssHotstartWrite s
  | .gnsStop => Sys2Proof.Machine.execGnsStop s
  | .gnsStart => Sys2Proof.Machine.execGnsStart s
  | .gnsCold => Sys2Proof.Machine.execGnsCold s
  | .gnsClrCnt => Sys2Proof.Machine.execGnsClrCnt s
  | .gnsPvtRead => Sys2Proof.Machine.execGnsPvtRead s
  | .gnsHdgRead => Sys2Proof.Machine.execGnsHdgRead s
  | .ppsSecond => Sys2Proof.Machine.execPpsSecond s
  | .ppsReport quant copyOfs => Sys2Proof.Machine.execPpsReport quant copyOfs s
  | .ppsaQerrRead => Sys2Proof.Machine.execPpsaQerrRead s
  | .ppsbDelayWrite delay v => Sys2Proof.Machine.execPpsbDelayWrite delay v s
  | .pathCommit buf => Sys2Proof.Machine.execPathCommit buf s
  | .pathInvalidate buf => Sys2Proof.Machine.execPathInvalidate buf s
  | .strRefind => Sys2Proof.Machine.execStrRefind s
  | .strClrCnt => Sys2Proof.Machine.execStrClrCnt s
  | .engWaitExpired => Sys2Proof.Machine.execEngWaitExpired s
  | .graceExpired => Sys2Proof.Machine.execGraceExpired s
  | .strErrRead => Sys2Proof.Machine.execStrErrRead s
  | .convoyPartnerEpoch epoch peer sol => Sys2Proof.Machine.execConvoyPartnerEpoch epoch peer sol s
  | .convoyWaitExpired sol => Sys2Proof.Machine.execConvoyWaitExpired sol s
  | .convoyLoss => Sys2Proof.Machine.execConvoyLoss s
  | .cvyResetAmb => Sys2Proof.Machine.execCvyResetAmb s
  | .cvyClrCnt => Sys2Proof.Machine.execCvyClrCnt s
  | .strCvyRead => Sys2Proof.Machine.execStrCvyRead s
  | .yieldStep pkts => Sys2Proof.Machine.execYieldStep pkts s
  | .yieldAck cseq => Sys2Proof.Machine.execYieldAck cseq s
  | .contributionPacket p => Sys2Proof.Machine.execContributionPacket p s
  | .tileFlush => Sys2Proof.Machine.execTileFlush s
  | .tileReadbackDone tx ty => Sys2Proof.Machine.execTileReadbackDone tx ty s
  | .tileWait tx ty => Sys2Proof.Machine.execTileWait tx ty s
  | .ffRatio => Sys2Proof.Machine.execFfRatio s
  | .deltaSend => Sys2Proof.Machine.execDeltaSend s
  | .fleetDelta sender p => Sys2Proof.Machine.execFleetDelta sender p s
  | .drainExpired => Sys2Proof.Machine.execDrainExpired s
  | .yldStop => Sys2Proof.Machine.execYldStop s
  | .yldStart => Sys2Proof.Machine.execYldStart s
  | .yldClrCnt => Sys2Proof.Machine.execYldClrCnt s
  | .yldNewPass => Sys2Proof.Machine.execYldNewPass s
  | .yldFlush => Sys2Proof.Machine.execYldFlush s
  | .yldTStop => Sys2Proof.Machine.execYldTStop s
  | .yldTStart => Sys2Proof.Machine.execYldTStart s
  | .yldTClrCnt => Sys2Proof.Machine.execYldTClrCnt s
  | .yldTFlush => Sys2Proof.Machine.execYldTFlush s
  | .tileLookup index layer => Sys2Proof.Machine.execTileLookup index layer s
  | .yldTmRead => Sys2Proof.Machine.execYldTmRead s
  | .yldLedgerRead => Sys2Proof.Machine.execYldLedgerRead s
  | .yldFfRead => Sys2Proof.Machine.execYldFfRead s
  | .yldQwRead => Sys2Proof.Machine.execYldQwRead s
  | .tierPacket p => Sys2Proof.Machine.execTierPacket p s
  | .blockClose tier => Sys2Proof.Machine.execBlockClose tier s
  | .driveCompletion d q entry ok => Sys2Proof.Machine.execDriveCompletion d q entry ok s
  | .driveStall d q entry => Sys2Proof.Machine.execDriveStall d q entry s
  | .blockDiscard => Sys2Proof.Machine.execBlockDiscard s
  | .shedEvaluate => Sys2Proof.Machine.execShedEvaluate s
  | .driveCmdTimeout d q entry => Sys2Proof.Machine.execDriveCmdTimeout d q entry s
  | .driveLinkDown d => Sys2Proof.Machine.execDriveLinkDown d s
  | .driveReady d gen gb entries own => Sys2Proof.Machine.execDriveReady d gen gb entries own s
  | .mountDone => Sys2Proof.Machine.execMountDone s
  | .mountTimeout => Sys2Proof.Machine.execMountTimeout s
  | .readBlock p => Sys2Proof.Machine.execReadBlock p s
  | .find p => Sys2Proof.Machine.execFind p s
  | .append p => Sys2Proof.Machine.execAppend p s
  | .tilePut p => Sys2Proof.Machine.execTilePut p s
  | .tileGet p => Sys2Proof.Machine.execTileGet p s
  | .replayOpen => Sys2Proof.Machine.execReplayOpen s
  | .replayReady => Sys2Proof.Machine.execReplayReady s
  | .replayClose => Sys2Proof.Machine.execReplayClose s
  | .replayEmit wait => Sys2Proof.Machine.execReplayEmit wait s
  | .replayEnd => Sys2Proof.Machine.execReplayEnd s
  | .sstStop => Sys2Proof.Machine.execSstStop s
  | .sstStart => Sys2Proof.Machine.execSstStart s
  | .sstRescan => Sys2Proof.Machine.execSstRescan s
  | .sstFlush => Sys2Proof.Machine.execSstFlush s
  | .sstClrCnt => Sys2Proof.Machine.execSstClrCnt s
  | .sstFmt key mask => Sys2Proof.Machine.execSstFmt key mask s
  | .canFrameRx n f sof => Sys2Proof.Machine.execCanFrameRx n f sof s
  | .canRxDeliver n => Sys2Proof.Machine.execCanRxDeliver n s
  | .canReference n f sof => Sys2Proof.Machine.execCanReference n f sof s
  | .canTxSuccess n sof => Sys2Proof.Machine.execCanTxSuccess n sof s
  | .canTxError n sof lec dataPhase quiet => Sys2Proof.Machine.execCanTxError n sof lec dataPhase quiet s
  | .canRxError n lec dataPhase dominant => Sys2Proof.Machine.execCanRxError n lec dataPhase dominant s
  | .canObjectPacket n o p onWire => Sys2Proof.Machine.execCanObjectPacket n o p onWire s
  | .canQueuePacket n p => Sys2Proof.Machine.execCanQueuePacket n p s
  | .canObjectPeriod n o => Sys2Proof.Machine.execCanObjectPeriod n o s
  | .canBasicCycle n => Sys2Proof.Machine.execCanBasicCycle n s
  | .canRefLate n => Sys2Proof.Machine.execCanRefLate n s
  | .canRefMiss n => Sys2Proof.Machine.execCanRefMiss n s
  | .canFallback n => Sys2Proof.Machine.execCanFallback n s
  | .canWindowStart n w => Sys2Proof.Machine.execCanWindowStart n w s
  | .canRecoverDelay n => Sys2Proof.Machine.execCanRecoverDelay n s
  | .canRecovered n => Sys2Proof.Machine.execCanRecovered n s
  | .canStuck n => Sys2Proof.Machine.execCanStuck n s
  | .mbStop n => Sys2Proof.Machine.execMbStop n s
  | .mbStart n => Sys2Proof.Machine.execMbStart n s
  | .mbIsolate n => Sys2Proof.Machine.execMbIsolate n s
  | .mbRejoin n => Sys2Proof.Machine.execMbRejoin n s
  | .mbFlushQ n => Sys2Proof.Machine.execMbFlushQ n s
  | .mbClrCnt n => Sys2Proof.Machine.execMbClrCnt n s
  | .ethFrameRx p f fcsBad => Sys2Proof.Machine.execEthFrameRx p f fcsBad s
  | .ethHostTx f => Sys2Proof.Machine.execEthHostTx f s
  | .ethHostRxDeliver => Sys2Proof.Machine.execEthHostRxDeliver s
  | .ethLinkChange p up sqi => Sys2Proof.Machine.execEthLinkChange p up sqi s
  | .ethMacAge => Sys2Proof.Machine.execEthMacAge s
  | .ethGateEntry p e => Sys2Proof.Machine.execEthGateEntry p e s
  | .gptpSync => Sys2Proof.Machine.execGptpSync s
  | .gptpPdelay => Sys2Proof.Machine.execGptpPdelay s
  | .gptpAnnounce => Sys2Proof.Machine.execGptpAnnounce s
  | .gptpMsgRx p m => Sys2Proof.Machine.execGptpMsgRx p m s
  | .tqFrame => Sys2Proof.Machine.execTqFrame s
  | .evtEdgeStamp x pin => Sys2Proof.Machine.execEvtEdgeStamp x pin s
  | .ethEvtcapRead x => Sys2Proof.Machine.execEthEvtcapRead x s
  | .ethClrCnt => Sys2Proof.Machine.execEthClrCnt s
  | .ethFlushMac => Sys2Proof.Machine.execEthFlushMac s
  | .ehrRouterAdvert addr => Sys2Proof.Machine.execEhrRouterAdvert addr s
  | .ehrPeerEnable n en => Sys2Proof.Machine.execEhrPeerEnable n en s
  | .ehrClientHello n => Sys2Proof.Machine.execEhrClientHello n s
  | .ehrHandshakeDone n chain transcript verify => Sys2Proof.Machine.execEhrHandshakeDone n chain transcript verify s
  | .ehrHandshakeTimeout n => Sys2Proof.Machine.execEhrHandshakeTimeout n s
  | .ehrFlightRetransmit n => Sys2Proof.Machine.execEhrFlightRetransmit n s
  | .ehrBackoff n => Sys2Proof.Machine.execEhrBackoff n s
  | .ehrSessionTimeout n => Sys2Proof.Machine.execEhrSessionTimeout n s
  | .ehrHeartbeat => Sys2Proof.Machine.execEhrHeartbeat s
  | .ehrKeyUpdate n => Sys2Proof.Machine.execEhrKeyUpdate n s
  | .dtlsRecordRx n num frame close => Sys2Proof.Machine.execDtlsRecordRx n num frame close s
  | .ehrReasmTimeout n => Sys2Proof.Machine.execEhrReasmTimeout n s
  | .ehrPayloadTx cls p => Sys2Proof.Machine.execEhrPayloadTx cls p s
  | .ehrRetransmit n => Sys2Proof.Machine.execEhrRetransmit n s
  | .ehrStop => Sys2Proof.Machine.execEhrStop s
  | .ehrStart => Sys2Proof.Machine.execEhrStart s
  | .ehrClrCnt => Sys2Proof.Machine.execEhrClrCnt s
  | .dspVblank n late => Sys2Proof.Machine.execDspVblank n late s
  | .dspEnWrite n en => Sys2Proof.Machine.execDspEnWrite n en s
  | .dspTOn1 n => Sys2Proof.Machine.execDspTOn1 n s
  | .dspTOn2 n => Sys2Proof.Machine.execDspTOn2 n s
  | .dspTOff1 n => Sys2Proof.Machine.execDspTOff1 n s
  | .dspTOff2 n => Sys2Proof.Machine.execDspTOff2 n s
  | .dspTRest n => Sys2Proof.Machine.execDspTRest n s
  | .dspTempUpdate n ohms => Sys2Proof.Machine.execDspTempUpdate n ohms s
  | .dspClrCnt => Sys2Proof.Machine.execDspClrCnt s
  | .rtcSecond => Sys2Proof.Machine.execRtcSecond s
  | .bkpRtcSet => Sys2Proof.Machine.execBkpRtcSet s
  | .rtcAutoSet => Sys2Proof.Machine.execRtcAutoSet s
  | .rtcCalWindow rate => Sys2Proof.Machine.execRtcCalWindow rate s
  | .bkpSwitchVbak rail vbak => Sys2Proof.Machine.execBkpSwitchVbak rail vbak s
  | .bkpSwitchRail rail vbak => Sys2Proof.Machine.execBkpSwitchRail rail vbak s
  | .bkpPor => Sys2Proof.Machine.execBkpPor s
  | .bkpRtcRead => Sys2Proof.Machine.execBkpRtcRead s
  | .pwrreqSet => Sys2Proof.Machine.execPwrreqSet s
  | .pwrreqClr => Sys2Proof.Machine.execPwrreqClr s
  | .pwrreqPulseEnd => Sys2Proof.Machine.execPwrreqPulseEnd s
  | .pwrreqMax => Sys2Proof.Machine.execPwrreqMax s
  | .toolPresent => Sys2Proof.Machine.execToolPresent s
  | .toolReleased => Sys2Proof.Machine.execToolReleased s
  | .helloMsg m => Sys2Proof.Machine.execHello m s
  | .authMsg m c => Sys2Proof.Machine.execAuth m c s
  | .authAnswer => Sys2Proof.Machine.execAuthAnswer s
  | .closeMsg m => Sys2Proof.Machine.execClose m s
  | .stageBegin m length digest => Sys2Proof.Machine.execStageBegin m length digest s
  | .stageData m offset data => Sys2Proof.Machine.execStageData m offset data s
  | .stageEnd m => Sys2Proof.Machine.execStageEnd m s
  | .stageVerifyDone g => Sys2Proof.Machine.execStageVerifyDone g s
  | .stageAbort m => Sys2Proof.Machine.execStageAbort m s
  | .discardMsg m => Sys2Proof.Machine.execDiscard m s
  | .scheduleMsg m id instant window => Sys2Proof.Machine.execSchedule m id instant window s
  | .cancelMsg m id => Sys2Proof.Machine.execCancel m id s
  | .statusMsg m => Sys2Proof.Machine.execStatus m s
  | .readMsg m addr count failing => Sys2Proof.Machine.execRead m addr count failing s
  | .writeMsg m addr words failing => Sys2Proof.Machine.execWrite m addr words failing s
  | .modeMsg m set clr conf => Sys2Proof.Machine.execMode m set clr conf s
  | .jogMsg m ch v cmd inLoop => Sys2Proof.Machine.execJog m ch v cmd inLoop s
  | .revokeMsg m o => Sys2Proof.Machine.execRevoke m o s
  | .authTimeout path => Sys2Proof.Machine.execAuthTimeout path s
  | .whdIdle path => Sys2Proof.Machine.execWhdIdle path s
  | .whdLockoutEnd path => Sys2Proof.Machine.execWhdLockoutEnd path s
  | .whdCtrlClose => Sys2Proof.Machine.execWhdCtrlClose s
  | .relayOpen n id => Sys2Proof.Machine.execRelayOpen n id s
  | .relayData n id offset bytes => Sys2Proof.Machine.execRelayData n id offset bytes s
  | .relayClose n id => Sys2Proof.Machine.execRelayClose n id s
  | .fleetAnnounce x => Sys2Proof.Machine.execAnnounce x s
  | .fleetCancel x => Sys2Proof.Machine.execFleetCancel x s
  | .updDiscard key => Sys2Proof.Machine.execUpdDiscard key s
  | .updCancel key => Sys2Proof.Machine.execUpdCancel key s
  | .updSchedule key => Sys2Proof.Machine.execUpdSchedule key s
  | .updPrecheck => Sys2Proof.Machine.execUpdPrecheck s
  | .updActivationCheck flush lost dead => Sys2Proof.Machine.execUpdActivationCheck flush lost dead s
  | .updDeferLapse => Sys2Proof.Machine.execUpdDeferLapse s
  | .updConfirm key => Sys2Proof.Machine.execUpdConfirm key s
  | .migDone key => Sys2Proof.Machine.execMigDone key s
  | .migFail key => Sys2Proof.Machine.execMigFail key s
  | .updWindowExpired => Sys2Proof.Machine.execUpdWindowExpired s
  | .updRunRecord => Sys2Proof.Machine.execUpdRunRecord s
  | .cryptoGo k => Sys2Proof.Machine.execCryptoGo k s
  | .cryptoDone pk put => Sys2Proof.Machine.execCryptoDone pk put s
  | .eventPacket p => Sys2Proof.Machine.execEventPacket p s
  | .snapshotAnswer rseq w failing => Sys2Proof.Machine.execSnapshotAnswer rseq w failing s
  | .snapshotTimeout rseq => Sys2Proof.Machine.execSnapshotTimeout rseq s
  | .evrFlushTimer => Sys2Proof.Machine.execEvrFlushTimer s
  | .evrFlushDone => Sys2Proof.Machine.execEvrFlushDone s
  | .evrStop => Sys2Proof.Machine.execEvrStop s
  | .evrStart => Sys2Proof.Machine.execEvrStart s
  | .evrFlush => Sys2Proof.Machine.execEvrFlush s
  | .evrExport => Sys2Proof.Machine.execEvrExport s
  | .evrClrCnt => Sys2Proof.Machine.execEvrClrCnt s
  | .evrSoft trig writer => Sys2Proof.Machine.execEvrSoft trig writer s
  | .evrFreezeWrite freeze maxS => Sys2Proof.Machine.execEvrFreezeWrite freeze maxS s
  | .evrFreezeExpired => Sys2Proof.Machine.execEvrFreezeExpired s
  | .evrCursorWrite rseq => Sys2Proof.Machine.execEvrCursorWrite rseq s
  | .evrWindowLoaded => Sys2Proof.Machine.execEvrWindowLoaded s
  | .evrClear key force => Sys2Proof.Machine.execEvrClear key force s
  | .evrExportAnswer code => Sys2Proof.Machine.execEvrExportAnswer code s
  | .evrExportRetry => Sys2Proof.Machine.execEvrExportRetry s
  | .hltSample temps volts => Sys2Proof.Machine.execHltSample temps volts s
  | .hltStream => Sys2Proof.Machine.execHltStream s
  | .hltRoMeasure freqs => Sys2Proof.Machine.execHltRoMeasure freqs s
  | .hltRonMinute c samples => Sys2Proof.Machine.execHltRonMinute c samples s
  | .hltMramSave => Sys2Proof.Machine.execHltMramSave s
  | .hltThermal => Sys2Proof.Machine.execHltThermal s
  | .hltCapTest => Sys2Proof.Machine.execHltCapTest s
  | .hltCapTestDone t => Sys2Proof.Machine.execHltCapTestDone t s
  | .hltReplan => Sys2Proof.Machine.execHltReplan s
  | .hltReplanDone => Sys2Proof.Machine.execHltReplanDone s
  | .hltClrCnt => Sys2Proof.Machine.execHltClrCnt s
  | .heartbeat k => Sys2Proof.Machine.execHeartbeat k s
  | .restart k => Sys2Proof.Machine.execRestart k s
  | .waitUntil k => Sys2Proof.Machine.execWaitUntil k s
  | .waitUntilDone k => Sys2Proof.Machine.execWaitUntilDone k s
  | .utc k => Sys2Proof.Machine.execUtc k s
  | .partInfo k => Sys2Proof.Machine.execPartInfo k s
  | .partHbExpired k => Sys2Proof.Machine.execPartHbExpired k s
  | .islandResetRelease k => Sys2Proof.Machine.execIslandResetRelease k s
  | .inLimitChange ch inLimit => Sys2Proof.Machine.execInLimitChange ch inLimit s
  | .boostReady c vStart t => Sys2Proof.Machine.execBoostReady c vStart t s
  | .reserveCharged => Sys2Proof.Machine.execReserveCharged s
  | .epochBoundary => Sys2Proof.Machine.execEpochBoundary s
  | .antSupplyOk a ma => Sys2Proof.Machine.execAntSupplyOk a ma s
  | .driveResetTimeout d => Sys2Proof.Machine.execDriveResetTimeout d s
  | .whdTcpConnect => Sys2Proof.Machine.execWhdTcpConnect s
  | .freqEdge ch e => Sys2Proof.Machine.execFreqEdge ch e s

end Sys2Proof.Machine
end

