-- ==== Sys2Proof/Machine/Idle.lean ====
section
/-! DEFINITION. What passes while no command waits: 1 ms of elapsed time (log entry 6). -/

namespace Sys2Proof.Machine

/-- What the passing of time brings to every field cell. -/
def Block.ripenAll (b : Block) : Block := b.each 24 fun c b => (b.ripen c).chargeEnds c

/-- One millisecond passes: off-times of soft action 1 end, queued valves start, boost reservoirs reach their target, and a written response timeout comes into use at the fabric's 1 ms boundary (R11, R148). -/
def Block.idle (b : Block) : Block := ((b.reach (b.now + ms)).ripenAll).boundary 0x40100034 0x40100038

end Sys2Proof.Machine
end

