-- ==== Sys2Proof/Machine/Step.lean ====
section
/-! DEFINITION. One step: the command at the front of the queue takes effect; on an empty queue 1 ms passes (log entry 6). -/

namespace Sys2Proof.Machine

open Sys2Proof

/-- Take the command that has waited longest and give it its effect. -/
def step (s : State) : Host.Outcome State Fault Refusal :=
  match s.pending with
  | c :: rest => exec c { s with pending := rest }
  | [] => .next { s with blk := s.blk.idle }

/-- The state with the command that a word spells at the front of its queue; the table gives no command a word. -/
def State.withFetchWord (s : State) (nbits w : Nat) : State :=
  match decodeTableWord nbits w with
  | some c => { s with pending := c :: s.pending }
  | none => s

end Sys2Proof.Machine
end

