-- ==== Sys2Proof/Safety.lean ====
section
/-! DEFINITION. The terms in which claims speak of a run: a command runs to a next state, and what that state keeps. -/

namespace Sys2Proof.Machine

open Sys2Proof

/-- Command `c` completes at `s`: it answers a next state, and `p` holds of that state. -/
def Runs (c : Instr) (s : State) (p : State → Prop) : Prop := ∃ t, exec c s = .next t ∧ p t

/-- Value of a register field. -/
abbrev State.fld (s : State) (f : Fld) : Nat := s.blk.get f

/-- Value of a counter after `n` more counts: it stays at its maximum. -/
abbrev State.counted (s : State) (f : Fld) (n : Nat := 1) : Nat := min (2 ^ f.wid - 1) (s.blk.get f + n)

/-- Every register field but those listed reads in `t` as in `s`. -/
def FieldsKept (s t : State) (l : List Fld) : Prop := ∀ f : Fld, (∀ g ∈ l, f.key ≠ g.key) → t.blk.get f = s.blk.get f

/-- Every register field whose address lies outside `lo` to `hi - 1` reads in `t` as in `s`. -/
def FieldsKeptOutside (s t : State) (lo hi : Nat) : Prop := ∀ f : Fld, f.key < lo * 32 ∨ hi * 32 ≤ f.key → t.blk.get f = s.blk.get f

/-- Every byte of the addressed memories reads in `t` as in `s`. -/
def MemKept (s t : State) : Prop := ∀ a, Memory.read t.mem a = Memory.read s.mem a

/-- Every byte of the addressed memories outside `lo` to `hi - 1` reads in `t` as in `s`. -/
def MemKeptOutside (s t : State) (lo hi : Nat) : Prop := ∀ a, a < lo ∨ hi ≤ a → Memory.read t.mem a = Memory.read s.mem a

/-- The commands that wait are those that waited before. -/
def QueueKept (s t : State) : Prop := t.pending = s.pending

/-- No byte of the addressed memories and no waiting command changes. -/
def Kept (s t : State) : Prop := MemKept s t ∧ QueueKept s t

/-- The frame of a command: but for the listed fields, no register, no byte of memory and no waiting command changes. -/
def Frame (s t : State) (l : List Fld) : Prop := FieldsKept s t l ∧ MemKept s t ∧ QueueKept s t

/-- The fields that follow the tags of requests, live and waited for (R53 to R55). -/
def tagFields : List Fld := [R.FAB_STATUS_TAG_WAITING, R.FAB_TAG_WAIT_CNT_COUNT] ++ (List.range 9).map R.FAB_TAG_ISLk_LIVE

/-- The state in which a command meets field channel `ch`: what the passing of time has brought to its cell has happened (R148, R179, R184). -/
def State.ripe (s : State) (ch : Nat) : State := { s with blk := s.blk.ripen (ch / 8) }

/-- No off-time of soft action 1 and no dead time of a bridge runs in cell `c` (R148, R184). -/
def Block.nothingDue (b : Block) (c : Nat) : Bool :=
  (List.range 8).all fun u => (b.ch (8 * c + u)).core.softEnd.isNone && (b.ch (8 * c + u)).drv.turnAt.isNone

/-- A service message is dealt with at once: its path serves, no AUTH of it waits for its answer and no verification of it runs (R526). -/
def Block.servesNow (b : Block) (m : WhdMsg) : Bool := (b.whdPath (pathOf m)).auth.isNone && b.pathServes (pathOf m) && !b.verifying (pathOf m)

/-- A service message of a TYPE and LENGTH acts: it is dealt with at once, its header is good, and its session has the permission it needs (R527). -/
def Block.takes (b : Block) (m : WhdMsg) (type len : Nat) (perm : Option Nat) (safe : Bool) : Bool := b.servesNow m && (b.whdGate m type len perm safe).isNone

/-- The state in which a service message is answered: its path was last heard now (R532). -/
def State.heard (s : State) (m : WhdMsg) : State := { s with blk := s.blk.modPath (pathOf m) fun x => { x with lastAt := s.blk.now } }

/-- Between `s` and `t` the service port gave one answer: to message `m` of a TYPE, with a STATUS and data (Table 22.7). -/
def Answered (s t : State) (m : WhdMsg) (type code : Nat) (data : List Nat) : Prop :=
  t.blk.whd.out = s.blk.whd.out ++ [{ path := pathOf m, type := type, req := m.req, status := code, data := data }]

/-- What every state of a safe run keeps: the addressed memories stand in their canonical form. -/
def Safe (s : State) : Prop := Memory.wf s.mem = true

/-- The commands that may change a byte of the addressed memories: requests and service writes; the starts, resets, shutdowns and failures of supply that copy or lose the retained store; the GNSS hot-start copy; the recorder's region; the power-on reset of the backup domain; and what writes a record ring: schedules, activation, confirmation and migration of an update, the re-plan, the yield pass and its calibration. -/
def changesMemory : Instr → Bool
  | .writeReq .. | .registerWrite .. | .writeMsg .. | .bkpPor .. | .gnssHotstartWrite .. | .gnssRefreshEnd .. | .moduleStart .. | .resetInRelease .. | .supRstModule .. | .pwrCtrlStandby .. | .runonExpired .. | .flushLimit ..
  | .wake .. | .parkMaxExpired .. | .parkBatLow .. | .logicBatFail .. | .pfCommit .. | .evrFlushDone .. | .evrClear .. | .evrExportAnswer .. | .updActivationCheck .. | .updPrecheck .. | .updDeferLapse .. | .updConfirm ..
  | .migDone .. | .updRunRecord .. | .updDiscard .. | .updCancel .. | .updSchedule .. | .scheduleMsg .. | .cancelMsg .. | .revokeMsg .. | .fleetAnnounce .. | .fleetCancel .. | .hltReplanDone .. | .yieldStep .. | .yldNewPass .. | .modeCalAccept .. => true
  | _ => false

/-- The units that the spec gives the module are all there: as many field channels, cells, ports, drives, sessions and paths as its tables list. No command adds or removes one. -/
def AllUnits (b : Block) : Prop :=
  b.chans.length = 192 ∧ b.cells.length = 24 ∧ b.scopes.length = 9 ∧ b.pairs.length = 48 ∧ b.evtIn.length = 2 ∧ b.tarn.length = 16 ∧ b.can.length = 24 ∧
  (∀ p ∈ b.can, p.objs.length = 32) ∧ b.dsp.length = 2 ∧ b.cry.length = 8 ∧ b.sst.opened.length = 4 ∧ b.sst.drives.length = 4 ∧ b.whd.paths.length = 2 ∧
  b.sys.islands.length = 9 ∧ b.sys.parts.length = 8 ∧ b.ehr.sessions.length = 16

end Sys2Proof.Machine
end

