-- ==== Sys2Proof/Certificates/Slice0/Obligations.lean ====
section
/-! DEFINITION. The statements for the provers: what every step keeps, the rules of the fabric and of requests, and for each family of commands what its commands do and what they leave as it was. -/

open Sys2Proof Sys2Proof.Machine

/-- A step gives the command at the front of the queue its effect on the state whose queue is the rest. -/
def Obligations.StepRunsFrontCommand : Prop :=
  ∀ (c : Instr) (l : List Instr) (s : State), s.pending = c :: l → step s = exec c { s with pending := l }

/-- With no command waiting, one millisecond of elapsed time passes; module time moves with it in RUN and PARKED (R34) while no offset is left to remove (R30) and stands still otherwise. The tick on an empty queue is the model's choice (log entry 6). -/
def Obligations.IdleStepPassesTime : Prop :=
  (∀ s, s.pending = [] → 2 ≤ s.fld R.PWR_STATE_STATE → s.blk.sys.slew = 0 → ∃ t, step s = .next t ∧ t.blk.now = s.blk.now + 1000000 ∧ t.blk.sys.mtime = s.blk.sys.mtime + 1000000 ∧ t.mem = s.mem ∧ t.pending = []) ∧
  (∀ s, s.pending = [] → s.fld R.PWR_STATE_STATE < 2 → ∃ t, step s = .next t ∧ t.blk.now = s.blk.now + 1000000 ∧ t.blk.sys.mtime = s.blk.sys.mtime ∧ t.mem = s.mem ∧ t.pending = [])

/-- After reset every register field holds its reset value, every byte of the addressed memories reads 0, no command waits, and the module-scope reset of a power-on is asserted. What unwritten memory reads as is the model's choice (log entry 10). -/
def Obligations.ResetState : Prop :=
  (∀ f : Fld, State.reset.fld f = f.reset) ∧ (∀ a, Memory.read State.reset.mem a = 0#8) ∧ State.reset.pending = [] ∧ State.reset.blk.pwr.inReset = true ∧ State.reset.blk.pwr.cause = 1 ∧ State.reset.blk.out = []

/-- The state after reset is safe and holds every unit. -/
def Obligations.ResetIsSafe : Prop :=
  Safe State.reset ∧ AllUnits State.reset.blk

/-- Every step keeps the addressed memories in their canonical form. -/
def Obligations.EveryStepKeepsMemoryForm : Prop :=
  ∀ s t : State, Safe s → step s = .next t → Safe t

/-- No step adds or removes a unit: channels, cells, ports, drives, sessions and paths stay as many as the spec lists. -/
def Obligations.EveryStepKeepsUnits : Prop :=
  ∀ s t : State, AllUnits s.blk → step s = .next t → AllUnits t.blk

/-- Elapsed time never steps back, whatever happens to module time (R31). -/
def Obligations.ElapsedTimeNeverStepsBack : Prop :=
  ∀ s t : State, step s = .next t → s.blk.now ≤ t.blk.now

/-- Every command completes in every state, and leaves the commands that wait as they were. -/
def Obligations.EveryCommandCompletes : Prop :=
  ∀ (c : Instr) (s : State), ∃ t, exec c s = .next t ∧ t.pending = s.pending

/-- The addressed memories change by no other command than those listed in `changesMemory`: requests and service writes; starts, resets, shutdowns and failures of supply; the GNSS hot-start copy; the recorder; the power-on reset of the backup domain; and the commands whose changes a record ring holds. -/
def Obligations.MemoryChangesOnlyBy : Prop :=
  ∀ (c : Instr) (s t : State), changesMemory c = false → exec c s = .next t → t.mem = s.mem

/-- The fabric's 36 links (R44): one for each pair of islands, with the index the rule gives. -/
def Obligations.LinkIndices : Prop :=
  (∀ a < 9, ∀ b < 9, a < b → linkOf a b = a * (17 - a) / 2 + (b - a - 1) ∧ linkOf b a = linkOf a b ∧ linkOf a b < 36 ∧ linkEnds (linkOf a b) = (a, b)) ∧
  (∀ k < 36, (linkEnds k).1 < (linkEnds k).2 ∧ (linkEnds k).2 < 9 ∧ linkOf (linkEnds k).1 (linkEnds k).2 = k) ∧ linkOf 0 1 = 0 ∧ linkOf 7 8 = 35

/-- Lanes (R46): with n lanes, an untagged packet uses lane STREAM modulo n, so all packets of a stream and origin use one; a packet with a storage tag (Table 2.6: below 0x8000) uses lane TAG >> 10 modulo n; other tagged packets, and every response but STORE_RSP, use lane 0. -/
def Obligations.PacketLanes : Prop :=
  (∀ (b : Block) (k : Nat) (p : Packet), 0 < b.get (R.FAB_LINKk_LANES k) → rspKind p.kind = none → isAnswer p.kind = false → b.laneOf k p = p.stream % b.get (R.FAB_LINKk_LANES k)) ∧
  (∀ (b : Block) (k : Nat) (p q : Packet), rspKind p.kind = none → isAnswer p.kind = false → rspKind q.kind = none → isAnswer q.kind = false → p.stream = q.stream → p.origin = q.origin → b.laneOf k p = b.laneOf k q) ∧
  (∀ (b : Block) (k : Nat) (p : Packet), 0 < b.get (R.FAB_LINKk_LANES k) → p.kind = .storeReq ∨ p.kind = .storeRsp → p.tag < 0x8000 → b.laneOf k p = p.tag >>> 10 % b.get (R.FAB_LINKk_LANES k)) ∧
  (∀ (b : Block) (k : Nat) (p : Packet), (rspKind p.kind).isSome = true → 0x8000 ≤ p.tag → b.laneOf k p = 0) ∧
  (∀ (b : Block) (k : Nat) (p : Packet), p.kind = .readRsp ∨ p.kind = .writeRsp ∨ p.kind = .loadRsp ∨ p.kind = .errorNote → b.laneOf k p = 0)

/-- A WRITE_REQ of which any word is refused writes no word (R40): memory and every register but the count of discarded answers stay, and one error response leaves that bears the status and the word index of the first failing test (R605); it is not sent while the module is in reset, nor to an island that takes no packet (R603, R606). -/
def Obligations.RefusedWriteWritesNothing : Prop :=
  (∀ p l c j s, p.kind = .writeReq → s.blk.up = true → s.blk.rowDown (bytesAt p.data 0 4) = false → 1 ≤ bytesAt p.data 4 2 → bytesAt p.data 4 2 ≤ 1022 → p.data.length = 8 + 4 * bytesAt p.data 4 2 →
    (s.writeWords p.origin (bytesAt p.data 0 4) (writtenWords p.data (bytesAt p.data 4 2)) l).2 = (c, j) → c ≠ 0 →
    Runs (.writeReq p l) s fun t => t.blk.fab.status = c ∧ Frame s t [R.FAB_ERR_CNT_COUNT]) ∧
  (∀ p l c j s, p.kind = .writeReq → s.blk.up = true → s.blk.rowDown (bytesAt p.data 0 4) = false → 1 ≤ bytesAt p.data 4 2 → bytesAt p.data 4 2 ≤ 1022 → p.data.length = 8 + 4 * bytesAt p.data 4 2 →
    (s.writeWords p.origin (bytesAt p.data 0 4) (writtenWords p.data (bytesAt p.data 4 2)) l).2 = (c, j) → c ≠ 0 → c ≠ 5 → c ≠ 11 → s.blk.pwr.inReset = false → oIsland p.origin = 0 →
    Runs (.writeReq p l) s fun t => t.blk.out = s.blk.out ++ [{ kind := .writeRsp, stream := 0, origin := islOrigin (islandOf (bytesAt p.data 0 4)), tag := p.tag, conf := 0, valid := false, error := true, stamp := s.blk.stamp, data := errorPayload c p (islandOf (bytesAt p.data 0 4)) j }] ∧ Frame s t [])

/-- Reads are never refused for permission (R571): the status of a READ_REQ is the same for every origin, and a request for mapped, readable words of an island that answers succeeds whoever sends it. -/
def Obligations.ReadsNeedNoPermission : Prop :=
  (∀ (p : Packet) (o : Nat) l s t u, exec (.readReq p l) s = .next t → exec (.readReq { p with origin := o } l) s = .next u → t.blk.fab.status = u.blk.fab.status) ∧
  (∀ (p : Packet) l s, p.kind = .readReq → s.blk.up = true → s.blk.rowDown (bytesAt p.data 0 4) = false → p.data.length = 8 → 1 ≤ bytesAt p.data 4 2 → bytesAt p.data 4 2 ≤ 1024 →
    unmappedAt (bytesAt p.data 0 4) (bytesAt p.data 4 2) = none → (∀ j, j < bytesAt p.data 4 2 → s.blk.poisonedWord l (bytesAt p.data 0 4 + 4 * j) = false) → Runs (.readReq p l) s fun t => t.blk.fab.status = 0)

/-- Reserved bits read as 0 (R9): in the word at a mapped register address whose fields hold values of their widths, as FieldValuesFit says every write leaves them, a bit that no field of the word covers reads 0. -/
def Obligations.ReservedBitsReadZero : Prop :=
  ∀ (b : Block) (m : Memory) (a i k : Nat) (l : List FieldRow), wordAt a = some (l, i) → (rowOf a).any memoryRow = false → (∀ f ∈ l, (b.live a).get (f.fld a i) < 2 ^ f.wid) → (∀ f ∈ l, k < f.lo ∨ f.lo + f.wid ≤ k) → (b.wordValue m a).testBit k = false

/-- A field that is set holds the low bits of the value, as many as its width; every other field stands. -/
def Obligations.FieldValuesFit : Prop :=
  ∀ (b : Block) (f g : Fld) (v : Nat), (b.set f v).get f = v % 2 ^ f.wid ∧ (b.set f v).get f < 2 ^ f.wid ∧ (g.key ≠ f.key → (b.set f v).get g = b.get g)

/-- Module time (R10, R31, R33): a read of SUP_MTIME_LO latches both words of one value, a multiple of the 4 ns of the tick; loss of GNSS time leads from LOCKED to HOLDOVER, and 4 h of HOLDOVER to FREE; an announced step is applied to module time alone, elapsed time is never stepped back; a BEACON marks its sender as alive and changes no register. -/
def Obligations.ModuleTimeCommands : Prop :=
  (∀ s, Runs .supMtimeLoRead s fun t =>
    t.blk.get R.SUP_MTIME_LO_NS_LO = s.blk.sys.mtime / 4 * 4 % 2 ^ 32 ∧ t.blk.get R.SUP_MTIME_HI_NS_HI = s.blk.sys.mtime / 4 * 4 / 2 ^ 32 % 2 ^ 32 ∧
    Frame s t [R.SUP_MTIME_LO_NS_LO, R.SUP_MTIME_HI_NS_HI]) ∧
  (∀ s, s.blk.get R.SUP_MTIME_STATUS_STATE = 2 → Runs .mtimeHoldover s fun t =>
    t.blk.get R.SUP_MTIME_STATUS_STATE = 3 ∧ t.blk.sys.b0 = s.blk.get R.SUP_MTIME_ERR_BOUND_NS ∧ t.blk.sys.leftLock = some s.blk.now ∧
    Frame s t [R.SUP_MTIME_STATUS_STATE]) ∧
  (∀ s t0, s.blk.get R.SUP_MTIME_STATUS_STATE = 3 → s.blk.sys.leftLock = some t0 → Runs .mtimeFree s fun t =>
    t.blk.get R.SUP_MTIME_STATUS_STATE = 4 ∧ t.blk.now = max s.blk.now (t0 + 14400 * 1000000000) ∧ Frame s t [R.SUP_MTIME_STATUS_STATE]) ∧
  (∀ s, s.blk.sys.step = none → Runs .mtimeStep s fun t => t = s) ∧
  (∀ s t0 d, s.blk.sys.step = some (t0, d) → 2 ≤ s.fld R.PWR_STATE_STATE → Runs .mtimeStep s fun t =>
    t.blk.sys.mtime = (((max s.blk.sys.mtime t0 : Nat) : Int) + d).toNat ∧ s.blk.now ≤ t.blk.now ∧ t.blk.sys.step = none ∧ t.fld R.SUP_MTIME_STATUS_STEPPED = 1 ∧
    t.fld R.ETH_EV_STEP_EV = 1 ∧ t.blk.eth.tbi = (s.blk.eth.tbi + 1) % 65536 ∧ t.blk.solver.realign = true ∧ MemKept s t ∧ QueueKept s t) ∧
  (∀ (k : Fin 9) s, Runs (.beacon k) s fun t =>
    t.blk.sys.islands = updAt s.blk.sys.islands k (fun x => { x with beaconAt := s.blk.now }) ∧ Frame s t [])

/-- Links and lanes of the fabric (R41, R43, R47, R48, R50): a packet that passes the stage of its source's island goes to the end of the queue of the link to its destination; a copy that arrives whole and in its lane's order at the far end is accepted, and its sender drops it; a reserved KIND is discarded, counted and shown; a copy that fails its check is sent again and counted in RETRIES, the fifth failure takes the link down; a link that trains is up again, and the packets that were in flight when it reset are gone; one that does not within 1 ms resets the island of the higher number and declares it lost; a returned credit lets the waiting packet that is served next transmit, with the lane's next link sequence number. -/
def Obligations.FabricLinkCommands : Prop :=
  (∀ (i e : Fin 9) p (n : Nat) (c : BitVec 16) (q : Fin 256) (u : Nat) s, routerOf p.origin = i.val → s.blk.badPacket i p n = none → rspKind p.kind = none → s.blk.unitsOf p e = [u] → routerOf u ≠ i.val → s.blk.barred u = false →
    Runs (.packetForward i e p n c q) s fun t => t.blk.fab.held.map (·.packet) = s.blk.fab.held.map (·.packet) ++ [p] ∧ Frame s t []) ∧
  (∀ (i e : Fin 9) p (n : Nat) (c : BitVec 16) (q : Fin 256) (j : Nat) s, routerOf p.origin ≠ i.val → s.fld (R.FAB_LINKk_UP (linkOf (routerOf p.origin) i)) = 1 →
    s.blk.inFlight (linkOf (routerOf p.origin) i) (s.blk.laneOf (linkOf (routerOf p.origin) i) p) (decide (routerOf p.origin < i.val)) = some j → (s.blk.fab.held[j]?).map (·.packet) = some p → (s.blk.fab.held[j]?).map (·.lseq) = some (some q.val) → c.toNat = linkCheck p →
    Runs (.packetForward i e p n c q) s fun t => t.blk.fab.held = s.blk.fab.held.eraseIdx j ∧ Frame s t []) ∧
  (∀ (i d : Fin 9) p n c (q : Fin 256) x s, oIsland p.origin = i → p.kind = .reserved x → Runs (.packetForward i d p n c q) s fun t =>
    t.blk.get R.FAB_ERR_CNT_COUNT = min (2 ^ 32 - 1) (s.blk.get R.FAB_ERR_CNT_COUNT + 1) ∧ t.blk.get R.FAB_ERR_STAT_BAD_KIND = 1 ∧
    t.blk.fab.held = s.blk.fab.held ∧ Frame s t [R.FAB_ERR_CNT_COUNT, R.FAB_ERR_STAT_BAD_KIND]) ∧
  (∀ (k : Fin 36) (l : Fin 8) up i h s, s.blk.inFlight k l up = some i → s.blk.fab.held[i]? = some h → h.attempts < 5 → Runs (.linkCheckFail k l up) s fun t =>
    t.blk.get (R.FAB_LINKk_RETRIES k) = min 65535 (s.blk.get (R.FAB_LINKk_RETRIES k) + 1) ∧ t.blk.fab.held[i]? = some { h with attempts := h.attempts + 1 } ∧ Frame s t [R.FAB_LINKk_RETRIES k]) ∧
  (∀ (k : Fin 36) (l : Fin 8) up i h s, s.blk.inFlight k l up = some i → s.blk.fab.held[i]? = some h → 5 ≤ h.attempts → Runs (.linkCheckFail k l up) s fun t =>
    t.blk.get (R.FAB_LINKk_UP k) = 0 ∧ t.blk.get R.FAB_ERR_STAT_LINK_RETRY = 1 ∧ t.blk.get (R.FAB_LINKk_RESETS k) = min 255 (s.blk.get (R.FAB_LINKk_RESETS k) + 1) ∧
    Frame s t ([R.FAB_LINKk_UP k, R.FAB_LINKk_RESETS k, R.FAB_ERR_STAT_LINK_RETRY] ++ (List.range 192).map R.FC_CH_LS_STATUS_NET_HOLD)) ∧
  (∀ (k : Fin 36) s, s.blk.get (R.FAB_LINKk_UP k) = 0 → s.blk.released (linkEnds k).1 = true → s.blk.released (linkEnds k).2 = true → s.blk.fab.waiting = [] →
    Runs (.linkRetrainDone k) s fun t => t.blk.get (R.FAB_LINKk_UP k) = 1 ∧ t.blk.fab.held.map (·.packet) = (s.blk.fab.held.filter fun h => !(h.link == k.val && h.sent)).map (·.packet) ∧
      Frame s t ([R.FAB_LINKk_UP k, R.FAB_ERR_CNT_COUNT, R.FAB_STATUS_TAG_WAITING] ++ (List.range 9).map R.FAB_TAG_ISLk_LIVE)) ∧
  (∀ (k : Fin 36) s t0, (s.blk.link k).downAt = some t0 → s.blk.get (R.FAB_LINKk_UP k) = 0 → s.blk.released (linkEnds k).1 = true → s.blk.released (linkEnds k).2 = true →
    s.blk.isLost (linkEnds k).1 = false → s.blk.isLost (linkEnds k).2 = false → Runs (.linkRetrainTimeout k) s fun t =>
    t = { s with blk := (((s.blk.reach (t0 + 1000000)).set R.FAB_ERR_STAT_LINK_FAILED 1).islandReset (linkEnds k).2 0x13).declareLost (linkEnds k).2 }) ∧
  (∀ (k : Fin 36) (l : Fin 8) up i h s, s.fld (R.FAB_LINKk_UP k) = 1 → (s.blk.link k).used.getD (dirOf l up) 0 ≤ 4 → s.blk.served k l up = some i → s.blk.fab.held[i]? = some h → Runs (.creditReturn k l up) s fun t =>
    t.blk.fab.held[i]? = some { h with lseq := some ((s.blk.link k).next.getD (dirOf l up) 0) } ∧ t.blk.fab.held.map (·.packet) = s.blk.fab.held.map (·.packet) ∧ Frame s t [])

/-- Tags and answers of the fabric (R42, R55, R56, R57, R62, R603): a response is delivered to the source of its tag and frees it; one without a live tag is counted, and one that comes late finds its tag in quarantine, is counted as late and frees it; an ERROR_NOTE to an island that takes no packet is counted; a source that waits for a tag as long as LIMIT_MS sets TAG_STARVED; a response timeout quarantines its tag and shows TIMEOUT; CLR_COUNTERS clears the three counters and those of every link. -/
def Obligations.FabricTagCommands : Prop :=
  (∀ p s, (s.blk.fab.tags.find? fun t => t.tag == p.tag) = none → s.blk.storeTagLive p.tag = false → Runs (.responseArrival p) s fun t =>
    t.blk.get R.FAB_ERR_CNT_COUNT = min (2 ^ 32 - 1) (s.blk.get R.FAB_ERR_CNT_COUNT + 1) ∧ t.blk.fab = s.blk.fab ∧ Frame s t [R.FAB_ERR_CNT_COUNT]) ∧
  (∀ p r s, (s.blk.fab.tags.find? fun t => t.tag == p.tag) = some r → r.quarantined = false → s.blk.now ≤ r.expires → s.blk.fab.waiting = [] → Runs (.responseArrival p) s fun t =>
    t.blk.fab.delivered = s.blk.fab.delivered ++ [(r.source, p)] ∧ t.blk.fab.tags = s.blk.fab.tags.filter (fun u => u.tag != p.tag) ∧ Frame s t ([R.FAB_STATUS_TAG_WAITING] ++ (List.range 9).map R.FAB_TAG_ISLk_LIVE)) ∧
  (∀ p r s, (s.blk.fab.tags.find? fun t => t.tag == p.tag) = some r → r.quarantined = true → s.blk.fab.waiting = [] → Runs (.responseArrival p) s fun t =>
    t.fld R.FAB_LATE_CNT_COUNT = s.counted R.FAB_LATE_CNT_COUNT ∧ t.blk.fab.delivered = s.blk.fab.delivered ∧ t.blk.fab.tags = s.blk.fab.tags.filter (fun u => u.tag != p.tag) ∧
    Frame s t ([R.FAB_LATE_CNT_COUNT, R.FAB_STATUS_TAG_WAITING] ++ (List.range 9).map R.FAB_TAG_ISLk_LIVE)) ∧
  (∀ (d : Fin 9) p s, p.kind = .errorNote → s.blk.shut d = true → Runs (.errorNoteArrival d p) s fun t =>
    t.blk.get R.FAB_ERR_CNT_COUNT = min (2 ^ 32 - 1) (s.blk.get R.FAB_ERR_CNT_COUNT + 1) ∧ Frame s t [R.FAB_ERR_CNT_COUNT]) ∧
  (∀ (d : Fin 9) p s, p.kind = .errorNote → s.blk.shut d = false → Runs (.errorNoteArrival d p) s fun t => t = s) ∧
  (∀ (o : Fin 65536) w s, (s.blk.fab.waiting.find? fun w => w.source == o.val) = some w → Runs (.tagWaitLimit o) s fun t =>
    t.blk.get R.FAB_ERR_STAT_TAG_STARVED = 1 ∧ t.blk.now = max s.blk.now (w.since + s.blk.get R.FAB_TAG_WAIT_LIMIT_LIMIT_MS * 1000000) ∧ t.blk.fab.waiting = s.blk.fab.waiting ∧
    Frame s t [R.FAB_ERR_STAT_TAG_STARVED]) ∧
  (∀ (g : Fin 8192) r s, (s.blk.fab.tags.find? fun t => t.tag == 0x8000 + g.val && !t.quarantined) = some r → Runs (.rspTimeout g) s fun t =>
    t.blk.get R.FAB_ERR_STAT_TIMEOUT = 1 ∧ (∀ u ∈ t.blk.fab.tags, u.tag = 0x8000 + g.val → u.quarantined = true) ∧ t.blk.now = max s.blk.now r.expires ∧
    Frame s t [R.FAB_ERR_STAT_TIMEOUT, R.FAB_ERR_CNT_COUNT]) ∧
  (∀ s, Runs .clrCounters s fun t => t.blk.get R.FAB_ERR_CNT_COUNT = 0 ∧ t.blk.get R.FAB_LATE_CNT_COUNT = 0 ∧ t.blk.get R.FAB_TAG_WAIT_CNT_COUNT = 0 ∧
    (∀ k : Fin 36, t.blk.get (R.FAB_LINKk_RESETS k) = 0 ∧ t.blk.get (R.FAB_LINKk_RETRIES k) = 0) ∧ t.blk.fab.status = 0 ∧
    Frame s t ([R.FAB_ERR_CNT_COUNT, R.FAB_LATE_CNT_COUNT, R.FAB_TAG_WAIT_CNT_COUNT] ++ (List.range 36).map R.FAB_LINKk_RESETS ++ (List.range 36).map R.FAB_LINKk_RETRIES))

/-- Islands (R22 to R26, R30, R129): a reset of an island that is neither held nor without supply puts it in reset with its cause, its count and its defaults-applied flag, queues its reload, and the third within 60 s holds it instead; an island in reset that is declared lost shows LOST and leaves no request to it without an answer; a released island that is neither held nor barred begins its reload; a completed reload runs the island and clears LOST and its pending bit, and one that meets a section which cannot be loaded leaves it in reset; a correction of module time of at most 100 µs slews it and leaves the state LOCKED, a larger first one announces a step at least 10 ms ahead. -/
def Obligations.IslandCommands : Prop :=
  (∀ (k : Fin 8) (c : Fin 4) s, s.blk.bitOf R.SUP_ISL_STATUS_HELD (k + 1) = false → (s.blk.island (k + 1)).run ≠ .poweredDown →
    Runs (.islandResetAssert k c) s fun t => (t.blk.island (k + 1)).run = .inReset ∧ t.fld (R.SUP_RST_ISLk_CAUSE (k + 1)) = 0x10 + c.val ∧ t.fld (R.SUP_RST_ISLk_COUNT (k + 1)) = s.counted (R.SUP_RST_ISLk_COUNT (k + 1)) ∧
      t.blk.bitOf R.SUP_DEF_FLAGS_ISLAND (k + 1) = true ∧ t.blk.bitOf R.IMG_STATUS_RELOAD_PENDING (k + 1) = decide ((recent s.blk.now (60 * 1000000000) (s.blk.island (k + 1)).resets).length < 2) ∧
      t.blk.bitOf R.SUP_ISL_STATUS_HELD (k + 1) = decide (2 ≤ (recent s.blk.now (60 * 1000000000) (s.blk.island (k + 1)).resets).length) ∧ t.blk.now = s.blk.now ∧ MemKept s t ∧ QueueKept s t) ∧
  (∀ (k : Fin 8) (c : Fin 4) s, s.blk.bitOf R.SUP_ISL_STATUS_HELD (k + 1) = true ∨ (s.blk.island (k + 1)).run = .poweredDown → Runs (.islandResetAssert k c) s fun t => t = s) ∧
  (∀ (k : Fin 8) s, s.blk.isLost (k + 1) = false → s.blk.bitOf R.IMG_STATUS_RELOAD_PENDING (k + 1) = true ∨ s.blk.bitOf R.SUP_ISL_STATUS_HELD (k + 1) = true →
    Runs (.islandLostDeclare k) s fun t => t.blk.isLost (k + 1) = true ∧ (s.blk.fab.waiting = [] → s.blk.img.step = none → (∀ u ∈ t.blk.fab.tags, u.target ≠ k.val + 1) ∧ ∀ h ∈ t.blk.fab.held, heldTo (k + 1) h = false) ∧
      (k = 2 → s.fld R.SUP_MTIME_STATUS_STATE = 2 → t.fld R.SUP_MTIME_STATUS_STATE = 3) ∧ t.blk.now = s.blk.now ∧ t.blk.sys.islands = s.blk.sys.islands ∧ MemKept s t ∧ QueueKept s t) ∧
  (∀ (k : Fin 8) s, s.blk.isLost (k + 1) = true → Runs (.islandLostDeclare k) s fun t => t = s) ∧
  (∀ (k : Fin 8) s, (s.blk.island (k + 1)).run = .inReset → s.blk.bitOf R.SUP_ISL_STATUS_HELD (k + 1) = false → s.blk.sys.abandoned.contains (k.val + 1) = false → s.blk.upd.safeHold = false → s.blk.pwr.inReset = false →
    Runs (.islandResetRelease k) s fun t =>
      t.blk.sys.islands = updAt s.blk.sys.islands (k + 1) (fun x => { x with run := .reloading, beaconAt := s.blk.now }) ∧ Frame s t []) ∧
  (∀ (k : Fin 8) s x, (s.blk.island (k + 1)).run = .reloading → s.blk.sys.reload = some (k.val + 1) → s.blk.loadFault (inIsland (k + 1)) = some x →
    Runs (.islandReloadComplete k) s fun t => t.blk = s.blk.reloadFails (k + 1) x.1 x.2 ∧ (t.blk.island (k + 1)).run = .inReset ∧ t.blk.sys.reload ≠ some (k.val + 1) ∧ MemKept s t ∧ QueueKept s t) ∧
  (∀ (k : Fin 8) s, (s.blk.island (k + 1)).run = .reloading → s.blk.sys.reload = some (k.val + 1) → s.blk.loadFault (inIsland (k + 1)) = none →
    Runs (.islandReloadComplete k) s fun t => (t.blk.island (k + 1)).run = .running ∧ t.blk.isLost (k + 1) = false ∧ t.blk.bitOf R.IMG_STATUS_RELOAD_PENDING (k + 1) = false ∧ MemKept s t ∧ QueueKept s t) ∧
  (∀ (ofs : Int) s, 2 ≤ s.blk.get R.PWR_STATE_STATE → ofs.natAbs ≤ 100000000 → s.blk.get R.SUP_MTIME_STATUS_STATE ≠ 0 → Runs (.mtimeCorrection ofs) s fun t =>
    t.blk.get R.SUP_MTIME_STATUS_STATE = 2 ∧ t.blk.sys.slew = ofs / 1000 ∧ t.blk.sys.leftLock = none ∧ t.blk.sys.mtime = s.blk.sys.mtime ∧ t.blk.now = s.blk.now ∧
    Frame s t [R.SUP_MTIME_STATUS_STATE, R.SUP_MTIME_ERR_BOUND_NS]) ∧
  (∀ (ofs : Int) s, 2 ≤ s.blk.get R.PWR_STATE_STATE → 100000000 < ofs.natAbs → s.blk.get R.SUP_MTIME_STATUS_STATE ≤ 1 → s.blk.sys.stepped = false → s.blk.sys.step = none →
    Runs (.mtimeCorrection ofs) s fun t => t.blk.sys.step.map (·.2) = some (-ofs / 1000) ∧ (∀ x ∈ t.blk.sys.step, s.blk.sys.mtime + 10 * 1000000 ≤ x.1) ∧ t.blk.sys.mtime = s.blk.sys.mtime ∧ Frame s t []) ∧
  (∀ (ofs : Int) s, 100000000 < ofs.natAbs → 2 ≤ s.blk.get R.SUP_MTIME_STATUS_STATE ∨ s.blk.sys.stepped = true → Runs (.mtimeCorrection ofs) s fun t => t = s)

/-- Register requests (R40, R605): a request that is refused changes nothing but its answer and the count of answers that find no way back, whole or not at all; a permitted one reads or writes every word, answers with status 0, and a write of a register field without a step of its own stores its value. -/
def Obligations.RequestCommands : Prop :=
  (∀ p l s, p.kind = .readReq → s.blk.up = true → s.blk.rowDown (bytesAt p.data 0 4) = false → p.data.length = 8 → 1 ≤ bytesAt p.data 4 2 → bytesAt p.data 4 2 ≤ 1024 →
    unmappedAt (bytesAt p.data 0 4) (bytesAt p.data 4 2) = none → isRetained (bytesAt p.data 0 4) = false →
    (∀ j, j < bytesAt p.data 4 2 → s.blk.poisonedWord l (bytesAt p.data 0 4 + 4 * j) = false) → Runs (.readReq p l) s fun t =>
    t = { s with blk := (s.readOn (bytesAt p.data 0 4) (bytesAt p.data 4 2)).2.respond p (bytesAt p.data 0 4) 0 0 ((s.readOn (bytesAt p.data 0 4) (bytesAt p.data 4 2)).1.flatMap (le 4)) }) ∧
  (∀ p l j s, p.kind = .readReq → s.blk.up = true → s.blk.rowDown (bytesAt p.data 0 4) = false → p.data.length = 8 → 1 ≤ bytesAt p.data 4 2 → bytesAt p.data 4 2 ≤ 1024 →
    unmappedAt (bytesAt p.data 0 4) (bytesAt p.data 4 2) = some j → Runs (.readReq p l) s fun t => t.blk.fab.status = 0x02 ∧ Frame s t [R.FAB_ERR_CNT_COUNT]) ∧
  (∀ p l s, p.kind = .readReq → s.blk.up = true → s.blk.rowDown (bytesAt p.data 0 4) = false → p.data.length ≠ 8 ∨ bytesAt p.data 4 2 = 0 ∨ 1024 < bytesAt p.data 4 2 → Runs (.readReq p l) s fun t =>
    t.blk.fab.status = 0x08 ∧ Frame s t [R.FAB_ERR_CNT_COUNT]) ∧
  (∀ p l c j s, p.kind = .writeReq → s.blk.up = true → s.blk.rowDown (bytesAt p.data 0 4) = false → 1 ≤ bytesAt p.data 4 2 → bytesAt p.data 4 2 ≤ 1022 → p.data.length = 8 + 4 * bytesAt p.data 4 2 →
    s.blk.writeRefusal s.mem p.origin (bytesAt p.data 0 4) (writtenWords p.data (bytesAt p.data 4 2)) = some (c, j) →
    Runs (.writeReq p l) s fun t => t.blk.fab.status = c ∧ Frame s t [R.FAB_ERR_CNT_COUNT]) ∧
  (∀ p l u s, p.kind = .writeReq → s.blk.up = true → s.blk.rowDown (bytesAt p.data 0 4) = false → 1 ≤ bytesAt p.data 4 2 → bytesAt p.data 4 2 ≤ 1022 → p.data.length = 8 + 4 * bytesAt p.data 4 2 →
    s.blk.writeRefusal s.mem p.origin (bytesAt p.data 0 4) (writtenWords p.data (bytesAt p.data 4 2)) = none → isRetained (bytesAt p.data 0 4) = false →
    s.storeWords s.blk (((writtenWords p.data (bytesAt p.data 4 2)).zipIdx).foldl (fun (b : Block) e => b.storeWord (bytesAt p.data 0 4 + 4 * e.2) e.1) s.blk) p.origin (bytesAt p.data 0 4) 0 (writtenWords p.data (bytesAt p.data 4 2)) = (u, 0, 0) → Runs (.writeReq p l) s fun t =>
    t = { u with blk := u.blk.respond p (bytesAt p.data 0 4) 0 0 [] }) ∧
  (∀ (o : Fin 65536) (a v : BitVec 32) c j s, s.blk.up = true → s.blk.writeRefusal s.mem o a.toNat [v.toNat] = some (c, j) → Runs (.registerWrite o a v) s fun t =>
    t = { s with blk := s.blk.status c }) ∧
  (∀ (o : Fin 65536) (a v : BitVec 32) s, s.blk.up = true → s.blk.writeRefusal s.mem o a.toNat [v.toNat] = none → isRetained a.toNat = false → s.blk.wordRefusal (s.blk.storeWord a.toNat v.toNat) a.toNat v.toNat = none →
    wordActs o a.toNat v.toNat = [] → Runs (.registerWrite o a v) s fun t => t = { s.store a.toNat v.toNat with blk := (s.store a.toNat v.toNat).blk.status 0 })

/-- Loading (R68, R69, R70, R80, R81): what LOAD packets do at a target that accepts them, and what the loader does with answers, deadlines and partial reconfigurations: DATA in order adds to what was received; a COMMIT of a section staged whole, within the limits of its target, is armed for its INSTANT; ABORT discards the staging of its target; QUIESCE quiesces the target and is answered when it has come to rest; START moves to its INSTANT and starts the target; an answer lets the loader go on with its step, and an error ends it; at the INSTANT an armed FABRIC section is the configuration. -/
def Obligations.LoadCommands : Prop :=
  (∀ m s, s.blk.barred m.target = false → (s.blk.loadSection m).any (fun x => (sectionTargets x).contains m.target) = true → s.blk.img.staged.find? (Staging.isOf m) = none → m.offset = 0 → m.data.length ≤ m.total →
    Runs (.loadData m) s fun t =>
      t.blk.img.staged = s.blk.img.staged.filter (fun y => !Staging.isOf m y) ++ [{ target := m.target, section_ := m.section_, total := m.total, data := m.data }] ∧
      t.blk.out.length = s.blk.out.length + 1 ∧ Frame s t []) ∧
  (∀ m y s, s.blk.barred m.target = false → (s.blk.loadSection m).any (fun x => (sectionTargets x).contains m.target) = true → s.blk.img.staged.find? (Staging.isOf m) = some y → m.offset = y.data.length → m.offset + m.data.length ≤ y.total →
    Runs (.loadData m) s fun t => t.blk.img.staged = s.blk.img.staged.filter (fun y => !Staging.isOf m y) ++ [{ y with data := y.data ++ m.data }] ∧ t.blk.out.length = s.blk.out.length + 1 ∧ Frame s t []) ∧
  (∀ m x s, s.blk.barred m.target = false → s.blk.loadSection m = some x → (sectionTargets x).contains m.target = true → s.blk.limitCode x = 0 → (s.blk.img.staged.any fun y => Staging.isOf m y && y.data == x.bytes) = true →
    Runs (.loadCommit m) s fun t =>
      t.blk.img.staged = s.blk.img.staged.filter (fun y => !Staging.isOf m y) ++ [{ target := m.target, section_ := m.section_, total := x.length, data := x.bytes, armed := some m.instant }] ∧ Frame s t []) ∧
  (∀ m x s, s.blk.barred m.target = false → s.blk.loadSection m = some x → (sectionTargets x).contains m.target = true → x.length ≠ 0 → (s.blk.img.staged.any fun y => Staging.isOf m y && y.data == x.bytes) = false →
    Runs (.loadCommit m) s fun t => t = { s with blk := s.blk.loadAnswer m SECTION_BAD }) ∧
  (∀ m s, s.blk.barred m.target = false → s.blk.quiesced m.target = false → Runs (.loadAbort m) s fun t => t.blk.img.staged = s.blk.img.staged.filter (fun y => y.target != m.target) ∧ Frame s t []) ∧
  (∀ m s, s.blk.barred m.target = false → (s.blk.targetQuiesce m.target).restless m.target = false → Runs (.loadQuiesce m) s fun t =>
    t = { s with blk := (s.blk.targetQuiesce m.target).loadAnswer m 0 } ∧ t.blk.quiesced m.target = true) ∧
  (∀ m s, s.blk.barred m.target = false → (s.blk.targetQuiesce m.target).restless m.target = true → Runs (.loadQuiesce m) s fun t =>
    t.blk.img.owing = (s.blk.targetQuiesce m.target).img.owing ++ [m] ∧ t.blk.out = (s.blk.targetQuiesce m.target).out ∧ MemKept s t ∧ QueueKept s t) ∧
  (∀ m s, s.blk.barred m.target = false → Runs (.loadStart m) s fun t => t = { s with blk := ((s.blk.toModule m.instant).targetStart m.target).loadAnswer m 0 } ∧ t.blk.quiesced m.target = false) ∧
  (∀ m (c : Fin 256) p s, s.blk.img.step = some p → p.stage = .data → p.plan = [] → 1 < p.open_ → c = 0 → s.blk.fab.waiting = [] → Runs (.loadRsp m c) s fun t =>
    t.blk.img.step = some { p with open_ := p.open_ - 1 } ∧ t.blk.fab.tags = s.blk.fab.tags.filter (fun u => u.tag != m.tag) ∧ Frame s t tagFields) ∧
  (∀ m (c : Fin 256) p s, s.blk.img.step = some p → c ≠ 0 → Runs (.loadRsp m c) s fun t => t.fld R.IMG_PR_STATUS_STATE = 5 ∧ t.fld R.IMG_PR_STATUS_CODE = c.val ∧ t.fld R.IMG_STATUS_STATE = 3 ∧ t.fld R.IMG_STATUS_CODE = c.val ∧
    t.blk.img.step = none ∧ t.blk.img.prList = [] ∧ MemKept s t ∧ QueueKept s t) ∧
  (∀ m (c : Fin 256) s, s.blk.img.step = none → c ≠ 0 → s.blk.img.cells.contains (oIsland m.target, oCell m.target) = false → s.blk.sys.reload ≠ some (oIsland m.target) →
    Runs (.loadRsp m c) s fun t => t = { s with blk := (s.blk.freeTag m.tag).loadError c m.section_ }) ∧
  (∀ s, s.blk.img.staged.filterMap (·.armed) = [] → Runs .commitInstant s fun t => t = s) ∧
  (∀ s y x, s.blk.img.step = none → s.blk.img.staged = [y] → y.armed = some s.blk.sys.mtime → s.blk.img.active.sections[y.section_]? = some x → oIsland y.target < 6 →
    x.type = 0x10 → x.fields = [] → x.policy = none → x.problem = none →
    Runs .commitInstant s fun t => t.blk.fab.routes = x.routes ∧ t.blk.fab.dests = x.dests ∧ t.blk.fab.periodic = x.periodic ∧ t.blk.img.staged = [] ∧ MemKept s t ∧ QueueKept s t)

/-- Partial reconfiguration (R70, R80, R81) and the reload of a cell (R72, R73): a permitted PR_START quiesces its targets and shows state 1; PR_ABORT, a missing answer and the timeout end it with its old configuration kept; a cell that awaits its reload is started from its sections and no longer held, or held off when they cannot be loaded. -/
def Obligations.ReconfigurationCommands : Prop :=
  (∀ s c e, s.blk.prRefusal = some (c, e) → Runs .prStart s fun t =>
    t.blk.fab.status = c ∧ t.fld R.IMG_PR_STATUS_CODE = c % 2 ^ R.IMG_PR_STATUS_CODE.wid ∧ t.blk.img = s.blk.img ∧
    Frame s t [R.IMG_PR_STATUS_CODE, R.IMG_PR_STATUS_ENTRY, R.IMG_STATUS_CODE]) ∧
  (∀ s, s.blk.prRefusal = none → Runs .prStart s fun t => t.blk.img.prEnd = s.blk.now + s.fld R.IMG_PR_TIMEOUT_TIMEOUT_MS * 1000000 ∧ t.fld R.IMG_PR_STATUS_STATE = 1 ∧ t.fld R.IMG_PR_STATUS_CODE = 0 ∧
    t.fld R.IMG_STATUS_STATE = 4 ∧ t.blk.img.step.isSome = true ∧ t.blk.fab.status = 0 ∧
    Frame s t ([R.IMG_PR_STATUS_STATE, R.IMG_PR_STATUS_CODE, R.IMG_PR_STATUS_ENTRY, R.IMG_STATUS_STATE] ++ tagFields)) ∧
  (∀ s p, s.blk.img.step = some p → Runs .prAbort s fun t =>
    t.fld R.IMG_PR_STATUS_STATE = 5 ∧ t.fld R.IMG_PR_STATUS_CODE = 0 ∧ t.fld R.IMG_STATUS_STATE = 3 ∧ t.blk.img.step = none ∧ t.blk.img.prList = [] ∧ t.blk.fab.status = 0 ∧
    Frame s t ([R.IMG_PR_STATUS_STATE, R.IMG_PR_STATUS_CODE, R.IMG_PR_STATUS_ENTRY, R.IMG_STATUS_STATE, R.IMG_STATUS_CODE] ++ tagFields)) ∧
  (∀ s p, s.blk.img.step = some p → p.stage ≠ .armed → Runs .prTimeout s fun t =>
    t.fld R.IMG_PR_STATUS_STATE = 5 ∧ t.fld R.IMG_PR_STATUS_CODE = 0x4F ∧ t.blk.img.step = none ∧ t.blk.now = max s.blk.now s.blk.img.prEnd ∧
    Frame s t ([R.IMG_PR_STATUS_STATE, R.IMG_PR_STATUS_CODE, R.IMG_PR_STATUS_ENTRY, R.IMG_STATUS_STATE, R.IMG_STATUS_CODE] ++ tagFields)) ∧
  (∀ s p, s.blk.img.step = some p → p.stage = .committing → Runs .loadAnswerDeadline s fun t =>
    t.fld R.IMG_PR_STATUS_STATE = 5 ∧ t.blk.img.step = none ∧ t.blk.free = s.blk.free + 1 ∧
    Frame s t ([R.IMG_PR_STATUS_STATE, R.IMG_PR_STATUS_CODE, R.IMG_PR_STATUS_ENTRY, R.IMG_STATUS_STATE, R.IMG_STATUS_CODE] ++ tagFields)) ∧
  (∀ (i : Fin 9) (c : Fin 31) x s, s.blk.img.cells.contains (i.val, c.val) = true →
    ({ s.blk with img := { s.blk.img with cells := s.blk.img.cells.filter (· != (i.val, c.val)) } }).loadFault (coversCell i c) = some x →
    Runs (.cellReloadComplete i c) s fun t => t.blk.bitOf (R.SUP_CELL_HELDk_CELL i) c = true ∧
      t = { s with blk := ({ s.blk with img := { s.blk.img with cells := s.blk.img.cells.filter (· != (i.val, c.val)) } }).cellHeld i c x.1 x.2 }) ∧
  (∀ (i : Fin 9) (c : Fin 31) s, s.blk.img.cells.contains (i.val, c.val) = true →
    ({ s.blk with img := { s.blk.img with cells := s.blk.img.cells.filter (· != (i.val, c.val)) } }).loadFault (coversCell i c) = none →
    Runs (.cellReloadComplete i c) s fun t => t.blk.img.cells = s.blk.img.cells.filter (· != (i.val, c.val)) ∧ t.blk.bitOf (R.SUP_CELL_HELDk_CELL i) c = false ∧ MemKept s t ∧ QueueKept s t)

/-- Mode requests (R94, R95, R99): a request whose bits the permissions of its source cover waits unaltered for the next boundary; a request none of whose bits is permitted is counted and dropped; a MODE packet of unknown form, or of an origin that its source does not name, is counted and dropped. -/
def Obligations.ModeRequestCommands : Prop :=
  (∀ p s, p.data.length ≠ 8 → Runs (.modeRequest p) s fun t =>
    t.fld R.MODE_DROP_CNT_COUNT = s.counted R.MODE_DROP_CNT_COUNT ∧ t.blk.mode = s.blk.mode ∧ Frame s t [R.MODE_DROP_CNT_COUNT]) ∧
  (∀ src set clr conf o s, 1 ≤ src → src ≤ 3 → set < 4096 → clr < 4096 → conf < 4096 → s.blk.modeOrigin src o = true → s.blk.mode.live = true →
    set &&& s.blk.modePerm src R.MODE_PERM_SRCs_SET false = set → clr &&& s.blk.modePerm src R.MODE_PERM_SRCs_CLR false = clr →
    conf &&& s.blk.modePerm src R.MODE_CONF_SRCs_CONF true = conf → set + clr + conf ≠ 0 →
    Runs (.modeRequest { kind := .mode, stream := 0xFF02, origin := o, data := [1, src] ++ le 2 set ++ le 2 clr ++ le 2 conf }) s fun t =>
      t.blk.mode.reqs = s.blk.mode.reqs ++ [{ source := src, set := set, clr := clr, conf := conf }] ∧ Frame s t []) ∧
  (∀ (v : BitVec 12) s, v ≠ 0 → s.blk.mode.live = true → v.toNat &&& s.blk.modePerm 4 R.MODE_PERM_SRCs_SET false = v.toNat → Runs (.modeReqSet v) s fun t =>
    t.blk.mode.reqs = s.blk.mode.reqs ++ [{ source := 4, set := v.toNat, clr := 0, conf := 0 }] ∧ t.blk.fab.status = 0 ∧ Frame s t []) ∧
  (∀ (v : BitVec 12) s, v.toNat &&& s.blk.modePerm 4 R.MODE_PERM_SRCs_SET false = 0 → v ≠ 0 → Runs (.modeReqSet v) s fun t =>
    t.blk.mode = s.blk.mode ∧ t.fld R.MODE_DROP_CNT_COUNT = s.counted R.MODE_DROP_CNT_COUNT ∧ t.blk.fab.status = 0 ∧ Frame s t [R.MODE_DROP_CNT_COUNT]) ∧
  (∀ (v : BitVec 12) s, v ≠ 0 → s.blk.mode.live = true → v.toNat &&& s.blk.modePerm 4 R.MODE_PERM_SRCs_CLR false = v.toNat → Runs (.modeReqClr v) s fun t =>
    t.blk.mode.reqs = s.blk.mode.reqs ++ [{ source := 4, set := 0, clr := v.toNat, conf := 0 }] ∧ t.blk.fab.status = 0 ∧ Frame s t []) ∧
  (∀ (v : BitVec 12) s, v ≠ 0 → s.blk.mode.live = true → v.toNat &&& s.blk.modePerm 4 R.MODE_CONF_SRCs_CONF true = v.toNat → Runs (.modeConfirm v) s fun t =>
    t.blk.mode.reqs = s.blk.mode.reqs ++ [{ source := 4, set := 0, clr := 0, conf := v.toNat }] ∧ t.blk.fab.status = 0 ∧ Frame s t [])

/-- Mode boundaries and their timers (R87, R88, R90, R91, R96, R97, R101, R112): a boundary takes every request that waits, a clear before a set, and DEGRADED follows its request or its condition; a wait or a confirmation that lasts as long as its limit asks for its mode to be cleared; supervision that is not heard ends, and takes DRIVERLESS that acts to its confirmation with a controlled stop; a jog ends at its lapse; the machine becomes stationary, or moves again and suspends a run-on; an accepted calibration of the mass-flow sensor replaces the value that its run measured. -/
def Obligations.ModeTimerCommands : Prop :=
  (∀ f s, s.blk.mode.live = true → Runs (.modeEvaluate f) s fun t => t.blk.mode.reqs = [] ∧ t.blk.mode.facts = f ∧
    (∀ k < 12, 1 ≤ k → bit (t.fld R.MODE_ACTIVE_FLAGS) k = (!s.blk.mode.reqs.any (fun r => bit r.clr k) && (bit (s.fld R.MODE_ACTIVE_FLAGS) k || s.blk.mode.reqs.any (fun r => bit r.set k)))) ∧
    (s.blk.degraded = true → bit (t.fld R.MODE_ACTIVE_FLAGS) 0 = true) ∧ MemKept s t ∧ QueueKept s t) ∧
  (∀ (k : Fin 12) s, s.blk.modeState k = 1 → s.blk.managerUp = true → Runs (.waitExpired k) s fun t =>
    t.blk.mode.reqs = s.blk.mode.reqs ++ [{ source := 0, set := 0, clr := 2 ^ k.val, cause := 3 }] ∧
    t.blk.now = max s.blk.now (s.blk.mode.entered.getD k 0 + s.fld R.MODE_LIMITS_WAIT_S * 1000000000) ∧ Frame s t []) ∧
  (∀ (k : Fin 12) s, s.blk.modeState k = 3 → s.blk.managerUp = true → Runs (.confirmExpired k) s fun t =>
    t.blk.mode.reqs = s.blk.mode.reqs ++ [{ source := 0, set := 0, clr := 2 ^ k.val, cause := 4 }] ∧
    t.blk.now = max s.blk.now (s.blk.mode.entered.getD k 0 + s.fld R.MODE_LIMITS_CONFIRM_S * 1000000000) ∧ Frame s t []) ∧
  (∀ s t0, s.blk.mode.hbEnd = some t0 → Runs .supervisionLost s fun t => t.blk.mode.hbEnd = none ∧ t.blk.now = max s.blk.now (t0 + 1) ∧
    (s.blk.managerUp = true → s.blk.acting mDRIVERLESS = true → t.blk.modeState mDRIVERLESS = 3 ∧ t.blk.mode.stopping = !s.blk.flag R.PWR_STATUS_STATIONARY) ∧
    (s.blk.acting mDRIVERLESS = false → t.fld R.MODE_STATE_STATE = s.fld R.MODE_STATE_STATE) ∧ MemKept s t ∧ QueueKept s t) ∧
  (∀ (ch : Fin 192) s, (s.blk.mode.jogs.find? (·.ch == ch.val)) = none → Runs (.jogLapse ch) s fun t => t = s) ∧
  (∀ (ch : Fin 192) j s, (s.blk.mode.jogs.find? (·.ch == ch.val)) = some j → Runs (.jogLapse ch) s fun t =>
    t.blk.mode.jogs = s.blk.mode.jogs.filter (·.ch != ch.val) ∧ t.blk.now = max s.blk.now (j.at_ + 200 * 1000000) ∧ MemKept s t ∧ QueueKept s t ∧
    ((j.held || j.shadow) = true → s.blk.mode.live = false → Frame s t [])) ∧
  (∀ s, s.fld R.PWR_STATE_STATE = 3 → s.fld R.PWR_STATUS_STATIONARY = 0 → Runs .stationary s fun t =>
    t.fld R.PWR_STATUS_STATIONARY = 1 ∧ t.blk.mode.stopping = false ∧
    (s.fld R.PWR_STATUS_SHUT_PENDING = 1 → t.blk.pwr.ignWaitEnd = none ∧ t.blk.pwr.runonEnd = some (s.blk.now + if s.blk.pwr.byReq then 0 else s.fld R.PWR_CFG_RUNON_S * 1000000000)) ∧
    Frame s t [R.PWR_STATUS_STATIONARY]) ∧
  (∀ s, Runs .stationaryLost s fun t => t.fld R.PWR_STATUS_STATIONARY = 0 ∧
    (s.blk.pwr.runonEnd.isSome = true → s.blk.inRun = true → t.blk.pwr.runonEnd = none ∧ t.blk.pwr.ignWaitEnd = some (s.blk.now + s.fld R.PWR_CFG_IGN_WAIT_S * 1000000000)) ∧
    Frame s t [R.PWR_STATUS_STATIONARY]) ∧
  (∀ s, s.fld R.YLD_CAL_STAT_READY = 1 → s.fld R.YLD_CAL_STAT_RUN = 2 → Runs .modeCalAccept s fun t =>
    t.fld R.YLD_MF_REF_K_M = s.fld R.YLD_CAL_CAND_FIRST % 2 ^ R.YLD_MF_REF_K_M.wid ∧ t.blk.sys.calKept = true ∧ t.blk.fab.status = 0 ∧ QueueKept s t ∧
    (s.blk.sys.rings = [] → Frame s t [R.YLD_MF_REF_K_M]))

/-- Resets (Table 5.9, R122, R125 to R128): every reset of module scope records its cause, leaves the module in reset with nothing in flight, and leaves every byte of the backup domain and of the retained store as it was; a keyed write without its key does nothing but answer BAD_KEY; a reset of an island or of a cell that names no such target answers BAD_TARGET. -/
def Obligations.ResetCommands : Prop :=
  (∀ s v, s.blk.pwr.validAt = some v → s.fld R.PWR_STATE_STATE = 0 → s.blk.pwr.inReset = false → Runs .backupExit s fun t =>
    t.fld R.SUP_RST_CAUSE_CAUSE = (if s.blk.pwr.railUp then 2 else 1) ∧ t.blk.pwr.inReset = true ∧ t.blk.out = [] ∧ MemKept s t ∧ QueueKept s t) ∧
  (∀ (low : Nat) s, 10 * 1000 ≤ low → s.fld R.PWR_STATE_STATE ≠ 0 → Runs (.resetInAssert low) s fun t =>
    t.fld R.SUP_RST_CAUSE_CAUSE = 3 ∧ t.blk.pwr.inReset = true ∧ t.blk.pwr.resetLow = true ∧ t.blk.out = [] ∧ MemKept s t ∧ QueueKept s t) ∧
  (∀ (low : Nat) s, low < 2 * 1000 → Runs (.resetInAssert low) s fun t => t = s) ∧
  (∀ (low : Nat) s, 10 * 1000 ≤ low → s.fld R.PWR_STATE_STATE = 0 → Runs (.resetInAssert low) s fun t => t.blk.pwr.resetLow = true ∧ Frame s t []) ∧
  (∀ ign n m s, s.blk.pwr.resetLow = true → s.blk.pwr.inReset = true → Runs (.resetInRelease ign n m) s fun t =>
    t.blk.pwr.resetLow = false ∧ t.blk.pwr.inReset = false ∧ t.blk.pwr.wake = none ∧ QueueKept s t) ∧
  (∀ ign n m s, s.blk.pwr.resetLow = true → s.blk.pwr.inReset = false → Runs (.resetInRelease ign n m) s fun t => t.blk.pwr.resetLow = false ∧ Frame s t []) ∧
  (∀ s, Runs (.supRstModule 0xB1EF) s fun t => t.fld R.SUP_RST_CAUSE_CAUSE = 4 ∧ t.blk.pwr.inReset = true ∧ t.blk.fab.status = 0 ∧ t.blk.out = [] ∧ QueueKept s t ∧
    (s.blk.sys.rings = [] → MemKept s t)) ∧
  (∀ (key : BitVec 16) s, key ≠ 0xB1EF → ∀ c ∈ [Instr.supRstModule key, .supRstIsland key, .supRstCell key], Runs c s fun t => t = { s with blk := s.blk.status 0x70 }) ∧
  (∀ s, badTarget (s.fld R.SUP_RST_TARGET_ORIGIN) false = true → Runs (.supRstIsland 0xB1EF) s fun t => t = { s with blk := s.blk.status 0x71 }) ∧
  (∀ (k : Fin 8) s, s.fld R.SUP_RST_TARGET_ORIGIN = islOrigin (k + 1) → s.blk.bitOf R.SUP_ISL_STATUS_HELD (k + 1) = false → (s.blk.island (k + 1)).run ≠ .poweredDown → s.blk.sys.islands.length = 9 →
    Runs (.supRstIsland 0xB1EF) s fun t => (t.blk.island (k + 1)).run = .inReset ∧ t.fld (R.SUP_RST_ISLk_CAUSE (k + 1)) = 0x10 ∧ t.fld (R.SUP_RST_ISLk_COUNT (k + 1)) = s.counted (R.SUP_RST_ISLk_COUNT (k + 1)) ∧
      t.blk.bitOf R.SUP_DEF_FLAGS_ISLAND (k + 1) = true ∧ t.blk.fab.status = 0 ∧ MemKept s t ∧ QueueKept s t) ∧
  (∀ s, badTarget (s.fld R.SUP_RST_TARGET_ORIGIN) true = true → Runs (.supRstCell 0xB1EF) s fun t => t = { s with blk := s.blk.status 0x71 }) ∧
  (∀ s, badTarget (s.fld R.SUP_RST_TARGET_ORIGIN) true = false → Runs (.supRstCell 0xB1EF) s fun t =>
    t.fld R.SUP_RST_CELL_LAST_CAUSE = 0x20 ∧ t.fld R.SUP_RST_CELL_LAST_ORIGIN = org (oIsland (s.fld R.SUP_RST_TARGET_ORIGIN)) (oCell (s.fld R.SUP_RST_TARGET_ORIGIN)) 127 % 65536 ∧
    t.blk.fab.status = 0 ∧ MemKept s t ∧ QueueKept s t) ∧
  (∀ (k : Fin 8) s, s.blk.released (k + 1) = true → s.blk.bitOf R.SUP_ISL_STATUS_HELD (k + 1) = false → s.blk.sys.islands.length = 9 → Runs (.islandWatchdog k) s fun t =>
    (t.blk.island (k + 1)).run = .inReset ∧ t.fld (R.SUP_RST_ISLk_CAUSE (k + 1)) = 0x11 ∧ t.fld (R.SUP_RST_ISLk_COUNT (k + 1)) = s.counted (R.SUP_RST_ISLk_COUNT (k + 1)) ∧
    t.blk.now = max s.blk.now ((s.blk.island (k + 1)).beaconAt + s.blk.sys.watchdog * 1000000) ∧ MemKept s t ∧ QueueKept s t) ∧
  (∀ s, s.fld R.PWR_STATE_STATE ≠ 0 → s.blk.pwr.inReset = false → Runs .island0Watchdog s fun t =>
    t.fld R.SUP_RST_CAUSE_CAUSE = 5 ∧ t.blk.pwr.inReset = true ∧ t.blk.out = [] ∧ MemKept s t ∧ QueueKept s t) ∧
  (∀ s, s.fld R.PWR_STATE_STATE ≠ 0 → s.blk.pwr.inReset = false → Runs (.railMonitor 0) s fun t =>
    t.fld R.SUP_RST_CAUSE_CAUSE = 6 ∧ t.blk.pwr.inReset = true ∧ t.blk.out = [] ∧ MemKept s t ∧ QueueKept s t) ∧
  (∀ (i : Fin 8) (c : Fin 31) s, (cellsOf (i + 1)).contains c.val = true → Runs (.cellFaultReset i c) s fun t =>
    t.fld R.SUP_RST_CELL_LAST_CAUSE = 0x21 ∧ t.fld R.SUP_RST_CELL_LAST_ORIGIN = org (i + 1) c 127 ∧ MemKept s t ∧ QueueKept s t)

/-- Supplies, starts and shutdowns (R109 to R113, R120 to R122, R607): a failure of LOGIC_BAT in RUN begins a power-fail sequence and one in STANDBY commits at once; validity begins its count; an abort resumes RUN and counts; a commit counts and leads to BACKUP; a start of a module that is not in reset does nothing and one of a module in reset ends the reset; ignition and the requests of PWR_CTRL set and clear the pending shutdown and its timers. -/
def Obligations.PowerCommands : Prop :=
  (∀ n s, s.blk.pwr.inReset = false → s.fld R.PWR_STATE_STATE = 3 → s.blk.pwr.pfAt = none → Runs (.logicBatFail n) s fun t =>
    t.blk.pwr.pfAt = some s.blk.now ∧ t.blk.pwr.validAt = none ∧ t.fld R.PWR_STATUS_PF = 1 ∧ t.fld R.PWR_STATUS_LOGIC_VALID = 0 ∧ MemKept s t ∧ QueueKept s t) ∧
  (∀ n s, s.blk.pwr.inReset = false → s.fld R.PWR_STATE_STATE = 1 → Runs (.logicBatFail n) s fun t =>
    t.fld R.PWR_STATE_STATE = 0 ∧ t.fld R.PWR_STATUS_COMMITTED = 1 ∧ t.fld R.PWR_PF_CNT_COMMITS = s.counted R.PWR_PF_CNT_COMMITS ∧ t.fld R.PWR_LAST_SHUT_KIND = 1 ∧
    t.blk.now = s.blk.now + n * 1000000 ∧ MemKept s t ∧ QueueKept s t) ∧
  (∀ s, s.fld R.PWR_STATUS_LOGIC_VALID = 0 → Runs .logicBatValid s fun t =>
    t.fld R.PWR_STATUS_LOGIC_VALID = 1 ∧ t.blk.pwr.validAt = some s.blk.now ∧ Frame s t [R.PWR_STATUS_LOGIC_VALID]) ∧
  (∀ s d v, s.blk.pwr.pfAt = some d → s.blk.pwr.validAt = some v → v + 10 * 1000000 ≤ d + s.blk.pwr.ride * 1000000 → Runs .pfAbort s fun t =>
    t.fld R.PWR_STATUS_PF = 0 ∧ t.fld R.PWR_STATUS_ABORTED = 1 ∧ t.fld R.PWR_PF_CNT_ABORTS = s.counted R.PWR_PF_CNT_ABORTS ∧ t.blk.pwr.pfAt = none ∧
    t.blk.now = max s.blk.now (v + 10 * 1000000) ∧ Frame s t [R.PWR_STATUS_PF, R.PWR_STATUS_ABORTED, R.PWR_PF_CNT_ABORTS]) ∧
  (∀ fl lo de x s d, s.blk.pwr.pfAt = some d → s.blk.pwr.validAt = none → Runs (.pfCommit fl lo de x) s fun t =>
    t.fld R.PWR_STATE_STATE = 0 ∧ t.blk.pwr.pfAt = none ∧ t.blk.pwr.railUp = !x ∧ t.fld R.PWR_STATUS_COMMITTED = 1 ∧ t.fld R.PWR_PF_CNT_COMMITS = s.counted R.PWR_PF_CNT_COMMITS ∧
    t.fld R.PWR_LAST_SHUT_KIND = 1 ∧ QueueKept s t) ∧
  (∀ ign n m s, s.blk.pwr.inReset = false → Runs (.moduleStart ign n m) s fun t => t = s) ∧
  (∀ ign n m s, s.blk.pwr.inReset = true → s.blk.pwr.resetLow = false → Runs (.moduleStart ign n m) s fun t => t.blk.pwr.inReset = false ∧ t.blk.pwr.wake = none ∧ QueueKept s t) ∧
  (∀ s, s.fld R.PWR_STATUS_IGN = 1 → s.blk.inRun = true → Runs .ignFall s fun t =>
    t.fld R.PWR_STATUS_IGN = 0 ∧ t.fld R.PWR_STATUS_SHUT_PENDING = 1 ∧ t.blk.pwr.target = (if s.fld R.PWR_CFG_IGN_TARGET = 0 then 1 else 2) ∧
    (s.fld R.PWR_STATUS_STATIONARY = 1 → t.blk.pwr.runonEnd = some (s.blk.now + s.fld R.PWR_CFG_RUNON_S * 1000000000)) ∧
    (s.fld R.PWR_STATUS_STATIONARY = 0 → t.blk.pwr.ignWaitEnd = some (s.blk.now + s.fld R.PWR_CFG_IGN_WAIT_S * 1000000000)) ∧
    Frame s t [R.PWR_STATUS_IGN, R.PWR_STATUS_SHUT_PENDING]) ∧
  (∀ s, s.blk.inRun = true → s.fld R.PWR_STATUS_SHUT_PENDING = 1 → s.blk.pwr.flushEnd = none → Runs .ignRise s fun t =>
    t.fld R.PWR_STATUS_IGN = 1 ∧ t.fld R.PWR_STATUS_SHUT_PENDING = 0 ∧ t.blk.pwr.runonEnd = none ∧ t.blk.pwr.ignWaitEnd = none ∧ Frame s t [R.PWR_STATUS_IGN, R.PWR_STATUS_SHUT_PENDING]) ∧
  (∀ s, s.blk.inRun = false → (s.fld R.PWR_STATE_STATE = 1 ∨ s.fld R.PWR_STATE_STATE = 2) → Runs .ignRise s fun t =>
    t.fld R.PWR_STATUS_IGN = 1 ∧ t.blk.pwr.wake = some 0 ∧ Frame s t [R.PWR_STATUS_IGN]) ∧
  (∀ s, s.blk.inRun = true → Runs .pwrCtrlStandby s fun t =>
    t.fld R.PWR_STATUS_SHUT_PENDING = 1 ∧ t.blk.pwr.target = 1 ∧ t.blk.pwr.byReq = true ∧ t.blk.fab.status = 0 ∧ Frame s t [R.PWR_STATUS_SHUT_PENDING]) ∧
  (∀ s, s.blk.inRun = true → Runs .pwrCtrlParked s fun t =>
    t.fld R.PWR_STATUS_SHUT_PENDING = 1 ∧ t.blk.pwr.target = 2 ∧ t.blk.pwr.byReq = true ∧ t.blk.fab.status = 0 ∧ Frame s t [R.PWR_STATUS_SHUT_PENDING]) ∧
  (∀ s e, s.blk.inRun = true → s.blk.pwr.runonEnd = some e → Runs .pwrCtrlExtend s fun t =>
    t.blk.pwr.runonEnd = some (s.blk.now + s.fld R.PWR_CFG_RUNON_S * 1000000000) ∧ t.blk.fab.status = 0 ∧ Frame s t []) ∧
  (∀ s e, s.blk.inRun = true → s.fld R.PWR_STATUS_STATIONARY = 0 → s.blk.pwr.ignWaitEnd = some e → s.blk.mode.stopping = true → Runs .ignWaitExpired s fun t =>
    t.fld R.PWR_STATUS_IGN_WAIT_EXPIRED = 1 ∧ t.blk.pwr.ignWaitEnd = none ∧ t.blk.mode.stopping = true ∧ t.blk.now = max s.blk.now e ∧ Frame s t [R.PWR_STATUS_IGN_WAIT_EXPIRED]) ∧
  (∀ (f : Option (Fin 61)) d s, s.blk.pwr.runonEnd = none → Runs (.runonExpired f d) s fun t => t = s) ∧
  (∀ d s e, s.blk.inRun = true → s.fld R.PWR_STATUS_STATIONARY = 1 → s.blk.pwr.runonEnd = some e → s.blk.pwr.flushEnd = none → s.blk.pwr.pfAt = none → Runs (.runonExpired none d) s fun t =>
    t.blk.pwr.runonEnd = none ∧ t.blk.pwr.flushEnd = some (max s.blk.now e + 60 * 1000000000) ∧ MemKept s t ∧ QueueKept s t) ∧
  (∀ (n : Fin 61) d s e, s.blk.inRun = true → s.fld R.PWR_STATUS_STATIONARY = 1 → s.blk.pwr.runonEnd = some e → s.blk.pwr.flushEnd = none → s.blk.pwr.pfAt = none → Runs (.runonExpired (some n) d) s fun t =>
    t.fld R.PWR_STATE_STATE = (if s.blk.pwr.target = 2 then 2 else 1) ∧ t.fld R.PWR_STATUS_SHUT_PENDING = 0 ∧ t.fld R.PWR_LAST_SHUT_KIND = 2 ∧ t.fld R.PWR_LAST_SHUT_FLUSH_MS = n ∧
    t.blk.pwr.runonEnd = none ∧ QueueKept s t) ∧
  (∀ d s e, s.blk.pwr.flushEnd = some e → s.blk.pwr.pfAt = none → Runs (.flushLimit d) s fun t =>
    t.fld R.PWR_STATUS_FLUSH_LIMIT = 1 ∧ t.fld R.PWR_STATE_STATE = (if s.blk.pwr.target = 2 then 2 else 1) ∧ t.fld R.PWR_STATUS_SHUT_PENDING = 0 ∧ t.fld R.PWR_LAST_SHUT_KIND = 2 ∧
    t.fld R.PWR_LAST_SHUT_FLUSH_MS = 60 ∧ t.blk.pwr.flushEnd = none ∧ QueueKept s t) ∧
  (∀ (src : Fin 9) n m s, s.blk.pwr.inReset = false → s.blk.wakeEnabled src = true → s.fld R.PWR_STATE_STATE = 0 → (src = 1 ∨ src = 2) → s.blk.pwr.wake = none →
    Runs (.wake src n m) s fun t => t.blk.pwr.wake = some src.val ∧ Frame s t []) ∧
  (∀ (src : Fin 9) n m s, s.blk.pwr.inReset = false → s.blk.wakeEnabled src = true → s.fld R.PWR_STATE_STATE = 1 → src.val ≤ 5 → Runs (.wake src n m) s fun t => t.fld R.PWR_STATE_STATE = 3 ∧ QueueKept s t) ∧
  (∀ s e, s.blk.inParked = true → s.blk.pwr.parkEnd = some e → Runs .parkMaxExpired s fun t => t.fld R.PWR_STATE_STATE = 1 ∧ QueueKept s t) ∧
  (∀ s, s.blk.inParked = true → s.fld R.PWR_PARK_BAT_MIN ≠ 0 → Runs .parkBatLow s fun t => t.fld R.PWR_STATE_STATE = 1 ∧ QueueKept s t) ∧
  (∀ s, s.fld R.PWR_STATUS_LOGIC_VALID = 0 → Runs .reserveExhausted s fun t => t.blk.pwr.railUp = false ∧ Frame s t [R.PWR_RES_VOLT])

/-- Protection of a field channel (R144 to R158): a command that fails its checks is counted and changes nothing else; one that passes ends the fail action and the hold; a trip sets its latch, counts, and turns off a load switch; an expired time has its effect at its own instant; a latch is cleared only after its cool-down and never past a pair latch; counters are cleared together. -/
def Obligations.FieldProtectionCommands : Prop :=
  (∀ (ch : Fin 192) p s, s.blk.acting 1 = false → isCommanded (s.fld (R.FC_CH_FUNC_FUNC ch)) = false → Runs (.fieldSetpoint ch p) s fun t =>
    t.fld (R.FC_CH_STATUS_REJECT ch) = 1 ∧ t.fld (R.FC_CH_CNT_CMD_REJECT ch) = s.counted (R.FC_CH_CNT_CMD_REJECT ch) ∧ t.blk.out.length = s.blk.out.length + 1 ∧
    Frame s t [R.FC_CH_STATUS_REJECT ch, R.FC_CH_CNT_CMD_REJECT ch]) ∧
  (∀ (ch : Fin 192) p s, s.blk.acting 1 = false → isCommanded (s.fld (R.FC_CH_FUNC_FUNC ch)) = true → s.blk.lead ch = ch.val → p.data.length = 8 → bytesAt p.data 2 1 = 0 → s.blk.runs (ch / 8) = true →
    p.valid = true → p.error = false → p.masked = false → s.fld (R.FC_CH_CMD_CONF_MIN ch) ≤ p.conf → p.resync = true → Runs (.fieldSetpoint ch p) s fun t =>
    t.fld (R.FC_CH_STATUS_FAIL_ACT ch) = 0 ∧ t.fld (R.FC_CH_STATUS_HOLD ch) = 0 ∧ t.fld (R.FC_CH_CNT_CMD_REJECT ch) = s.fld (R.FC_CH_CNT_CMD_REJECT ch) ∧ Kept s t) ∧
  (∀ (ch : Fin 192) both more s, Runs (.hardShortTrip ch both more) s fun t =>
    t.blk.flag (R.FC_CH_STATUS_HARD_LATCH ch) = true ∧ t.fld (R.FC_CH_CNT_TRIP_HARD ch) = (s.ripe ch).counted (R.FC_CH_CNT_TRIP_HARD ch) ∧
    (s.fld (R.FC_CH_FUNC_FUNC ch) = 1 → s.fld (R.FC_CH_FUNC_BOND ch) = 0 → s.blk.reversed (ch / 8) = false → t.fld (R.FC_CH_STATUS_ON ch) = 0) ∧ Kept s t) ∧
  (∀ (ch : Fin 192) both more t0 s, ((s.ripe ch).blk.ch ch).core.limStart = some t0 → Runs (.limitTimeExpired ch both more) s fun t =>
    t.blk.flag (R.FC_CH_STATUS_LIM_LATCH ch) = true ∧ t.blk.now = max s.blk.now (t0 + (s.ripe ch).blk.limitTime ch) ∧ Kept s t) ∧
  (∀ (ch : Fin 192) both more s, ((s.ripe ch).blk.ch ch).core.limStart = none → Runs (.limitTimeExpired ch both more) s fun t => t = s.ripe ch) ∧
  (∀ (ch : Fin 192) (cur t0 : Nat) s, ((s.ripe ch).blk.ch ch).core.geyserEnd = some t0 → (s.ripe ch).blk.overSoft ch (min cur 12000) = false → Runs (.geyserClose ch cur) s fun t =>
    t.fld (R.FC_CH_STATUS_GEYSER ch) = 0 ∧ t.fld (R.FC_CH_STATUS_IN_LIMIT ch) = b2n (decide (12000 ≤ cur)) ∧ t.blk.now = max s.blk.now t0 ∧
    Frame (s.ripe ch) t [R.FC_CH_STATUS_GEYSER ch, R.FC_CH_STATUS_IN_LIMIT ch]) ∧
  (∀ (ch : Fin 192) (cur : Nat) s, (s.ripe ch).blk.softActs ch = true → (s.ripe ch).blk.overSoft ch cur = true → (s.ripe ch).blk.softMasked ch = true → Runs (.softEvent ch cur false) s fun t =>
    t.fld (R.FC_CH_STATUS_BLANKED_EV ch) = 1 ∧ t.fld (R.FC_CH_CNT_EV_BLANKED ch) = (s.ripe ch).counted (R.FC_CH_CNT_EV_BLANKED ch) ∧
    Frame (s.ripe ch) t [R.FC_CH_STATUS_BLANKED_EV ch, R.FC_CH_CNT_EV_BLANKED ch]) ∧
  (∀ (ch : Fin 192) (cur : Nat) heat s, (s.ripe ch).blk.softActs ch = true → (s.ripe ch).blk.overSoft ch cur = true → (s.ripe ch).blk.softMasked ch = false → Runs (.softEvent ch cur heat) s fun t =>
    t.fld (R.FC_CH_STATUS_SOFT_EV ch) = 1 ∧ t.fld (R.FC_CH_CNT_EV_SOFT ch) = (s.ripe ch).counted (R.FC_CH_CNT_EV_SOFT ch) ∧
    (heat = false → s.blk.softAct ch = 0 → Frame (s.ripe ch) t [R.FC_CH_STATUS_SOFT_EV ch, R.FC_CH_CNT_EV_SOFT ch]) ∧ (s.blk.softAct ch = 2 → t.blk.flag (R.FC_CH_STATUS_LIM_LATCH ch) = true) ∧
    (heat = true → t.fld (R.FC_CH_STATUS_HOT ch) = 1 ∧ t.fld (R.FC_CH_CNT_TRIP_THERM ch) = (s.ripe ch).counted (R.FC_CH_CNT_TRIP_THERM ch)) ∧ Kept s t) ∧
  (∀ (ch : Fin 192) (cur t0 : Nat) s, ((s.ripe ch).blk.ch ch).core.blankEnd = some t0 → (s.ripe ch).blk.overSoft ch cur = false → Runs (.blankEnd ch cur) s fun t =>
    t.blk.now = max s.blk.now t0 ∧ t.blk.chans = updAt (s.ripe ch).blk.chans ch (fun c => { c with core := { c.core with blankEnd := none } }) ∧ Frame (s.ripe ch) t []) ∧
  (∀ (ch : Fin 192) (cur t0 : Nat) s, ((s.ripe ch).blk.ch ch).core.blankEnd = some t0 → (s.ripe ch).blk.overSoft ch cur = true → (s.ripe ch).fld (R.FC_CH_STATUS_GEYSER ch) = 0 → s.blk.cellDown (ch / 8) = false →
    Runs (.blankEnd ch cur) s fun t => t.fld (R.FC_CH_STATUS_SOFT_EV ch) = 1 ∧ t.fld (R.FC_CH_CNT_EV_SOFT ch) = (s.ripe ch).counted (R.FC_CH_CNT_EV_SOFT ch) ∧ t.blk.now = max s.blk.now t0 ∧ Kept s t) ∧
  (∀ (ch : Fin 192) s, Runs (.overTemp ch) s fun t =>
    t.fld (R.FC_CH_STATUS_THERM_EV ch) = 1 ∧ t.fld (R.FC_CH_STATUS_HOT ch) = 1 ∧ t.fld (R.FC_CH_CNT_TRIP_THERM ch) = (s.ripe ch).counted (R.FC_CH_CNT_TRIP_THERM ch) ∧
    (7 ≤ (recent s.blk.now (60 * 1000000000) ((s.ripe ch).blk.ch ch).core.therm).length → t.blk.flag (R.FC_CH_STATUS_LIM_LATCH ch) = true) ∧ Kept s t) ∧
  (∀ (ch : Fin 192) s, (s.ripe ch).fld (R.FC_CH_STATUS_HOT ch) = 1 → Runs (.overTempResume ch) s fun t =>
    t.fld (R.FC_CH_STATUS_HOT ch) = 0 ∧ t.blk.now = max s.blk.now (((s.ripe ch).blk.ch ch).core.therm.headD s.blk.now + 1000000) ∧ Kept s t) ∧
  (∀ (ch : Fin 192) t0 s, ((s.ripe ch).blk.ch ch).core.deadline = some t0 → Runs (.commandTimeout ch) s fun t =>
    t.fld (R.FC_CH_STATUS_FAIL_ACT ch) = 1 ∧ t.fld (R.FC_CH_STATUS_TIMEOUT_EV ch) = 1 ∧ t.fld (R.FC_CH_STATUS_HOLD ch) = 0 ∧ t.blk.now = max s.blk.now t0 ∧ Kept s t) ∧
  (∀ (ch : Fin 192) c s, (s.blk.chRefusal ch <|> s.blk.clrLimRefusal ch) = some c → Runs (.clrLim ch) s fun t => t = { s with blk := s.blk.status c }) ∧
  (∀ (ch : Fin 192) s, s.blk.chRefusal ch = none → s.fld (R.FC_CH_STATUS_PAIR_LATCH ch) = 0 → cooling s.blk.now (s.blk.ch ch).core.limAt = false → Runs (.clrLim ch) s fun t =>
    (s.fld (R.FC_CH_FUNC_FUNC ch) ≠ 1 ∨ s.fld (R.FC_CH_DRV_STATUS_DUTY_CAP ch) = 0 → t.fld (R.FC_CH_STATUS_LIM_LATCH ch) = 0) ∧ t.blk.fab.status = 0 ∧ Kept s t) ∧
  (∀ (ch : Fin 192) c s, (s.blk.chRefusal ch <|> s.blk.clrHardRefusal ch) = some c → Runs (.clrHard ch) s fun t => t = { s with blk := s.blk.status c }) ∧
  (∀ (ch : Fin 192) s, s.blk.chRefusal ch = none → s.fld (R.FC_CH_STATUS_PAIR_LATCH ch) = 0 → cooling s.blk.now (s.blk.ch ch).core.hardAt = false → Runs (.clrHard ch) s fun t =>
    t.fld (R.FC_CH_STATUS_HARD_LATCH ch) = 0 ∧ t.blk.fab.status = 0 ∧ Kept s t) ∧
  (∀ (ch : Fin 192) s, s.blk.chRefusal ch = none → Runs (.clrShed ch) s fun t => t.fld (R.FC_CH_STATUS_SHED ch) = 0 ∧ t.blk.fab.status = 0 ∧ Kept s t) ∧
  (∀ (ch : Fin 192) s, s.blk.chRefusal ch = none → Runs (.fcClrCnt ch) s fun t => (∀ f ∈ chCounters ch, t.fld f = 0) ∧ t.blk.fab.status = 0 ∧ Frame s t (chCounters ch)) ∧
  (∀ (ch : Fin 192) c s, s.blk.chRefusal ch = some c → ∀ i ∈ [Instr.clrLim ch, .clrHard ch, .clrShed ch, .fcClrCnt ch], Runs i s fun t => t = { s with blk := s.blk.status c })

/-- Shedding, cells, studs and measurements (R82, R139, R153, R161 to R166): a shed evaluation shows the current of every cell, an escalation takes the next priority; a stopped cell shows STOPPED and stale measurements; a start refuses a bad grouping; a stud under voltage shows in each of its 24 channels and its recovery clears them; loss of ground turns every switch off and reverse voltage turns them on; a measurement is clamped to the range of its register. -/
def Obligations.FieldCellCommands : Prop :=
  (∀ l s, Runs (.shedEval l) s fun t => (∀ c < 24, (s.blk.island (6 + c / 8)).run = .running → t.fld (R.FC_CELL_CURRENT_NOW c) = min 65535 (l.getD c 0)) ∧ Kept s t) ∧
  (∀ (st : Fin 8) t0 s, s.blk.shedAt (.stud st) = some t0 → 1 ≤ s.fld (R.FC_STUD_STAT_SHED_LEVEL st) → s.fld (R.FC_STUD_STAT_SHED_LEVEL st) ≤ 2 → scopeRating (.stud st) < s.blk.scopeNow (.stud st) → s.blk.scopes.length = 9 →
    Runs (.shedEscalate (.stud st)) s fun t => t.fld (R.FC_STUD_STAT_SHED_LEVEL st) = s.fld (R.FC_STUD_STAT_SHED_LEVEL st) + 1 ∧ t.blk.now = max s.blk.now (t0 + 100 * 1000000) ∧ Kept s t) ∧
  (∀ sc t0 s, s.blk.shedAt sc = some t0 → 1 ≤ s.blk.shedLevel sc → s.blk.shedLevel sc ≤ 2 → s.blk.scopeNow sc ≤ scopeRating sc → Runs (.shedEscalate sc) s fun t =>
    t = { s with blk := (s.blk.reach (t0 + 100 * 1000000)).setShed sc (s.blk.shedLevel sc) none }) ∧
  (∀ (c : Fin 24) r s, s.blk.unitRefusal (fcOrigin c) = some r → ∀ i ∈ [Instr.cellStop c, .cellStart c], Runs i s fun t => t = { s with blk := s.blk.status r }) ∧
  (∀ (c : Fin 24) s, s.blk.unitRefusal (fcOrigin c) = none → (s.blk.cell c).run = .running → s.blk.cells.length = 24 → Runs (.cellStop c) s fun t =>
    t.fld (R.FC_CELL_STATUS_STOPPED c) = 1 ∧ (∀ u < 8, t.fld (R.FC_CH_MEAS_I_STALE (8 * c + u)) = 1) ∧ t.blk.fab.status = 0 ∧ Kept s t) ∧
  (∀ (c : Fin 24) s, s.blk.unitRefusal (fcOrigin c) = none → s.blk.groupOk c = false → Runs (.cellStart c) s fun t => t = { s with blk := s.blk.status 0x52 }) ∧
  (∀ (c : Fin 24) s, s.blk.unitRefusal (fcOrigin c) = none → (s.blk.cell c).run = .stopped → (s.blk.cell c).byStop = true → s.blk.groupOk c = true → Runs (.cellStart c) s fun t =>
    t.fld (R.FC_CELL_STATUS_STOPPED c) = 0 ∧ t.blk.fab.status = 0 ∧ Kept s t) ∧
  (∀ (st : Fin 8) s, Runs (.studUv st) s fun t => t.fld (R.FC_STUD_STAT_UV st) = 1 ∧ (∀ u < 24, t.fld (R.FC_CH_STATUS_STUD_UV (24 * st + u)) = 1) ∧ Kept s t) ∧
  (∀ (st : Fin 8) s, s.fld (R.FC_STUD_STAT_UV st) = 1 → Runs (.studRecover st) s fun t =>
    t.fld (R.FC_STUD_STAT_UV st) = 0 ∧ (∀ u < 24, t.fld (R.FC_CH_STATUS_STUD_UV (24 * st + u)) = 0) ∧ Kept s t) ∧
  (∀ s, Runs .groundLoss s fun t => (∀ ch < 192, t.fld (R.FC_CH_STATUS_ON ch) = 0) ∧ t.fld R.PWR_STATE_STATE = 0 ∧ t.fld R.PWR_STATUS_LOGIC_VALID = 0 ∧
    (∀ i ∈ t.blk.sys.islands, i.run = .inReset) ∧ Kept s t) ∧
  (∀ s, s.blk.scopes.length = 9 → Runs (.reverseVoltage none) s fun t => (∀ ch < 192, t.fld (R.FC_CH_STATUS_ON ch) = 1) ∧ t.fld R.PWR_STATE_STATE = 0 ∧ Kept s t) ∧
  (∀ (st : Fin 8) s, s.blk.scopes.length = 9 → Runs (.reverseVoltage (some st)) s fun t => t.fld (R.FC_STUD_STAT_UV st) = 1 ∧
    (∀ u < 24, t.fld (R.FC_CH_STATUS_ON (24 * st + u)) = 1 ∧ t.fld (R.FC_CH_STATUS_STUD_UV (24 * st + u)) = 1) ∧ t.fld R.PWR_STATE_STATE = s.fld R.PWR_STATE_STATE ∧ Kept s t) ∧
  (∀ (mv : Nat) s, Runs (.loadDump mv) s fun t => t.fld R.PWR_SUPPLY_LOGIC_MV = min 58000 mv ∧ (∀ st < 8, t.fld (R.FC_STUD_STAT_VOLT_MV st) = min 58000 mv) ∧
    (∀ ch < 192, t.fld (R.FC_CH_STATUS_ON ch) = s.fld (R.FC_CH_STATUS_ON ch)) ∧ Kept s t) ∧
  (∀ (ch : Fin 192) (x pk gx gp : Int) (mv : Nat) ov s, s.blk.runs (ch / 8) = true → s.blk.chans.length = 192 → Runs (.measInterval ch x pk gx gp mv ov) s fun t =>
    t.blk.geti (R.FC_CH_MEAS_I_I_MA ch) = clampI (-10240) 30700 x ∧ t.fld (R.FC_CH_MEAS_I_STALE ch) = 0 ∧
    (t.blk.ch ch).core.measV = min 40000 mv ∧ (t.blk.ch ch).core.measPeak = clampI (-10240) 30700 pk ∧ t.blk.now = max s.blk.now ((s.blk.ch ch).core.measAt + s.blk.interval ch) ∧
    (s.blk.route? (chOrigin ch) 0 = none → t.fld (R.FC_CH_MEAS_I_SEQ ch) = (match (s.blk.ch ch).core.measSeq with | none => 0 | some n => (n + 1) % 256)) ∧ Kept s t) ∧
  (∀ (ch : Fin 192) s, Runs (.fcMeasRead ch) s fun t =>
    t.fld (R.FC_CH_MEAS_V_V_MV ch) = (s.blk.ch ch).core.measV % 2 ^ (R.FC_CH_MEAS_V_V_MV ch).wid ∧ t.blk.geti (R.FC_CH_MEAS_V_I_PEAK_MA ch) = signed (R.FC_CH_MEAS_V_I_PEAK_MA ch).wid (lowBits (R.FC_CH_MEAS_V_I_PEAK_MA ch).wid (s.blk.ch ch).core.measPeak) ∧
    Frame s t [R.FC_CH_MEAS_V_V_MV ch, R.FC_CH_MEAS_V_I_PEAK_MA ch])

/-- Modulated channels and valves (R141, R144, R171 to R186): a period boundary, one period after the last, reports the period that ended and counts PSEQ up; a valve starts from the reservoir when it is free and ready, or at PEAK when its wait expires; BOOST leads to PEAK and PEAK to HOLD; a decayed coil is switched off; the mean load of the duty window is the sum of its 64 slots over the limit; a pair is cleared only as a pair and after its cool-down; a stopped charger recharges no reservoir. `ripe` is the state in which a command meets the channel's cell. -/
def Obligations.FieldDriveCommands : Prop :=
  (∀ (ch : Fin 192) (x pk : Int) (mv : Nat) s, s.fld (R.FC_CH_FUNC_FUNC ch) = 2 → s.blk.lead ch = ch.val → s.blk.cellDown (ch / 8) = false → s.blk.reversed (ch / 8) = false → s.blk.chans.length = 192 →
    s.blk.nothingDue (ch / 8) = true → (s.blk.cell (ch / 8)).queue = [] → Runs (.pwmBoundary ch x pk mv) s fun t =>
    t.fld (R.FC_CH_ECHO_STALE ch) = 0 ∧ t.fld (R.FC_CH_ECHO_ON_TIME ch) = (s.blk.ch ch).drv.onTime % 2 ^ (R.FC_CH_ECHO_ON_TIME ch).wid ∧
    t.fld (R.FC_CH_ECHO_CUT ch) = b2n (s.blk.wasCut ch) ∧ (t.blk.ch ch).drv.pseq = ((s.blk.ch ch).drv.pseq + 1) % 65536 ∧ (t.blk.ch ch).drv.echoI = x ∧
    t.blk.now = max s.blk.now ((s.blk.ch ch).drv.start + s.blk.periodNs ch) ∧ Kept s t) ∧
  (∀ (ch : Fin 192) (x pk : Int) (mv : Nat) s, s.fld (R.FC_CH_FUNC_FUNC ch) = 3 → (s.ripe ch).blk.phaseOf ch < 2 → Runs (.pwmBoundary ch x pk mv) s fun t => t = s.ripe ch) ∧
  (∀ (ch : Fin 192) s, Runs (.fcEchoRead ch) s fun t => t.fld (R.FC_CH_ECHO_SEQ_PSEQ ch) = (s.blk.ch ch).drv.echoSeq % 2 ^ (R.FC_CH_ECHO_SEQ_PSEQ ch).wid ∧
    t.fld (R.FC_CH_ECHO_SEQ_I_MA ch) = lowBits (R.FC_CH_ECHO_SEQ_I_MA ch).wid (s.blk.ch ch).drv.echoI ∧ Frame s t [R.FC_CH_ECHO_SEQ_PSEQ ch, R.FC_CH_ECHO_SEQ_I_MA ch]) ∧
  (∀ (c : Fin 24) ch r s, ch / 8 = c.val → s.blk.nothingDue c = true → (s.blk.cell c).boost = none → (s.blk.cell c).queue = ch :: r → s.fld (R.FC_CELL_STATUS_BOOST_READY c) = 1 → Runs (.valveQueueStart c) s fun t =>
    t.fld (R.FC_CH_DRV_STATUS_PHASE ch) = 1 ∧ t.fld (R.FC_CH_DRV_STATUS_QUEUED ch) = 0 ∧ t.fld (R.FC_CH_VALVE_RES_STALE ch) = 1 ∧ (r = [] → t.fld (R.FC_CH_STATUS_ON ch) ≠ 0) ∧ Kept s t) ∧
  (∀ (c : Fin 24) s, s.blk.nothingDue c = true → (s.blk.cell c).queue = [] → Runs (.valveQueueStart c) s fun t => t = s) ∧
  (∀ (ch : Fin 192) t0 s, ((s.ripe ch).blk.ch ch).drv.waitEnd = some t0 → (s.ripe ch).blk.flag (R.FC_CH_DRV_STATUS_QUEUED ch) = true → Runs (.boostWaitExpired ch) s fun t =>
    t.fld (R.FC_CH_DRV_STATUS_PHASE ch) = 2 ∧ t.fld (R.FC_CH_DRV_STATUS_QUEUED ch) = 0 ∧ t.fld (R.FC_CH_CNT_DRV_WAITS ch) = (s.ripe ch).counted (R.FC_CH_CNT_DRV_WAITS ch) ∧ t.blk.now = max s.blk.now t0 ∧ Kept s t) ∧
  (∀ (ch : Fin 192) (x pk : Int) (q : Nat) s, (s.ripe ch).fld (R.FC_CH_DRV_STATUS_PHASE ch) = 1 → ((s.ripe ch).blk.cell (ch / 8)).queue.contains ch.val = false → Runs (.valveBoostEnd ch x pk q) s fun t =>
    t.fld (R.FC_CH_DRV_STATUS_PHASE ch) = 2 ∧ t.fld (R.FC_CELL_BOOST_VOLT (ch / 8)) = min 255 q ∧ t.fld (R.FC_CELL_STATUS_BOOST_READY (ch / 8)) = b2n (decide (184 ≤ q)) ∧ Kept s t) ∧
  (∀ (ch : Fin 192) (pk : Int) t0 s, (s.ripe ch).fld (R.FC_CH_DRV_STATUS_PHASE ch) = 2 → ((s.ripe ch).blk.ch ch).drv.phaseEnd = some t0 → Runs (.valvePeakEnd ch pk) s fun t =>
    t.fld (R.FC_CH_DRV_STATUS_PHASE ch) = 3 ∧ t.fld (R.FC_CH_VALVE_RES_STALE ch) = 0 ∧ t.fld (R.FC_CH_VALVE_RES_NO_BOOST ch) = b2n ((s.ripe ch).blk.ch ch).drv.noBoost ∧ t.blk.now = max s.blk.now t0 ∧ Kept s t) ∧
  (∀ (ch : Fin 192) s, s.fld (R.FC_CH_FUNC_FUNC ch) = 3 → ((s.ripe ch).blk.ch ch).drv.decaying = true → Runs (.releaseDecayEnd ch) s fun t =>
    t.blk.flag (R.FC_CH_STATUS_ON ch) = false ∧ Frame (s.ripe ch) t [R.FC_CH_STATUS_ON ch, R.FC_CH_STATUS_GEYSER ch, R.FC_CH_STATUS_IN_LIMIT ch]) ∧
  (∀ (ch : Fin 192) (q : Nat) s, isOutput (s.fld (R.FC_CH_FUNC_FUNC ch)) = true → s.blk.lead ch = ch.val → s.blk.chans.length = 192 →
    ((s.ripe ch).blk.modCore ch fun k => { k with derFrac := s.fld (R.HLT_CHc_DERATE ch) }).dutyLimit256 ch ≠ 0 → Runs (.dutySlotEnd ch q) s fun t =>
    t.fld (R.FC_CH_DUTY_MEAN_LOAD ch) = min 65535 (((q :: ((s.ripe ch).blk.ch ch).drv.slots).take 64).sum * 256 * 4096 / (64 * ((s.ripe ch).blk.modCore ch fun k => { k with derFrac := s.fld (R.HLT_CHc_DERATE ch) }).dutyLimit256 ch)) ∧ Kept s t) ∧
  (∀ (ch : Fin 192) c s, (s.blk.chRefusal ch <|> s.blk.clrPairRefusal ch) = some c → Runs (.clrPair ch) s fun t => t = { s with blk := s.blk.status c }) ∧
  (∀ (ch : Fin 192) s, s.blk.chRefusal ch = none → s.blk.clrPairRefusal ch = none → Runs (.clrPair ch) s fun t =>
    (∀ c ∈ [ch.val, ch.val + 1], t.blk.latched c = false) ∧ t.blk.fab.status = 0 ∧ Kept s t) ∧
  (∀ (ch : Fin 192) il s, (s.ripe ch).blk.flag (R.FC_CH_STATUS_ON ch) = true → ((s.ripe ch).blk.ch (s.blk.lead ch)).drv.turnAt = none → Runs (.inLimitChange ch il) s fun t => t.fld (R.FC_CH_STATUS_IN_LIMIT ch) = b2n il ∧
    t.blk.chans = updAt (s.ripe ch).blk.chans ch (fun c => { c with core := if il then { c.core with limStart := some (c.core.limStart.getD s.blk.now), limSeen := true } else { c.core with limStart := none } }) ∧
    Frame (s.ripe ch) t [R.FC_CH_STATUS_IN_LIMIT ch]) ∧
  (∀ (ch : Fin 192) il s, (s.ripe ch).blk.flag (R.FC_CH_STATUS_ON ch) = false → ((s.ripe ch).blk.ch (s.blk.lead ch)).drv.turnAt = none → Runs (.inLimitChange ch il) s fun t => t = s.ripe ch) ∧
  (∀ (c : Fin 24) (v x : Nat) s, (s.blk.cell c).noCharge = false → Runs (.boostReady c v x) s fun t =>
    t.fld (R.FC_CELL_STATUS_BOOST_READY c) = 1 ∧ t.fld (R.FC_CELL_BOOST_VOLT c) = max 184 (s.fld (R.FC_CELL_BOOST_VOLT c)) % 256 ∧ Kept s t ∧
    ((s.blk.cell c).queue = [] → Frame s t [R.FC_CELL_STATUS_BOOST_READY c, R.FC_CELL_BOOST_VOLT c, R.FC_CELL_BOOST_LIMIT_V c, R.HLT_BSTc_CAP_NF c])) ∧
  (∀ (c : Fin 24) (v x : Nat) s, (s.blk.cell c).noCharge = true → Runs (.boostReady c v x) s fun t => t = s)

/-- Nets of load switches (R189 to R196): a packet that arrives before its instant waits for it, a late one is counted and applied; at its instant a level comes into force and an unsettled one holds the last; a pulse or gap of less than 20 µs is suppressed and counted; a register-bit net and a force are written at once, unless the cell takes no write; a forced-off switch is off; a freeze shows at the cell; silence shows at its own instant. `ripe` is the state in which a command meets the channel's cell. -/
def Obligations.FieldNetCommands : Prop :=
  (∀ (ch : Fin 192) p s, s.fld (R.FC_CH_FUNC_FUNC ch) = 1 → s.blk.lead ch = ch.val → s.blk.cellDown (ch / 8) = false → s.blk.heard p = true → s.blk.netStreams ch p.origin = true → p.data.length = 4 →
    (p.stamp + s.fld (R.FC_CH_NET_DELAY ch) * 10 + 2 ^ 32 - s.blk.stamp) % 2 ^ 32 < 2 ^ 31 → s.blk.sys.mtime % 1000 ≤ (p.stamp + s.fld (R.FC_CH_NET_DELAY ch) * 10 + 2 ^ 32 - s.blk.stamp) % 2 ^ 32 * 1000 → Runs (.netPacket ch p) s fun t =>
    t.blk.chans = updAt (s.ripe ch).blk.chans ch (fun c => { c with net := { c.net with queue := c.net.queue ++
      [(s.blk.now + (p.stamp + s.fld (R.FC_CH_NET_DELAY ch) * 10 + 2 ^ 32 - s.blk.stamp) % 2 ^ 32 * 1000 - s.blk.sys.mtime % 1000, bit (bytesAt p.data 0 1) 0, bit (bytesAt p.data 0 1) 1 || p.masked || p.conf == 0)] } }) ∧ Frame (s.ripe ch) t []) ∧
  (∀ (ch : Fin 192) p s, s.fld (R.FC_CH_FUNC_FUNC ch) = 1 → s.blk.lead ch = ch.val → s.blk.cellDown (ch / 8) = false → s.blk.heard p = true → s.blk.netStreams ch p.origin = true → p.data.length = 4 →
    2 ^ 31 ≤ (p.stamp + s.fld (R.FC_CH_NET_DELAY ch) * 10 + 2 ^ 32 - s.blk.stamp) % 2 ^ 32 → Runs (.netPacket ch p) s fun t =>
    t.fld (R.FC_CH_LS_STATUS_NET_LATE_EV ch) = 1 ∧ t.fld (R.FC_CH_CNT_LS_NET_LATE ch) = (s.ripe ch).counted (R.FC_CH_CNT_LS_NET_LATE ch) ∧
    t.fld (R.FC_CH_LS_STATUS_NET_HOLD ch) = b2n (bit (bytesAt p.data 0 1) 1 || p.masked || p.conf == 0) ∧ Kept s t) ∧
  (∀ (ch : Fin 192) m t0 lv un s, ((s.ripe ch).blk.ch ch).net.queue = [(t0, lv, un)] → Runs (.netApply ch m) s fun t =>
    t.fld (R.FC_CH_LS_STATUS_NET_HOLD ch) = b2n un ∧ (un = false → t.fld (R.FC_CH_LS_STATUS_NET ch) = b2n (lv != s.blk.flag (R.FC_CH_NET_INVERT ch))) ∧
    (un = true → t.fld (R.FC_CH_LS_STATUS_NET ch) = (s.ripe ch).fld (R.FC_CH_LS_STATUS_NET ch)) ∧ t.blk.now = max s.blk.now t0 ∧ Kept s t) ∧
  (∀ (ch : Fin 192) m t0 t1 lv r s, ((s.ripe ch).blk.ch ch).net.queue = (t0, lv, false) :: (t1, !lv, false) :: r → ((s.ripe ch).blk.ch ch).net.level = !lv → t1 < t0 + 20 * 1000 → Runs (.netApply ch m) s fun t =>
    t.fld (R.FC_CH_LS_STATUS_NET_SHORT_EV ch) = 1 ∧ t.fld (R.FC_CH_CNT_LS_NET_SHORT ch) = (s.ripe ch).counted (R.FC_CH_CNT_LS_NET_SHORT ch) ∧ t.blk.now = max s.blk.now t0 ∧
    Frame (s.ripe ch) t [R.FC_CH_LS_STATUS_NET_SHORT_EV ch, R.FC_CH_CNT_LS_NET_SHORT ch]) ∧
  (∀ (ch : Fin 192) v (f : Fin 4) m c s, s.blk.chRefusal ch = some c → ∀ i ∈ [Instr.netBitWrite ch v m, .forceWrite ch f m], Runs i s fun t => t = { s with blk := s.blk.status c }) ∧
  (∀ (ch : Fin 192) v m s, s.blk.chRefusal ch = none → s.fld (R.FC_CH_FUNC_FUNC ch) = 1 → s.fld (R.FC_CH_NET_SRC ch) = 0 → s.blk.lead ch = ch.val → Runs (.netBitWrite ch v m) s fun t =>
    t.fld (R.FC_CH_LS_CTRL_NET_BIT ch) = b2n v ∧ t.fld (R.FC_CH_LS_STATUS_NET_SILENT ch) = 0 ∧ t.fld (R.FC_CH_LS_STATUS_NET ch) = b2n (v != s.blk.flag (R.FC_CH_NET_INVERT ch)) ∧ t.blk.fab.status = 0 ∧ Kept s t) ∧
  (∀ (ch : Fin 192) (v : Fin 4) m s, s.blk.chRefusal ch = none → s.fld (R.FC_CH_FUNC_FUNC ch) = 1 → Runs (.forceWrite ch v m) s fun t =>
    t.fld (R.FC_CH_LS_CTRL_FORCE ch) = (if v = 3 then 0 else v.val) ∧ t.blk.fab.status = 0 ∧
    (v = 1 → s.fld (R.FC_CH_FUNC_BOND ch) = 0 → s.blk.cellDown (ch / 8) = false → s.blk.reversed (ch / 8) = false → t.blk.flag (R.FC_CH_STATUS_ON ch) = false) ∧ Kept s t) ∧
  (∀ (c : Fin 24) v e s, s.blk.unitRefusal (fcOrigin c) = some e → Runs (.freezeWrite c v) s fun t => t = { s with blk := s.blk.status e }) ∧
  (∀ (c : Fin 24) v s, s.blk.unitRefusal (fcOrigin c) = none → Runs (.freezeWrite c v) s fun t => t.fld (R.FC_CELL_LS_FREEZE c) = b2n v ∧ t.blk.fab.status = 0 ∧ Kept s t) ∧
  (∀ (ch : Fin 192) s, s.fld (R.FC_CH_FUNC_FUNC ch) = 1 → s.blk.lead ch = ch.val → s.fld (R.FC_CH_LS_SILENT_REFRESH_MS ch) ≠ 0 → s.fld (R.FC_CH_LS_STATUS_NET_SILENT ch) = 0 → Runs (.netSilent ch) s fun t =>
    t.fld (R.FC_CH_LS_STATUS_NET_SILENT ch) = 1 ∧ t.blk.now = max s.blk.now ((s.blk.ch ch).net.writeAt + s.fld (R.FC_CH_LS_SILENT_REFRESH_MS ch) * 1000000) ∧ Frame s t [R.FC_CH_LS_STATUS_NET_SILENT ch])

/-- Digital, pair, analog, frequency and sensor-supply channels (R204 to R228): a filter tick counts as the verdict of its comparator says; heartbeats and clears happen at their own instants; a pair that is not enabled takes samples only, a lockstep mismatch resets them all, and the states of a pair follow its verdicts; a measurement replaces the value it measured and a read latches the words that belong to it; a supply at its limit is latched off. -/
def Obligations.FieldInputCommands : Prop :=
  (∀ (ch : Fin 192) pin ov s, s.fld (R.FC_CH_FUNC_FUNC ch) = 5 → s.blk.runs (ch / 8) = true → Runs (.dinTick (.chan ch) pin ov) s fun t =>
    t.fld (R.FC_CH_DIN_STATE_CMP ch) = verdict pin (s.fld (R.FC_CH_DIN_STATE_CMP ch)) % 2 ^ (R.FC_CH_DIN_STATE_CMP ch).wid ∧
    t.fld (R.FC_CH_DIN_STATE_COUNT ch) = (filterTick (verdict pin (s.fld (R.FC_CH_DIN_STATE_CMP ch))) (s.fld (R.FC_CH_DIN_TOP ch)) (s.fld (R.FC_CH_DIN_STATE_COUNT ch)) (s.blk.flag (R.FC_CH_DIN_STATE_STATE ch)) (s.blk.flag (R.FC_CH_DIN_STATE_UNSETTLED ch))).1 % 2 ^ (R.FC_CH_DIN_STATE_COUNT ch).wid ∧
    t.fld (R.FC_CH_DIN_STATE_STATE ch) = b2n (filterTick (verdict pin (s.fld (R.FC_CH_DIN_STATE_CMP ch))) (s.fld (R.FC_CH_DIN_TOP ch)) (s.fld (R.FC_CH_DIN_STATE_COUNT ch)) (s.blk.flag (R.FC_CH_DIN_STATE_STATE ch)) (s.blk.flag (R.FC_CH_DIN_STATE_UNSETTLED ch))).2.1 ∧ Kept s t) ∧
  (∀ (x : Fin 2) pin ov s, (s.blk.island 4).run = .running → s.blk.cellOff (org 4 6 127) = false → Runs (.dinTick (.evt x) pin ov) s fun t =>
    t.fld (R.ETH_EVT_STATEx_STATE x) = b2n (filterTick (verdict pin (s.blk.evtIn.getD x {}).cmp) (s.fld (R.ETH_EVT_FILTx_TOP x)) (s.fld (R.ETH_EVT_STATEx_COUNT x)) (s.blk.flag (R.ETH_EVT_STATEx_STATE x)) (s.blk.flag (R.ETH_EVT_STATEx_UNSETTLED x))).2.1 ∧
    Frame s t [R.ETH_EVT_STATEx_COUNT x, R.ETH_EVT_STATEx_STATE x, R.ETH_EVT_STATEx_UNSETTLED x, R.ETH_EVT_STATEx_EDGES x]) ∧
  (∀ (ch : Fin 192) s, s.fld (R.FC_CH_FUNC_FUNC ch) = 5 → s.blk.runs (ch / 8) = true → Runs (.dinHeartbeat ch) s fun t =>
    t.blk.now = max s.blk.now ((s.blk.ch ch).inp.sentAt + s.blk.use (R.FC_CH_DIN_HEART_MS ch) * 1000000) ∧ Frame s t []) ∧
  (∀ (ch : Fin 192) t0 s, s.fld (R.FC_CH_FUNC_FUNC ch) = 5 → s.fld (R.FC_CH_DIN_STATE_OV ch) = 1 → (s.blk.ch ch).inp.ovAt = some t0 → Runs (.ovClear ch) s fun t =>
    t.fld (R.FC_CH_DIN_STATE_OV ch) = 0 ∧ t.blk.now = max s.blk.now (t0 + 1000000) ∧ Frame s t [R.FC_CH_DIN_STATE_OV ch]) ∧
  (∀ (n : Fin 48) second p s, s.blk.lockstepRuns = true → s.blk.heard p = true → p.kind = .sample → p.origin = chOrigin (s.blk.pairCh n second) → s.blk.route? p.origin 3 = some p.stream → p.data.length = 4 →
    s.fld (R.FC_DCP_CTRL_EN n) = 0 → Runs (.dcpSampleArrival n second p false) s fun t =>
    t.blk.pairs = updAt s.blk.pairs n (fun q => if second then { q with b := { hist := (s.blk.pairSampleOf p :: q.b.hist).take 8 } } else { q with a := { hist := (s.blk.pairSampleOf p :: q.a.hist).take 8 } }) ∧ Frame s t []) ∧
  (∀ (n : Fin 48) second p s, s.blk.lockstepRuns = true → ∀ i ∈ [Instr.dcpSampleArrival n second p true, .dcpCheck true], Runs i s fun t =>
    t.fld R.SUP_RST_CELL_LAST_CAUSE = 0x21 ∧ t.fld R.SUP_RST_CELL_LAST_ORIGIN = org 2 2 127 ∧ (∀ k < 48, t.fld (R.FC_DCP_STATUS_STATE k) = 0 ∧ t.fld (R.FC_DCP_STATUS_OUTPUT k) = 0) ∧
    t.blk.pairs = List.replicate 48 {} ∧ Kept s t) ∧
  (∀ (n : Fin 48) s, s.blk.lockstepRuns = true → (∀ k < 48, k ≠ n.val → s.fld (R.FC_DCP_CTRL_EN k) = 0) → s.blk.flag (R.FC_DCP_CTRL_EN n) = true → Runs (.dcpCheck false) s fun t =>
    t = { s with blk := s.blk.pairEval n (s.blk.pairVerdict n (judgedSample (s.blk.pair n).a (s.blk.sys.mtime - 50 * 1000)) (judgedSample (s.blk.pair n).b (s.blk.sys.mtime - 50 * 1000)) (s.blk.now - 50 * 1000)) false s.blk.sys.mtime (s.blk.sys.mtime - 50 * 1000) }) ∧
  (∀ (b : Block) (n : Fin 48) (x y : Nat), b.get (R.FC_DCP_STATUS_STATE n) = 2 → y < (b.pair n).since + b.get (R.FC_DCP_TDISC_TDISC_MS n) * 1000000 →
    (b.pairEval n 0 true x y).get (R.FC_DCP_STATUS_STATE n) = 1 ∧ (b.pairEval n 0 true x y).get (R.FC_DCP_STATUS_ARMED n) = 1 ∧
    (b.pairEval n 1 true x y).get (R.FC_DCP_STATUS_STATE n) = (if b.flag (R.FC_DCP_STATUS_ARMED n) then 3 else 4) ∧
    (b.pairEval n 1 true x y).get (R.FC_DCP_STATUS_OUTPUT n) = b2n (b.flag (R.FC_DCP_STATUS_ARMED n)) ∧ b.pairEval n 2 true x y = b) ∧
  (∀ (b : Block) (n : Fin 48) (x y : Nat), b.get (R.FC_DCP_STATUS_STATE n) = 2 → (b.pair n).since + b.get (R.FC_DCP_TDISC_TDISC_MS n) * 1000000 ≤ y →
    (b.pairEval n 2 false x y).get (R.FC_DCP_STATUS_STATE n) = 5 ∧ (b.pairEval n 2 false x y).get (R.FC_DCP_STATUS_FAULT_EV n) = 1 ∧ (b.pairEval n 2 false x y).get (R.FC_DCP_STATUS_OUTPUT n) = 0) ∧
  (∀ (n : Fin 48) s, (s.blk.island 2).run = .running → Runs (.dcpOutputHeartbeat n) s fun t => t.blk.now = max s.blk.now ((s.blk.pair n).sentAt + 10 * 1000000) ∧ Frame s t []) ∧
  (∀ (n : Fin 48) s, Runs (.dcpConsumerTimeout n) s fun t => t.blk.now = max s.blk.now ((s.blk.pair n).sentAt + 30 * 1000000) ∧
    t.blk.pairs = updAt s.blk.pairs n (fun p => { p with silent := true }) ∧ Frame s t []) ∧
  (∀ (n : Fin 48) en c s, s.blk.unitRefusal (org 2 2 127) = some c → Runs (.dcpEnWrite n en) s fun t => t = { s with blk := s.blk.status c }) ∧
  (∀ (n : Fin 48) s, s.blk.unitRefusal (org 2 2 127) = none → Runs (.dcpEnWrite n false) s fun t =>
    t.fld (R.FC_DCP_CTRL_EN n) = 0 ∧ (s.fld (R.FC_DCP_CTRL_EN n) = 1 → t.fld (R.FC_DCP_STATUS_STATE n) = 0 ∧ t.fld (R.FC_DCP_STATUS_OUTPUT n) = 0) ∧ t.blk.fab.status = 0 ∧
    Frame s t [R.FC_DCP_CTRL_EN n, R.FC_DCP_STATUS_STATE n, R.FC_DCP_STATUS_OUTPUT n, R.FC_DCP_STATUS_ARMED n]) ∧
  (∀ (n : Fin 48) s, s.blk.unitRefusal (org 2 2 127) = none → Runs (.dcpEnWrite n true) s fun t => t.fld (R.FC_DCP_CTRL_EN n) = 1 ∧ t.blk.fab.status = 0 ∧
    (s.fld (R.FC_DCP_CTRL_EN n) = 0 → t.fld (R.FC_DCP_STATUS_STATE n) ∈ [1, 2, 3, 4]) ∧ Kept s t) ∧
  (∀ (ch : Fin 192) (x : Int) (pp vr : Nat) ov s, s.fld (R.FC_CH_FUNC_FUNC ch) = 7 → s.blk.runs (ch / 8) = true → s.fld (R.FC_CH_AIN_RATIO ch) = 0 → Runs (.ainInterval ch x pp vr ov) s fun t =>
    t.fld (R.FC_CH_AIN_VAL_VALUE ch) = lowBits 32 x ∧ t.fld (R.FC_CH_AIN_STAT_STALE ch) = 0 ∧
    t.blk.now = max s.blk.now ((s.blk.ch ch).inp.intAt + s.blk.interval ch) ∧ Frame s t [R.FC_CH_AIN_VAL_VALUE ch, R.FC_CH_AIN_STAT_STALE ch]) ∧
  (∀ (ch : Fin 192) s, s.fld (R.FC_CH_FUNC_FUNC ch) = 7 → s.fld (R.FC_CH_AIN_RANGE ch) = 3 → s.blk.runs (ch / 8) = true → (s.blk.ch ch).inp.shuntAt = none → Runs (.shuntOpen ch) s fun t =>
    t.blk.chans = updAt s.blk.chans ch (fun c => { c with inp := { c.inp with shuntAt := some s.blk.now, short := true } }) ∧ Frame s t []) ∧
  (∀ (ch : Fin 192) t0 s, (s.blk.ch ch).inp.shuntAt = some t0 → Runs (.shuntClose ch) s fun t =>
    t.blk.chans = updAt s.blk.chans ch (fun c => { c with inp := { c.inp with shuntAt := none } }) ∧ t.blk.now = max s.blk.now (t0 + 100 * 1000000) ∧ Frame s t []) ∧
  (∀ (ch : Fin 192) s, Runs (.ainValRead ch) s fun t => t.fld (R.FC_CH_AIN_STAT_SEQ ch) = (s.blk.ch ch).inp.ainStat % 256 ∧ t.fld (R.FC_CH_AIN_STAT_OVR ch) = b2n (bit (s.blk.ch ch).inp.ainStat 8) ∧
    t.fld (R.FC_CH_AIN_STAT_BAND ch) = b2n (bit (s.blk.ch ch).inp.ainStat 9) ∧
    t.fld (R.FC_CH_AIN_STAT_SHORT ch) = b2n (bit (s.blk.ch ch).inp.ainStat 10) ∧
    Frame s t [R.FC_CH_AIN_STAT_SEQ ch, R.FC_CH_AIN_STAT_OVR ch, R.FC_CH_AIN_STAT_BAND ch, R.FC_CH_AIN_STAT_SHORT ch, R.FC_CH_AIN_STAT_SUPPLY_BAD ch, R.FC_CH_AIN_STAT_P2P ch]) ∧
  (∀ (ch : Fin 192) ov s, s.fld (R.FC_CH_FUNC_FUNC ch) = 8 → s.fld (R.FC_CH_FIN_MODE ch) = 0 → s.blk.runs (ch / 8) = true → Runs (.finInterval ch ov) s fun t =>
    t.fld (R.FC_CH_FIN_VAL_VALUE ch) = lowBits 32 (finValue (s.blk.ch ch).inp (s.blk.use (R.FC_CH_FIN_ZERO_ZERO_MS ch)) (t.blk.now / 10)).1 ∧ t.fld (R.FC_CH_FIN_STAT_STALE ch) = 0 ∧
    t.blk.now = max s.blk.now ((s.blk.ch ch).inp.intAt + s.blk.interval ch) ∧ Frame s t [R.FC_CH_FIN_VAL_VALUE ch, R.FC_CH_FIN_STAT_STALE ch]) ∧
  (∀ (ch : Fin 192) s, Runs (.finValRead ch) s fun t => t.fld (R.FC_CH_FIN_POS_COUNT ch) = (s.blk.ch ch).inp.finPos % 2 ^ 32 ∧ t.fld (R.FC_CH_FIN_STAT_ZERO ch) = b2n (bit (s.blk.ch ch).inp.finStat 8) ∧
    Frame s t [R.FC_CH_FIN_POS_COUNT ch, R.FC_CH_FIN_STAT_SEQ ch, R.FC_CH_FIN_STAT_ZERO ch, R.FC_CH_FIN_STAT_DIR ch, R.FC_CH_FIN_STAT_EDGES ch]) ∧
  (∀ (ch : Fin 192) s, s.fld (R.FC_CH_FUNC_FUNC ch) = 9 → s.fld (R.FC_CH_STATUS_ON ch) = 1 → s.blk.use (R.FC_CH_SUP_VSET ch) ≠ 0 → Runs (.supRegLimit ch) s fun t =>
    t.blk.flag (R.FC_CH_STATUS_LIM_LATCH ch) = true ∧ (s.fld (R.FC_CH_FUNC_BOND ch) = 0 → s.blk.reversed (ch / 8) = false → t.fld (R.FC_CH_STATUS_ON ch) = 0) ∧ Kept s t) ∧
  (∀ (ch : Fin 192) low s, s.fld (R.FC_CH_FUNC_FUNC ch) = 9 → Runs (.supLow ch low) s fun t => t.fld (R.FC_CH_SUP_STAT_SUP_LOW ch) = b2n (low || s.blk.studShort ch) ∧ Frame s t [R.FC_CH_SUP_STAT_SUP_LOW ch]) ∧
  (∀ (ch : Fin 192) s, s.fld (R.FC_CH_FUNC_FUNC ch) = 8 → s.blk.runs (ch / 8) = true → Runs (.freqEdge ch .glitch) s fun t =>
    t.fld (R.FC_CH_FIN_CNT_GLITCH ch) = s.counted (R.FC_CH_FIN_CNT_GLITCH ch) ∧ Frame s t [R.FC_CH_FIN_CNT_GLITCH ch]) ∧
  (∀ (ch : Fin 192) (x : Nat) s, s.fld (R.FC_CH_FUNC_FUNC ch) = 8 → s.blk.runs (ch / 8) = true → s.fld (R.FC_CH_FIN_MODE ch) < 2 → s.blk.use (R.FC_CH_FIN_EDGE ch) ≠ 1 → Runs (.freqEdge ch (.up x)) s fun t =>
    t.blk.chans = updAt s.blk.chans ch (fun c => { c with inp := countEdge c.inp (max s.blk.now (10 * x) / 10) }) ∧ t.blk.now = max s.blk.now (10 * x) ∧ Frame s t [])

/-- Tarn ports (R230, R231, R235 to R245): a SYNC takes the supply readings and the next sweep number; an answer with a right CRC fills the entry of its position and any other is counted; IDENT frames count the heads found; an ACK ends its CONFIG, a second missing one shows CFG_FAIL; a power fault turns the chain off and a retry or PWR_CLR powers it again; STOP, START and REENUM act as answered; counters are cleared together and reads latch what belongs to them. -/
def Obligations.TarnCommands : Prop :=
  (∀ (p : Fin 16) (mv ma : Nat) s, (s.blk.tarnPort p).started = true → s.fld (R.TARN_STATUS_STATE p) = 6 → (s.blk.tarnPort p).goes = none → Runs (.tarnSync p mv ma) s fun t =>
    t.fld (R.TARN_PWR_VOLT_MV p) = mv % 2 ^ (R.TARN_PWR_VOLT_MV p).wid ∧ t.fld (R.TARN_PWR_CUR_MA p) = ma % 2 ^ (R.TARN_PWR_CUR_MA p).wid ∧ t.fld (R.TARN_SWEEP_STALE p) = 0 ∧
    t.fld (R.TARN_SWEEP_SWEEP_SEQ p) = ((s.blk.tarnPort p).syncSeq + 1) % 65536 ∧ Kept s t) ∧
  (∀ (p : Fin 16) (mv ma : Nat) s, (s.blk.tarnPort p).started = true → s.fld (R.TARN_STATUS_STATE p) = 3 → (s.blk.tarnPort p).goes = none → (s.blk.tarnPort p).reenum = false → (s.blk.tarnPort p).stage = .idle → Runs (.tarnSync p mv ma) s fun t =>
    t.fld (R.TARN_PWR_VOLT_MV p) = mv % 2 ^ (R.TARN_PWR_VOLT_MV p).wid ∧ t.fld (R.TARN_PWR_CUR_MA p) = ma % 2 ^ (R.TARN_PWR_CUR_MA p).wid ∧ (t.blk.tarnPort p).syncSeq = ((s.blk.tarnPort p).syncSeq + 1) % 65536 ∧
    (s.blk.tHeld p = true → t.fld (R.TARN_EV_WAIT_EV p) = 1 ∧ (t.blk.tarnPort p).stage = .waiting) ∧ (s.blk.tHeld p = false → s.blk.tNearEnd p ≠ 0 → (t.blk.tarnPort p).stage = .polling ∧ (t.blk.tarnPort p).near = 1) ∧ Kept s t) ∧
  (∀ (p : Fin 16) (l : List Nat) (n : Nat) s, (s.blk.tarnPort p).stage = .polling → (s.blk.tarnPort p).near ≠ 0 → l.length = 16 → Runs (.tarnPollAnswer p false (tarnFrame true 2 (s.blk.tarnPort p).near l) n) s fun t =>
    (t.blk.tarnPort p).entries = updAt (s.blk.tarnPort p).entries ((s.blk.tarnPort p).near - 1) (fun _ => { frame := l, reason := 0, retried := (s.blk.tarnPort p).nearTry != 0, far := false }) ∧ Kept s t) ∧
  (∀ (p : Fin 16) (f : List Nat) (n : Nat) s, (s.blk.tarnPort p).stage = .polling → (s.blk.tarnPort p).near ≠ 0 → (s.blk.tarnPort p).nearTry = 0 → tarnAnswer 2 16 (s.blk.tarnPort p).near f = none →
    s.blk.tFits p ((s.blk.tarnPort p).nearUs + min n (119 + 2 * ((s.blk.tarnPort p).near - 1))) (s.blk.tarnPort p).near = true → Runs (.tarnPollAnswer p false f n) s fun t =>
    t.fld (R.TARN_CNT_LINK_CRC p) = s.counted (R.TARN_CNT_LINK_CRC p) ∧ t.fld (R.TARN_HEAD_CNT_CRC p ((s.blk.tarnPort p).near - 1)) = s.counted (R.TARN_HEAD_CNT_CRC p ((s.blk.tarnPort p).near - 1)) ∧ (t.blk.tarnPort p).nearTry = 1 ∧
    Frame s t [R.TARN_CNT_LINK_CRC p, R.TARN_HEAD_CNT_CRC p ((s.blk.tarnPort p).near - 1)]) ∧
  (∀ (p : Fin 16) (n : Nat) s, (s.blk.tarnPort p).stage = .polling → (s.blk.tarnPort p).near ≠ 0 → (s.blk.tarnPort p).nearTry = 0 →
    s.blk.tFits p ((s.blk.tarnPort p).nearUs + min n (119 + 2 * ((s.blk.tarnPort p).near - 1))) (s.blk.tarnPort p).near = true → Runs (.tarnPollTimeout p false n) s fun t =>
    t.fld (R.TARN_CNT_LINK_NO_REPLY p) = s.counted (R.TARN_CNT_LINK_NO_REPLY p) ∧ (t.blk.tarnPort p).nearTry = 1 ∧
    Frame s t [R.TARN_CNT_LINK_NO_REPLY p, R.TARN_HEAD_CNT_NO_REPLY p ((s.blk.tarnPort p).near - 1)]) ∧
  (∀ (p : Fin 16) (n : Nat) s, s.fld (R.TARN_STATUS_STATE p) = 3 → (s.blk.tarnPort p).stage = .polling → (s.blk.tarnPort p).near ≠ 0 → (s.blk.tarnPort p).nearTry = 1 → Runs (.tarnPollTimeout p false n) s fun t =>
    t.fld (R.TARN_EV_BREAK_EV p) = 1 ∧ t.fld (R.TARN_CNT_SWEEP_BREAKS p) = s.counted (R.TARN_CNT_SWEEP_BREAKS p) ∧
    (s.blk.tRing p = false → t.fld (R.TARN_STATUS_FOUND p) = ((s.blk.tarnPort p).near - 1) % 2 ^ (R.TARN_STATUS_FOUND p).wid) ∧ Kept s t) ∧
  (∀ (p : Fin 16) (l : List Nat) s, (s.blk.tarnPort p).stage = .enumNear → l.length = 16 → Runs (.tarnIdent p (tarnFrame true 3 (s.blk.tarnPort p).near l)) s fun t =>
    t.fld (R.TARN_HEAD_ID_TYPE p ((s.blk.tarnPort p).near - 1)) = bytesAt l 0 1 % 2 ^ (R.TARN_HEAD_ID_TYPE p 0).wid ∧ t.fld (R.TARN_STATUS_FOUND p) = (s.blk.tarnPort p).near % 2 ^ (R.TARN_STATUS_FOUND p).wid ∧ Kept s t) ∧
  (∀ (p : Fin 16) s, (s.blk.tarnPort p).stage = .enumNear → s.blk.tRing p = false → Runs (.tarnEnumNoAnswer p) s fun t =>
    (t.blk.tarnPort p).stage = .idle ∧ (t.blk.tarnPort p).goes = some 3 ∧ (t.blk.tarnPort p).configs = List.range (s.fld (R.TARN_STATUS_FOUND p)) ∧ Frame s t []) ∧
  (∀ (p : Fin 16) n r s, (s.blk.tarnPort p).configs = n :: r → Runs (.tarnAck p (tarnFrame true 4 (n + 1) [])) s fun t =>
    t.fld (R.TARN_HEAD_STAT_CFG_FAIL p n) = 0 ∧ (t.blk.tarnPort p).configs = r ∧ Frame s t [R.TARN_HEAD_STAT_CFG_FAIL p n]) ∧
  (∀ (p : Fin 16) n r f s, (s.blk.tarnPort p).configs = n :: r → (s.blk.tarnPort p).cfgTried = true → tarnAnswer 4 0 (n + 1) f = none → Runs (.tarnAck p f) s fun t =>
    t.fld (R.TARN_HEAD_STAT_CFG_FAIL p n) = 1 ∧ (t.blk.tarnPort p).configs = r ∧ Frame s t [R.TARN_HEAD_STAT_CFG_FAIL p n]) ∧
  (∀ (p : Fin 16) (n : Fin 32) (v : BitVec 32) c s, s.blk.tRefusal p = some c → ∀ i ∈ [Instr.tarnHeadCfgWrite p n v, .tarnStop p, .tarnStart p, .tarnReenum p, .tarnPwrClr p, .tarnClrCnt p], Runs i s fun t => t = { s with blk := s.blk.status c }) ∧
  (∀ (p : Fin 16) (n : Fin 32) (v : BitVec 32) s, s.blk.tRefusal p = none → Runs (.tarnHeadCfgWrite p n v) s fun t =>
    t.fld (R.TARN_HEAD_CFG_CFG p n) = v.toNat % 2 ^ (R.TARN_HEAD_CFG_CFG p n).wid ∧ t.blk.fab.status = 0 ∧ Frame s t [R.TARN_HEAD_CFG_CFG p n]) ∧
  (∀ (p : Fin 16) s, s.fld (R.TARN_STATUS_PWR_ON p) = 1 → s.blk.tPrimary p = p.val → s.blk.tRing p = false → Runs (.tarnPowerFault p) s fun t =>
    t.fld (R.TARN_STATUS_PWR_ON p) = 0 ∧ t.fld (R.TARN_STATUS_STATE p) = 6 ∧ t.fld (R.TARN_EV_PWR_EV p) = 1 ∧ t.fld (R.TARN_CNT_SWEEP_PWR_FAULTS p) = s.counted (R.TARN_CNT_SWEEP_PWR_FAULTS p) ∧
    t.fld (R.TARN_STATUS_PWR_LATCH p) = b2n (decide (3 ≤ (recent s.blk.now (60 * 1000000000) (s.blk.tarnPort p).faults).length)) ∧ Kept s t ∧
    ((s.blk.tarnPort p).stage = .idle → (s.blk.tarnPort p).stopping = false → Frame s t [R.TARN_STATUS_PWR_ON p, R.TARN_STATUS_STATE p, R.TARN_EV_PWR_EV p, R.TARN_CNT_SWEEP_PWR_FAULTS p, R.TARN_STATUS_PWR_LATCH p])) ∧
  (∀ (p : Fin 16) t0 s, (s.blk.tarnPort p).retryEnd = some t0 → s.fld (R.TARN_STATUS_STATE p) = 6 → s.blk.tRing p = false → Runs (.tarnPwrRetry p) s fun t =>
    t.fld (R.TARN_STATUS_PWR_ON p) = 1 ∧ t.fld (R.TARN_STATUS_STATE p) = 1 ∧ t.fld (R.TARN_STATUS_PWR_LATCH p) = 0 ∧ t.blk.now = max s.blk.now t0 ∧
    Frame s t [R.TARN_STATUS_PWR_ON p, R.TARN_STATUS_STATE p, R.TARN_STATUS_PWR_LATCH p]) ∧
  (∀ p s, ((List.range 16).filter fun p => s.blk.flag (R.TARN_STATUS_PWR_ON p)).getLast? = some p → s.blk.tPrimary p = p → Runs .tarnOverload60w s fun t =>
    t.fld (R.TARN_STATUS_PWR_ON p) = 0 ∧ t.fld (R.TARN_STATUS_STATE p) = 6 ∧ Kept s t) ∧
  (∀ s, (∀ p < 16, s.fld (R.TARN_STATUS_PWR_ON p) = 0) → Runs .tarnOverload60w s fun t => t = s) ∧
  (∀ (p : Fin 16) t0 s, (s.blk.tarnPort p).pwrEnd = some t0 → s.fld (R.TARN_STATUS_STATE p) = 1 → s.fld (R.TARN_CFG_HEADS p) ≠ 0 → Runs (.tarnPoweringDone p) s fun t =>
    t.fld (R.TARN_STATUS_STATE p) = 2 ∧ t.fld (R.TARN_STATUS_FOUND p) = 0 ∧ (t.blk.tarnPort p).stage = .enumNear ∧ t.blk.now = max s.blk.now t0 ∧
    Frame s t [R.TARN_STATUS_STATE p, R.TARN_STATUS_FOUND p, R.TARN_STATUS_BREAK_LO p, R.TARN_STATUS_BREAK_HI p]) ∧
  (∀ (p : Fin 16) s, s.blk.tRefusal p = none → s.fld (R.TARN_STATUS_STATE p) = 3 → (s.blk.tarnPort p).stage = .idle → Runs (.tarnStop p) s fun t =>
    t.fld (R.TARN_STATUS_STATE p) = 5 ∧ t.blk.fab.status = 0 ∧ Frame s t [R.TARN_STATUS_STATE p]) ∧
  (∀ (p : Fin 16) s, s.blk.tRefusal p = none → s.fld (R.TARN_STATUS_STATE p) = 3 → (s.blk.tarnPort p).stage = .polling → Runs (.tarnStop p) s fun t =>
    (t.blk.tarnPort p).stopping = true ∧ t.blk.fab.status = 0 ∧ Frame s t []) ∧
  (∀ (p : Fin 16) s, s.blk.tRefusal p = none → s.fld (R.TARN_STATUS_STATE p) = 5 → (s.blk.tarnPort p).byStop = true → s.fld (R.TARN_CFG_RING p) ≠ 2 → (s.blk.tarnPort p).changed = false → (s.blk.tarnPort p).reenum = false →
    Runs (.tarnStart p) s fun t => (t.blk.tarnPort p).goes = some 3 ∧ (t.blk.tarnPort p).byStop = false ∧ t.fld (R.TARN_SWEEP_STALE p) = 1 ∧ t.blk.fab.status = 0 ∧ Frame s t [R.TARN_SWEEP_STALE p]) ∧
  (∀ (p : Fin 16) s, s.blk.tRefusal p = none → Runs (.tarnReenum p) s fun t => t.blk.tarn = updAt s.blk.tarn p (fun x => { x with reenum := true }) ∧ t.blk.fab.status = 0 ∧ Frame s t []) ∧
  (∀ (p : Fin 16) s, s.blk.tRefusal p = none → s.fld (R.TARN_STATUS_STATE p) = 6 → s.fld (R.TARN_STATUS_PWR_LATCH p) = 1 → s.blk.tRing p = false → Runs (.tarnPwrClr p) s fun t =>
    t.fld (R.TARN_STATUS_STATE p) = 1 ∧ t.fld (R.TARN_STATUS_PWR_LATCH p) = 0 ∧ t.fld (R.TARN_STATUS_PWR_ON p) = 1 ∧ t.blk.fab.status = 0 ∧
    Frame s t [R.TARN_STATUS_PWR_ON p, R.TARN_STATUS_STATE p, R.TARN_STATUS_PWR_LATCH p]) ∧
  (∀ (p : Fin 16) s, s.blk.tRefusal p = none → Runs (.tarnClrCnt p) s fun t =>
    (∀ f ∈ [R.TARN_CNT_LINK_NO_REPLY p, R.TARN_CNT_LINK_CRC p, R.TARN_CNT_SWEEP_NOT_POLLED p, R.TARN_CNT_SWEEP_BREAKS p, R.TARN_CNT_SWEEP_PWR_FAULTS p], t.fld f = 0) ∧
    (∀ n < 32, t.fld (R.TARN_HEAD_CNT_NO_REPLY p n) = 0 ∧ t.fld (R.TARN_HEAD_CNT_CRC p n) = 0 ∧ t.fld (R.TARN_HEAD_CNT_STALE p n) = 0 ∧ t.fld (R.TARN_HEAD_CNT_WRONG p n) = 0) ∧ t.blk.fab.status = 0 ∧ Kept s t) ∧
  (∀ (p : Fin 16) s, Runs (.tarnSweepRead p) s fun t => t.fld (R.TARN_SWEEP_INFO_DURATION p) = (s.blk.tarnPort p).lastUs % 2 ^ (R.TARN_SWEEP_INFO_DURATION p).wid ∧
    t.fld (R.TARN_SWEEP_INFO_CONF p) = (s.blk.tarnPort p).lastConf % 2 ^ (R.TARN_SWEEP_INFO_CONF p).wid ∧ Frame s t [R.TARN_SWEEP_INFO_DURATION p, R.TARN_SWEEP_INFO_CONF p]) ∧
  (∀ (p : Fin 16) (n : Fin 32) s, Runs (.tarnFrameRead p n) s fun t => (∀ m ∈ [1, 2, 3], t.fld (R.TARN_FRAMEn_Wm_BYTES p n m) = bytesAt ((s.blk.tarnPort p).frames.getD n []) (4 * m) 4 % 2 ^ 32) ∧
    Frame s t [R.TARN_FRAMEn_Wm_BYTES p n 1, R.TARN_FRAMEn_Wm_BYTES p n 2, R.TARN_FRAMEn_Wm_BYTES p n 3])

/-- The loop engine (R250, R251, R260, R261, R267, R268, R270): a frame of a running rate group counts and takes its time, or is abandoned at its deadline and counts as an overrun; a frame to be skipped clears its mark; an overrun counts and shows; graph 0 cannot be disabled; an IN port takes a packet of its stream; STOP and START change the state, an accepted word is stored and a refused one is not; a read latches the words of its instance. -/
def Obligations.LoopEngineCommands : Prop :=
  (∀ (g : Fin 4) (x : Nat) s, s.fld R.LE_STATUS_STATE = 1 → (s.blk.group g).skip = false → Runs (.groupFrameStart g x) s fun t =>
    (t.fld (R.LE_GRPg_FRAME_COUNT g) = (s.fld (R.LE_GRPg_FRAME_COUNT g) + 1) % 2 ^ 32 ∨
      t.fld (R.LE_GRPg_FRAME_COUNT g) = s.fld (R.LE_GRPg_FRAME_COUNT g) ∧ t.fld (R.LE_GRPg_OVR_ABANDONED g) = s.counted (R.LE_GRPg_OVR_ABANDONED g)) ∧
    (s.blk.groupSlots g = [] → t.fld (R.LE_GRPg_FRAME_COUNT g) = (s.fld (R.LE_GRPg_FRAME_COUNT g) + 1) % 2 ^ 32 ∧ t.fld (R.LE_GRPg_LAST_T g) = (30 + x) % 2 ^ (R.LE_GRPg_LAST_T g).wid) ∧ Kept s t) ∧
  (∀ (g : Fin 4) (x : Nat) s, s.fld R.LE_STATUS_STATE = 1 → (s.blk.group g).skip = true → Runs (.groupFrameStart g x) s fun t =>
    t.fld (R.LE_GRPg_FRAME_COUNT g) = s.fld (R.LE_GRPg_FRAME_COUNT g) ∧ (t.blk.group g).skip = false ∧ Kept s t) ∧
  (∀ (g : Fin 4) s, s.fld R.LE_STATUS_STATE = 1 → (s.blk.group g).skip = false → Runs (.groupOverrun g true) s fun t =>
    t.fld (R.LE_GRPg_OVR_COUNT g) = s.counted (R.LE_GRPg_OVR_COUNT g) ∧ t.fld (R.LE_GRPg_OVR_ABANDONED g) = s.counted (R.LE_GRPg_OVR_ABANDONED g) ∧ t.fld (R.LE_GRPg_OVR_OVR_EV g) = 1 ∧
    t.fld R.FAB_EDGE_SUMMARY_RATE_SKIP = 1 ∧ Frame s t [R.LE_GRPg_OVR_COUNT g, R.LE_GRPg_OVR_ABANDONED g, R.LE_GRPg_OVR_OVR_EV g, R.LE_GRPg_OVR_STORM g, R.LE_STATUS_STORM, R.FAB_EDGE_SUMMARY_RATE_SKIP]) ∧
  (∀ (g : Fin 4) m s, s.fld R.LE_STATUS_STATE = 1 → (s.blk.group g).skip = false → (s.blk.group g).startM = some m → Runs (.groupOverrun g false) s fun t =>
    t.fld (R.LE_GRPg_OVR_COUNT g) = s.counted (R.LE_GRPg_OVR_COUNT g) ∧ t.fld (R.LE_GRPg_OVR_OVR_EV g) = 1 ∧ (t.blk.group g).skip = true ∧
    t.fld R.FAB_EDGE_SUMMARY_RATE_SKIP = 1 ∧ Frame s t [R.LE_GRPg_OVR_COUNT g, R.LE_GRPg_OVR_OVR_EV g, R.LE_GRPg_OVR_STORM g, R.LE_STATUS_STORM, R.FAB_EDGE_SUMMARY_RATE_SKIP]) ∧
  (∀ (w : BitVec 64) s, Runs (.graphEnable w) s fun t => t.fld R.LE_GRAPH_EN0_EN = withBit w.toNat 0 true % 2 ^ 32 ∧ t.fld R.LE_GRAPH_EN1_EN = w.toNat / 2 ^ 32 ∧ Frame s t [R.LE_GRAPH_EN0_EN, R.LE_GRAPH_EN1_EN]) ∧
  (∀ p i s, s.blk.heard p = true → s.blk.slots = [i] → s.fld (R.LE_INSTi_W0_TYPE i) = 1 → s.blk.use (leParam i 0) % 65536 = p.stream → p.error = true → Runs (.inPortPacket p) s fun t =>
    t.fld (R.LE_EVTi_COUNT i) = s.counted (R.LE_EVTi_COUNT i) ∧ t.blk.loop = s.blk.loop ∧ Frame s t [R.LE_EVTi_COUNT i]) ∧
  (∀ p i s, s.blk.heard p = true → s.blk.slots = [i] → s.fld (R.LE_INSTi_W0_TYPE i) = 1 → s.blk.use (leParam i 0) % 65536 = p.stream → p.error = false → p.resync = true → Runs (.inPortPacket p) s fun t =>
    t.blk.loop.insts = insertInst ((s.blk.cfgUse i).arrive p s.blk.now (s.blk.inst i)).1 s.blk.loop.insts ∧ Frame s t []) ∧
  (∀ c s, s.blk.leRefusal = some c → ∀ i ∈ [Instr.leStop, .leStart, .leClrCnt], Runs i s fun t => t = { s with blk := s.blk.status c }) ∧
  (∀ s, s.blk.leRefusal = none → s.fld R.LE_STATUS_STATE = 1 → Runs .leStop s fun t => t.fld R.LE_STATUS_STATE = 2 ∧ t.blk.loop.byStop = true ∧ t.blk.fab.status = 0 ∧ Frame s t [R.LE_STATUS_STATE]) ∧
  (∀ s, s.fld R.LE_STATUS_STATE = 2 → Runs .leStopped s fun t => t.fld R.LE_STATUS_STATE = 0 ∧ Frame s t [R.LE_STATUS_STATE]) ∧
  (∀ s, s.blk.leRefusal = none → s.fld R.LE_STATUS_STATE = 0 → s.blk.loop.byStop = true → Runs .leStart s fun t =>
    t.fld R.LE_STATUS_STATE = 1 ∧ (∀ g < 4, t.fld (R.LE_GRPg_FRAME_COUNT g) = 0 ∧ t.fld (R.LE_GRPg_OVR_COUNT g) = 0) ∧ t.blk.loop.groups = List.replicate 4 {} ∧ t.blk.fab.status = 0 ∧ Kept s t) ∧
  (∀ s, s.blk.leRefusal = none → Runs .leClrCnt s fun t => (∀ g < 4, t.fld (R.LE_GRPg_MAX_T g) = 0 ∧ t.fld (R.LE_GRPg_OVR_COUNT g) = 0 ∧ t.fld (R.LE_GRPg_OVR_ABANDONED g) = 0 ∧ t.fld (R.LE_GRPg_REALIGN_COUNT g) = 0) ∧
    (∀ i ∈ s.blk.slots, t.fld (R.LE_EVTi_COUNT i) = 0) ∧ t.blk.fab.status = 0 ∧ Kept s t) ∧
  (∀ w (v : BitVec 32) c s, s.blk.leRefusal = none → leWordRefusal w v.toNat s.blk = some c → Runs (.instanceWrite w v) s fun t => t = { s with blk := s.blk.status c }) ∧
  (∀ (k : Fin 65536) (v : BitVec 32) s, s.blk.leRefusal = none → leWordRefusal (.table k) v.toNat s.blk = none → Runs (.instanceWrite (.table k) v) s fun t =>
    t.fld (leTable k) = v.toNat ∧ t.blk.use (leTable k) = s.blk.use (leTable k) ∧ t.blk.fab.status = 0 ∧ Frame s t [leTable k]) ∧
  (∀ (i : Fin 4096) s, Runs (.leSigRead i) s fun t => t.fld (R.LE_SIGi_VAL0_VALUE i) = lowBits 32 (s.blk.committed i 0).raw ∧ t.fld (R.LE_SIGi_VAL1_VALUE i) = lowBits 32 (s.blk.committed i 1).raw ∧
    t.fld (R.LE_SIGi_STAT0_VALID i) = b2n (s.blk.committed i 0).valid ∧
    Frame s t [R.LE_SIGi_VAL0_VALUE i, R.LE_SIGi_VAL1_VALUE i, R.LE_SIGi_STAT0_CONF i, R.LE_SIGi_STAT0_VALID i, R.LE_SIGi_STAT0_STALE i, R.LE_SIGi_STAT0_MASKED i, R.LE_SIGi_STAT0_REPLAY i, R.LE_SIGi_STAT0_FSEQ i,
      R.LE_SIGi_STAT1_CONF i, R.LE_SIGi_STAT1_VALID i, R.LE_SIGi_STAT1_STALE i, R.LE_SIGi_STAT1_MASKED i, R.LE_SIGi_STAT1_REPLAY i, R.LE_SIGi_STAT1_FSEQ i])

/-- The setting solver (R273 to R275, R286, R292, R296 to R298): a cycle of a running solver that neither waits nor is late begins its solve and marks the result stale; a solve that its iterations do not let end stops at its deadline; its result ends the solve; a result that waits is sent; STOP, START and COLD act as answered; counters are cleared together and a read latches the result it sent. -/
def Obligations.SettingSolverCommands : Prop :=
  (∀ p s, s.fld R.SOL_STATUS_STATE ≠ 0 → s.fld R.SOL_STATUS_STATE ≠ 2 → s.blk.solRuns = true → p.busy = false → p.late = false → s.blk.solver.waiting = none → s.blk.solHeld = false → Runs (.solverCycle p) s fun t =>
    t.fld R.SOL_STATUS_STATE = 2 ∧ t.fld R.SOL_RES_STAT_STALE = 1 ∧ t.blk.solver.rseq = (s.blk.solver.rseq + 1) % 2 ^ 32 ∧ t.blk.solver.cold = false ∧ Kept s t) ∧
  (∀ p s, s.fld R.SOL_STATUS_STATE ≠ 0 → s.fld R.SOL_STATUS_STATE ≠ 2 → s.blk.solRuns = false → Runs (.solverCycle p) s fun t =>
    t.fld R.SOL_STATUS_STATE = 1 ∧ t.blk.solver.harvest = false ∧ Frame s t [R.SOL_STATUS_STATE]) ∧
  (∀ p s, s.fld R.SOL_STATUS_STATE = 2 → Runs (.solverCycle p) s fun t => t = s) ∧
  (∀ p s, s.blk.heard p = true → p.replay = false → (∀ k < 64, 0 < k → s.fld (R.SOL_INk_SRC_STREAM k) = 0) → s.fld (R.SOL_INk_SRC_STREAM 0) = p.stream → p.stream ≠ 0 → p.error = false → p.resync = true → Runs (.solverInputPacket p) s fun t =>
    t.blk.solver.slots = updAt s.blk.solver.slots 0 (fun _ => SolSlot.ofInst ((s.blk.slotCfg 0).arrive p s.blk.now (s.blk.solver.slots.getD 0 {}).toInst).1) ∧ Frame s t []) ∧
  (∀ s, s.fld R.SOL_STATUS_STATE = 2 → Runs .solverDeadline s fun t => Frame s t [] ∧
    t.blk.now = if s.blk.solByDeadline s.blk.solve.2.2 then max s.blk.now (s.blk.solver.startE + (s.blk.solAsUs + s.blk.solve.2.1 * s.blk.solItUs) * 1000) else s.blk.now) ∧
  (∀ s, s.fld R.SOL_STATUS_STATE = 2 → Runs .solverResult s fun t =>
    t.fld R.SOL_STATUS_STATE = (if s.blk.solver.stopping then 0 else if s.blk.solRuns then 3 else 1) ∧ t.fld R.SOL_RES_STAT_STALE = 0 ∧ t.blk.solver.stopping = false ∧ Kept s t) ∧
  (∀ p s, s.blk.solver.waiting = some p → Runs .solverSkipSend s fun t => t.blk.solver.waiting = none ∧ t.blk.out.length = s.blk.out.length + 1 ∧ Frame s t []) ∧
  (∀ c s, s.blk.solRefusal = some c → ∀ i ∈ [Instr.solStop, .solStart, .solCold, .solClrCnt], Runs i s fun t => t = { s with blk := s.blk.status c }) ∧
  (∀ s, s.blk.solRefusal = none → s.fld R.SOL_STATUS_STATE ≠ 2 → Runs .solStop s fun t => t.fld R.SOL_STATUS_STATE = 0 ∧ t.blk.fab.status = 0 ∧ Frame s t [R.SOL_STATUS_STATE]) ∧
  (∀ s, s.blk.solRefusal = none → s.fld R.SOL_STATUS_STATE = 2 → Runs .solStop s fun t => t.blk.solver.stopping = true ∧ t.blk.fab.status = 0 ∧ Frame s t []) ∧
  (∀ s, s.blk.solRefusal = none → s.fld R.SOL_STATUS_STATE = 0 → s.blk.solver.byStop = true → Runs .solStart s fun t =>
    t.fld R.SOL_STATUS_STATE = 1 ∧ t.blk.solver.cold = true ∧ t.blk.solver.rseq = 0 ∧ t.fld R.SOL_CNT_B_SKIPPED = 0 ∧ t.fld R.SOL_MAX_T_T = 0 ∧ t.blk.fab.status = 0 ∧ Kept s t) ∧
  (∀ s, s.blk.solRefusal = none → Runs .solCold s fun t => t.blk.solver = { s.blk.solver with cold := true } ∧ t.blk.fab.status = 0 ∧ Frame s t []) ∧
  (∀ s, s.blk.solRefusal = none → Runs .solClrCnt s fun t => (∀ f ∈ [R.SOL_CNT_A_ITER_LIMIT, R.SOL_CNT_A_RELAXED, R.SOL_CNT_B_INFEASIBLE, R.SOL_CNT_B_SKIPPED, R.SOL_CNT_MODEL_OUTLIERS, R.SOL_CNT_MODEL_RESETS, R.SOL_MAX_T_T], t.fld f = 0) ∧
    t.blk.fab.status = 0 ∧ Frame s t [R.SOL_CNT_A_ITER_LIMIT, R.SOL_CNT_A_RELAXED, R.SOL_CNT_B_INFEASIBLE, R.SOL_CNT_B_SKIPPED, R.SOL_CNT_MODEL_OUTLIERS, R.SOL_CNT_MODEL_RESETS, R.SOL_MAX_T_T]) ∧
  (∀ s, Runs .solResRead s fun t => t.fld R.SOL_RES_STAT_STATUS = s.blk.solver.last.status % 2 ^ R.SOL_RES_STAT_STATUS.wid ∧ t.fld R.SOL_RES_SEQ_RSEQ = s.blk.solver.last.rseq % 2 ^ 32 ∧
    (∀ i < 32, t.fld (R.SOL_RES_Xi_VALUE i) = lowBits 32 (s.blk.solver.last.x.getD i 0)) ∧ Kept s t)

/-- The solution of the setting solver stays in its box (R276, R287): a solve that ends without a hard row violated shows each variable within the bounds of its cycle; one that ends with a hard row violated shows the values sent before. -/
def Obligations.SolverResultInItsBox : Prop :=
  (∀ i s, s.fld R.SOL_STATUS_STATE = 2 → i < s.blk.solVars → s.blk.solver.lo.getD i 0 ≤ s.blk.solver.hi.getD i 0 → Runs .solverResult s fun t =>
    (t.blk.solver.last.status ≠ 4 → s.blk.solver.lo.getD i 0 ≤ t.blk.solver.last.x.getD i 0 ∧ t.blk.solver.last.x.getD i 0 ≤ s.blk.solver.hi.getD i 0) ∧
    (t.blk.solver.last.status = 4 → t.blk.solver.last.x = s.blk.solver.sent) ∧ t.blk.solver.last.rseq = s.blk.solver.rseq)

/-- Inertial samples and the fusion engine (R300, R304, R305, R309, R312, R317): a sample that arrives is buffered, or counted when its epoch has closed; an epoch boundary opens an epoch and a limit closes it; a dropout or a forced mask masks its input; loss of inertial samples and REINIT lead to INIT; STOP, START and the reads act as answered. -/
def Obligations.FusionCommands : Prop :=
  (∀ r f (x : Int) sat bad s, (s.blk.island 3).run = .running → 2 ≤ s.fld R.PWR_STATE_STATE → Runs (.inertialSample r f x sat bad) s fun t =>
    t.blk.sys.mtime = (s.blk.sys.mtime + 1000000) / 1000000 * 1000000 ∧ Frame s t []) ∧
  (∀ p s, s.fld R.FUS_STATUS_STATE = 0 ∨ s.blk.heard p = false → Runs (.fusSample p) s fun t => t = s) ∧
  (∀ p i s, s.fld R.FUS_STATUS_STATE ≠ 0 → s.blk.heard p = true → ((List.range 16).find? fun i => s.blk.fKind i != 0 && s.fld (R.FUS_INi_SRC_STREAM i) == p.stream) = some i → s.blk.fusion.closed = none → s.blk.fusion.nOpen = 0 → Runs (.fusSample p) s fun t =>
    t.blk.fusion.buf = s.blk.fusion.buf ++ [{ input := i, fin := s.blk.unstamp p.stamp + s.fld (R.FUS_INi_TIME_SPAN i) * 10 * 1000, pkt := p }] ∧
    t.blk.fusion.ins = updAt s.blk.fusion.ins i (fun x => { x with lastEnd := some (s.blk.unstamp p.stamp + s.fld (R.FUS_INi_TIME_SPAN i) * 10 * 1000), usableAt := if s.blk.fUsable i p then s.blk.sys.mtime else x.usableAt }) ∧ Frame s t []) ∧
  (∀ p i (c : Nat) s, s.fld R.FUS_STATUS_STATE ≠ 0 → s.blk.heard p = true → ((List.range 16).find? fun i => s.blk.fKind i != 0 && s.fld (R.FUS_INi_SRC_STREAM i) == p.stream) = some i → s.blk.fusion.closed = some c →
    s.blk.unstamp p.stamp + s.fld (R.FUS_INi_TIME_SPAN i) * 10 * 1000 ≤ c → s.blk.fusion.nOpen = 0 → Runs (.fusSample p) s fun t =>
    t.fld (R.FUS_INi_CNT_LATE i) = s.counted (R.FUS_INi_CNT_LATE i) ∧ t.blk.fusion.buf = s.blk.fusion.buf ∧ Frame s t [R.FUS_INi_CNT_LATE i]) ∧
  (∀ s, s.fld R.FUS_STATUS_STATE = 0 → Runs .epochBoundary s fun t => t = s) ∧
  (∀ s, s.fld R.FUS_STATUS_STATE ≠ 0 → Runs .epochBoundary s fun t =>
    t.blk.fusion.lastB = some t.blk.sys.mtime ∧ s.blk.sys.mtime ≤ t.blk.sys.mtime ∧ t.fld R.FUS_STATUS_OPEN = t.blk.fusion.nOpen % 2 ^ R.FUS_STATUS_OPEN.wid ∧ Kept s t) ∧
  (∀ s, s.fld R.FUS_STATUS_STATE ≠ 0 → s.blk.fusion.nOpen = 1 → 2 ≤ s.fld R.PWR_STATE_STATE → Runs .epochLimit s fun t =>
    t.fld R.FUS_STATUS_OPEN = 0 ∧ t.blk.fusion.nOpen = 0 ∧ t.blk.sys.mtime = max s.blk.sys.mtime (s.blk.fusion.firstOpen + s.blk.use R.FUS_CFG_LIMIT_MS * 1000000) ∧ Kept s t) ∧
  (∀ (i : Fin 16) s, s.fld R.FUS_STATUS_STATE ≠ 0 → s.blk.fKind i ≠ 0 → s.fld (R.FUS_INi_STAT_MASKED i) = 0 → s.blk.fusion.nOpen = 0 → Runs (.fusDropout i) s fun t =>
    t.fld (R.FUS_INi_STAT_MASKED i) = 1 ∧ t.fld (R.FUS_INi_STAT_CAUSE i) = 2 ∧ t.fld (R.FUS_INi_STAT_MASK_EV i) = 1 ∧ t.blk.out.length = s.blk.out.length + 1 ∧
    Frame s t [R.FUS_INi_STAT_MASKED i, R.FUS_INi_STAT_CAUSE i, R.FUS_INi_STAT_RUN i, R.FUS_INi_STAT_MASK_EV i, R.FUS_MASKED_MASK]) ∧
  (∀ s, s.fld R.FUS_STATUS_STATE = 2 → Runs .inertialAbsent s fun t =>
    t.fld R.FUS_STATUS_STATE = 1 ∧ t.fld R.FUS_CNT_REINIT_COUNT = s.counted R.FUS_CNT_REINIT_COUNT ∧ t.blk.fusion.pvtAt = none ∧ Frame s t [R.FUS_STATUS_STATE, R.FUS_CNT_REINIT_COUNT]) ∧
  (∀ (i : Fin 16) v c s, s.blk.fRefusal = some c → ∀ j ∈ [Instr.fusForceMask i v, .fusStop, .fusStart, .fusReinit, .fusClrCnt], Runs j s fun t => t = { s with blk := s.blk.status c }) ∧
  (∀ (i : Fin 16) s, s.blk.fRefusal = none → Runs (.fusForceMask i false) s fun t => t.fld (R.FUS_INi_CTRL_FORCE_MASK i) = 0 ∧ t.blk.fab.status = 0 ∧ Frame s t [R.FUS_INi_CTRL_FORCE_MASK i]) ∧
  (∀ (i : Fin 16) s, s.blk.fRefusal = none → s.fld (R.FUS_INi_STAT_MASKED i) = 0 → s.blk.fusion.nOpen = 0 → Runs (.fusForceMask i true) s fun t =>
    t.fld (R.FUS_INi_CTRL_FORCE_MASK i) = 1 ∧ t.fld (R.FUS_INi_STAT_MASKED i) = 1 ∧ t.fld (R.FUS_INi_STAT_CAUSE i) = 3 ∧ t.blk.fab.status = 0 ∧
    Frame s t [R.FUS_INi_CTRL_FORCE_MASK i, R.FUS_INi_STAT_MASKED i, R.FUS_INi_STAT_CAUSE i, R.FUS_INi_STAT_RUN i, R.FUS_INi_STAT_MASK_EV i, R.FUS_MASKED_MASK]) ∧
  (∀ s, s.blk.fRefusal = none → s.fld R.FUS_STATUS_STATE ≠ 0 → Runs .fusStop s fun t =>
    t.fld R.FUS_STATUS_STATE = 0 ∧ t.fld R.FUS_STATUS_OPEN = 0 ∧ t.blk.fusion.buf = [] ∧ t.blk.fab.status = 0 ∧ Frame s t [R.FUS_STATUS_STATE, R.FUS_STATUS_OPEN]) ∧
  (∀ s, s.blk.fRefusal = none → s.fld R.FUS_STATUS_STATE = 0 → s.blk.fusion.byStop = true → Runs .fusStart s fun t =>
    t.fld R.FUS_STATUS_STATE = 1 ∧ t.fld R.FUS_MASKED_MASK = 0 ∧ t.fld R.FUS_ST_STAT_STALE = 1 ∧ (∀ i < 16, t.fld (R.FUS_INi_STAT_MASKED i) = 0 ∧ t.fld (R.FUS_INi_STAT_TRUST i) = 255) ∧ t.blk.fab.status = 0 ∧ Kept s t) ∧
  (∀ s, s.blk.fRefusal = none → s.fld R.FUS_STATUS_STATE ≠ 0 → Runs .fusReinit s fun t =>
    t.fld R.FUS_STATUS_STATE = 1 ∧ t.fld R.FUS_CNT_REINIT_COUNT = s.counted R.FUS_CNT_REINIT_COUNT ∧ t.fld R.FUS_STATUS_OPEN = 0 ∧ t.blk.fusion.nOpen = 0 ∧ t.blk.fab.status = 0 ∧
    Frame s t [R.FUS_STATUS_STATE, R.FUS_CNT_REINIT_COUNT, R.FUS_STATUS_OPEN]) ∧
  (∀ s, s.blk.fRefusal = none → Runs .fusClrCnt s fun t => (∀ f ∈ fCounters, t.fld f = 0) ∧ (∀ i < 16, t.fld (R.FUS_INi_CNT_FAIL i) = 0 ∧ t.fld (R.FUS_INi_CNT_LATE i) = 0) ∧ t.blk.fab.status = 0 ∧ Kept s t) ∧
  (∀ s, Runs .fusStRead s fun t => (∀ n < 20, t.fld (R.FUS_ST_Wn_BYTES n) = bytesAt s.blk.fusion.last (4 * n) 4 % 2 ^ 32) ∧ Kept s t)

/-- Antennas and tracking channels (R319, R321, R325, R328): a supply current below 3 mA shows OPEN, one above 150 mA SHORT with a retry after 1 s, one between them OK; an assigned channel searches; a detection leads to PULL_IN, locks lead to TRACK, a loss to LOST and its time to IDLE; a candidate waits 10 s. -/
def Obligations.GnssChannelCommands : Prop :=
  (∀ (a : Fin 2) (x : Nat) s, s.blk.antOn a = true → s.blk.gnss.retry.getD a none = none → x < 3 → Runs (.antOpen a x) s fun t =>
    t.fld (R.GNS_ANTa_STATE a) = 2 ∧ t.fld (R.GNS_ANTa_I_MA a) = x ∧ (s.fld (R.GNS_ANTa_STATE a) ≠ 2 → t.fld R.GNS_EV_ANT_EV = 1) ∧ Frame s t [R.GNS_ANTa_STATE a, R.GNS_ANTa_I_MA a, R.GNS_EV_ANT_EV]) ∧
  (∀ (a : Fin 2) s, s.blk.antOn a = true → s.blk.gnss.retry.getD a none = none → Runs (.antShort a) s fun t =>
    t.fld (R.GNS_ANTa_STATE a) = 3 ∧ t.blk.gnss.retry = updAt s.blk.gnss.retry a (fun _ => some (s.blk.now + 1000000000)) ∧ Frame s t [R.GNS_ANTa_STATE a, R.GNS_ANTa_I_MA a, R.GNS_EV_ANT_EV]) ∧
  (∀ (a : Fin 2) t0 s, s.blk.gnss.retry.getD a none = some t0 → Runs (.antRetry a) s fun t =>
    t.blk.gnss.retry = updAt s.blk.gnss.retry a (fun _ => none) ∧ t.blk.now = max s.blk.now t0 ∧ Frame s t []) ∧
  (∀ (a : Fin 2) (x : Nat) s, s.blk.antOn a = true → s.blk.gnss.retry.getD a none = none → 3 ≤ x → x ≤ 150 → Runs (.antSupplyOk a x) s fun t =>
    t.fld (R.GNS_ANTa_STATE a) = 1 ∧ t.fld (R.GNS_ANTa_I_MA a) = x ∧ (s.fld (R.GNS_ANTa_STATE a) ≠ 1 → t.fld R.GNS_EV_ANT_EV = 1) ∧ Frame s t [R.GNS_ANTa_STATE a, R.GNS_ANTa_I_MA a, R.GNS_EV_ANT_EV]) ∧
  (∀ (n : Fin 384) (g : Fin 17) (sv : Fin 256) s, s.blk.gnsRuns = true → n.val < 192 → s.blk.gch n = 0 → s.blk.bitOf R.GNS_SIG_EN_EN g = true → (sigRow g).2.2 = true → s.fld (R.GNS_ANTa_STATE 0) < 2 → s.blk.gnss.waits = [] →
    Runs (.gnssChannelAssign n g sv) s fun t => t.blk.gch n = 1 ∧ t.fld (R.GNS_CHn_STAT_SIG n) = (sigRow g).1 ∧ t.fld (R.GNS_CHn_STAT_SV n) = sv.val ∧
      Frame s t [R.GNS_CHn_STAT_STATE n, R.GNS_CHn_STAT_SIG n, R.GNS_CHn_STAT_SV n, R.GNS_CHn_LOCK_SLIPS n, R.GNS_CHn_LOCK_SIDE_PEAK n, R.GNS_STATUS_TRACKED, R.GNS_STATUS_STATE]) ∧
  (∀ (n : Fin 384) s, s.blk.gch n = 1 → Runs (.gnssDwellDone n true) s fun t => t.blk.gch n = 2 ∧ Frame s t [R.GNS_CHn_STAT_STATE n, R.GNS_STATUS_TRACKED, R.GNS_STATUS_STATE]) ∧
  (∀ (n : Fin 384) s, s.blk.gch n = 1 → Runs (.gnssDwellDone n false) s fun t => t.blk.gch n = 0 ∧
    t.blk.gnss.waits = s.blk.gnss.waits ++ [(n.val / 192, sigBit (s.fld (R.GNS_CHn_STAT_SIG n)), s.fld (R.GNS_CHn_STAT_SV n), s.blk.now + 10 * 1000000000)] ∧ Kept s t) ∧
  (∀ (n : Fin 384) (x : Nat) s, s.blk.gch n = 2 → s.blk.now ≤ (s.blk.gchData n).since + 500 * 1000000 → Runs (.gnssPullInLock n x) s fun t => t.blk.gch n = 3 ∧ t.fld (R.GNS_CHn_STAT_CNO n) = min 255 x ∧
    t.fld R.GNS_STATUS_TRACKED = (s.fld R.GNS_STATUS_TRACKED + 1) % 2 ^ R.GNS_STATUS_TRACKED.wid ∧ Frame s t [R.GNS_CHn_STAT_STATE n, R.GNS_CHn_STAT_CNO n, R.GNS_CHn_LOCK_LOCK n, R.GNS_STATUS_TRACKED, R.GNS_STATUS_STATE]) ∧
  (∀ (n : Fin 384) s, s.blk.gch n = 2 → Runs (.gnssPullInTimeout n) s fun t => t.blk.gch n = (if (s.blk.gchData n).second then 0 else 1) ∧
    t.blk.now = max s.blk.now ((s.blk.gchData n).since + 500 * 1000000) ∧ Kept s t) ∧
  (∀ (n : Fin 384) s, s.blk.gch n = 3 → Runs (.gnssTrackLoss n) s fun t => t.blk.gch n = 4 ∧ t.fld R.GNS_CNT_B_LOSSES = s.counted R.GNS_CNT_B_LOSSES ∧
    Frame s t [R.GNS_CHn_STAT_STATE n, R.GNS_CNT_B_LOSSES, R.GNS_STATUS_TRACKED, R.GNS_STATUS_STATE]) ∧
  (∀ (n : Fin 384) s, s.blk.gch n = 4 → Runs (.gnssLostTimeout n) s fun t => t.blk.gch n = 0 ∧ t.fld (R.GNS_CHn_STAT_SV n) = 0 ∧ t.blk.now = max s.blk.now ((s.blk.gchData n).since + 2 * 1000000000) ∧ Kept s t) ∧
  (∀ (a : Fin 2) (g : Fin 17) (sv : Fin 256) w s, (s.blk.gnss.waits.find? fun w => w.1 == a.val && w.2.1 == g.val && w.2.2.1 == sv.val) = some w → Runs (.gnssReschedule a g sv) s fun t =>
    t.blk.gnss.waits = s.blk.gnss.waits.filter (fun w => !(w.1 == a.val && w.2.1 == g.val && w.2.2.1 == sv.val)) ∧ t.blk.now = max s.blk.now w.2.2.2 ∧ Frame s t []) ∧
  (∀ (n : Fin 384) s, s.blk.gch n ≠ 0 → Runs (.gnssChannelFree n) s fun t => t.blk.gch n = 0 ∧ t.fld (R.GNS_CHn_STAT_SV n) = 0 ∧
    Frame s t [R.GNS_CHn_STAT_STATE n, R.GNS_CHn_STAT_SIG n, R.GNS_CHn_STAT_SV n, R.GNS_CHn_STAT_EXCL n, R.GNS_CHn_STAT_CNO n, R.GNS_CHn_LOCK_LOCK n, R.GNS_STATUS_TRACKED, R.GNS_STATUS_STATE])

/-- Measurements, solutions, corrections and the hot-start copies (R329 to R346): each epoch counts its sequence number; a checked navigation unit keeps its ephemeris and a bad one does not; a PVT epoch clears STALE; corrections of each class are counted or used; a jammed band shows and clears; the hot-start data is written into its copy alone; COLD invalidates both copies. -/
def Obligations.GnssBasebandCommands : Prop :=
  (∀ l s, s.blk.gnsRuns = true → Runs (.gnssMeasEpoch l) s fun t => t.blk.gnss.measSeq = (s.blk.gnss.measSeq + 1) % 2 ^ 32 ∧ t.blk.gnss.measAt = some t.blk.sys.mtime ∧ Kept s t) ∧
  (∀ (n : Fin 384) (kind nb : Nat) bits (age : Nat) e al lp s, s.blk.gnsRuns = true → s.blk.gch n = 3 → Runs (.gnssNavUnit n 0 kind nb bits age (some e) al lp) s fun t =>
    t.blk.gnss.data.ephs = (s.blk.gnss.data.ephs.filter (·.1 != sigSystem (s.fld (R.GNS_CHn_STAT_SIG n)) * 256 + s.fld (R.GNS_CHn_STAT_SV n))) ++ [(sigSystem (s.fld (R.GNS_CHn_STAT_SIG n)) * 256 + s.fld (R.GNS_CHn_STAT_SV n), e)] ∧
    t.blk.sys.leap = (lp <|> s.blk.sys.leap) ∧ Frame s t []) ∧
  (∀ (n : Fin 384) (kind nb : Nat) bits (age : Nat) e al lp s, s.blk.gnsRuns = true → s.blk.gch n = 3 → Runs (.gnssNavUnit n 1 kind nb bits age e al lp) s fun t => t.blk.gnss = s.blk.gnss ∧ t.blk.sys = s.blk.sys ∧ Frame s t []) ∧
  (∀ o s, s.blk.gnsRuns = true → Runs (.gnssPvtEpoch o) s fun t => t.fld R.GNS_PVT_STAT_STALE = 0 ∧ t.fld R.GNS_STATUS_SVS = o.svs % 2 ^ R.GNS_STATUS_SVS.wid ∧
    t.blk.gnss.pvtSeq = (s.blk.gnss.pvtSeq + 1) % 2 ^ 32 ∧ t.blk.gnss.pvtAt = some t.blk.sys.mtime ∧ Kept s t) ∧
  (∀ k (m x : Nat) mv e s, s.blk.gnsRuns = true → Runs (.rtcmFrame k false m x mv e) s fun t => t.fld R.GNS_CNT_C_RTCM_CRC = s.counted R.GNS_CNT_C_RTCM_CRC ∧ t.blk.gnss = s.blk.gnss ∧ Frame s t [R.GNS_CNT_C_RTCM_CRC]) ∧
  (∀ k (m x : Nat) mv e s, s.blk.gnsRuns = true → rtcmClass m = 0 → Runs (.rtcmFrame k true m x mv e) s fun t => t.fld R.GNS_CNT_C_RTCM_UNUSED = s.counted R.GNS_CNT_C_RTCM_UNUSED ∧ Frame s t [R.GNS_CNT_C_RTCM_UNUSED]) ∧
  (∀ k (m x : Nat) mv e s, s.blk.gnsRuns = true → rtcmClass m = 2 → Runs (.rtcmFrame k true m x mv e) s fun t =>
    t.blk.gnss.obsAt = updAt s.blk.gnss.obsAt (b2n k) (fun _ => some s.blk.now) ∧ t.blk.gnss.station = updAt s.blk.gnss.station (b2n k) (fun _ => x % 65536) ∧ Frame s t []) ∧
  (∀ k (x : Nat) mv (sv : Fin 256) (u : Nat) s, s.blk.gnsRuns = true → Runs (.rtcmFrame k true 1019 x mv (some (sv, u))) s fun t =>
    t.blk.gnss.data.ephs = (s.blk.gnss.data.ephs.filter (·.1 != sv.val)) ++ [(sv.val, u)] ∧ Frame s t []) ∧
  (∀ s, s.blk.gnss.obsAt.filterMap id ≠ [] → s.blk.gnss.rtkLost = false → Runs .rtcmAgeExpired s fun t => t.fld R.GNS_EV_RTK_LOST_EV = 1 ∧
    t.blk.now = max s.blk.now ((s.blk.gnss.obsAt.filterMap id).foldl max 0 + s.blk.use R.GNS_RTK_AGE_MAX_S * 1000000000 + 1) ∧ Frame s t [R.GNS_EV_RTK_LOST_EV]) ∧
  (∀ (a : Fin 2) (x : Fin 3) (db : Nat) s, s.blk.gnsRuns = true → s.blk.use R.GNS_EXCL_JAM_DB ≤ db → bit s.blk.gnss.jammed (3 * a + x) = false → Runs (.gnssJam a x db) s fun t =>
    t.fld R.GNS_EV_JAM_EV = 1 ∧ t.blk.gnss.jammed = withBit s.blk.gnss.jammed (3 * a + x) true ∧ t.fld R.GNS_JAM_RISE / 2 ^ (5 * (3 * a.val + x.val)) % 32 = min 31 db ∧
    (∀ k ∈ List.range 6, k ≠ 3 * a.val + x.val → t.fld R.GNS_JAM_RISE / 2 ^ (5 * k) % 32 = s.fld R.GNS_JAM_RISE / 2 ^ (5 * k) % 32) ∧
    Frame s t [R.GNS_EV_JAM_EV, R.GNS_JAM_RISE]) ∧
  (∀ (a : Fin 2) (x : Fin 3) (db : Nat) s, s.blk.gnsRuns = true → db + 1 < s.blk.use R.GNS_EXCL_JAM_DB → Runs (.gnssJamClear a x db) s fun t =>
    t.blk.gnss.jammed = withBit s.blk.gnss.jammed (3 * a + x) false ∧ Frame s t [R.GNS_JAM_RISE]) ∧
  (∀ s, s.blk.inParked = true → s.blk.pwr.refreshMin ≠ 0 → (s.blk.island 3).run = .poweredDown → Runs .gnssParkRefresh s fun t =>
    t.blk.now = max s.blk.now (s.blk.pwr.refreshAt + s.blk.pwr.refreshMin * 60 * 1000000000) ∧ t.blk.pwr.refreshAt = t.blk.now ∧ t.blk.gnss.refresh = some t.blk.now ∧ Kept s t) ∧
  (∀ (x : Nat) s, s.blk.inParked = true → s.blk.gnss.refresh = some x → Runs .gnssRefreshEnd s fun t => t.blk.gnss.refresh = none ∧
    MemKeptOutside s t (0x49010000 + 0x6000 * s.blk.gnss.olderCopy) (0x49010000 + 0x6000 * s.blk.gnss.olderCopy + 0x6000) ∧ QueueKept s t) ∧
  (∀ s, s.blk.gnsRuns = true → Runs .gnssHotstartWrite s fun t =>
    t.blk.gnss.copies = updAt s.blk.gnss.copies s.blk.gnss.olderCopy (fun _ => { s.blk.gnss.data with valid := true, seq := 1 + (s.blk.gnss.copies.map (·.seq)).foldl max 0, leap := s.blk.gnss.data.leap <|> s.blk.sys.leap }) ∧ FieldsKept s t [] ∧
    MemKeptOutside s t (0x49010000 + 0x6000 * s.blk.gnss.olderCopy) (0x49010000 + 0x6000 * s.blk.gnss.olderCopy + 0x6000) ∧ QueueKept s t) ∧
  (∀ c s, s.blk.gnsRefusal = some c → ∀ i ∈ [Instr.gnsStop, .gnsStart, .gnsCold], Runs i s fun t => t = { s with blk := s.blk.status c }) ∧
  (∀ s, s.blk.gnsRefusal = none → s.blk.gnsRuns = true → Runs .gnsStop s fun t => t.fld R.GNS_STATUS_STATE = 0 ∧ (∀ n < 384, t.blk.gch n = 0) ∧ t.blk.fab.status = 0 ∧ Kept s t) ∧
  (∀ s, s.blk.gnsRefusal = none → s.fld R.GNS_STATUS_STATE = 0 → s.blk.gnss.byStop = true → Runs .gnsStart s fun t =>
    t.fld R.GNS_STATUS_STATE = 1 ∧ t.fld R.GNS_PVT_STAT_STALE = 1 ∧ t.fld R.GNS_HDG_STAT_STALE = 1 ∧ t.fld R.GNS_STATUS_START_KIND = s.blk.startKind (s.blk.gnss.newest.getD {}) % 2 ^ R.GNS_STATUS_START_KIND.wid ∧ t.blk.fab.status = 0 ∧ Kept s t) ∧
  (∀ s, s.blk.gnsRefusal = none → Runs .gnsCold s fun t => t.blk.gnss = { s.blk.gnss with copies := s.blk.gnss.copies.map fun c => { c with valid := false } } ∧ t.blk.fab.status = 0 ∧ Frame s t [])

/-- Pulses per second and their reads (R348 to R350): an enabled output whose gate is open gives one pulse per second at the boundary; a closed gate counts one and gives none; with the master output live the quantisation report is one sample for the next second; a read of ETH_PPSA_QERR takes the report and its second; the delay of output B is held to 50 µs either way. -/
def Obligations.PpsCommands : Prop :=
  (∀ p q s, s.blk.ppsLive = true → s.blk.gnss.pps = [p, q] → p.lastSec = none → q.lastSec = none → s.blk.flag (R.ETH_PPSx_CFG_EN 0) = true → s.blk.flag (R.ETH_PPSx_CFG_EN 1) = false →
    s.fld (R.ETH_PPSx_CFG_GATE 0) = 0 → s.fld R.SUP_MTIME_STATUS_STATE ≠ 0 → Runs .ppsSecond s fun t =>
    t.blk.gnss.pps = [{ p with lastSec := some (t.blk.sys.mtime / 1000000000), edge := 0, delay := 0, width := s.fld (R.ETH_PPSx_CFG_WIDTH_MS 0), fin := t.blk.now + s.fld (R.ETH_PPSx_CFG_WIDTH_MS 0) * 1000000 }, q] ∧
    t.fld R.ETH_PPS_STAT_RUN_A = 1 ∧ t.fld R.ETH_PPS_STAT_RUN_B = 0 ∧ Frame s t [R.ETH_PPS_STAT_RUN_A, R.ETH_PPS_STAT_RUN_B]) ∧
  (∀ p q s, s.blk.ppsLive = true → s.blk.gnss.pps = [p, q] → s.blk.flag (R.ETH_PPSx_CFG_EN 0) = true → s.blk.flag (R.ETH_PPSx_CFG_EN 1) = false → s.fld (R.ETH_PPSx_CFG_GATE 0) = 0 → s.fld R.SUP_MTIME_STATUS_STATE = 0 →
    Runs .ppsSecond s fun t => t.blk.gnss.pps = [p, q] ∧ t.fld R.ETH_PPS_STAT_RUN_A = 0 ∧ t.fld R.ETH_PPS_STAT_GATED = s.counted R.ETH_PPS_STAT_GATED ∧
    Frame s t [R.ETH_PPS_STAT_RUN_A, R.ETH_PPS_STAT_RUN_B, R.ETH_PPS_STAT_GATED]) ∧
  (∀ s, s.blk.ppsLive = false → Runs .ppsSecond s fun t => t.fld R.ETH_PPS_STAT_RUN_A = 0 ∧ t.fld R.ETH_PPS_STAT_RUN_B = 0 ∧ t.blk.gnss = s.blk.gnss ∧ Frame s t [R.ETH_PPS_STAT_RUN_A, R.ETH_PPS_STAT_RUN_B]) ∧
  (∀ (q c : Int) s, s.blk.ppsLive = true → s.blk.flag (R.ETH_PPSx_CFG_EN 0) = true → s.blk.ppsGate 0 = true → Runs (.ppsReport q c) s fun t =>
    t.blk.gnss.report = max (-2147483648) (min 2147483647 (q + c + s.blk.gnss.ofs + s.blk.gnss.drift * (((s.blk.sys.mtime / 1000000000 + 1) * 1000000000 : Nat) - (s.blk.gnss.ofsAt : Int)) / 1000000000)) ∧ t.blk.gnss.reportSec = (s.blk.sys.mtime / 1000000000 + 1) % 2 ^ 32 ∧ Kept s t) ∧
  (∀ s, Runs .ppsaQerrRead s fun t => t.blk.geti R.ETH_PPSA_QERR_ERR_PS = signed 32 (lowBits 32 s.blk.gnss.report) ∧ t.fld R.ETH_PPSA_QSEQ_SEC = s.blk.gnss.reportSec % 2 ^ 32 ∧
    Frame s t [R.ETH_PPSA_QERR_ERR_PS, R.ETH_PPSA_QSEQ_SEC]) ∧
  (∀ (d : Bool) (v : BitVec 32) s, s.blk.isLost 4 = true → Runs (.ppsbDelayWrite d v) s fun t => t = { s with blk := s.blk.status 0x05 }) ∧
  (∀ (v : BitVec 32) s, s.blk.isLost 4 = false → Runs (.ppsbDelayWrite true v) s fun t => t.fld R.ETH_PPSB_DELAY_DELAY_NS = lowBits R.ETH_PPSB_DELAY_DELAY_NS.wid (max (-50000) (min 50000 (signed 32 v.toNat))) ∧
    t.blk.fab.status = 0 ∧ Frame s t [R.ETH_PPSB_DELAY_DELAY_NS]) ∧
  (∀ (v : BitVec 32) s, s.blk.isLost 4 = false → Runs (.ppsbDelayWrite false v) s fun t => t.fld (R.ETH_PPSx_CFG_EN 1) = v.toNat % 2 ∧ t.fld (R.ETH_PPSx_CFG_POL 1) = v.toNat / 8 % 2 ∧
    t.fld (R.ETH_PPSx_CFG_GATE 1) = min 2 (v.toNat / 2 % 4) ∧ t.fld (R.ETH_PPSx_CFG_WIDTH_MS 1) = max 1 (min 500 (v.toNat / 65536 % 512)) ∧ t.blk.fab.status = 0 ∧
    Frame s t [R.ETH_PPSx_CFG_EN 1, R.ETH_PPSx_CFG_GATE 1, R.ETH_PPSx_CFG_POL 1, R.ETH_PPSx_CFG_WIDTH_MS 1])

/-- Navigation reads, counts and the steering of a path (R338, R343, R353 to R363): a read latches one epoch's words; a commit stores the first check that fails and answers BAD_PATH for it; a buffer in use cannot be invalidated; REFIND is taken at the next frame; an engagement that waits too long and a grace that ends leave READY and GRACE. -/
def Obligations.SteeringCommands : Prop :=
  (∀ c s, s.blk.gnsRefusal = some c → Runs .gnsClrCnt s fun t => t = { s with blk := s.blk.status c }) ∧
  (∀ s, s.blk.gnsRefusal = none → Runs .gnsClrCnt s fun t => t.blk.fab.status = 0 ∧
    (∀ f ∈ [R.GNS_CNT_A_EXCLUSIONS, R.GNS_CNT_A_SPOOF, R.GNS_CNT_B_SLIPS, R.GNS_CNT_B_LOSSES, R.GNS_CNT_C_RTCM_CRC, R.GNS_CNT_C_RTCM_UNUSED], t.fld f = 0) ∧
    Frame s t [R.GNS_CNT_A_EXCLUSIONS, R.GNS_CNT_A_SPOOF, R.GNS_CNT_B_SLIPS, R.GNS_CNT_B_LOSSES, R.GNS_CNT_C_RTCM_CRC, R.GNS_CNT_C_RTCM_UNUSED]) ∧
  (∀ s, Runs .gnsPvtRead s fun t => (∀ n, n < 16 → t.fld (R.GNS_PVT_Wn_BYTES n) = bytesAt s.blk.gnss.pvt (4 * n) 4 % 2 ^ 32) ∧ t.fld R.GNS_PVT_STAT_CONF = s.blk.gnss.pvtConf % 2 ^ R.GNS_PVT_STAT_CONF.wid ∧
    Frame s t (R.GNS_PVT_STAT_CONF :: (List.range 16).map R.GNS_PVT_Wn_BYTES)) ∧
  (∀ s, Runs .gnsHdgRead s fun t => (∀ n, n < 6 → t.fld (R.GNS_HDG_Wn_BYTES n) = bytesAt s.blk.gnss.hdg (4 * n) 4 % 2 ^ 32) ∧ t.fld R.GNS_HDG_STAT_CONF = s.blk.gnss.hdgConf % 2 ^ R.GNS_HDG_STAT_CONF.wid ∧
    Frame s t (R.GNS_HDG_STAT_CONF :: (List.range 6).map R.GNS_HDG_Wn_BYTES)) ∧
  (∀ (b : Fin 4) c s, s.blk.strRefusal = some c → ∀ i ∈ [Instr.pathCommit b, .pathInvalidate b, .strRefind, .strClrCnt], Runs i s fun t => t = { s with blk := s.blk.status c }) ∧
  (∀ (b : Fin 4) s, s.blk.strRefusal = none → Runs (.pathCommit b) s fun t => t.fld (R.STR_PATHb_STAT_CHECK b) = s.blk.pathCheck s.mem b ∧
    t.fld (R.STR_PATHb_STAT_VALID b) = (if s.blk.pathCheck s.mem b = 0 then 1 else 0) ∧ t.blk.fab.status = (if s.blk.pathCheck s.mem b = 0 then 0 else 0x76) ∧
    Frame s t [R.STR_PATHb_STAT_CHECK b, R.STR_PATHb_STAT_POINTS b, R.STR_PATHb_STAT_VALID b]) ∧
  (∀ (b : Fin 4) s, pathCount s.mem b < 2 ∨ 16382 < pathCount s.mem b → s.blk.strRefusal = none → Runs (.pathCommit b) s fun t => t.fld (R.STR_PATHb_STAT_CHECK b) = 1 ∧ t.fld (R.STR_PATHb_STAT_VALID b) = 0 ∧ t.blk.fab.status = 0x76) ∧
  (∀ (b : Fin 4) s, s.blk.strRefusal = none → s.blk.pathHeld s.mem b = true → Runs (.pathInvalidate b) s fun t => t = { s with blk := s.blk.status 0x01 }) ∧
  (∀ (b : Fin 4) s, s.blk.strRefusal = none → s.blk.pathHeld s.mem b = false → Runs (.pathInvalidate b) s fun t => t.fld (R.STR_PATHb_STAT_VALID b) = 0 ∧ t.blk.fab.status = 0 ∧ Frame s t [R.STR_PATHb_STAT_VALID b]) ∧
  (∀ s, s.blk.strRefusal = none → Runs .strRefind s fun t => t.blk.steer = { s.blk.steer with refind := true } ∧ t.blk.fab.status = 0 ∧ Frame s t []) ∧
  (∀ s, s.blk.strRefusal = none → Runs .strClrCnt s fun t => (∀ f ∈ [R.STR_CNT_ENGAGES, R.STR_CNT_OVERRIDES, R.STR_CNT_B_GRACE, R.STR_CNT_B_GRACE_EXP], t.fld f = 0) ∧ t.blk.fab.status = 0 ∧
    Frame s t [R.STR_CNT_ENGAGES, R.STR_CNT_OVERRIDES, R.STR_CNT_B_GRACE, R.STR_CNT_B_GRACE_EXP]) ∧
  (∀ (x : Nat) s, s.blk.steer.engEnd = some x → s.fld R.STR_STATUS_STATE = 1 → Runs .engWaitExpired s fun t => t.fld R.STR_STATUS_STATE = 0 ∧ t.fld R.STR_EV_ENG_TIMEOUT_EV = 1 ∧
    t.blk.now = max s.blk.now x ∧ t.blk.steer.engEnd = none ∧ Kept s t) ∧
  (∀ (x : Nat) s, s.blk.steer.graceEnd = some x → s.fld R.STR_STATUS_STATE = 3 → s.blk.modeState 4 ≠ 2 → Runs .graceExpired s fun t => t.fld R.STR_STATUS_STATE = 0 ∧
    t.fld R.STR_CNT_B_GRACE_EXP = s.counted R.STR_CNT_B_GRACE_EXP ∧ t.blk.steer.declared = true ∧ t.blk.now = max s.blk.now x ∧ Kept s t) ∧
  (∀ (x : Nat) s, s.blk.steer.graceEnd = some x → s.fld R.STR_STATUS_STATE = 3 → s.blk.modeState 4 = 2 → Runs .graceExpired s fun t => t.fld R.STR_STATUS_STATE = 3 ∧
    t.fld R.STR_CNT_B_GRACE_EXP = s.counted R.STR_CNT_B_GRACE_EXP ∧ t.blk.steer.declared = true ∧ t.blk.now = max s.blk.now x ∧ Kept s t) ∧
  (∀ s, Runs .strErrRead s fun t => t.fld R.STR_ERR_EY_MM = lowBits 32 (satS 32 s.blk.steer.eyMm) ∧ t.fld R.STR_ERR2_EPSI = lowBits R.STR_ERR2_EPSI.wid s.blk.steer.epsi ∧
    t.fld R.STR_ERR2_DELTA = lowBits R.STR_ERR2_DELTA.wid s.blk.steer.deltaOut ∧ t.fld R.STR_ERR3_FSEQ = s.blk.steer.fseq % 2 ^ R.STR_ERR3_FSEQ.wid ∧
    Frame s t [R.STR_ERR_EY_MM, R.STR_ERR2_EPSI, R.STR_ERR2_DELTA, R.STR_ERR3_FSEQ])

/-- The convoy solution (R368 to R372): a partner's epoch that is waited for sends the solution and clears PARTNER_LOST; a wait that ends sends one extrapolated from the partner's last epoch, or none; silence of LOSS_MS raises the loss; RESET_AMB discards the ambiguities; a read latches the last solution's words. -/
def Obligations.ConvoyCommands : Prop :=
  (∀ (e p : Nat) (sol : ConvoySol) s, s.blk.gnsRuns = true → s.blk.cvy.peer = some p ∨ s.blk.cvy.peer = none → s.blk.cvy.waiting = [e] → Runs (.convoyPartnerEpoch e p sol) s fun t =>
    t.fld R.STR_CVY_STAT_PARTNER_LOST = 0 ∧ t.fld R.STR_CVY_STAT_STATE = (if sol.fixed then 2 else 1) ∧ t.blk.cvy.peer = some p ∧ t.blk.cvy.heardAt = s.blk.now ∧ t.blk.cvy.waiting = [] ∧
    bytesAt t.blk.cvy.data 0 5 = s.blk.cvy.cseq % 2 ^ 32 + (if sol.fixed then 2 else 1) * 2 ^ 32 ∧ bytesAt t.blk.cvy.data 6 1 = sol.common % 256 ∧ bytesAt t.blk.cvy.data 32 2 = min 65535 sol.sigH ∧ t.blk.cvy.cseq = (s.blk.cvy.cseq + 1) % 2 ^ 32 ∧ Kept s t) ∧
  (∀ (e p q : Nat) (sol : ConvoySol) s, s.blk.gnsRuns = true → s.blk.cvy.peer = some q → q ≠ p → s.blk.cvy.waiting = [] → Runs (.convoyPartnerEpoch e p sol) s fun t =>
    t.fld R.STR_CVY_EV_AMB_EV = 1 ∧ t.blk.cvy.ambig = false ∧ t.blk.cvy.peer = some p ∧ t.blk.cvy.heardAt = s.blk.now ∧ Frame s t [R.STR_CVY_EV_AMB_EV]) ∧
  (∀ (e p : Nat) l sol s, s.blk.cvy.waiting = e :: l → s.blk.cvy.partner = some p → e ≤ p + s.blk.use R.STR_CVY_CFG_EXTRAP_MS * 1000000 → Runs (.convoyWaitExpired sol) s fun t =>
    t.fld R.STR_CVY_EV_EXTRAP_EV = 1 ∧ t.fld R.STR_CVY_CNT_EXTRAP = s.counted R.STR_CVY_CNT_EXTRAP ∧ t.fld R.STR_CVY_STAT_STATE = 3 ∧ t.fld R.STR_CVY_STAT_STALE = 0 ∧
    t.blk.cvy.waiting = l.filter (· != e) ∧ bytesAt t.blk.cvy.data 4 1 = 3 ∧ bytesAt t.blk.cvy.data 40 2 = min ((e - p) / 1000000) 65535 ∧ Kept s t) ∧
  (∀ (e p : Nat) l sol s, s.blk.cvy.waiting = e :: l → s.blk.cvy.partner = some p → p + s.blk.use R.STR_CVY_CFG_EXTRAP_MS * 1000000 < e → Runs (.convoyWaitExpired sol) s fun t =>
    t.fld R.STR_CVY_CNT_NONE = s.counted R.STR_CVY_CNT_NONE ∧ t.fld R.STR_CVY_STAT_STATE = 0 ∧ t.blk.cvy.waiting = l.filter (· != e) ∧ bytesAt t.blk.cvy.data 4 1 = 0 ∧ Kept s t) ∧
  (∀ s, s.blk.gnsRuns = true → s.fld R.STR_CVY_STAT_PARTNER_LOST = 0 → Runs .convoyLoss s fun t => t.fld R.STR_CVY_STAT_PARTNER_LOST = 1 ∧ t.fld R.STR_CVY_EV_LOSS_EV = 1 ∧
    t.blk.now = max s.blk.now (s.blk.cvy.heardAt + s.blk.use R.STR_CVY_LOSS_LOSS_MS * 1000000) ∧ t.blk.cvy = s.blk.cvy ∧ Frame s t [R.STR_CVY_STAT_PARTNER_LOST, R.STR_CVY_EV_LOSS_EV]) ∧
  (∀ c s, s.blk.cvyRefusal = some c → ∀ i ∈ [Instr.cvyResetAmb, .cvyClrCnt], Runs i s fun t => t = { s with blk := s.blk.status c }) ∧
  (∀ s, s.blk.cvyRefusal = none → Runs .cvyResetAmb s fun t => t.fld R.STR_CVY_EV_AMB_EV = 1 ∧ t.blk.cvy = { s.blk.cvy with ambig := false } ∧ t.blk.fab.status = 0 ∧ Frame s t [R.STR_CVY_EV_AMB_EV]) ∧
  (∀ s, s.blk.cvyRefusal = none → Runs .cvyClrCnt s fun t => t.fld R.STR_CVY_CNT_EXTRAP = 0 ∧ t.fld R.STR_CVY_CNT_NONE = 0 ∧ t.blk.fab.status = 0 ∧ Frame s t [R.STR_CVY_CNT_EXTRAP, R.STR_CVY_CNT_NONE]) ∧
  (∀ s, Runs .strCvyRead s fun t => (∀ n, n < 12 → t.fld (R.STR_CVY_Wn_BYTES n) = bytesAt s.blk.cvy.data (4 * n) 4 % 2 ^ 32) ∧ Frame s t ((List.range 12).map R.STR_CVY_Wn_BYTES))

/-- The yield engine (R379, R392, R396, R402, R406): a step takes the confidence and the method it implies; an acknowledged contribution leaves the backlog; a drain that ends leaves DRAINING; STOP, START, FLUSH, NEW_PASS and the counters act as the control bits say; a refused control bit changes only the status; a read takes one step's words. -/
def Obligations.YieldCommands : Prop :=
  (∀ l s, s.fld R.YLD_STATUS_STATE ≠ 0 → (s.blk.island 1).run = .running → Runs (.yieldStep l) s fun t => t.fld R.YLD_TM_B_STALE = 0 ∧
    t.fld R.YLD_STATUS_METHOD = (if s.fld R.YLD_DEC_THR_TM_DECONV ≤ t.fld R.YLD_STATUS_C_TM then 0 else if s.fld R.YLD_DEC_THR_TM_SHIFT ≤ t.fld R.YLD_STATUS_C_TM then 1 else 2) ∧ QueueKept s t ∧ (s.blk.sys.rings = [] → MemKept s t)) ∧
  (∀ l s, s.fld R.YLD_STATUS_STATE = 0 → Runs (.yieldStep l) s fun t => t = s) ∧
  (∀ (c : BitVec 32) s, Runs (.yieldAck c) s fun t => t.blk.yld = { s.blk.yld with backlog := s.blk.yld.backlog.filter fun e => decide (2 ^ 31 ≤ (c.toNat + 2 ^ 32 - e.cseq) % 2 ^ 32) } ∧ Frame s t []) ∧
  (∀ (x : Nat) s, s.blk.yld.drainEnd = some x → s.fld R.YLD_STATUS_STATE = 3 → Runs .drainExpired s fun t => t.fld R.YLD_STATUS_STATE = 1 ∧ t.blk.now = max s.blk.now x ∧ t.blk.yld.drainEnd = none ∧ t.blk.yld.carry = [] ∧ Kept s t) ∧
  (∀ c s, s.blk.yldRefusal = some c → ∀ i ∈ [Instr.yldStop, .yldStart, .yldClrCnt, .yldNewPass, .yldFlush], Runs i s fun t => t = { s with blk := s.blk.status c }) ∧
  (∀ s, s.blk.yldRefusal = none → s.fld R.YLD_STATUS_STATE ≠ 0 → Runs .yldStop s fun t => t.fld R.YLD_STATUS_STATE = 0 ∧ t.blk.yld.byStop = true ∧ t.blk.yld.carry = [] ∧ t.blk.fab.status = 0 ∧ Kept s t) ∧
  (∀ s, s.blk.yldRefusal = none → s.fld R.YLD_STATUS_STATE = 0 → s.blk.yld.byStop = true → Runs .yldStart s fun t => t.fld R.YLD_STATUS_STATE = 1 ∧ t.fld R.YLD_TM_B_STALE = 1 ∧
    t.blk.yld = { cal := { refs := s.blk.yld.cal.refs }, backlog := s.blk.yld.backlog } ∧ (∀ f ∈ yldCounters, t.fld f = 0) ∧ t.blk.fab.status = 0 ∧ Kept s t) ∧
  (∀ s, s.blk.yldRefusal = none → Runs .yldClrCnt s fun t => (∀ f ∈ yldCounters, t.fld f = 0) ∧ t.blk.yld = { s.blk.yld with unplaced := 0, dropped := 0 } ∧ t.blk.fab.status = 0 ∧ Frame s t yldCounters) ∧
  (∀ s, s.blk.yldRefusal = none → Runs .yldNewPass s fun t => t.fld R.YLD_STATUS_PASS = (if s.fld R.YLD_STATUS_PASS = 65535 then 1 else s.fld R.YLD_STATUS_PASS + 1) % 65536 ∧
    t.blk.yld = s.blk.yld ∧ t.blk.fab.status = 0 ∧ QueueKept s t ∧ (s.blk.sys.rings = [] → Frame s t [R.YLD_STATUS_PASS])) ∧
  (∀ s, s.blk.yldRefusal = none → s.fld R.YLD_STATUS_STATE ≠ 0 → Runs .yldFlush s fun t => t.blk.yld.carry = [] ∧ t.fld R.YLD_STATUS_STATE = s.fld R.YLD_STATUS_STATE ∧ t.blk.fab.status = 0 ∧ Kept s t) ∧
  (∀ s, Runs .yldTmRead s fun t => t.fld R.YLD_TM_TAU = min 65535 (s.blk.yld.tau / 10000) ∧ t.fld R.YLD_TM_SIGMA = min 65535 (s.blk.yld.sigma / 10000) ∧ t.fld R.YLD_TM_B_TAU_HF = min 65535 (s.blk.yld.tauHf / 10000) ∧
    Frame s t [R.YLD_TM_TAU, R.YLD_TM_SIGMA, R.YLD_TM_B_TAU_HF]) ∧
  (∀ s, Runs .yldLedgerRead s fun t => t.fld R.YLD_LEDGER_A_G = min (2 ^ 32 - 1) (s.blk.yld.a / 1000) ∧ t.fld R.YLD_LEDGER_F_G = min (2 ^ 32 - 1) (s.blk.yld.f / 1000) ∧ Frame s t [R.YLD_LEDGER_A_G, R.YLD_LEDGER_F_G])

/-- The tile engine (R395 to R400, R406): a contribution to a cached tile changes its cell and marks its row; a flush and a STOP write every dirty row; a readback ends the wait for its tile; a wait of 500 ms shows; the feed-forward ratio is held between 1/16 and 16 and is of no confidence without a prior season; deltas of another season or of a ninth sender are counted and dropped. -/
def Obligations.TileCommands : Prop :=
  (∀ p s, s.blk.tileRuns = true → p.error = false → bytesAt p.data 6 1 = 0xFF → Runs (.contributionPacket p) s fun t => t.fld R.YLD_T_CNT_C_REPLAY_CNT = s.counted R.YLD_T_CNT_C_REPLAY_CNT ∧
    t.blk.tile = s.blk.tile ∧ Frame s t [R.YLD_T_CNT_C_REPLAY_CNT]) ∧
  (∀ p x s, s.blk.tileRuns = true → p.error = false → bytesAt p.data 6 1 ≠ 0xFF → bytesAt p.data 4 2 = 1 → s.blk.tile.tiles = [x] → x.layer = 0 → x.tx = (contributionAt p.data 0).tx → x.ty = (contributionAt p.data 0).ty →
    x.dirty = [] → x.delta = [] → Runs (.contributionPacket p) s fun t => t.blk.tile.applied = some (bytesAt p.data 0 4) ∧ t.blk.tile.queue = s.blk.tile.queue ∧
    t.blk.tile.tiles = [{ x with cells := putCell x.cells (contributionAt p.data 0).cell ((cellAt x.cells (contributionAt p.data 0).cell).apply (contributionAt p.data 0)), dirty := [(contributionAt p.data 0).cell / 512], delta := [(contributionAt p.data 0).cell] }] ∧ Frame s t []) ∧
  (∀ s, s.blk.tileRuns = true → Runs .tileFlush s fun t => (∀ x ∈ t.blk.tile.tiles, x.dirty = []) ∧ t.blk.now = max s.blk.now (s.blk.tile.flushAt + s.blk.use R.YLD_T_TIMES_FLUSH_S * 1000000000) ∧ t.blk.tile.flushAt = t.blk.now ∧
    Frame s t [R.YLD_T_ACK_CSEQ]) ∧
  (∀ (x y : Int) s, s.blk.tileRuns = true → s.blk.isLost 1 = false → (s.blk.tile.reading.any fun r => r.1 == x && r.2.1 == y) = true → s.fld R.YLD_T_QSTAT_STATE ≠ 1 → Runs (.tileReadbackDone x y) s fun t =>
    t.blk.tile.reading = s.blk.tile.reading.filter (fun r => !(r.1 == x && r.2.1 == y)) ∧ t.blk.tile.queue = s.blk.tile.queue.filter (fun q => !(q.2.tx == x && q.2.ty == y)) ∧ Kept s t) ∧
  (∀ (x y : Int) r s, (s.blk.tile.reading.find? fun r => r.1 == x && r.2.1 == y) = some r → Runs (.tileWait x y) s fun t =>
    t.fld R.YLD_T_EV_TILE_WAIT_EV = 1 ∧ t.blk.now = max s.blk.now (r.2.2 + 500 * 1000000) ∧ t.blk.tile = s.blk.tile ∧ Frame s t [R.YLD_T_EV_TILE_WAIT_EV]) ∧
  (∀ s, s.blk.tileRuns = true → Runs .ffRatio s fun t => 256 ≤ t.fld R.YLD_T_FF_STAT_RATIO ∧ t.fld R.YLD_T_FF_STAT_RATIO ≤ 65535 ∧ t.fld R.YLD_T_FF_STAT2_STALE = 0 ∧ t.blk.tile.stepAt = some t.blk.sys.mtime ∧
    (s.fld R.YLD_T_PRIOR_SEASON = 0 → t.fld R.YLD_T_FF_STAT_CONF = 0 ∧ t.fld R.YLD_T_STATUS_PRIOR = 0) ∧
    Frame s t [R.YLD_T_FF_STAT_RATIO, R.YLD_T_FF_STAT_CONF, R.YLD_T_FF_STAT_K_AHEAD, R.YLD_T_FF_STAT2_STALE, R.YLD_T_STATUS_PRIOR]) ∧
  (∀ x s, s.blk.tileRuns = true → s.blk.isLost 1 = false → s.blk.tile.tiles = [x] → x.layer = 0 → Runs .deltaSend s fun t => t.blk.tile.tiles = [{ x with delta := [] }] ∧
    t.blk.now = max s.blk.now (s.blk.tile.deltaAt + s.blk.use R.YLD_T_TIMES_DELTA_S * 1000000000) ∧ t.blk.tile.deltaAt = t.blk.now ∧ Frame s t [R.YLD_T_CNT_B_DELTAS_TX]) ∧
  (∀ (n : Nat) p s, s.blk.tileRuns = true → bytesAt p.data 0 4 ≠ s.fld R.YLD_T_SEASON_SEASON → Runs (.fleetDelta n p) s fun t => t.fld R.YLD_T_CNT_C_DELTA_STALE = s.counted R.YLD_T_CNT_C_DELTA_STALE ∧
    t.blk.tile = s.blk.tile ∧ Frame s t [R.YLD_T_CNT_C_DELTA_STALE]) ∧
  (∀ (n : Nat) p s, s.blk.tileRuns = true → bytesAt p.data 0 4 = s.fld R.YLD_T_SEASON_SEASON → n ∉ s.blk.tile.senders → 8 ≤ s.blk.tile.senders.length → Runs (.fleetDelta n p) s fun t =>
    t.fld R.YLD_T_CNT_C_SENDER_REFUSED = s.counted R.YLD_T_CNT_C_SENDER_REFUSED ∧ t.blk.tile = s.blk.tile ∧ Frame s t [R.YLD_T_CNT_C_SENDER_REFUSED]) ∧
  (∀ (n : Nat) p s, s.blk.tileRuns = true → bytesAt p.data 0 4 = s.fld R.YLD_T_SEASON_SEASON → s.blk.tile.senders = [] → s.blk.tile.dseqs = [] → Runs (.fleetDelta n p) s fun t =>
    t.fld R.YLD_T_CNT_B_DELTAS_RX = s.counted R.YLD_T_CNT_B_DELTAS_RX ∧ t.fld R.YLD_T_STATUS_FLEET = 1 ∧ t.blk.tile.senders = [n] ∧
    t.blk.tile.dseqs = [(1, signed 16 (bytesAt p.data 6 2), signed 16 (bytesAt p.data 8 2), bytesAt p.data 10 4)] ∧ Kept s t) ∧
  (∀ c s, s.blk.tileRefusal = some c → ∀ i ∈ [Instr.yldTStop, .yldTStart, .yldTClrCnt, .yldTFlush, .tileLookup 3 0], Runs i s fun t => t = { s with blk := s.blk.status c }) ∧
  (∀ s, s.blk.tileRefusal = none → s.fld R.YLD_T_STATUS_RUN = 1 → Runs .yldTStop s fun t => t.fld R.YLD_T_STATUS_RUN = 0 ∧ t.blk.tile.byStop = true ∧ (∀ x ∈ t.blk.tile.tiles, x.dirty = []) ∧ t.blk.fab.status = 0 ∧
    Frame s t [R.YLD_T_STATUS_RUN, R.YLD_T_ACK_CSEQ]) ∧
  (∀ s, s.blk.tileRefusal = none → s.fld R.YLD_T_STATUS_RUN = 0 → s.blk.tile.byStop = true → Runs .yldTStart s fun t => t.fld R.YLD_T_STATUS_RUN = 1 ∧ t.fld R.YLD_T_STATUS_LIVE = 0 ∧ t.fld R.YLD_T_FF_STAT2_STALE = 1 ∧
    t.blk.tile.tiles = [] ∧ t.blk.tile.queue = [] ∧ t.blk.tile.stored = s.blk.tile.stored ∧ (∀ f ∈ tileCounters, t.fld f = 0) ∧ t.blk.fab.status = 0 ∧ Kept s t) ∧
  (∀ s, s.blk.tileRefusal = none → Runs .yldTClrCnt s fun t => (∀ f ∈ tileCounters, t.fld f = 0) ∧ t.blk.tile = s.blk.tile ∧ t.blk.fab.status = 0 ∧ Frame s t tileCounters) ∧
  (∀ s, s.blk.tileRefusal = none → s.blk.tileRuns = true → Runs .yldTFlush s fun t => (∀ x ∈ t.blk.tile.tiles, x.dirty = []) ∧ t.blk.tile.flushAt = s.blk.tile.flushAt ∧ t.blk.fab.status = 0 ∧ Frame s t [R.YLD_T_ACK_CSEQ]) ∧
  (∀ (i : Fin 262144) (l : Fin 16) s, s.blk.tileRefusal = none → s.blk.tileRuns = true → s.blk.tile.tiles = [] → s.blk.tileParts = [] → Runs (.tileLookup i l) s fun t =>
    t.fld R.YLD_T_QCELL_INDEX = i.val ∧ t.fld R.YLD_T_QCELL_LAYER = (if 9 ≤ l.val then 15 else l.val) ∧ t.fld R.YLD_T_QSTAT_STATE = 2 ∧ (∀ n, n < 4 → t.fld (R.YLD_T_QWn_BYTES n) = 0) ∧ t.blk.fab.status = 0 ∧ Kept s t) ∧
  (∀ (i : Fin 262144) x s, s.blk.tileRefusal = none → s.blk.tileRuns = true → s.blk.tile.tiles = [x] → x.layer = 0 → x.tx = s.blk.geti R.YLD_T_QTILE_TX → x.ty = s.blk.geti R.YLD_T_QTILE_TY → Runs (.tileLookup i 0) s fun t =>
    t.fld R.YLD_T_QSTAT_STATE = 0 ∧ t.blk.tile.lookup = (CellRec.merge {} (cellAt x.cells i)).bytes ∧ t.blk.fab.status = 0 ∧ Kept s t) ∧
  (∀ s, Runs .yldFfRead s fun t => t.fld R.YLD_T_FF_STAT2_Y_AHEAD = s.blk.tile.yAhead % 2 ^ R.YLD_T_FF_STAT2_Y_AHEAD.wid ∧ Frame s t [R.YLD_T_FF_STAT2_Y_AHEAD]) ∧
  (∀ s, s.fld R.YLD_T_QSTAT_STATE = 0 → Runs .yldQwRead s fun t => (∀ n, n < 3 → t.fld (R.YLD_T_QWn_BYTES (n + 1)) = bytesAt s.blk.tile.lookup (4 * n + 4) 4 % 2 ^ 32) ∧
    Frame s t ((List.range 3).map fun n => R.YLD_T_QWn_BYTES (n + 1))) ∧
  (∀ s, s.fld R.YLD_T_QSTAT_STATE ≠ 0 → Runs .yldQwRead s fun t => (∀ n, n < 3 → t.fld (R.YLD_T_QWn_BYTES (n + 1)) = 0) ∧ Frame s t ((List.range 3).map fun n => R.YLD_T_QWn_BYTES (n + 1)))

/-- The season store's tiers and drives (R407, R413 to R422): without drives a packet of a routed stream is dropped and counted; an open block closes with its tier's next number; a block written whole leaves staging; a completed read answers its request with the block's bytes; an unanswered or failed command resets the drive; a stalled one is suspect; a drive that comes back is online unless it was reset three times in ten minutes; the level rises at once to what is wanted; a mount ends RUNNING or, with no drive, NO_DRIVES. -/
def Obligations.StoreDriveCommands : Prop :=
  (∀ p s, s.blk.sst.streams.find? (·.stream == p.stream) = none → Runs (.tierPacket p) s fun t => t = s) ∧
  (∀ p x s, s.blk.sst.streams = [x] → x.stream = p.stream → x.t1 = true → x.t2 = 0 → x.t3 = false → s.fld R.SST_STATUS_STATE = 4 → (s.blk.island 5).run = .running → Runs (.tierPacket p) s fun t =>
    t.blk.sst.dropped = updAt s.blk.sst.dropped 1 (· + (16 + p.data.length)) ∧ t.blk.sst.streams = [{ x with count := (if p.resync then 0 else x.count) + 1 }] ∧ t.blk.sst.opened = s.blk.sst.opened ∧ Kept s t) ∧
  (∀ p x s, s.blk.sst.streams = [x] → x.stream = p.stream → x.t1 = true → x.t2 = 0 → x.t3 = false → s.fld R.SST_STATUS_STATE = 1 ∨ s.fld R.SST_STATUS_STATE = 2 → (s.blk.island 5).run = .running → s.fld R.SST_STATUS_LEVEL < 3 → s.fld R.SST_POLICY_RECYCLE = 0 →
    Runs (.tierPacket p) s fun t => t.blk.sst.recs = s.blk.sst.recs ++ [{ tier := 1, bseq := s.blk.sst.bseq.getD 1 0, inst := s.blk.unstamp p.stamp, p := p }] ∧ t.blk.sst.dropped = s.blk.sst.dropped ∧ Kept s t) ∧
  (∀ (k : Fin 4) s, (s.blk.sst.opened.getD k {}).data ≠ [] → Runs (.blockClose k) s fun t => t.blk.sst.bseq = updAt s.blk.sst.bseq k (· + 1) ∧ t.blk.sst.staged.length = s.blk.sst.staged.length + 1 ∧
    t.blk.now = max s.blk.now ((s.blk.sst.opened.getD k {}).since + (if k.val < 2 then 20 else 100) * 1000000) ∧ (t.blk.sst.opened.getD k {}).data = [] ∧ Kept s t) ∧
  (∀ (d : Fin 4) (q : Fin 8) (e : Fin 1024) (a : Nat) x s, s.blk.sst.waiting = [] → s.blk.sst.cmds = [{ drive := d, queue := q, entry := e, tier := x.tier, bseq := x.bseq, at_ := a }] → s.blk.sst.staged = [x] → s.blk.mirrored x.tier = false →
    Runs (.driveCompletion d q e true) s fun t => t.blk.sst.staged = [] ∧ t.blk.sst.written = s.blk.sst.written ++ [{ x with done := x.done ++ [d.val] }] ∧ t.fld (R.SST_TIERt_BLK_COUNT x.tier) = s.counted (R.SST_TIERt_BLK_COUNT x.tier) ∧ Kept s t) ∧
  (∀ (d : Fin 4) (q : Fin 8) (e : Fin 1024) p x c s, s.blk.sst.waiting = [] → s.blk.sst.reads = [] → s.blk.sst.staged = [] → s.blk.sst.parts = [] → s.blk.sst.cmds = [c] → s.blk.findCmd d q e = some c → c.req = some p → p.kind = .storeReq → bytesAt p.data 0 1 = 1 →
    s.blk.findBlock (bytesAt p.data 1 1) (bytesAt p.data 4 8) = some x → s.blk.mirrored (bytesAt p.data 1 1) = false → s.fld R.SST_STATUS_STATE ≠ 3 →
    Runs (.driveCompletion d q e true) s fun t => t.blk.out = (s.blk.answer sstOrigin p x.bytes).out ∧ t.blk.sst.written = s.blk.sst.written ∧ Kept s t) ∧
  (∀ (d : Fin 4) (q : Fin 8) (e : Fin 1024) c s, s.blk.sst.waiting = [] → s.blk.findCmd d q e = some c → Runs (.driveCompletion d q e false) s fun t => t.fld (R.SST_Dd_STAT_STATE d) = 3 ∧
    t.fld (R.SST_Dd_CNT_ERRORS d) = s.counted (R.SST_Dd_CNT_ERRORS d) ∧ t.fld (R.SST_Dd_CNT_RESETS d) = s.counted (R.SST_Dd_CNT_RESETS d) ∧ Kept s t) ∧
  (∀ (d : Fin 4) (q : Fin 8) (e : Fin 1024) c s, s.blk.findCmd d q e = some c → 2 ≤ c.tier → c.owed = false → c.req = none → s.fld (R.SST_Dd_STAT_STATE d) = 1 → Runs (.driveStall d q e) s fun t => t.fld (R.SST_Dd_STAT_STATE d) = 2 ∧
    t.fld R.SST_EV_STALL_EV = 1 ∧ t.blk.now = max s.blk.now (c.at_ + s.blk.use R.SST_TIMES_STALL_MS * 1000000) ∧ Kept s t) ∧
  (∀ (d : Fin 4) (q : Fin 8) (e : Fin 1024) c s, s.blk.findCmd d q e = some c → Runs (.driveCmdTimeout d q e) s fun t => t.fld (R.SST_Dd_STAT_STATE d) = 3 ∧ t.fld (R.SST_Dd_CNT_TIMEOUTS d) = s.counted (R.SST_Dd_CNT_TIMEOUTS d) ∧
    t.fld (R.SST_Dd_CNT_RESETS d) = s.counted (R.SST_Dd_CNT_RESETS d) ∧ t.blk.now = max s.blk.now (c.at_ + s.blk.use R.SST_TIMES2_CMD_TIMEOUT_MS * 1000000) ∧ Kept s t) ∧
  (∀ (d : Fin 4) (q : Fin 8) (e : Fin 1024) s, s.blk.findCmd d q e = none → ∀ i ∈ [Instr.driveStall d q e, .driveCmdTimeout d q e], Runs i s fun t => t = s) ∧
  (∀ (d : Fin 4) s, s.fld (R.SST_Dd_STAT_STATE d) = 1 ∨ s.fld (R.SST_Dd_STAT_STATE d) = 2 → Runs (.driveLinkDown d) s fun t => t.fld (R.SST_Dd_STAT_STATE d) = 3 ∧ t.fld (R.SST_Dd_CNT_RESETS d) = s.counted (R.SST_Dd_CNT_RESETS d) ∧ Kept s t) ∧
  (∀ (d g : Fin 4) (gb n : Nat) o s, s.fld (R.SST_Dd_STAT_STATE d) = 3 → (recent s.blk.now 600000000000 (s.blk.drive d).resets).length < 3 → s.blk.now ≤ (s.blk.drive d).resetAt + s.blk.use R.SST_TIMES2_CMD_TIMEOUT_MS * 1000000 → Runs (.driveReady d g gb n o) s fun t => t.fld (R.SST_Dd_STAT_STATE d) = 1 ∧ Kept s t) ∧
  (∀ (d g : Fin 4) (gb n : Nat) o s, s.fld (R.SST_Dd_STAT_STATE d) = 3 → 3 ≤ (recent s.blk.now 600000000000 (s.blk.drive d).resets).length ∨ (s.blk.drive d).resetAt + s.blk.use R.SST_TIMES2_CMD_TIMEOUT_MS * 1000000 < s.blk.now → Runs (.driveReady d g gb n o) s fun t => t.fld (R.SST_Dd_STAT_STATE d) = 4 ∧
    t.fld R.SST_EV_FAIL_EV = 1 ∧ Kept s t) ∧
  (∀ (d g : Fin 4) (gb n x : Nat) o s, (s.blk.drive d).scan = some x → s.blk.now ≤ x + s.blk.use R.SST_TIMES2_MOUNT_S * 1000000000 → s.fld (R.SST_Dd_STAT_STATE d) = 0 ∨ s.fld (R.SST_Dd_STAT_STATE d) = 4 ∨ s.fld (R.SST_Dd_STAT_STATE d) = 5 → Runs (.driveReady d g gb n o) s fun t => t.fld (R.SST_Dd_STAT_STATE d) = (if o then 1 else 5) ∧
    t.fld (R.SST_Dd_STAT_SPEED d) = g.val % 2 ^ (R.SST_Dd_STAT_SPEED d).wid ∧ t.fld (R.SST_Dd_CAP_GB d) = min 8000 gb ∧ t.blk.drive d = { s.blk.drive d with scan := none, entries := n } ∧ Kept s t) ∧
  (∀ (d : Fin 4) s, s.fld (R.SST_Dd_STAT_STATE d) = 3 → Runs (.driveResetTimeout d) s fun t => t.fld (R.SST_Dd_STAT_STATE d) = 4 ∧ t.fld R.SST_EV_FAIL_EV = 1 ∧
    t.blk.now = max s.blk.now ((s.blk.drive d).resetAt + s.blk.use R.SST_TIMES2_CMD_TIMEOUT_MS * 1000000) ∧ Kept s t) ∧
  (∀ x s, s.blk.sst.staged.find? (2 ≤ ·.tier) = some x → Runs .blockDiscard s fun t => t.blk.sst.staged = s.blk.sst.staged.filter (· != x) ∧
    t.blk.sst.recs = s.blk.sst.recs.filter (fun r => !(r.tier == x.tier && r.bseq == x.bseq)) ∧ t.blk.sst.dropped = updAt s.blk.sst.dropped x.tier (· + 4096) ∧ t.blk.now = max s.blk.now (x.since + 450 * 1000000) ∧ Kept s t) ∧
  (∀ s, s.fld R.SST_STATUS_STATE ≠ 0 → (s.blk.island 5).run = .running → s.fld R.SST_STATUS_LEVEL < 3 → s.fld R.SST_T01_T01_MAX_MIB * 1048576 ≤ s.blk.t01Bytes → Runs .shedEvaluate s fun t => t.fld R.SST_STATUS_LEVEL = 3 ∧
    t.fld R.SST_EV_SHED_EV = 1 ∧ t.fld R.FAB_EDGE_SUMMARY_STORE_SHED = 1 ∧ Kept s t) ∧
  (∀ s, s.fld R.SST_STATUS_STATE = 1 → s.blk.onlineDrives ≠ [] → s.blk.setDrives = s.blk.onlineDrives → s.blk.sst.lostAt = none → Runs .mountDone s fun t => t.fld R.SST_STATUS_STATE = 2 ∧ Kept s t) ∧
  (∀ s, s.fld R.SST_STATUS_STATE = 1 → s.blk.onlineDrives = [] → Runs .mountTimeout s fun t => t.fld R.SST_STATUS_STATE = 4 ∧ t.blk.now = max s.blk.now (s.blk.sst.mountAt + s.blk.use R.SST_TIMES2_MOUNT_S * 1000000000) ∧ Frame s t [R.SST_STATUS_STATE]) ∧
  (∀ s, s.fld R.SST_STATUS_STATE = 1 → s.blk.onlineDrives ≠ [] → s.blk.sst.lostAt = none → Runs .mountTimeout s fun t => t.fld R.SST_STATUS_STATE = 2 ∧ t.blk.now = max s.blk.now (s.blk.sst.mountAt + s.blk.use R.SST_TIMES2_MOUNT_S * 1000000000) ∧ Kept s t)

/-- Storage requests (R409, R425): a request in a state that cannot serve it, or of an operation or a length that is none, is refused with its code; a read of a block or a tile part goes to the first drive that holds it and answers, with a tag of queue 6 or 5, and is refused with NO_DATA or DRIVE_ERROR where there is none; FIND answers with the first block at or after an instant; an appended record is answered with the block that holds it; a tile part is put in place, or stays in staging while no drive can take it. -/
def Obligations.StoreRequestCommands : Prop :=
  (∀ p s, p.kind = .storeReq → (s.blk.island 5).run = .running → s.blk.quiesced sstTarget = true ∨ s.fld R.SST_STATUS_STATE = 0 ∨ s.fld R.SST_STATUS_STATE = 3 →
    ∀ i ∈ [Instr.readBlock p, .find p, .append p, .tilePut p, .tileGet p], Runs i s fun t => t = { s with blk := s.blk.refuse sstOrigin 0x01 p }) ∧
  (∀ p s, p.kind = .storeReq → (s.blk.island 5).run = .running → s.blk.quiesced sstTarget = false → s.fld R.SST_STATUS_STATE = 2 → bytesAt p.data 0 1 = 0 ∨ 5 < bytesAt p.data 0 1 →
    ∀ i ∈ [Instr.readBlock p, .find p, .append p, .tilePut p, .tileGet p], Runs i s fun t => t = { s with blk := s.blk.refuse sstOrigin 0x7D p }) ∧
  (∀ p s, p.kind = .storeReq → (s.blk.island 5).run = .running → s.blk.quiesced sstTarget = false → s.fld R.SST_STATUS_STATE = 1 ∨ s.fld R.SST_STATUS_STATE = 4 → bytesAt p.data 0 1 = 1 ∨ bytesAt p.data 0 1 = 2 → bytesAt p.data 1 1 < 4 →
    ∀ i ∈ [Instr.readBlock p, .find p], Runs i s fun t => t = { s with blk := s.blk.refuse sstOrigin 0x7B p }) ∧
  (∀ p x d e s, p.kind = .storeReq → (s.blk.island 5).run = .running → s.blk.quiesced sstTarget = false → s.fld R.SST_STATUS_STATE = 2 → bytesAt p.data 0 1 = 1 → bytesAt p.data 1 1 < 4 → s.blk.sst.waiting.any (fun x => x.origin == p.origin) = false →
    s.blk.findBlock (bytesAt p.data 1 1) (bytesAt p.data 4 8) = some x → x.done.find? s.blk.answers = some d → s.blk.freeEntry d 6 = some e → Runs (.readBlock p) s fun t =>
    t.blk.sst = { s.blk.sst with cmds := s.blk.sst.cmds ++ [{ drive := d, queue := 6, entry := e, tier := 0, bseq := 0, at_ := s.blk.now, req := some p }] } ∧ Frame s t []) ∧
  (∀ p s, p.kind = .storeReq → (s.blk.island 5).run = .running → s.blk.quiesced sstTarget = false → s.fld R.SST_STATUS_STATE = 2 → bytesAt p.data 0 1 = 1 → bytesAt p.data 1 1 < 4 → s.blk.sst.waiting.any (fun x => x.origin == p.origin) = false →
    s.blk.findBlock (bytesAt p.data 1 1) (bytesAt p.data 4 8) = none → Runs (.readBlock p) s fun t => t = { s with blk := s.blk.refuse sstOrigin 0x7C p }) ∧
  (∀ p x s, p.kind = .storeReq → (s.blk.island 5).run = .running → s.blk.quiesced sstTarget = false → s.fld R.SST_STATUS_STATE = 2 → bytesAt p.data 0 1 = 1 → bytesAt p.data 1 1 < 4 → s.blk.sst.waiting.any (fun x => x.origin == p.origin) = false →
    s.blk.findBlock (bytesAt p.data 1 1) (bytesAt p.data 4 8) = some x → x.done.find? s.blk.answers = none → Runs (.readBlock p) s fun t => t = { s with blk := s.blk.refuse sstOrigin 0x7E p }) ∧
  (∀ p x l s, p.kind = .storeReq → (s.blk.island 5).run = .running → s.blk.quiesced sstTarget = false → s.fld R.SST_STATUS_STATE = 2 → bytesAt p.data 0 1 = 2 → bytesAt p.data 1 1 < 4 → s.blk.sst.waiting.any (fun x => x.origin == p.origin) = false →
    s.blk.sst.written.filter (fun x => x.tier == bytesAt p.data 1 1 && decide (bytesAt p.data 4 8 ≤ x.close)) = x :: l → Runs (.find p) s fun t =>
    t = { s with blk := s.blk.answer sstOrigin p (le 8 x.bseq ++ le 8 x.close) }) ∧
  (∀ p s, p.kind = .storeReq → (s.blk.island 5).run = .running → s.blk.quiesced sstTarget = false → s.fld R.SST_STATUS_STATE = 2 → bytesAt p.data 0 1 = 3 → bytesAt p.data 1 1 < 4 → 17 ≤ p.data.length → p.data.length ≤ 4096 → s.blk.sst.waiting.any (fun x => x.origin == p.origin) = false →
    s.blk.t01Bytes < 16777216 → Runs (.append p) s fun t =>
    t = { s with blk := ((s.blk.toTier (bytesAt p.data 1 1) { p with data := p.data.drop 16 }).sstFigures).answer sstOrigin p (le 8 (s.blk.sst.bseq.getD (bytesAt p.data 1 1) 0)) }) ∧
  (∀ p s, p.kind = .storeReq → (s.blk.island 5).run = .running → s.blk.quiesced sstTarget = false → s.fld R.SST_STATUS_STATE = 2 → bytesAt p.data 0 1 = 3 → bytesAt p.data 1 1 < 4 → 17 ≤ p.data.length → p.data.length ≤ 4096 →
    16777216 ≤ s.blk.t01Bytes ∨ s.blk.sst.waiting.any (fun x => x.origin == p.origin) = true → Runs (.append p) s fun t => t.blk.sst = { s.blk.sst with waiting := s.blk.sst.waiting ++ [p] } ∧ t.blk.fab = s.blk.fab ∧ Frame s t []) ∧
  (∀ p s, p.kind = .storeReq → (s.blk.island 5).run = .running → s.blk.quiesced sstTarget = false → s.fld R.SST_STATUS_STATE = 2 → bytesAt p.data 0 1 = 4 → bytesAt p.data 1 1 ≤ 8 → bytesAt p.data 2 2 = 0 → p.data.length = 80 → s.blk.sst.waiting.any (fun x => x.origin == p.origin) = false →
    s.blk.t01Bytes < 16777216 → s.blk.sst.parts = [] → s.blk.storeWrites = true → Runs (.tilePut p) s fun t =>
    t.blk.tile.stored = putPart s.blk.tile.stored { season := bytesAt p.data 4 4, layer := bytesAt p.data 1 1, tx := signed 16 (bytesAt p.data 12 2), ty := signed 16 (bytesAt p.data 14 2), part := 0, bytes := p.data.drop 16 } ∧ Kept s t) ∧
  (∀ p s, p.kind = .storeReq → (s.blk.island 5).run = .running → s.blk.quiesced sstTarget = false → s.fld R.SST_STATUS_STATE = 2 → bytesAt p.data 0 1 = 4 → bytesAt p.data 1 1 ≤ 8 → bytesAt p.data 2 2 = 0 → p.data.length = 80 → s.blk.sst.waiting.any (fun x => x.origin == p.origin) = false →
    s.blk.t01Bytes < 16777216 → s.blk.storeWrites = false → Runs (.tilePut p) s fun t => t.blk.tile.stored = s.blk.tile.stored ∧
    t.blk.sst.parts = s.blk.sst.parts ++ [{ season := bytesAt p.data 4 4, layer := bytesAt p.data 1 1, tx := signed 16 (bytesAt p.data 12 2), ty := signed 16 (bytesAt p.data 14 2), part := 0, bytes := p.data.drop 16 }] ∧ Kept s t) ∧
  (∀ p x d e s, p.kind = .storeReq → (s.blk.island 5).run = .running → s.blk.quiesced sstTarget = false → s.fld R.SST_STATUS_STATE = 2 → bytesAt p.data 0 1 = 5 → bytesAt p.data 1 1 ≤ 8 → bytesAt p.data 2 2 ≤ 2048 → s.blk.sst.waiting.any (fun x => x.origin == p.origin) = false →
    s.blk.findPart p.data = some x → ((List.range 4).find? fun d => s.blk.bitOf R.SST_POLICY_DRIVES d && s.blk.answers d) = some d → s.blk.freeEntry d 5 = some e → Runs (.tileGet p) s fun t =>
    t.blk.sst = { s.blk.sst with cmds := s.blk.sst.cmds ++ [{ drive := d, queue := 5, entry := e, tier := 0, bseq := 0, at_ := s.blk.now, req := some p }] } ∧ Frame s t [])

/-- The replay source and the store's control bits (R409, R413, R418, R421, R422, R426, R428): an opened replay is READY with its records or CLOSED with NO_DATA; the front record is sent, and waiting for it adds to the lag; the end shows END_EV; STOP, START, RESCAN, FLUSH and CLR_CNT act as the control bits say; a format needs its key and a stopped store. -/
def Obligations.StoreControlCommands : Prop :=
  (∀ c s, s.blk.sstRefusal = some c → ∀ i ∈ [Instr.replayOpen, .replayClose, .sstStop, .sstStart, .sstRescan, .sstFlush, .sstClrCnt, .sstFmt 0 0], Runs i s fun t => t = { s with blk := s.blk.status c }) ∧
  (∀ s, s.blk.sstRefusal = none → 1 ≤ s.fld R.SST_RP_STAT_STATE → s.fld R.SST_RP_STAT_STATE ≤ 4 → Runs .replayOpen s fun t => t = { s with blk := s.blk.status 0x01 }) ∧
  (∀ s, s.blk.sstRefusal = none → s.fld R.SST_RP_STAT_STATE = 0 ∨ s.fld R.SST_RP_STAT_STATE = 5 → Runs .replayOpen s fun t => t.fld R.SST_RP_STAT_STATE = 1 ∧ t.fld R.SST_RP_STAT_CODE = 0 ∧ t.blk.fab.status = 0 ∧
    Frame s t [R.SST_RP_STAT_STATE, R.SST_RP_STAT_CODE]) ∧
  (∀ s, s.fld R.SST_RP_STAT_STATE = 1 → s.blk.playable ≠ [] → Runs .replayReady s fun t => t.fld R.SST_RP_STAT_STATE = 2 ∧ t.fld R.SST_RP_LAG_MS = 0 ∧ t.blk.sst = { s.blk.sst with play := s.blk.playable } ∧ Frame s t [R.SST_RP_STAT_STATE, R.SST_RP_LAG_MS]) ∧
  (∀ s, s.fld R.SST_RP_STAT_STATE = 1 → s.blk.playable = [] → Runs .replayReady s fun t => t.fld R.SST_RP_STAT_STATE = 0 ∧ t.fld R.SST_RP_STAT_CODE = 0x7C ∧ Frame s t [R.SST_RP_STAT_STATE, R.SST_RP_STAT_CODE]) ∧
  (∀ s, s.blk.sstRefusal = none → s.fld R.SST_RP_STAT_STATE = 3 ∨ s.fld R.SST_RP_STAT_STATE = 4 → ∀ i ∈ [Instr.replayClose, .sstStop], Runs i s fun t => t = { s with blk := s.blk.status 0x01 }) ∧
  (∀ s, s.blk.sstRefusal = none → s.fld R.SST_RP_STAT_STATE ≠ 3 → s.fld R.SST_RP_STAT_STATE ≠ 4 → Runs .replayClose s fun t => t.fld R.SST_RP_STAT_STATE = 0 ∧ t.blk.sst = { s.blk.sst with play := [] } ∧ t.blk.fab.status = 0 ∧
    Frame s t [R.SST_RP_STAT_STATE]) ∧
  (∀ r l s, s.fld R.SST_RP_STAT_STATE = 3 → s.blk.sst.play = r :: l → Runs (.replayEmit 0) s fun t => t.blk.sst.play = l ∧ t.blk.sst.delta = s.blk.sst.delta ∧
    (2 ≤ s.fld R.PWR_STATE_STATE → t.blk.sys.mtime = max s.blk.sys.mtime (((r.inst : Int) + s.blk.sst.delta).toNat)) ∧ Kept s t) ∧
  (∀ r l (w : Nat) s, w ≠ 0 → s.fld R.SST_RP_STAT_STATE = 3 → s.blk.sst.play = r :: l → Runs (.replayEmit w) s fun t => t.blk.sst.play = l ∧ t.blk.sst.delta = s.blk.sst.delta + w ∧ t.fld R.SST_RP_STAT_LAG_EV = 1 ∧
    t.fld R.SST_RP_LAG_MS = min (2 ^ 32 - 1) (s.fld R.SST_RP_LAG_MS + w / 1000000) ∧ Kept s t) ∧
  (∀ s, s.fld R.SST_RP_STAT_STATE = 3 → s.blk.sst.play = [] → Runs .replayEnd s fun t => t.fld R.SST_RP_STAT_STATE = 5 ∧ t.fld R.SST_RP_STAT_END_EV = 1 ∧ t.blk.sst.play = [] ∧
    (2 ≤ s.fld R.PWR_STATE_STATE → t.blk.sys.mtime = max s.blk.sys.mtime (((s.blk.rpTo : Int) + s.blk.sst.delta).toNat)) ∧ Frame s t [R.SST_RP_STAT_STATE, R.SST_RP_STAT_END_EV]) ∧
  (∀ s, s.blk.sstRefusal = none → s.fld R.SST_RP_STAT_STATE ≠ 3 → s.fld R.SST_RP_STAT_STATE ≠ 4 → s.fld R.SST_STATUS_STATE ≠ 0 → Runs .sstStop s fun t => t.fld R.SST_STATUS_STATE = (if t.blk.sst.staged.isEmpty && t.blk.sst.parts.isEmpty then 0 else 3) ∧
    t.blk.sst.byStop = true ∧ t.blk.fab.status = 0 ∧ Kept s t) ∧
  (∀ s, s.blk.sstRefusal = none → s.fld R.SST_STATUS_STATE = 0 → s.blk.sst.byStop = true → Runs .sstStart s fun t => t.fld R.SST_STATUS_STATE = 1 ∧ t.blk.sst.mountAt = s.blk.now ∧ t.blk.sst.byStop = false ∧ t.blk.fab.status = 0 ∧
    Frame s t [R.SST_STATUS_STATE]) ∧
  (∀ s, s.blk.sstRefusal = none → s.blk.sst.drives.length = 4 → Runs .sstRescan s fun t => (∀ d, d < 4 → s.fld (R.SST_Dd_STAT_STATE d) = 0 ∨ s.fld (R.SST_Dd_STAT_STATE d) = 4 ∨ s.fld (R.SST_Dd_STAT_STATE d) = 5 → (t.blk.drive d).scan = some s.blk.now) ∧
    t.blk.fab.status = 0 ∧ Frame s t []) ∧
  (∀ s, s.blk.sstRefusal = none → s.blk.sst.opened.length = 4 → Runs .sstFlush s fun t => (∀ o ∈ t.blk.sst.opened, o.data = []) ∧ t.fld R.SST_STATUS_STATE = s.fld R.SST_STATUS_STATE ∧ t.blk.fab.status = 0 ∧ Kept s t) ∧
  (∀ s, s.blk.sstRefusal = none → Runs .sstClrCnt s fun t => (∀ f ∈ [R.SST_CNT_FAULT_REISSUE, R.SST_CNT_FAULT_GAPS, R.SST_CNT_FAULT_DRIVE_LOST, R.SST_RP_STAT_FALLBACK], t.fld f = 0) ∧
    (∀ k, k < 4 → t.fld (R.SST_TIERt_BLK_COUNT k) = 0 ∧ t.fld (R.SST_TIERt_DROP_KIB k) = 0 ∧ t.fld (R.SST_Dd_CNT_TIMEOUTS k) = 0 ∧ t.fld (R.SST_Dd_CNT_RESETS k) = 0 ∧ t.fld (R.SST_Dd_CNT_ERRORS k) = 0) ∧
    t.blk.sst = { s.blk.sst with dropped := [0, 0, 0, 0] } ∧ t.blk.fab.status = 0 ∧ Kept s t) ∧
  (∀ (k : BitVec 16) (m : Fin 16) s, s.blk.sstRefusal = none → m.val ≠ 0 → k ≠ 0xB1EF → Runs (.sstFmt k m) s fun t => t = { s with blk := s.blk.status 0x70 }) ∧
  (∀ (m : Fin 16) s, s.blk.sstRefusal = none → m.val ≠ 0 → s.fld R.SST_STATUS_STATE ≠ 0 → Runs (.sstFmt 0xB1EF m) s fun t => t = { s with blk := s.blk.status 0x01 }) ∧
  (∀ s, s.blk.sstRefusal = none → s.fld R.SST_STATUS_STATE = 0 → (∀ x ∈ s.blk.sst.written, ∀ d ∈ x.done, d < 4) → Runs (.sstFmt 0xB1EF 15) s fun t => (∀ d, d < 4 → t.fld (R.SST_Dd_DEBT_BLOCKS d) = 0 ∧
    t.fld (R.SST_Dd_STAT_STATE d) = (if s.fld (R.SST_Dd_STAT_STATE d) = 5 then 1 else s.fld (R.SST_Dd_STAT_STATE d))) ∧
    t.blk.sst.bseq = [0, 0, 0, 0] ∧ t.blk.sst.written = [] ∧ t.blk.sst.recs = [] ∧ t.blk.tile = { s.blk.tile with stored := [] } ∧ t.blk.fab.status = 0 ∧ Kept s t)

/-- Frames at a message-bus port (R436, R437, R439 to R441, R447): a frame that no filter takes is counted, one that a filter takes is buffered; the oldest buffered frame becomes a packet; a sent frame leaves the queue; errors count on their side and raise the error counters as their kind says; a packet for an object or the queue becomes its frame, or is noted as BAD_FRAME. -/
def Obligations.CanFrameCommands : Prop :=
  (∀ (n : Fin 24) f (k : Nat) s, s.fld (R.MB_STATUS_MODE n) < 2 → Runs (.canFrameRx n f k) s fun t => t = s) ∧
  (∀ (n : Fin 24) f (k : Nat) s, s.fld (R.MB_STATUS_MODE n) = 2 ∨ s.fld (R.MB_STATUS_MODE n) = 3 → s.blk.mbReads n f = true → (s.blk.port n).halt = none → s.blk.filterOf n f = none → Runs (.canFrameRx n f k) s fun t => t.fld (R.MB_CNT_NOMATCH_COUNT n) = s.counted (R.MB_CNT_NOMATCH_COUNT n) ∧
    t.fld (R.MB_STATUS_STUCK n) = 0 ∧ t.blk.can = s.blk.can ∧ Frame s t [R.MB_CNT_NOMATCH_COUNT n, R.MB_STATUS_STUCK n]) ∧
  (∀ (n : Fin 24) f (k x : Nat) s, s.fld (R.MB_STATUS_MODE n) = 2 ∨ s.fld (R.MB_STATUS_MODE n) = 3 → s.blk.mbReads n f = true → (s.blk.port n).halt = none → s.blk.filterOf n f = some x → s.fld (R.MB_RXSTRk_STREAM n (s.blk.use (R.MB_FLTf_MASK_RXS n x))) ≠ 0 → s.fld R.PWR_STATE_STATE = 3 → (s.blk.port n).rx.length < 512 →
    Runs (.canFrameRx n f k) s fun t => t.fld (R.MB_CNT_RX_COUNT n) = s.counted (R.MB_CNT_RX_COUNT n) ∧
    t.blk.can = updAt s.blk.can n (fun q => { q with rx := q.rx ++ [{ frame := f, rxs := s.blk.use (R.MB_FLTf_MASK_RXS n x), filter := x, own := false, sof := k }] }) ∧ Kept s t) ∧
  (∀ (n : Fin 24) x l s, s.fld (R.MB_STATUS_MODE n) = 4 ∨ s.fld (R.MB_STATUS_MODE n) = 5 ∨ (s.fld (R.MB_STATUS_MODE n) = 1 ∧ (s.blk.port n).byStop = true) → (s.blk.port n).rx = x :: l → Runs (.canRxDeliver n) s fun t =>
    t.blk.can = updAt s.blk.can n (fun q => { q with rx := l, lostRx := q.lostRx.filter (· != x.rxs) }) ∧ Kept s t) ∧
  (∀ (n : Fin 24) (k i : Nat) f s, s.blk.can.length = 24 → (s.blk.toModule k).candidate n k = some (.que i, f) → (s.blk.port n).tec ≤ 256 → (s.blk.port n).halt = none → (s.blk.port n).credit = [] → Runs (.canTxSuccess n k) s fun t => t.fld (R.MB_CNT_TX_COUNT n) = s.counted (R.MB_CNT_TX_COUNT n) ∧
    t.fld (R.MB_STATUS_STUCK n) = 0 ∧ t.fld (R.MB_ERRCNT_TEC n) = min 255 ((s.blk.port n).tec - 1) ∧ (t.blk.port n).queue = (s.blk.port n).queue.eraseIdx i ∧ (t.blk.port n).sent = some f ∧ Kept s t) ∧
  (∀ (n : Fin 24) (k : Nat) s, (s.blk.toModule k).candidate n k = none → Runs (.canTxSuccess n k) s fun t => t.blk.can = s.blk.can ∧ t.blk.out = s.blk.out ∧ Frame s t []) ∧
  (∀ (n : Fin 24) (k : Nat) (c : Fin 7) d c0 s, (s.blk.toModule k).candidate n k = some c0 → c.val ≠ 0 → Runs (.canTxError n k c d false) s fun t => t.fld (R.MB_CNT_ERR_TX n) = s.counted (R.MB_CNT_ERR_TX n) ∧
    t.fld (if d then R.MB_ERRCNT_DLEC n else R.MB_ERRCNT_LEC n) = c.val ∧ t.fld (R.MB_ERRCNT_TEC n) = min 255 ((s.blk.port n).tec + 8) ∧ Kept s t) ∧
  (∀ (n : Fin 24) (k : Nat) (c : Fin 7) d c0 s, (s.blk.toModule k).candidate n k = some c0 → Runs (.canTxError n k c d true) s fun t => t.fld (R.MB_CNT_ERR_TX n) = s.counted (R.MB_CNT_ERR_TX n) ∧
    t.fld (R.MB_ERRCNT_TEC n) = s.fld (R.MB_ERRCNT_TEC n) ∧ Kept s t) ∧
  (∀ (n : Fin 24) (c : Fin 7) d x s, s.fld (R.MB_STATUS_MODE n) = 4 → s.fld (R.MB_STATUS_FAULT n) ≠ 2 → c.val ≠ 0 → Runs (.canRxError n c d x) s fun t => t.fld (R.MB_CNT_ERR_RX n) = s.counted (R.MB_CNT_ERR_RX n) ∧
    t.fld (if d then R.MB_ERRCNT_DLEC n else R.MB_ERRCNT_LEC n) = c.val ∧ t.fld (R.MB_ERRCNT_REC n) = min 255 (s.fld (R.MB_ERRCNT_REC n) + (if x then 8 else 1)) ∧ Kept s t) ∧
  (∀ (n : Fin 24) (o : Fin 32) p w s, 2 ≤ s.fld (R.MB_STATUS_MODE n) → s.fld (R.MB_OBJo_CFG_FORM n o) = 1 → s.fld (R.MB_OBJo_STREAM_STREAM n o) = p.stream → p.stream ≠ 0 → s.blk.heard p = true → frameOf p.data = none → Runs (.canObjectPacket n o p w) s fun t =>
    t = { s with blk := s.blk.errorNote (mbOrigin n) 0x5C p }) ∧
  (∀ (n : Fin 24) (o : Fin 32) p f s, 2 ≤ s.fld (R.MB_STATUS_MODE n) → s.fld (R.MB_OBJo_CFG_FORM n o) = 1 → s.fld (R.MB_OBJo_STREAM_STREAM n o) = p.stream → p.stream ≠ 0 → s.blk.heard p = true → frameOf p.data = some f →
    s.blk.can.length = 24 → (s.blk.port n).objs.length = 32 → Runs (.canObjectPacket n o p false) s fun t => ((t.blk.port n).objs.getD o {}).frame = some f ∧ ((t.blk.port n).objs.getD o {}).fresh = true ∧ Kept s t) ∧
  (∀ (n : Fin 24) (o : Fin 32) p s, 2 ≤ s.fld (R.MB_STATUS_MODE n) → 2 ≤ s.fld (R.MB_OBJo_CFG_FORM n o) → s.fld (R.MB_OBJo_STREAM_STREAM n o) = p.stream → p.stream ≠ 0 → s.blk.heard p = true → s.blk.can.length = 24 → (s.blk.port n).objs.length = 32 → Runs (.canObjectPacket n o p false) s fun t =>
    ((t.blk.port n).objs.getD o {}).frame.map (fun f => (f.id, f.data)) = some (s.blk.use (R.MB_OBJo_ID_ID n o), (s.blk.signalData n o p).1) ∧ t.fld (R.MB_OBJo_STAT_NA n o) = b2n (s.blk.signalData n o p).2 ∧ Kept s t) ∧
  (∀ (n : Fin 24) (k : Fin 8) p s, 2 ≤ s.fld (R.MB_STATUS_MODE n) → s.fld (R.MB_QSTRk_STREAM n k) = p.stream → p.stream ≠ 0 → s.blk.heard p = true → (s.blk.port n).queue.length < 32 → (s.blk.port n).credit = [] → frameOf p.data = none → Runs (.canQueuePacket n p) s fun t =>
    t.blk.out = (s.blk.errorNote (mbOrigin n) 0x5C p).out ∧ t.blk.can = s.blk.can ∧ Kept s t) ∧
  (∀ (n : Fin 24) (k : Fin 8) p f s, 2 ≤ s.fld (R.MB_STATUS_MODE n) → s.fld (R.MB_QSTRk_STREAM n k) = p.stream → p.stream ≠ 0 → s.blk.heard p = true → (s.blk.port n).queue.length < 32 → (s.blk.port n).credit = [] → frameOf p.data = some f → Runs (.canQueuePacket n p) s fun t =>
    t.blk.can = updAt s.blk.can n (fun x => { x with queue := x.queue ++ [{ frame := f, pkt := p, at_ := s.blk.now }] }) ∧ Kept s t) ∧
  (∀ (n : Fin 24) (k : Fin 8) p s, 2 ≤ s.fld (R.MB_STATUS_MODE n) → s.fld (R.MB_QSTRk_STREAM n k) = p.stream → p.stream ≠ 0 → s.blk.heard p = true → 32 ≤ (s.blk.port n).queue.length ∨ (s.blk.port n).credit ≠ [] → Runs (.canQueuePacket n p) s fun t =>
    t.blk.can = updAt s.blk.can n (fun x => { x with credit := x.credit ++ [p] }) ∧ Frame s t [])

/-- The schedule of a message-bus port, its recovery and its control bits (R434, R443 to R450): a foreign reference is a conflict for a master and the cycle for a follower; a basic cycle owes its reference; a late reference is given up, a missed one is counted and the second in a row ends SYNCED; windows open at their start; bus-off ends after the delay with counters at 0; STOP, START, ISOLATE, REJOIN, FLUSH_Q and CLR_CNT act as the control bits say. -/
def Obligations.CanScheduleCommands : Prop :=
  (∀ (n : Fin 24) f (k : Nat) s, s.blk.mbReads n f = true → s.blk.isRef n f = true → s.fld (R.MB_SCHED_ROLE n) = 1 → Runs (.canReference n f k) s fun t => t.fld (R.MB_CNT_MISC_CONFLICT n) = s.counted (R.MB_CNT_MISC_CONFLICT n) ∧
    t.fld (R.MB_EV_CONFLICT_EV n) = 1 ∧ t.blk.can = s.blk.can ∧ Frame s t [R.MB_CNT_MISC_CONFLICT n, R.MB_EV_CONFLICT_EV n]) ∧
  (∀ (n : Fin 24) f (k : Nat) s, s.blk.mbReads n f = true → s.blk.isRef n f = true → s.fld (R.MB_SCHED_ROLE n) = 2 → s.blk.can.length = 24 → Runs (.canReference n f k) s fun t => t.fld (R.MB_STATUS_SYNC n) = 1 ∧
    t.fld (R.MB_CYCLE_COUNT n) = bytesAt f.data 0 1 % 64 % 2 ^ s.fld (R.MB_SCHED_CYCLES n) % 2 ^ (R.MB_CYCLE_COUNT n).wid ∧ (t.blk.port n).cycle = some k ∧ (t.blk.port n).misses = 0 ∧ Kept s t) ∧
  (∀ (n : Fin 24) (o : Fin 32) (t0 per e : Nat) y s, s.fld (R.MB_STATUS_MODE n) = 4 → s.blk.can.length = 24 → (s.blk.port n).objs.length = 32 → (s.blk.port n).objs.getD o {} = y → y.since = some t0 → s.blk.objPeriod n o = per → per ≠ 0 →
    e = t0 + ((s.blk.sys.mtime - t0 + per - 1) / per + (if y.last = some (t0 + (s.blk.sys.mtime - t0 + per - 1) / per * per) then 1 else 0)) * per → Runs (.canObjectPeriod n o) s fun t =>
    (2 ≤ s.fld R.PWR_STATE_STATE → t.blk.sys.mtime = max s.blk.sys.mtime e) ∧ ((t.blk.port n).objs.getD o {}).last = some e ∧ ((t.blk.port n).objs.getD o {}).frame = y.frame ∧
    ((t.blk.port n).objs.getD o {}).ready = (y.ready || (y.frame.isSome && (y.fresh || s.blk.use (R.MB_OBJo_CFG_SEND n o) == 1))) ∧ Kept s t) ∧
  (∀ (n : Fin 24) s, s.fld (R.MB_SCHED_ROLE n) = 1 → s.fld (R.MB_STATUS_MODE n) = 4 → s.blk.can.length = 24 → (s.blk.port n).cycle = none → (s.blk.port n).ref = false → s.fld (R.MB_REF2_PHASE_10US n) = 0 → 0 < s.fld (R.MB_SCHED_CYCLE_10US n) →
    Runs (.canBasicCycle n) s fun t => (t.blk.port n).ref = true ∧ (t.blk.port n).cycle = some (t.blk.port n).due ∧ (t.blk.port n).due % (s.fld (R.MB_SCHED_CYCLE_10US n) * 10000) = 0 ∧ s.blk.sys.mtime ≤ (t.blk.port n).due ∧
    t.fld (R.MB_CYCLE_COUNT n) = (t.blk.port n).due / (s.fld (R.MB_SCHED_CYCLE_10US n) * 10000) % 2 ^ s.fld (R.MB_SCHED_CYCLES n) % 2 ^ (R.MB_CYCLE_COUNT n).wid ∧ Kept s t) ∧
  (∀ (n : Fin 24) s, (s.blk.port n).ref = true → Runs (.canRefLate n) s fun t => t.fld (R.MB_CNT_MISC_REF_MISS n) = s.counted (R.MB_CNT_MISC_REF_MISS n) ∧
    t.blk.can = updAt s.blk.can n (fun x => { x with ref := false }) ∧ (2 ≤ s.fld R.PWR_STATE_STATE → t.blk.sys.mtime = max s.blk.sys.mtime ((s.blk.port n).due + s.fld (R.MB_SCHED_CYCLE_10US n) * 2500)) ∧ Frame s t [R.MB_CNT_MISC_REF_MISS n]) ∧
  (∀ (n : Fin 24) (x : Nat) s, (s.blk.port n).cycle = some x → s.fld (R.MB_SCHED_ROLE n) = 2 → s.fld (R.MB_STATUS_SYNC n) = 1 → (s.blk.port n).misses = 0 → s.blk.can.length = 24 → Runs (.canRefMiss n) s fun t =>
    t.fld (R.MB_CNT_MISC_REF_MISS n) = s.counted (R.MB_CNT_MISC_REF_MISS n) ∧ t.fld (R.MB_STATUS_SYNC n) = 1 ∧ (t.blk.port n).misses = 1 ∧ (t.blk.port n).cycle = some (x + s.fld (R.MB_SCHED_CYCLE_10US n) * 10000) ∧ Kept s t) ∧
  (∀ (n : Fin 24) (x : Nat) s, (s.blk.port n).cycle = some x → s.fld (R.MB_SCHED_ROLE n) = 2 → s.fld (R.MB_STATUS_SYNC n) = 1 → (s.blk.port n).misses ≠ 0 → s.blk.can.length = 24 → Runs (.canRefMiss n) s fun t =>
    t.fld (R.MB_CNT_MISC_REF_MISS n) = s.counted (R.MB_CNT_MISC_REF_MISS n) ∧ t.fld (R.MB_STATUS_SYNC n) = 2 ∧ t.fld (R.MB_EV_REF_EV n) = 1 ∧ (t.blk.port n).cycle = none ∧ Kept s t) ∧
  (∀ (n : Fin 24) s, s.fld (R.MB_SCHED_ROLE n) = 2 → s.fld (R.MB_STATUS_SYNC n) = 2 → s.fld (R.MB_STATUS_MODE n) = 4 → Runs (.canFallback n) s fun t => t.fld (R.MB_STATUS_SYNC n) = 3 ∧
    t.blk.now = max s.blk.now ((s.blk.port n).unsyncAt + s.fld (R.MB_REF2_FALLBACK_MS n) * 1000000) ∧ Frame s t [R.MB_STATUS_SYNC n]) ∧
  (∀ (n : Fin 24) (w : Fin 32) s, s.blk.scheduled n = true → s.fld (R.MB_STATUS_SYNC n) ≠ 2 → (s.blk.port n).cycle.isSome = true → (s.blk.port n).winAt.any (fun t => decide (s.blk.winStart n w ≤ t)) = false → s.fld (R.MB_STATUS_MODE n) = 4 → s.blk.can.length = 24 →
    s.blk.use (R.MB_WINw_TYPE n w) = 2 ∨ s.blk.use (R.MB_WINw_TYPE n w) = 3 ∨ (s.blk.use (R.MB_WINw_TYPE n w) = 1 ∧ s.fld (R.MB_CYCLE_COUNT n) % 2 ^ s.blk.use (R.MB_WINw_REPEAT n w) = s.blk.use (R.MB_WINw_BASE n w)) →
    Runs (.canWindowStart n w) s fun t => (t.blk.port n).win = some w.val ∧ (t.blk.port n).used = false ∧ (2 ≤ s.fld R.PWR_STATE_STATE → t.blk.sys.mtime = max s.blk.sys.mtime (s.blk.winStart n w)) ∧ Kept s t) ∧
  (∀ (n : Fin 24) (x : Nat) s, (s.blk.port n).recAt = some x → Runs (.canRecoverDelay n) s fun t => t.blk.can = updAt s.blk.can n (fun x => { x with recAt := none, counting := true, countAt := t.blk.now }) ∧
    t.blk.now = max s.blk.now (x + s.fld (R.MB_BUSOFF_RECOVER_DELAY_MS n) * 1000000) ∧ Frame s t []) ∧
  (∀ (n : Fin 24) s, (s.blk.port n).counting = true → Runs (.canRecovered n) s fun t => t.fld (R.MB_ERRCNT_TEC n) = 0 ∧ t.fld (R.MB_ERRCNT_REC n) = 0 ∧ t.fld (R.MB_STATUS_FAULT n) = 0 ∧ t.fld (R.MB_EV_RECOVER_EV n) = 1 ∧
    t.fld (R.MB_STATUS_MODE n) = (if (s.blk.port n).isolate then 5 else s.fld (R.MB_STATUS_MODE n)) ∧ t.blk.can = updAt s.blk.can n (fun x => { x with tec := 0, recAt := none, counting := false, isolate := false }) ∧ t.blk.now = max s.blk.now ((s.blk.port n).countAt + 1408 * s.blk.nominalBit n * 25 / 2) ∧ Kept s t) ∧
  (∀ (n : Fin 24) s, 2 ≤ s.fld (R.MB_STATUS_MODE n) → Runs (.canStuck n) s fun t => t.fld (R.MB_STATUS_STUCK n) = 1 ∧ t.fld (R.MB_EV_STUCK_EV n) = 1 ∧ t.blk.can = s.blk.can ∧ Frame s t [R.MB_STATUS_STUCK n, R.MB_EV_STUCK_EV n]) ∧
  (∀ (n : Fin 24) c s, s.blk.mbRefusal n = some c → ∀ i ∈ [Instr.mbStop n, .mbStart n, .mbIsolate n, .mbRejoin n, .mbFlushQ n, .mbClrCnt n], Runs i s fun t => t = { s with blk := s.blk.status c }) ∧
  (∀ (n : Fin 24) s, s.blk.mbRefusal n = none → 2 ≤ s.fld (R.MB_STATUS_MODE n) → s.blk.can.length = 24 → s.blk.candidate n s.blk.sys.mtime = none → (s.blk.port n).credit = [] → Runs (.mbStop n) s fun t => t.fld (R.MB_STATUS_MODE n) = 1 ∧ (t.blk.port n).queue = [] ∧ (t.blk.port n).byStop = true ∧
    t.fld (R.MB_CNT_ABANDON_FLUSHED n) = s.counted (R.MB_CNT_ABANDON_FLUSHED n) (s.blk.port n).queue.length ∧ t.blk.fab.status = 0 ∧ Kept s t) ∧
  (∀ (n : Fin 24) s, s.blk.mbRefusal n = none → s.fld (R.MB_STATUS_MODE n) = 5 → ∀ i ∈ [Instr.mbStart n, .mbRejoin n], Runs i s fun t => t.fld (R.MB_STATUS_MODE n) = 4 ∧ t.fld (R.MB_STATUS_SYNC n) = s.fld (R.MB_SCHED_ROLE n) % 4 ∧
    t.fld (R.MB_ERRCNT_TEC n) = 0 ∧ t.fld (R.MB_ERRCNT_REC n) = 0 ∧ t.blk.fab.status = 0 ∧ Kept s t) ∧
  (∀ (n : Fin 24) s, s.blk.mbRefusal n = none → s.fld (R.MB_STATUS_MODE n) = 1 → (s.blk.port n).byStop = true → Runs (.mbStart n) s fun t => t.fld (R.MB_STATUS_MODE n) = 4 ∧ t.fld (R.MB_ERRCNT_TEC n) = 0 ∧ t.blk.fab.status = 0 ∧ Kept s t) ∧
  (∀ (n : Fin 24) s, s.blk.mbRefusal n = none → 2 ≤ s.fld (R.MB_STATUS_MODE n) → s.fld (R.MB_STATUS_MODE n) ≤ 4 → s.blk.candidate n s.blk.sys.mtime = none → Runs (.mbIsolate n) s fun t => t.fld (R.MB_STATUS_MODE n) = 5 ∧
    t.fld (R.MB_CNT_MISC_ISOLATIONS n) = s.counted (R.MB_CNT_MISC_ISOLATIONS n) ∧ t.blk.fab.status = 0 ∧ Frame s t [R.MB_STATUS_MODE n, R.MB_CNT_MISC_ISOLATIONS n, R.MB_STATUS_RECOVERING n]) ∧
  (∀ (n : Fin 24) s, s.blk.mbRefusal n = none → 2 ≤ s.fld (R.MB_STATUS_MODE n) → s.fld (R.MB_STATUS_MODE n) ≤ 4 → s.blk.candidate n s.blk.sys.mtime ≠ none → Runs (.mbIsolate n) s fun t => t.blk.can = updAt s.blk.can n (fun x => { x with halt := some 2 }) ∧ t.blk.fab.status = 0 ∧ Frame s t []) ∧
  (∀ (n : Fin 24) s, s.blk.mbRefusal n = none → s.blk.candidate n s.blk.sys.mtime ≠ none → Runs (.mbStop n) s fun t => t.blk.can = updAt s.blk.can n (fun x => { x with halt := some 0 }) ∧ t.blk.fab.status = 0 ∧ Frame s t []) ∧
  (∀ (n : Fin 24) s, s.blk.mbRefusal n = none → s.blk.can.length = 24 → (s.blk.port n).credit = [] → Runs (.mbFlushQ n) s fun t => (t.blk.port n).queue = [] ∧ t.fld (R.MB_CNT_ABANDON_FLUSHED n) = s.counted (R.MB_CNT_ABANDON_FLUSHED n) (s.blk.port n).queue.length ∧
    t.blk.fab.status = 0 ∧ Kept s t) ∧
  (∀ (n : Fin 24) s, s.blk.mbRefusal n = none → Runs (.mbClrCnt n) s fun t => (∀ f ∈ mbCounters n, t.fld f = 0) ∧ t.blk.can = s.blk.can ∧ t.blk.fab.status = 0 ∧ Frame s t (mbCounters n))

/-- The switch (R454 to R459): a port that is not up takes no frame; a frame of a bad check sequence counts as one and is filtered, a PAUSE is consumed, an over-long frame is filtered, and the sender of an admitted frame is learned; a frame of the module enters the switch, or waits for room; the oldest buffered frame of the host port is delivered; a link change shows; addresses age out; a gate list starts at its base instant and goes on through its entries; the counters clear and the learned addresses are flushed. -/
def Obligations.EthernetCommands : Prop :=
  (∀ (p : Fin 16) f x s, s.blk.portUp p = false → Runs (.ethFrameRx p f x) s fun t => t = s) ∧
  (∀ (p : Fin 16) f s, s.blk.portUp p = true → Runs (.ethFrameRx p f true) s fun t => t.fld (R.ETH_Pp_CNT_RX_COUNT p) = s.counted (R.ETH_Pp_CNT_RX_COUNT p) ∧ t.fld (R.ETH_Pp_CNT_ERR_FCS p) = s.counted (R.ETH_Pp_CNT_ERR_FCS p) ∧
    t.fld (R.ETH_Pp_CNT_DROP_FILTERED p) = s.counted (R.ETH_Pp_CNT_DROP_FILTERED p) ∧ t.blk.eth = s.blk.eth ∧ Frame s t [R.ETH_Pp_CNT_RX_COUNT p, R.ETH_Pp_CNT_ERR_FCS p, R.ETH_Pp_CNT_DROP_FILTERED p]) ∧
  (∀ (p : Fin 16) f s, s.blk.portUp p = true → s.blk.parked = false → isPause f = true → Runs (.ethFrameRx p f false) s fun t => t.fld (R.ETH_Pp_CNT_RX_COUNT p) = s.counted (R.ETH_Pp_CNT_RX_COUNT p) ∧ t.blk.eth = s.blk.eth ∧ Frame s t [R.ETH_Pp_CNT_RX_COUNT p]) ∧
  (∀ (p : Fin 16) f s, s.blk.portUp p = true → s.blk.parked = false → isPause f = false → 1522 < ethLen f → Runs (.ethFrameRx p f false) s fun t => t.fld (R.ETH_Pp_CNT_RX_COUNT p) = s.counted (R.ETH_Pp_CNT_RX_COUNT p) ∧
    t.fld (R.ETH_Pp_CNT_DROP_FILTERED p) = s.counted (R.ETH_Pp_CNT_DROP_FILTERED p) ∧ t.blk.eth = s.blk.eth ∧ Frame s t [R.ETH_Pp_CNT_RX_COUNT p, R.ETH_Pp_CNT_DROP_FILTERED p]) ∧
  (∀ (p : Fin 16) f s, s.blk.portUp p = true → s.blk.parked = false → Runs (.ethFrameRx p f false) s fun t => t.fld (R.ETH_Pp_CNT_RX_COUNT p) = s.counted (R.ETH_Pp_CNT_RX_COUNT p) ∧ Kept s t) ∧
  (∀ (p : Fin 16) f (v : Nat) s, s.blk.portUp p = true → s.blk.parked = false → isPause f = false → s.blk.admits p f = some v → f.src % 2 = 0 →
    (s.blk.eth.macs.filter fun m => !(m.vid == (s.blk.frameClass p f).2 && m.mac == f.src)).length < 4096 → Runs (.ethFrameRx p f false) s fun t =>
    t.blk.eth.macs = (s.blk.eth.macs.filter fun m => !(m.vid == (s.blk.frameClass p f).2 && m.mac == f.src)) ++ [{ vid := (s.blk.frameClass p f).2, mac := f.src, port := p.val, seen := s.blk.now }] ∧ Kept s t) ∧
  (∀ f s, s.blk.ethRuns = true → s.blk.eth.hostTx = [] → s.blk.hostStalls f = false → Runs (.ethHostTx f) s fun t => t = { s with blk := s.blk.ingress hostPort f }) ∧
  (∀ f s, s.blk.ethRuns = true → s.blk.eth.hostTx ≠ [] ∨ s.blk.hostStalls f = true → Runs (.ethHostTx f) s fun t => t.blk.eth = { s.blk.eth with hostTx := s.blk.eth.hostTx ++ [f] } ∧ Frame s t []) ∧
  (∀ f s, 1522 < ethLen f → s.blk.eth.hostTx = [] → Runs (.ethHostTx f) s fun t => t = s) ∧
  (∀ (a : Nat) f l s, s.blk.eth.hostRx = (a, f) :: l → s.blk.hushed ethOrigin = false → s.blk.parked = false → Runs .ethHostRxDeliver s fun t => t.blk.eth = { s.blk.eth with hostRx := l } ∧ t.fld R.ETH_HOST_RXBUF = l.length % 2 ^ R.ETH_HOST_RXBUF.wid ∧ Frame s t [R.ETH_HOST_RXBUF]) ∧
  (∀ (p : Fin 16) (q : Fin 8) s, s.fld (R.ETH_Pp_STAT_LINK p) = 1 → s.blk.eth.hostTx = [] → Runs (.ethLinkChange p false q) s fun t => t.fld (R.ETH_Pp_STAT_LINK p) = 0 ∧ t.fld (R.ETH_Pp_STAT_SQI p) = 0 ∧ t.fld R.ETH_EV_LINK_EV = 1 ∧
    t.fld (R.ETH_Pp_CNT_ERR_LINK_DOWN p) = s.counted (R.ETH_Pp_CNT_ERR_LINK_DOWN p) ∧ t.fld (R.ETH_Pp_STAT_AS_CAPABLE p) = 0 ∧ t.fld (R.ETH_Pp_STAT_PDELAY_NS p) = 0 ∧
    Frame s t [R.ETH_Pp_STAT_LINK p, R.ETH_STATUS_LINK, R.ETH_Pp_STAT_SQI p, R.ETH_EV_LINK_EV, R.ETH_Pp_CNT_ERR_LINK_DOWN p, R.ETH_Pp_STAT_AS_CAPABLE p, R.ETH_Pp_STAT_PDELAY_NS p]) ∧
  (∀ (p : Fin 16) (q : Fin 8) s, s.blk.ethRuns = true → s.fld (R.ETH_Pp_CFG_EN p) = 1 → s.fld R.PWR_STATE_STATE = 3 → s.fld (R.ETH_Pp_STAT_LINK p) = 0 → Runs (.ethLinkChange p true q) s fun t => t.fld (R.ETH_Pp_STAT_LINK p) = 1 ∧
    t.fld (R.ETH_Pp_STAT_SQI p) = q.val % 2 ^ (R.ETH_Pp_STAT_SQI p).wid ∧ t.fld R.ETH_EV_LINK_EV = 1 ∧ Kept s t) ∧
  (∀ m l s, s.blk.eth.macs = m :: l → Runs .ethMacAge s fun t => t.blk.now = max s.blk.now (l.foldl (fun t x => min t x.seen) m.seen + s.blk.use R.ETH_SW_CFG_AGE_S * 1000000000) ∧
    t.blk.eth = { s.blk.eth with macs := s.blk.eth.macs.filter fun x => decide (t.blk.now < x.seen + s.blk.use R.ETH_SW_CFG_AGE_S * 1000000000) } ∧ Frame s t []) ∧
  (∀ (p : Fin 16) s, s.blk.ethRuns = true → s.fld (R.ETH_Pp_CFG_EN p) = 1 → s.fld (R.ETH_Pp_CFG_QBV_EN p) = 1 → s.blk.eth.gates.getD p none = none →
    s.blk.sys.mtime ≤ s.fld (R.ETH_Pp_GCL_BASE_LO_NS p) + 2 ^ 32 * s.fld (R.ETH_Pp_GCL_BASE_HI_NS p) → Runs (.ethGateEntry p 0) s fun t =>
    (2 ≤ s.fld R.PWR_STATE_STATE → t.blk.sys.mtime = max s.blk.sys.mtime (s.fld (R.ETH_Pp_GCL_BASE_LO_NS p) + 2 ^ 32 * s.fld (R.ETH_Pp_GCL_BASE_HI_NS p))) ∧
    t.blk.eth.gates = updAt s.blk.eth.gates p (fun _ => some (s.fld (R.ETH_Pp_GCL_BASE_LO_NS p) + 2 ^ 32 * s.fld (R.ETH_Pp_GCL_BASE_HI_NS p), 0, s.fld (R.ETH_Pp_GCL_BASE_LO_NS p) + 2 ^ 32 * s.fld (R.ETH_Pp_GCL_BASE_HI_NS p))) ∧ Kept s t) ∧
  (∀ (p : Fin 16) (e : Fin 64) (a k c g st n : Nat) s, s.blk.ethRuns = true → s.fld (R.ETH_Pp_CFG_EN p) = 1 → s.fld (R.ETH_Pp_CFG_QBV_EN p) = 1 → s.blk.eth.gates.getD p none = some (a, k, c) → (s.blk.gclPlan p)[e.val]? = some (g, st, n) →
    k < e.val → n ≠ 0 → Runs (.ethGateEntry p e) s fun t => (2 ≤ s.fld R.PWR_STATE_STATE → t.blk.sys.mtime = max s.blk.sys.mtime (c + st)) ∧ t.blk.eth.gates = updAt s.blk.eth.gates p (fun _ => some (c + st, e.val, c)) ∧ Kept s t) ∧
  (∀ (c : Nat) s, s.blk.unitRefusal ethOrigin = some c → ∀ i ∈ [Instr.ethClrCnt, .ethFlushMac], Runs i s fun t => t = { s with blk := s.blk.status c }) ∧
  (∀ s, s.blk.unitRefusal ethOrigin = none → Runs .ethClrCnt s fun t => t.fld R.ETH_HOST_DROP_COUNT = 0 ∧ t.fld R.ETH_TQ_SEQ_COUNT = 0 ∧ (∀ p, p < 16 → t.fld (R.ETH_Pp_CNT_RX_COUNT p) = 0 ∧ t.fld (R.ETH_Pp_CNT_TX_COUNT p) = 0 ∧
    t.fld (R.ETH_Pp_CNT_DROP_QFULL p) = 0 ∧ t.fld (R.ETH_Pp_CNT_DROP_FILTERED p) = 0 ∧ t.fld (R.ETH_Pp_CNT_ERR_FCS p) = 0 ∧ t.fld (R.ETH_Pp_CNT_ERR_LINK_DOWN p) = 0 ∧ t.fld (R.ETH_Pp_GCL_STAT_HELD p) = 0) ∧ t.blk.eth = s.blk.eth ∧ t.blk.fab.status = 0 ∧ Kept s t) ∧
  (∀ s, s.blk.unitRefusal ethOrigin = none → Runs .ethFlushMac s fun t => t.blk.eth = { s.blk.eth with macs := [] } ∧ t.blk.fab.status = 0 ∧ Frame s t [])

/-- Time on the wire (R460, R462 to R464): with seeded time the module is grandmaster and sends Sync and Announce on its capable ports, without it neither; delay requests are answered; a measured delay shows at its port; a quantisation frame counts; an event input records the edge of its comparator and a read of EVTCAP takes its instant. -/
def Obligations.GptpCommands : Prop :=
  (∀ s, s.blk.ethRuns = true → s.fld R.SUP_MTIME_STATUS_STATE = 0 → ∀ i ∈ [Instr.gptpSync, .gptpAnnounce], Runs i s fun t => t.fld R.ETH_STATUS_GM = 0 ∧ t.blk.eth = s.blk.eth ∧ Frame s t [R.ETH_STATUS_GM]) ∧
  (∀ s, s.blk.ethRuns = true → s.fld R.SUP_MTIME_STATUS_STATE ≠ 0 → Runs .gptpSync s fun t => t.fld R.ETH_STATUS_GM = 1 ∧ t.blk.eth.syncSeq = (s.blk.eth.syncSeq + 1) % 65536 ∧
    t.blk.eth.ptp.length = s.blk.eth.ptp.length + 2 * s.blk.asPorts.length ∧
    t.blk.now = max s.blk.now ((s.blk.eth.syncAt.map (· + 2 ^ s.fld R.ETH_TS_CFG_SYNC_INT * 1000000000 / 32)).getD 0) ∧ t.blk.eth.syncAt = some t.blk.now ∧ Frame s t [R.ETH_STATUS_GM]) ∧
  (∀ s, s.blk.ethRuns = true → Runs .gptpPdelay s fun t => t.blk.eth.delaySeq = (s.blk.eth.delaySeq + 1) % 65536 ∧ t.blk.eth.ptp = s.blk.eth.ptp ++ s.blk.asPorts.map (fun p => (p, .delayReq s.blk.eth.delaySeq)) ∧
    t.blk.now = max s.blk.now ((s.blk.eth.delayAt.map (· + 2 ^ s.fld R.ETH_TS_CFG_PDELAY_INT * 1000000000 / 32)).getD 0) ∧ t.blk.eth.delayAt = some t.blk.now ∧ Frame s t []) ∧
  (∀ s, s.blk.ethRuns = true → s.fld R.SUP_MTIME_STATUS_STATE ≠ 0 → Runs .gptpAnnounce s fun t => t.fld R.ETH_STATUS_GM = 1 ∧ t.fld R.ETH_TS_STAT_CLASS = t.blk.clockClass % 2 ^ R.ETH_TS_STAT_CLASS.wid ∧
    t.fld R.ETH_TS_STAT_ACCURACY = t.blk.clockAccuracy % 2 ^ R.ETH_TS_STAT_ACCURACY.wid ∧ t.blk.eth.ptp.length = s.blk.eth.ptp.length + s.blk.asPorts.length ∧
    t.blk.now = max s.blk.now ((s.blk.eth.annAt.map (· + 1000000000)).getD 0) ∧ t.blk.eth.annAt = some t.blk.now ∧
    Frame s t [R.ETH_STATUS_GM, R.ETH_TS_STAT_CLASS, R.ETH_TS_STAT_ACCURACY]) ∧
  (∀ (p : Fin 16) (q : Nat) s, s.blk.asPorts.contains p.val = true → Runs (.gptpMsgRx p (.delayReq q)) s fun t => t.blk.eth.ptp = s.blk.eth.ptp ++ [(p.val, .delayResp q (ptpTime s.blk.counter)), (p.val, .delayFollowUp q (ptpTime s.blk.counter))] ∧ Frame s t []) ∧
  (∀ (p : Fin 16) (d : Nat) ok s, s.blk.asPorts.contains p.val = true → Runs (.gptpMsgRx p (.delayDone d ok)) s fun t => t.fld (R.ETH_Pp_STAT_PDELAY_NS p) = min 65535 d ∧ t.fld (R.ETH_Pp_STAT_AS_CAPABLE p) = b2n ok ∧
    t.blk.eth = s.blk.eth ∧ Frame s t [R.ETH_Pp_STAT_PDELAY_NS p, R.ETH_Pp_STAT_AS_CAPABLE p]) ∧
  (∀ (p : Fin 16) s, Runs (.gptpMsgRx p .other) s fun t => t = s) ∧
  (∀ s, s.blk.ethRuns = true → s.fld R.ETH_TQ_CFG_EN = 1 → s.fld (R.ETH_PPSx_CFG_EN 0) = 1 → s.blk.gnss.reportSec = (s.blk.sys.mtime / 1000000000 + 1) % 2 ^ 32 → s.blk.eth.tqSec ≠ some s.blk.gnss.reportSec → Runs .tqFrame s fun t =>
    t.fld R.ETH_TQ_SEQ_COUNT = s.counted R.ETH_TQ_SEQ_COUNT ∧ t.blk.eth.tqSec = some s.blk.gnss.reportSec ∧ Kept s t) ∧
  (∀ (x : Fin 2) pin s, s.blk.ethRuns = true → Runs (.evtEdgeStamp x pin) s fun t => t.blk.evtIn = updAt s.blk.evtIn x (fun e => if verdict pin e.cmp = e.cmp then e else { e with cmp := verdict pin e.cmp, runAt := s.blk.sys.mtime / 4 * 4 }) ∧ Frame s t []) ∧
  (∀ (x : Fin 2) s, Runs (.ethEvtcapRead x) s fun t => t.fld (R.ETH_EVTCAPx_LO_NS x) = (s.blk.evtIn.getD x {}).capNs % 2 ^ 32 ∧ t.fld (R.ETH_EVTCAPx_HI_NS x) = (s.blk.evtIn.getD x {}).capNs / 2 ^ 32 % 2 ^ 32 ∧
    Frame s t [R.ETH_EVTCAPx_LO_NS x, R.ETH_EVTCAPx_HI_NS x])

/-- The fleet endpoint (R465 to R473, R482, R483): a router's prefix becomes the local address; a peer without a sender or an address cannot be enabled; a handshake that succeeds is UP, one that fails says why; silence ends a session; a heartbeat goes to every peer that is UP; a held frame is sent again after its wait and abandoned after its eighth sending; STOP ends every session. -/
def Obligations.FleetCommands : Prop :=
  (∀ (a : BitVec 128) s, s.fld R.EHR_STATUS_STATE ≠ 0 → s.blk.ehrLinked = true → Runs (.ehrRouterAdvert a) s fun t => (∀ m, m < 4 → t.fld (R.EHR_LOCALm_ADDR m) = a.toNat / 2 ^ (32 * m) % 2 ^ 32) ∧ Frame s t ((List.range 4).map R.EHR_LOCALm_ADDR)) ∧
  (∀ (n : Fin 16) s, s.blk.ehrRefusal = none → s.blk.badPeer n = true → Runs (.ehrPeerEnable n true) s fun t => t = { s with blk := s.blk.status 0x5E }) ∧
  (∀ (n : Fin 16) s, s.blk.ehrRefusal = none → s.blk.badPeer n = false → s.fld (R.EHR_PEERn_CFG_EN n) = 0 → s.blk.isClient n = false → Runs (.ehrPeerEnable n true) s fun t => t.fld (R.EHR_PEERn_CFG_EN n) = 1 ∧
    t.fld (R.EHR_PEERn_STAT_STATE n) = 0 ∧ t.blk.fab.status = 0 ∧ Frame s t [R.EHR_PEERn_CFG_EN n, R.EHR_PEERn_STAT_STATE n, R.EHR_PEERn_STAT_CLIENT n, R.EHR_STATUS_UP]) ∧
  (∀ (n : Fin 16) s, s.blk.ehrRefusal = none → s.blk.badPeer n = false → s.fld (R.EHR_PEERn_CFG_EN n) = 0 → s.blk.isClient n = true → s.fld R.EHR_STATUS_STATE ≠ 0 → s.fld R.SUP_MTIME_STATUS_STATE ≠ 0 → Runs (.ehrPeerEnable n true) s fun t =>
    t.fld (R.EHR_PEERn_CFG_EN n) = 1 ∧ t.fld (R.EHR_PEERn_STAT_STATE n) = 1 ∧ t.blk.ehr.sessions = updAt s.blk.ehr.sessions n (fun x => { x with hsAt := s.blk.now, flight := 0, flightAt := s.blk.now }) ∧ t.blk.fab.status = 0 ∧
    Frame s t [R.EHR_PEERn_CFG_EN n, R.EHR_PEERn_STAT_STATE n, R.EHR_PEERn_STAT_CLIENT n, R.EHR_STATUS_UP]) ∧
  (∀ (n : Fin 16) s, s.blk.ehrRefusal = none → s.fld (R.EHR_PEERn_CFG_EN n) = 1 → Runs (.ehrPeerEnable n false) s fun t => t.fld (R.EHR_PEERn_CFG_EN n) = 0 ∧ t.fld (R.EHR_PEERn_STAT_STATE n) = 0 ∧ t.blk.fab.status = 0 ∧ Kept s t) ∧
  (∀ (n : Fin 16) s, s.fld R.EHR_STATUS_STATE ≠ 0 → s.blk.ehrLinked = true → s.fld (R.EHR_PEERn_CFG_EN n) = 1 → s.fld R.SUP_MTIME_STATUS_STATE ≠ 0 → s.blk.isClient n = false → s.fld (R.EHR_PEERn_STAT_STATE n) = 0 → Runs (.ehrClientHello n) s fun t =>
    t.fld (R.EHR_PEERn_STAT_STATE n) = 1 ∧ t.blk.ehr.sessions = updAt s.blk.ehr.sessions n (fun x => { x with hsAt := s.blk.now, flight := 0, flightAt := s.blk.now }) ∧
    Frame s t [R.EHR_PEERn_STAT_STATE n, R.EHR_PEERn_STAT_CLIENT n, R.EHR_STATUS_UP]) ∧
  (∀ (n : Fin 16) s, s.fld R.EHR_STATUS_STATE ≠ 0 → s.blk.ehrLinked = true → s.fld (R.EHR_PEERn_CFG_EN n) = 1 → s.fld R.SUP_MTIME_STATUS_STATE ≠ 0 → s.blk.isClient n = false → s.fld (R.EHR_PEERn_STAT_STATE n) = 2 → Runs (.ehrClientHello n) s fun t =>
    t.blk.ehr.sessions = updAt s.blk.ehr.sessions n (fun x => { x with renew := true, hsAt := s.blk.now, flight := 0, flightAt := s.blk.now }) ∧ Frame s t []) ∧
  (∀ (n : Fin 16) ch tr ve s, s.blk.handshaking n = true → s.blk.ehrLinked = true → s.blk.ehr.sessions.length = 16 → s.blk.certVerdict n ch tr ve = 0 → Runs (.ehrHandshakeDone n ch tr ve) s fun t => t.fld (R.EHR_PEERn_STAT_STATE n) = 2 ∧
    t.fld (R.EHR_PEERn_STAT_AUTH n) = 0 ∧ t.fld R.EHR_EV_UP_EV = 1 ∧ (t.blk.session n).lastRx = s.blk.now ∧ (t.blk.session n).renew = false ∧ Kept s t) ∧
  (∀ (n : Fin 16) ch tr ve s, s.fld (R.EHR_PEERn_STAT_STATE n) = 1 → s.blk.ehrLinked = true → s.blk.certVerdict n ch tr ve ≠ 0 → Runs (.ehrHandshakeDone n ch tr ve) s fun t => t.fld (R.EHR_PEERn_STAT_STATE n) = (if s.blk.isClient n then 3 else 0) ∧
    t.fld (R.EHR_PEERn_STAT_AUTH n) = s.blk.certVerdict n ch tr ve ∧ t.fld R.EHR_CNT_D_AUTH_FAIL = s.counted R.EHR_CNT_D_AUTH_FAIL ∧ t.fld R.EHR_EV_AUTH_EV = 1 ∧
    Frame s t [R.EHR_PEERn_STAT_AUTH n, R.EHR_CNT_D_AUTH_FAIL, R.EHR_EV_AUTH_EV, R.EHR_PEERn_STAT_STATE n, R.EHR_PEERn_STAT_CLIENT n, R.EHR_STATUS_UP]) ∧
  (∀ (n : Fin 16) ch tr ve s, s.fld (R.EHR_PEERn_STAT_STATE n) = 2 → (s.blk.session n).renew = true → s.blk.ehrLinked = true → s.blk.certVerdict n ch tr ve ≠ 0 → Runs (.ehrHandshakeDone n ch tr ve) s fun t =>
    t.fld (R.EHR_PEERn_STAT_AUTH n) = s.blk.certVerdict n ch tr ve ∧ t.blk.ehr.sessions = updAt s.blk.ehr.sessions n (fun x => { x with renew := false }) ∧ Frame s t [R.EHR_PEERn_STAT_AUTH n, R.EHR_CNT_D_AUTH_FAIL, R.EHR_EV_AUTH_EV]) ∧
  (∀ (n : Fin 16) s, s.fld (R.EHR_PEERn_STAT_STATE n) = 1 → Runs (.ehrHandshakeTimeout n) s fun t => t.fld (R.EHR_PEERn_STAT_STATE n) = (if s.blk.isClient n then 3 else 0) ∧ t.fld (R.EHR_PEERn_STAT_AUTH n) = 6 ∧
    t.blk.now = max s.blk.now ((s.blk.session n).hsAt + 60000000000) ∧ Frame s t [R.EHR_PEERn_STAT_AUTH n, R.EHR_PEERn_STAT_STATE n, R.EHR_PEERn_STAT_CLIENT n, R.EHR_STATUS_UP]) ∧
  (∀ (n : Fin 16) s, s.fld (R.EHR_PEERn_STAT_STATE n) = 1 → Runs (.ehrFlightRetransmit n) s fun t => t.blk.now = max s.blk.now ((s.blk.session n).flightAt + min 8 (2 ^ (s.blk.session n).flight) * 1000000000) ∧
    t.blk.ehr.sessions = updAt s.blk.ehr.sessions n (fun x => { x with flight := x.flight + 1, flightAt := t.blk.now }) ∧ Frame s t []) ∧
  (∀ (n : Fin 16) s, s.fld (R.EHR_PEERn_STAT_STATE n) = 3 → s.fld R.EHR_STATUS_STATE ≠ 0 → s.fld (R.EHR_PEERn_CFG_EN n) = 1 → s.fld R.SUP_MTIME_STATUS_STATE ≠ 0 → Runs (.ehrBackoff n) s fun t => t.fld (R.EHR_PEERn_STAT_STATE n) = 1 ∧
    t.blk.now = max s.blk.now ((s.blk.session n).backAt + min 32 (2 ^ ((s.blk.session n).fails - 1)) * 1000000000) ∧ Frame s t [R.EHR_PEERn_STAT_STATE n, R.EHR_PEERn_STAT_CLIENT n, R.EHR_STATUS_UP]) ∧
  (∀ (n : Fin 16) s, s.fld (R.EHR_PEERn_STAT_STATE n) = 2 → Runs (.ehrSessionTimeout n) s fun t => t.fld (R.EHR_PEERn_STAT_STATE n) = (if s.blk.isClient n then 3 else 0) ∧ t.blk.flag R.EHR_EV_DOWN_EV = true ∧ Kept s t) ∧
  (∀ s, s.fld R.EHR_STATUS_STATE = 1 → Runs .ehrHeartbeat s fun t => t.blk.now = max s.blk.now (s.blk.ehr.hbAt + s.blk.use R.EHR_TIMERS_HB_MS * 1000000) ∧ t.blk.ehr.hbAt = t.blk.now ∧
    (s.blk.ehrLinked = true → ∀ n, n < 16 → s.fld (R.EHR_PEERn_STAT_STATE n) = 2 → t.fld (R.EHR_PEERn_TX_COUNT n) = s.counted (R.EHR_PEERn_TX_COUNT n)) ∧ Frame s t ((List.range 16).map R.EHR_PEERn_TX_COUNT)) ∧
  (∀ (n : Fin 16) s, s.fld (R.EHR_PEERn_STAT_STATE n) = 2 → (s.blk.session n).records < 2 ^ 24 → Runs (.ehrKeyUpdate n) s fun t => t.blk.now = max s.blk.now ((s.blk.session n).keyAt + s.blk.use R.EHR_KEYUPD_KEYUPD_MIN * 60 * 1000000000) ∧
    t.blk.ehr.sessions = updAt s.blk.ehr.sessions n (fun x => { x with keyAt := t.blk.now, records := 0 }) ∧ Frame s t []) ∧
  (∀ (n : Fin 16) num fr s, s.fld R.EHR_STATUS_STATE ≠ 0 → (s.blk.island 1).run = .running → s.blk.ehrLinked = true → s.fld (R.EHR_PEERn_STAT_STATE n) = 2 → (s.blk.session n).fresh num = true → s.blk.isClient n = false → Runs (.dtlsRecordRx n num fr true) s fun t => t.fld (R.EHR_PEERn_STAT_STATE n) = 0 ∧ Kept s t) ∧
  (∀ (n : Fin 16) num fr s, s.fld R.EHR_STATUS_STATE ≠ 0 → (s.blk.island 1).run = .running → s.blk.ehrLinked = true → s.fld (R.EHR_PEERn_STAT_STATE n) = 2 → (s.blk.session n).fresh num = true → s.blk.isClient n = true → s.fld (R.EHR_PEERn_CFG_EN n) = 1 → s.fld R.SUP_MTIME_STATUS_STATE ≠ 0 → Runs (.dtlsRecordRx n num fr true) s fun t =>
    t.fld (R.EHR_PEERn_STAT_STATE n) = 1 ∧ Kept s t) ∧
  (∀ (n : Fin 16) num fr s, s.fld R.EHR_STATUS_STATE ≠ 0 → (s.blk.island 1).run = .running → s.blk.ehrLinked = true → s.fld (R.EHR_PEERn_STAT_STATE n) = 2 → (s.blk.session n).fresh num = true → fr.length < 28 → Runs (.dtlsRecordRx n num fr false) s fun t => t.fld R.EHR_CNT_A_BAD_FRAME = s.counted R.EHR_CNT_A_BAD_FRAME ∧
    t.blk.ehr.sessions = updAt s.blk.ehr.sessions n (fun x => { x.take num with lastRx := s.blk.now, records := x.records + 1 }) ∧ Frame s t [R.EHR_CNT_A_BAD_FRAME]) ∧
  (∀ (n : Fin 16) x l s, (s.blk.session n).frags = x :: l → Runs (.ehrReasmTimeout n) s fun t => t.fld R.EHR_CNT_C_REASM_FAIL = s.counted R.EHR_CNT_C_REASM_FAIL ∧ t.fld R.EHR_EV_REASM_EV = 1 ∧
    t.blk.now = max s.blk.now (x.since + 1000000000) ∧ t.blk.ehr.sessions = updAt s.blk.ehr.sessions n (fun y => { y with frags := l }) ∧ Frame s t [R.EHR_CNT_C_REASM_FAIL, R.EHR_EV_REASM_EV]) ∧
  (∀ (c : Fin 8) p s, s.fld R.EHR_STATUS_STATE ≠ 0 → (s.blk.island 1).run = .running → p.replay = false → s.blk.heard p = true → 5 ≤ c.val → s.blk.peersFor c = [] → Runs (.ehrPayloadTx c p) s fun t => t = { s with blk := (s.blk.inc R.EHR_CNT_D_NO_SESSION).errorNote ehrOrigin 0x5F p }) ∧
  (∀ (c : Fin 8) p s, s.fld R.EHR_STATUS_STATE ≠ 0 → (s.blk.island 1).run = .running → p.replay = false → s.blk.heard p = true → 3 ≤ c.val → c.val < 5 → s.blk.peersFor c = [] → Runs (.ehrPayloadTx c p) s fun t => t = { s with blk := s.blk.inc R.EHR_CNT_D_NO_SESSION }) ∧
  (∀ (c : Fin 8) (n : Nat) p s, s.fld R.EHR_STATUS_STATE ≠ 0 → (s.blk.island 1).run = .running → p.replay = false → s.blk.heard p = true → s.blk.ehrLinked = true → 2 ≤ c.val → c.val < 5 → (c.val = 2 → p.data.getD 13 0 ≤ p.data.getD 12 0 + 1) → s.blk.peersFor c = [n] → Runs (.ehrPayloadTx c p) s fun t =>
    t.fld (R.EHR_PEERn_TX_COUNT n) = s.counted (R.EHR_PEERn_TX_COUNT n) ∧ s.blk.ehr.out.length < t.blk.ehr.out.length ∧ Frame s t [R.EHR_PEERn_TX_COUNT n]) ∧
  (∀ (n : Nat) p s, s.fld R.EHR_STATUS_STATE ≠ 0 → (s.blk.island 1).run = .running → p.replay = false → s.blk.heard p = true → s.blk.ehrLinked = true → s.blk.peersFor 3 = [n] → Runs (.ehrPayloadTx 3 p) s fun t =>
    t.blk.ehr.out = s.blk.ehr.out ++ [{ peer := n, cls := 3, seq := (s.blk.session n).txSeq.getD 3 0, flags := s.blk.lockedFlag, mtime := s.blk.counter, total := (s.blk.solutionPayload p.data).length, payload := s.blk.solutionPayload p.data }] ∧
    t.fld (R.EHR_PEERn_TX_COUNT n) = s.counted (R.EHR_PEERn_TX_COUNT n) ∧ Frame s t [R.EHR_PEERn_TX_COUNT n]) ∧
  (∀ (c : Fin 8) (n : Nat) p s, s.fld R.EHR_STATUS_STATE ≠ 0 → (s.blk.island 1).run = .running → p.replay = false → s.blk.heard p = true → s.blk.ehrLinked = true → s.blk.ehr.sessions.length = 16 → 5 ≤ c.val → s.blk.peersFor c = [n] → ((s.blk.session n).held.filter fun h => h.cls == c.val).length < 64 → (s.blk.ehr.waiting.any fun w => w.1 == c.val) = false →
    Runs (.ehrPayloadTx c p) s fun t => (t.blk.session n).held = (s.blk.session n).held ++ [{ cls := c.val, seq := (s.blk.session n).txSeq.getD c 0, payload := p.data, src := some p, sentAt := s.blk.now }] ∧
    t.fld (R.EHR_PEERn_TX_COUNT n) = s.counted (R.EHR_PEERn_TX_COUNT n) ∧ Frame s t [R.EHR_PEERn_TX_COUNT n]) ∧
  (∀ (c : Fin 8) (n : Nat) p s, s.fld R.EHR_STATUS_STATE ≠ 0 → (s.blk.island 1).run = .running → p.replay = false → s.blk.heard p = true → 5 ≤ c.val → s.blk.peersFor c = [n] → 64 ≤ ((s.blk.session n).held.filter fun h => h.cls == c.val).length → Runs (.ehrPayloadTx c p) s fun t =>
    t.blk.ehr = { s.blk.ehr with waiting := s.blk.ehr.waiting ++ [(c.val, p.data, some p, none)] } ∧ Frame s t []) ∧
  (∀ (n : Fin 16) h s, s.fld (R.EHR_PEERn_STAT_STATE n) = 2 → s.blk.ehrLinked = true → (s.blk.session n).held = [h] → h.sends < 8 → Runs (.ehrRetransmit n) s fun t => t.blk.now = max s.blk.now (heldDue h) ∧
    t.fld (R.EHR_PEERn_TX_COUNT n) = s.counted (R.EHR_PEERn_TX_COUNT n) ∧ s.blk.ehr.out.length < t.blk.ehr.out.length ∧ Frame s t [R.EHR_PEERn_TX_COUNT n]) ∧
  (∀ (n : Fin 16) h s, s.fld (R.EHR_PEERn_STAT_STATE n) = 2 → (s.blk.session n).held = [h] → 8 ≤ h.sends → h.cls ≠ 7 → s.blk.ehr.waiting = [] → Runs (.ehrRetransmit n) s fun t => t.fld R.EHR_CNT_C_ABANDONED = s.counted R.EHR_CNT_C_ABANDONED ∧
    t.fld R.EHR_EV_ABANDON_EV = 1 ∧ t.blk.ehr.sessions = updAt s.blk.ehr.sessions n (fun x => { x with held := x.held.erase h }) ∧ Frame s t [R.EHR_CNT_C_ABANDONED, R.EHR_EV_ABANDON_EV]) ∧
  (∀ s, s.blk.isLost 1 = true → ∀ i ∈ [Instr.ehrPeerEnable 0 true, .ehrStop, .ehrStart, .ehrClrCnt], Runs i s fun t => t = { s with blk := s.blk.status 0x05 }) ∧
  (∀ s, s.blk.isLost 1 = false → Runs .ehrStop s fun t => t.fld R.EHR_STATUS_STATE = 0 ∧ (∀ n, n < 16 → t.fld (R.EHR_PEERn_STAT_STATE n) = 0) ∧ t.blk.ehr.byStop = true ∧ t.blk.fab.status = 0 ∧ Kept s t) ∧
  (∀ s, s.blk.isLost 1 = false → s.fld R.EHR_STATUS_STATE = 0 → Runs .ehrStart s fun t => t.fld R.EHR_STATUS_STATE = 1 ∧ t.blk.ehr.hbAt = s.blk.now ∧ t.blk.ehr.byStop = false ∧ t.blk.fab.status = 0 ∧ Kept s t) ∧
  (∀ s, s.blk.isLost 1 = false → Runs .ehrClrCnt s fun t => (∀ f ∈ [R.EHR_CNT_A_BAD_FRAME, R.EHR_CNT_A_REFUSED, R.EHR_CNT_B_STALE, R.EHR_CNT_B_LOST, R.EHR_CNT_C_REASM_FAIL, R.EHR_CNT_C_ABANDONED, R.EHR_CNT_D_AUTH_FAIL, R.EHR_CNT_D_NO_SESSION], t.fld f = 0) ∧
    (∀ n, n < 16 → t.fld (R.EHR_PEERn_RX_COUNT n) = 0 ∧ t.fld (R.EHR_PEERn_TX_COUNT n) = 0) ∧ t.blk.ehr = s.blk.ehr ∧ t.blk.fab.status = 0 ∧ Kept s t)

/-- The display channels (R486, R487, R490, R491): a frame is counted and its short lines underrun; EN powers an idle panel and its fall stops it; power, data, backlight and rest follow each other after the times of the panel; a temperature reading of a sensor outside 100 Ω to 1 MΩ is a fault. -/
def Obligations.DisplayCommands : Prop :=
  (∀ (n : Fin 2) l s, s.blk.dspLive n = false → Runs (.dspVblank n l) s fun t => t = s) ∧
  (∀ (n : Fin 2) l s, s.blk.dspLive n = true → s.fld (R.DSP_Pn_STATUS_STATE n) = 2 ∨ s.fld (R.DSP_Pn_STATUS_STATE n) = 3 → Runs (.dspVblank n l) s fun t =>
    t.blk.now = max s.blk.now ((s.blk.panel n).vbAt + frameSpan s.blk.dual (s.blk.panel n).timing) ∧
    t.fld (R.DSP_Pn_CNT_FRAMES n) = (s.fld (R.DSP_Pn_CNT_FRAMES n) + 1) % 2 ^ (R.DSP_Pn_CNT_FRAMES n).wid ∧
    Frame s t [R.DSP_Pn_CNT_FRAMES n, R.DSP_Pn_STATUS_TABLE_EV n, R.DSP_Pn_STATUS_UNDERRUN_EV n, R.DSP_Pn_CNT_UNDERRUN n]) ∧
  (∀ (n : Fin 2) l s, s.blk.dspLive n = true → s.fld (R.DSP_Pn_STATUS_STATE n) ≠ 2 → s.fld (R.DSP_Pn_STATUS_STATE n) ≠ 3 → Runs (.dspVblank n l) s fun t =>
    t.fld (R.DSP_Pn_CNT_FRAMES n) = s.fld (R.DSP_Pn_CNT_FRAMES n) ∧ Frame s t [R.DSP_Pn_STATUS_TABLE_EV n]) ∧
  (∀ (n : Fin 2) x (c : Nat) s, s.blk.unitRefusal (org 1 2 127) = some c → ∀ i ∈ [Instr.dspEnWrite n x, .dspClrCnt], Runs i s fun t => t = { s with blk := s.blk.status c }) ∧
  (∀ (n : Fin 2) s, s.blk.unitRefusal (org 1 2 127) = none → s.fld (R.DSP_Pn_STATUS_STATE n) = 0 → s.blk.dspLive n = true → Runs (.dspEnWrite n true) s fun t => t.fld (R.DSP_Pn_CTRL_EN n) = 1 ∧ t.fld (R.DSP_Pn_STATUS_STATE n) = 1 ∧
    t.blk.fab.status = 0 ∧ Frame s t [R.DSP_Pn_CTRL_EN n, R.DSP_Pn_STATUS_STATE n, R.DSP_Pn_VCOM_OUT_MV n]) ∧
  (∀ (n : Fin 2) s, s.blk.unitRefusal (org 1 2 127) = none → 1 ≤ s.fld (R.DSP_Pn_STATUS_STATE n) → s.fld (R.DSP_Pn_STATUS_STATE n) ≤ 3 → s.blk.dsp.length = 2 → Runs (.dspEnWrite n false) s fun t => t.fld (R.DSP_Pn_CTRL_EN n) = 0 ∧
    t.fld (R.DSP_Pn_STATUS_STATE n) = 4 ∧ (t.blk.panel n).bl = false ∧ t.blk.fab.status = 0 ∧ Frame s t [R.DSP_Pn_CTRL_EN n, R.DSP_Pn_STATUS_STATE n]) ∧
  (∀ (n : Fin 2) s, s.fld (R.DSP_Pn_STATUS_STATE n) = 1 → s.blk.dsp.length = 2 → Runs (.dspTOn1 n) s fun t => t.fld (R.DSP_Pn_STATUS_STATE n) = 2 ∧ (t.blk.panel n).lvds = true ∧
    t.blk.now = max s.blk.now ((s.blk.panel n).since + s.fld (R.DSP_Pn_SEQ1_T_ON1 n) * 1000000) ∧ Frame s t [R.DSP_Pn_STATUS_STATE n]) ∧
  (∀ (n : Fin 2) s, s.fld (R.DSP_Pn_STATUS_STATE n) = 2 → s.blk.dsp.length = 2 → Runs (.dspTOn2 n) s fun t => t.fld (R.DSP_Pn_STATUS_STATE n) = 3 ∧ (t.blk.panel n).bl = true ∧
    t.blk.now = max s.blk.now ((s.blk.panel n).since + s.fld (R.DSP_Pn_SEQ1_T_ON2 n) * 1000000) ∧ Frame s t [R.DSP_Pn_STATUS_STATE n]) ∧
  (∀ (n : Fin 2) s, s.fld (R.DSP_Pn_STATUS_STATE n) = 4 → (s.blk.panel n).idle = false → s.blk.dsp.length = 2 → Runs (.dspTOff1 n) s fun t => (t.blk.panel n).lvds = false ∧ (t.blk.panel n).idle = true ∧
    t.blk.now = max s.blk.now ((s.blk.panel n).since + s.blk.offTime n (R.DSP_Pn_SEQ2_T_OFF1 n)) ∧ Frame s t []) ∧
  (∀ (n : Fin 2) s, s.fld (R.DSP_Pn_STATUS_STATE n) = 4 → (s.blk.panel n).idle = true → (s.blk.panel n).offAt = none → s.blk.dsp.length = 2 → Runs (.dspTOff2 n) s fun t => t.fld (R.DSP_Pn_STATUS_STATE n) = 5 ∧
    t.fld (R.DSP_Pn_VCOM_OUT_MV n) = 0 ∧ (t.blk.panel n).pwr = false ∧ t.blk.now = max s.blk.now ((s.blk.panel n).since + s.blk.offTime n (R.DSP_Pn_SEQ2_T_OFF2 n)) ∧ Frame s t [R.DSP_Pn_STATUS_STATE n, R.DSP_Pn_VCOM_OUT_MV n]) ∧
  (∀ (n : Fin 2) s, s.fld (R.DSP_Pn_STATUS_STATE n) = 5 → s.blk.dspWanted n = false → Runs (.dspTRest n) s fun t => t.fld (R.DSP_Pn_STATUS_STATE n) = 0 ∧
    t.blk.now = max s.blk.now ((s.blk.panel n).restAt.getD s.blk.now + s.fld (R.DSP_Pn_SEQ2_T_REST n) * 1000000) ∧ Frame s t [R.DSP_Pn_STATUS_STATE n]) ∧
  (∀ (n : Fin 2) s, s.fld (R.DSP_Pn_STATUS_STATE n) = 5 → s.blk.dspWanted n = true → Runs (.dspTRest n) s fun t => t.fld (R.DSP_Pn_STATUS_STATE n) = 1 ∧ Frame s t [R.DSP_Pn_STATUS_STATE n, R.DSP_Pn_VCOM_OUT_MV n]) ∧
  (∀ (n : Fin 2) (x : Nat) s, s.blk.dspLive n = true → x < 100 ∨ 1000000 < x → Runs (.dspTempUpdate n x) s fun t => t.fld (R.DSP_Pn_STATUS_TEMP_FAULT n) = 1 ∧ t.fld (R.DSP_Pn_TEMP_STALE n) = 0 ∧
    t.blk.now = max s.blk.now ((s.blk.panel n).tempAt + 100 * 1000000) ∧ Frame s t [R.DSP_Pn_TEMP_T n, R.DSP_Pn_TEMP_STALE n, R.DSP_Pn_STATUS_TEMP_FAULT n, R.DSP_Pn_VCOM_OUT_MV n]) ∧
  (∀ (n : Fin 2) (x : Nat) s, s.blk.dspLive n = true → 100 ≤ x → x ≤ 1000000 → s.fld (R.DSP_Pn_STATUS_TEMP_FAULT n) = 0 → Runs (.dspTempUpdate n x) s fun t => t.fld (R.DSP_Pn_STATUS_TEMP_FAULT n) = 0 ∧
    t.fld (R.DSP_Pn_TEMP_STALE n) = 0 ∧ Frame s t [R.DSP_Pn_TEMP_T n, R.DSP_Pn_TEMP_STALE n, R.DSP_Pn_STATUS_TEMP_FAULT n, R.DSP_Pn_VCOM_OUT_MV n]) ∧
  (∀ s, s.blk.unitRefusal (org 1 2 127) = none → Runs .dspClrCnt s fun t => (∀ n, n < 2 → t.fld (R.DSP_Pn_CNT_UNDERRUN n) = 0 ∧ t.fld (R.DSP_Pn_CNT_FRAMES n) = 0) ∧ t.blk.dsp = s.blk.dsp ∧ t.blk.fab.status = 0 ∧
    Frame s t ([0, 1].flatMap fun n => [R.DSP_Pn_CNT_UNDERRUN n, R.DSP_Pn_CNT_FRAMES n]))

/-- The backup domain (R495 to R507): a second counts and an alarm that matches shows its flag; the clock is set by software unless locked time owns it, and by the module from locked time; a calibration window trims the rate unless the rate is out of range; the supply's switch counts; a power-on reset of the domain clears its SRAM; a read latches the date; the power request ends by command, by its pulse or after its longest time. -/
def Obligations.BackupCommands : Prop :=
  (∀ s, s.blk.bkp.ended = false → s.blk.bkp.secs + 1 < rtcRange → Runs .rtcSecond s fun t => t.blk.bkp.secs = s.blk.bkp.secs + 1 ∧ t.blk.now = max s.blk.now (s.blk.bkp.secAt + 1000000000) ∧ t.blk.bkp.secAt = s.blk.bkp.secAt + 1000000000 ∧
    Frame s t [R.BKP_ALMa_CFG_FLAG 0, R.BKP_ALMa_CFG_FLAG 1, R.BKP_PWRREQ_ACTIVE]) ∧
  (∀ s, s.blk.bkp.ended = false → rtcRange ≤ s.blk.bkp.secs + 1 → Runs .rtcSecond s fun t => t.fld R.BKP_STATUS_RTC_VALID = 0 ∧ t.blk.bkp = { s.blk.bkp with ended := true } ∧ Frame s t [R.BKP_STATUS_RTC_VALID]) ∧
  (∀ s, s.blk.bkp.ended = false → s.blk.bkp.secs + 1 < rtcRange → s.fld (R.BKP_ALMa_CFG_EN 1) = 1 → s.fld (R.BKP_ALMa_CFG_MASK 1) = 127 → Runs .rtcSecond s fun t => t.fld (R.BKP_ALMa_CFG_FLAG 1) = 1) ∧
  (∀ s, s.blk.bkpReach = true → s.fld R.SUP_MTIME_STATUS_STATE = 2 → Runs .bkpRtcSet s fun t => t = { s with blk := s.blk.status 0x64 }) ∧
  (∀ s, s.blk.bkpReach = true → s.fld R.SUP_MTIME_STATUS_STATE ≠ 2 → s.blk.setSeconds = none → Runs .bkpRtcSet s fun t => t = { s with blk := s.blk.status 0x65 }) ∧
  (∀ (x : Nat) s, s.blk.bkpReach = true → s.fld R.SUP_MTIME_STATUS_STATE ≠ 2 → s.blk.setSeconds = some x → Runs .bkpRtcSet s fun t => t.fld R.BKP_STATUS_RTC_VALID = 1 ∧ t.blk.bkp.secs = x ∧ t.blk.bkp.secAt = s.blk.now ∧
    t.blk.bkp.bSet = s.fld R.BKP_RTC_SET_BOUND_MS * 1000000 ∧ t.blk.bkp.ended = false ∧ t.blk.fab.status = 0 ∧ Frame s t [R.BKP_STATUS_RTC_VALID]) ∧
  (∀ s, s.blk.bkpReach = true → s.fld R.SUP_MTIME_STATUS_STATE = 2 → Runs .rtcAutoSet s fun t => t.fld R.BKP_STATUS_RTC_VALID = 1 ∧ t.blk.bkp.secs = t.blk.sys.mtime / 1000000000 + 5 * 86400 - t.blk.sys.leap.getD 18 ∧
    t.blk.bkp.bSet = t.blk.mtBound + 50000 ∧ t.blk.bkp.autoAt = t.blk.now ∧ Frame s t [R.BKP_STATUS_RTC_VALID]) ∧
  (∀ (r : Int) s, s.blk.bkpReach = true → s.fld R.BKP_RTC_CAL_AUTO = 1 → s.fld R.SUP_MTIME_STATUS_STATE = 2 → 250000 < r.natAbs → Runs (.rtcCalWindow r) s fun t => t.fld R.BKP_STATUS_CAL_FAIL = 1 ∧
    t.blk.now = max s.blk.now (s.blk.bkp.calAt + 1024 * 1000000000) ∧ t.blk.bkp = { s.blk.bkp with calAt := t.blk.now } ∧ Frame s t [R.BKP_STATUS_CAL_FAIL]) ∧
  (∀ (r : Int) s, s.blk.bkpReach = true → s.fld R.BKP_RTC_CAL_AUTO = 1 → s.fld R.SUP_MTIME_STATUS_STATE = 2 → r.natAbs ≤ 250000 → Runs (.rtcCalWindow r) s fun t =>
    t.fld R.BKP_RTC_CAL_TRIM = lowBits R.BKP_RTC_CAL_TRIM.wid (max (-255) (min 255 (s.blk.geti R.BKP_RTC_CAL_TRIM + rquot r 954))) ∧ t.blk.bkp = { s.blk.bkp with calAt := t.blk.now } ∧ Frame s t [R.BKP_RTC_CAL_TRIM]) ∧
  (∀ (r v : Nat) s, s.fld R.BKP_STATUS_SOURCE = 0 → r < v + 50 ∨ r < 2900 → Runs (.bkpSwitchVbak r v) s fun t => t.fld R.BKP_STATUS_SOURCE = 1 ∧ t.fld R.BKP_STATUS_SWITCHES = s.counted R.BKP_STATUS_SWITCHES ∧ t.fld R.BKP_STATUS_SWITCH_EV = 1 ∧
    Frame s t [R.BKP_STATUS_SOURCE, R.BKP_STATUS_SWITCHES, R.BKP_STATUS_SWITCH_EV]) ∧
  (∀ (r v : Nat) s, 3000 < r → v + 150 < r → Runs (.bkpSwitchRail r v) s fun t => t.fld R.BKP_STATUS_SOURCE = 0 ∧ Frame s t [R.BKP_STATUS_SOURCE]) ∧
  (∀ s, Runs .bkpPor s fun t => t.blk.bkp = { secAt := s.blk.now } ∧ t.mem = Memory.zero s.mem 0x49010000 0x10000 ∧ t.fld R.BKP_STATUS_RTC_VALID = 0 ∧ t.fld R.PWR_PF_CNT_ABORTS = 0 ∧ t.fld R.PWR_PF_CNT_COMMITS = 0 ∧
    t.fld R.SUP_RST_CAUSE_COUNT = 0 ∧ QueueKept s t) ∧
  (∀ s, s.blk.bkpReach = true → Runs .bkpRtcRead s fun t => t.fld R.BKP_RTC_TIME_SEC = s.blk.rtcTicks / 32768 % 60 ∧ t.fld R.BKP_RTC_TIME_MIN = s.blk.rtcTicks / 32768 / 60 % 60 ∧ t.fld R.BKP_RTC_TIME_HOUR = s.blk.rtcTicks / 32768 / 3600 % 24 ∧ t.fld R.BKP_RTC_SUB_SUBSEC = s.blk.rtcTicks % 32768 ∧
    t.blk.bkp = s.blk.bkp ∧ Frame s t [R.BKP_RTC_TIME_SEC, R.BKP_RTC_TIME_MIN, R.BKP_RTC_TIME_HOUR, R.BKP_RTC_DATE_WDAY, R.BKP_RTC_DATE_DAY, R.BKP_RTC_DATE_MONTH, R.BKP_RTC_DATE_YEAR, R.BKP_RTC_SUB_SUBSEC, R.BKP_RTC_BOUND_US]) ∧
  (∀ s, s.blk.bkpReach = true → Runs .pwrreqSet s fun t => t.fld R.BKP_PWRREQ_ACTIVE ≠ 0 ∧ (s.fld R.BKP_PWRREQ_ACTIVE = 0 → t.blk.bkp = { s.blk.bkp with reqAt := s.blk.now, maxAt := s.blk.now }) ∧ t.blk.fab.status = 0 ∧
    Frame s t [R.BKP_PWRREQ_ACTIVE]) ∧
  (∀ s, s.blk.bkpReach = true → s.fld R.BKP_PWRREQ_MODE = 0 → Runs .pwrreqClr s fun t => t.fld R.BKP_PWRREQ_ACTIVE = 0 ∧ t.blk.bkp = s.blk.bkp ∧ t.blk.fab.status = 0 ∧ Frame s t [R.BKP_PWRREQ_ACTIVE]) ∧
  (∀ s, s.fld R.BKP_PWRREQ_ACTIVE = 1 → s.fld R.BKP_PWRREQ_MODE = 1 → Runs .pwrreqPulseEnd s fun t => t.fld R.BKP_PWRREQ_ACTIVE = 0 ∧
    t.blk.now = max s.blk.now (s.blk.bkp.reqAt + max 1 (s.fld R.BKP_PWRREQ_PULSE_MS) * 10 * 1000000) ∧ Frame s t [R.BKP_PWRREQ_ACTIVE]) ∧
  (∀ s, s.fld R.BKP_PWRREQ_ACTIVE = 1 → s.fld R.BKP_PWRREQ_MODE = 0 → s.fld R.PWR_STATUS_LOGIC_VALID = 0 → Runs .pwrreqMax s fun t => t.fld R.BKP_PWRREQ_ACTIVE = 0 ∧ t.fld R.BKP_STATUS_REQ_TIMEOUT = 1 ∧
    t.blk.now = max s.blk.now (s.blk.bkp.maxAt + s.fld R.BKP_PWRREQ_REQ_MAX_S * 1000000000) ∧ Frame s t [R.BKP_PWRREQ_ACTIVE, R.BKP_STATUS_REQ_TIMEOUT])

/-- The service port and its sessions (R524 to R533): a message on a path that does not serve does nothing; a message without the authority it needs is answered with its code and nothing else; HELLO gives a fresh nonce; an AUTH is answered at its boundary, valid with a session, invalid with AUTH_FAILED; CLOSE, silence and the tool's release end a session; a lockout ends; a relay opens, counts its data and closes. -/
def Obligations.ServiceSessionCommands : Prop :=
  (∀ s, Runs .toolPresent s fun t => t.fld R.WHD_STATUS_TOOL = 1 ∧ t.fld R.WHD_STATUS_LINK = 1 ∧ t.blk.whd = s.blk.whd ∧ Frame s t [R.WHD_STATUS_TOOL, R.WHD_STATUS_LINK]) ∧
  (∀ s, s.fld R.WHD_STATUS_TOOL = 1 → s.blk.pwr.inReset = false → s.fld R.PWR_STATE_STATE = 3 → (s.blk.whdPath 0).conn = false → Runs .whdTcpConnect s fun t => t.fld R.WHD_STATUS_LINK = 1 ∧
    t.blk.whd.paths = updAt s.blk.whd.paths 0 (fun x => { x with conn := true, lastAt := s.blk.now }) ∧ Frame s t [R.WHD_STATUS_LINK]) ∧
  (∀ s, s.blk.whd.paths.length = 2 → Runs .toolReleased s fun t => t.fld R.WHD_STATUS_TOOL = 0 ∧ t.fld R.WHD_STATUS_LINK = 0 ∧ (t.blk.whdPath 0).conn = false ∧ t.blk.whd.active ≠ some 0 ∧ Kept s t) ∧
  (∀ m c (a : BitVec 32) (n d : Nat) w f (x y z : BitVec 12) (ch : Fin 192) (v : Int) (cmd : Fin 256) o l s, s.blk.pathServes (pathOf m) = false → (s.blk.whdPath (pathOf m)).auth = none →
    ∀ i ∈ [Instr.helloMsg m, .authMsg m c, .closeMsg m, .stageBegin m n d, .stageData m n l, .stageEnd m, .stageAbort m, .discardMsg m, .scheduleMsg m n d n, .cancelMsg m n, .statusMsg m, .readMsg m a n f, .writeMsg m a w f, .modeMsg m x y z, .jogMsg m ch v cmd true, .revokeMsg m o], Runs i s fun t => t = s) ∧
  (∀ m c s, s.blk.servesNow m = true → badHeader m 0x02 352 = true → Runs (.authMsg m c) s fun t => t = { s with blk := (s.heard m).blk.whdAnswer (pathOf m) m.type m.req 0x72 [] }) ∧
  (∀ m s, s.blk.takes m 0x01 32 none true = true → s.blk.whd.paths.length = 2 → Runs (.helloMsg m) s fun t => Answered s t m 0x01 0 (s.blk.helloData (s.blk.open_ % 2 ^ 384)) ∧
    (t.blk.whdPath (pathOf m)).nonce = some (s.blk.open_ % 2 ^ 384) ∧ (t.blk.whdPath (pathOf m)).helloAt = some s.blk.now ∧ Kept s t) ∧
  (∀ m c (x : Nat) s, s.blk.takes m 0x02 352 none true = true → (s.blk.whdPath (pathOf m)).lockEnd = some x → Runs (.authMsg m c) s fun t => Answered s t m 0x02 0x67 [] ∧
    t.fld R.WHD_CNT_B_REFUSED_LOCKED = s.counted R.WHD_CNT_B_REFUSED_LOCKED ∧ Kept s t) ∧
  (∀ m c s, s.blk.takes m 0x02 352 none true = true → s.blk.whd.paths.length = 2 → (s.blk.whdPath (pathOf m)).lockEnd = none → Runs (.authMsg m c) s fun t => t.blk.whd.out = s.blk.whd.out ∧
    (t.blk.whdPath (pathOf m)).auth = some { req := m.req, cred := c, at_ := s.blk.verifiedAt (pathOf m) } ∧ (t.blk.whdPath (pathOf m)).helloAt = none ∧ Frame s t [R.WHD_STATUS_SESSION, R.WHD_STATUS_PATH, R.WHD_STATUS_PERM]) ∧
  (∀ x y a s, s.blk.up = true → s.blk.whd.paths = [x, y] → x.auth = some a → y.auth = none → s.blk.whd.active ≠ some 1 → (s.blk.toModule (s.blk.answerAt a)).authValid 0 a.cred = true → Runs .authAnswer s fun t =>
    t.blk.whd.active = some 0 ∧ t.fld R.WHD_STATUS_SESSION = 2 ∧ t.fld R.WHD_STATUS_PERM = credPerm a.cred % 256 ∧ t.fld R.WHD_CNT_B_SESSIONS = s.counted R.WHD_CNT_B_SESSIONS ∧
    t.blk.whd.out = s.blk.whd.out ++ [{ path := 0, type := 0x02, req := a.req, status := 0, data := [0, credPerm a.cred % 256, 0, 0] }] ∧ (2 ≤ s.fld R.PWR_STATE_STATE → t.blk.sys.mtime = max s.blk.sys.mtime (s.blk.answerAt a)) ∧ Kept s t) ∧
  (∀ x y a s, s.blk.up = true → s.blk.whd.paths = [x, y] → x.auth = some a → y.auth = none → (s.blk.toModule (s.blk.answerAt a)).authValid 0 a.cred = false → Runs .authAnswer s fun t =>
    t.blk.whd.active ≠ some 0 ∧ t.fld R.WHD_CNT_INVALID = s.counted R.WHD_CNT_INVALID ∧ t.blk.whd.out = s.blk.whd.out ++ [{ path := 0, type := 0x02, req := a.req, status := 0x6E, data := [] }] ∧ (t.blk.whdPath 0).conn = false ∧ Kept s t) ∧
  (∀ m s, s.blk.servesNow m = true → badHeader m 0x03 0 = false → s.blk.whd.paths.length = 2 → Runs (.closeMsg m) s fun t => Answered s t m 0x03 0 [] ∧ (t.blk.whdPath (pathOf m)).conn = false ∧ t.blk.whd.active ≠ some (pathOf m) ∧ Kept s t) ∧
  (∀ (p : Fin 2) (x : Nat) s, (s.blk.whdPath p).helloAt = some x → s.blk.whd.paths.length = 2 → Runs (.authTimeout p) s fun t => (t.blk.whdPath p).conn = false ∧ (t.blk.whdPath p).helloAt = none ∧
    t.blk.now = max s.blk.now (x + 10000000000) ∧ Kept s t) ∧
  (∀ (p : Fin 2) s, (s.blk.whdPath p).conn = true → s.blk.whd.paths.length = 2 → Runs (.whdIdle p) s fun t => (t.blk.whdPath p).conn = false ∧ t.blk.whd.active ≠ some p.val ∧
    t.blk.now = max s.blk.now ((s.blk.whdPath p).lastAt + s.fld R.WHD_CFG_IDLE_S * 1000000000) ∧ Kept s t) ∧
  (∀ (p : Fin 2) (x : Nat) s, (s.blk.whdPath p).lockEnd = some x → Runs (.whdLockoutEnd p) s fun t => t.fld (R.WHD_LOCKa_LOCKED p) = 0 ∧ t.fld (R.WHD_LOCKa_ATTEMPTS p) = 0 ∧
    t.blk.whd.paths = updAt s.blk.whd.paths p (fun x => { x with lockEnd := none, attempts := [] }) ∧ t.blk.now = max s.blk.now (s.blk.bkp.secAt + (x - s.blk.bkp.secs) * 1000000000) ∧ Frame s t [R.WHD_LOCKa_LOCKED p, R.WHD_LOCKa_ATTEMPTS p]) ∧
  (∀ (p : Nat) s, s.blk.whd.active = some p → s.blk.whd.paths.length = 2 → Runs .whdCtrlClose s fun t => t.blk.whd.active = none ∧ (p < 2 → (t.blk.whdPath p).conn = false) ∧ t.fld R.WHD_STATUS_PERM = 0 ∧ t.blk.fab.status = 0 ∧ Kept s t) ∧
  (∀ (n : Fin 16) (id : BitVec 32) s, s.blk.relayPeer n = true → (s.blk.whdPath 1).conn = false → (s.blk.whdPath 1).lockEnd = none → Runs (.relayOpen n id) s fun t => t.blk.whd.paths = updAt s.blk.whd.paths 1 (fun x =>
    { x with conn := true, helloAt := none, nonce := none, auth := none, lastAt := s.blk.now, relayId := id.toNat, peer := n, sent := 0, rcvd := 0 }) ∧ Frame s t []) ∧
  (∀ (n : Fin 16) (id : BitVec 32) s, s.blk.relayPeer n = true → (s.blk.whdPath 1).conn = true ∨ (s.blk.whdPath 1).lockEnd ≠ none → Runs (.relayOpen n id) s fun t =>
    t = { s with blk := s.blk.relayFrame n id.toNat 4 (max 1 (s.fld R.WHD_CFG_RETRY_S) * 1000) [] }) ∧
  (∀ (n : Fin 16) (id : BitVec 32) (o k : Nat) s, s.blk.relayPeer n = true → s.blk.relayIs n id.toNat = true → (s.blk.whdPath 1).rcvd = o → k ≤ 4096 → Runs (.relayData n id o k) s fun t =>
    t.blk.whd.paths = updAt s.blk.whd.paths 1 (fun x => { x with rcvd := x.rcvd + k }) ∧ Frame s t []) ∧
  (∀ (n : Fin 16) (id : BitVec 32) s, s.blk.relayPeer n = true → s.blk.relayIs n id.toNat = true → s.blk.whd.paths.length = 2 → Runs (.relayClose n id) s fun t => (t.blk.whdPath 1).conn = false ∧ t.blk.whd.active ≠ some 1 ∧ Kept s t)

/-- Service messages that read and act on the module (R91, R513, R527): STATUS is answered with the words of the update block; READ and WRITE with the status their register access gives; MODE submits the request of the fleet console's source; a JOG of a channel that may be jogged runs it; REVOKE with a good order revokes the keys it names. -/
def Obligations.ServiceActCommands : Prop :=
  (∀ m s, s.blk.takes m 0x22 0 (some 0) true = true → Runs (.statusMsg m) s fun t =>
    Answered s t m 0x22 0 ((List.range 25).flatMap fun n => le 4 ((s.heard m).blk.wordValue s.mem (0x4A000004 + 4 * n))) ∧ Kept s t) ∧
  (∀ m (a : BitVec 32) (n : Nat) f s, s.blk.takes m 0x30 8 (some 0) false = true → n = 0 ∨ 1024 < n → Runs (.readMsg m a n f) s fun t => Answered s t m 0x30 0x08 [] ∧ Kept s t) ∧
  (∀ m (a : BitVec 32) (n : Nat) f s, s.blk.takes m 0x30 8 (some 0) false = true → 0 < n → n ≤ 1024 → ((s.heard m).readWords a.toNat n f).1.blk.pwr.inReset = false → Runs (.readMsg m a n f) s fun t =>
    t = { ((s.heard m).readWords a.toNat n f).1 with blk := ((s.heard m).readWords a.toNat n f).1.blk.whdAnswer (pathOf m) 0x30 m.req ((s.heard m).readWords a.toNat n f).2.1 (((s.heard m).readWords a.toNat n f).2.2.2.flatMap (le 4)) }) ∧
  (∀ m (a : BitVec 32) w f s, s.blk.takes m 0x31 (8 + 4 * w.length) (some 1) false = true → w = [] ∨ 1022 < w.length → Runs (.writeMsg m a w f) s fun t => Answered s t m 0x31 0x08 [] ∧ Kept s t) ∧
  (∀ m (a : BitVec 32) w f s, s.blk.takes m 0x31 (8 + 4 * w.length) (some 1) false = true → w ≠ [] → w.length ≤ 1022 →
    ((s.heard m).writeWords (pathOrigin m) a.toNat (w.map (·.toNat)) f).1.blk.pwr.inReset = false → Runs (.writeMsg m a w f) s fun t => t = { ((s.heard m).writeWords (pathOrigin m) a.toNat (w.map (·.toNat)) f).1 with
    blk := ((s.heard m).writeWords (pathOrigin m) a.toNat (w.map (·.toNat)) f).1.blk.whdAnswer (pathOf m) 0x31 m.req ((s.heard m).writeWords (pathOrigin m) a.toNat (w.map (·.toNat)) f).2.1 [] }) ∧
  (∀ m (x y z : BitVec 12) s, s.blk.takes m 0x32 6 (some 4) false = true → Runs (.modeMsg m x y z) s fun t => Answered s t m 0x32 0 [] ∧
    t.blk.mode = (s.blk.modeSubmit 1 x.toNat y.toNat z.toNat).mode ∧ t.fld R.MODE_DROP_CNT_COUNT = (s.blk.modeSubmit 1 x.toNat y.toNat z.toNat).get R.MODE_DROP_CNT_COUNT ∧ Kept s t) ∧
  (∀ m (ch : Fin 192) (v : Int) (cmd : Fin 256) l s, s.blk.takes m 0x33 8 (some 4) false = true → s.blk.jogStatus ch true l ≠ 0 → Runs (.jogMsg m ch v cmd l) s fun t =>
    Answered s t m 0x33 (s.blk.jogStatus ch true l) [] ∧ t.blk.mode = s.blk.mode ∧ t.blk.chans = s.blk.chans ∧ Kept s t) ∧
  (∀ m (ch : Fin 192) (v : Int) (cmd : Fin 256) l s, s.blk.takes m 0x33 8 (some 4) false = true → s.blk.jogStatus ch true l = 0 → cmd.val < 2 →
    (((s.heard m).blk.jogRun ch cmd v).jogShadow ch cmd v).pwr.inReset = false → Runs (.jogMsg m ch v cmd l) s fun t => t = { s with blk := (((s.heard m).blk.jogRun ch cmd v).jogShadow ch cmd v).whdAnswer (pathOf m) 0x33 m.req 0 [] }) ∧
  (∀ m o s, s.blk.takes m 0x40 116 (some 5) false = true → s.blk.orderGood o = false → Runs (.revokeMsg m o) s fun t => Answered s t m 0x40 0x6E [] ∧
    t.fld R.UPD_REVOKED_MASK = s.fld R.UPD_REVOKED_MASK ∧ t.fld R.UPD_STATUS_CODE = 0x6E ∧ Kept s t) ∧
  (∀ m o s, s.blk.takes m 0x40 116 (some 5) false = true → s.blk.orderGood o = true → s.blk.upd.slots = [] → Runs (.revokeMsg m o) s fun t => Answered s t m 0x40 0 [] ∧ t.fld R.UPD_REVOKED_MASK = s.fld R.UPD_REVOKED_MASK ||| orderMask o ∧ t.blk.upd = s.blk.upd ∧ Kept s t)

/-- Staging, schedules and activation of an image (R514 to R523): staging takes the bytes it is told to expect and verifies them; an image that passes stands staged, one that fails leaves its code; a schedule is accepted or refused with its reason; an activation due is carried out by a module reset with cause 4 or deferred with its reason; a confirmed image raises the least epoch; a failed migration or an expired window makes the fall-back due. -/
def Obligations.UpdateCommands : Prop :=
  (∀ m (n d c : Nat) s, s.blk.takes m 0x10 52 (some 2) true = true → s.blk.stageRefusal (pathOf m) = some c → Runs (.stageBegin m n d) s fun t => Answered s t m 0x10 c [] ∧ t.blk.upd = s.blk.upd ∧ Kept s t) ∧
  (∀ m (n d k : Nat) s, s.blk.takes m 0x10 52 (some 2) true = true → s.blk.stageRefusal (pathOf m) = none → s.blk.slotOf 2 = none → s.blk.slotOf 0 = some k → Runs (.stageBegin m n d) s fun t =>
    Answered s t m 0x10 0 [] ∧ t.blk.upd = { s.blk.upd with stage := some { slot := k, length := n, digest := d, path := pathOf m } } ∧ Kept s t) ∧
  (∀ m (o : Nat) l x s, s.blk.takes m 0x11 (4 + l.length) (some 2) true = true → s.blk.upd.stage = some x → x.path = pathOf m → o = x.data.length → o + l.length ≤ x.length → l.length ≤ 65532 → Runs (.stageData m o l) s fun t =>
    Answered s t m 0x11 0 [] ∧ t.blk.upd = { s.blk.upd with stage := some { x with data := x.data ++ l } } ∧ Kept s t) ∧
  (∀ m (o : Nat) l s, s.blk.takes m 0x11 (4 + l.length) (some 2) true = true → s.blk.upd.stage = none → l.length ≤ 65532 → Runs (.stageData m o l) s fun t => Answered s t m 0x11 0x66 [] ∧ t.blk.upd = s.blk.upd ∧ Kept s t) ∧
  (∀ m x s, s.blk.takes m 0x12 0 (some 2) true = true → s.blk.upd.stage = some x → x.path = pathOf m → Runs (.stageEnd m) s fun t => t.blk.whd.out = s.blk.whd.out ∧
    t.blk.upd = { s.blk.upd with stage := some { x with verify := true, req := m.req, endAt := s.blk.now + 50000000 + x.length * 5 / 2 } } ∧ Kept s t) ∧
  (∀ g x s, s.blk.upd.stage = some x → x.verify = true → (s.blk.stageVerdict x g).code ≠ 0 → Runs (.stageVerifyDone g) s fun t => t.blk.upd.stage = none ∧ t.blk.upd.slots = s.blk.upd.slots ∧
    t.fld R.UPD_STATUS_CODE = (s.blk.stageVerdict x g).code % 2 ^ R.UPD_STATUS_CODE.wid ∧ t.blk.whd.out = s.blk.whd.out ++ [{ path := x.path, type := 0x12, req := x.req, status := (s.blk.stageVerdict x g).code, data := [] }] ∧
    t.blk.now = max s.blk.now x.endAt ∧ Kept s t) ∧
  (∀ g x s, s.blk.upd.stage = some x → x.verify = true → (s.blk.stageVerdict x g).code = 0 → s.blk.upd.safeHold = false → Runs (.stageVerifyDone g) s fun t => t.blk.upd.stage = none ∧
    t.blk.upd.slots = updAt s.blk.upd.slots x.slot (fun _ => { role := 2, image := g }) ∧ t.fld R.UPD_STATUS_CODE = 0 ∧ t.blk.now = max s.blk.now x.endAt ∧ Kept s t) ∧
  (∀ m x s, s.blk.takes m 0x13 0 (some 2) true = true → s.blk.upd.stage = some x → x.path = pathOf m → Runs (.stageAbort m) s fun t => Answered s t m 0x13 0 [] ∧ t.blk.upd = { s.blk.upd with stage := none } ∧ Kept s t) ∧
  (∀ m (k : Nat) s, s.blk.takes m 0x14 0 (some 2) false = true → s.blk.slotOf 2 = some k → s.blk.upd.sched = none → Runs (.discardMsg m) s fun t => Answered s t m 0x14 0 [] ∧
    t.blk.upd.slots = freeRole 2 s.blk.upd.slots ∧ Kept s t) ∧
  (∀ m s, s.blk.takes m 0x14 0 (some 2) false = true → s.blk.slotOf 2 = none → Runs (.discardMsg m) s fun t => Answered s t m 0x14 0x66 [] ∧ t.blk.upd = s.blk.upd ∧ t.fld R.UPD_STATUS_CODE = 0x66 ∧ Kept s t) ∧
  (∀ m (id at_ w : Nat) s, s.blk.takes m 0x20 14 (some 3) false = true → s.blk.schedReason at_ none = 0 → w ≠ 0 → Runs (.scheduleMsg m id at_ w) s fun t => Answered s t m 0x20 0 [] ∧
    t.blk.upd.sched = some { id := id, instant := at_, window := min 240 w, fleet := false, digest := (s.blk.idOf 2).digest } ∧ t.fld R.UPD_SCHED_ID_ID = id % 2 ^ 32 ∧ t.fld R.UPD_WINDOW_MIN = min 240 w ∧ QueueKept s t ∧ (s.blk.sys.rings = [] → MemKept s t)) ∧
  (∀ m (id at_ w : Nat) s, s.blk.takes m 0x20 14 (some 3) false = true → s.blk.schedReason at_ none ≠ 0 → Runs (.scheduleMsg m id at_ w) s fun t => Answered s t m 0x20 0x66 [] ∧ t.blk.upd.sched = s.blk.upd.sched ∧
    t.fld R.UPD_CNT_REFUSED = s.counted R.UPD_CNT_REFUSED ∧ t.fld R.UPD_STATUS_REASON = s.blk.schedReason at_ none % 2 ^ R.UPD_STATUS_REASON.wid ∧ Kept s t) ∧
  (∀ m (id : Nat) s, s.blk.takes m 0x21 4 (some 3) false = true → s.blk.schedIs id = true → Runs (.cancelMsg m id) s fun t => Answered s t m 0x21 0 [] ∧ t.blk.upd = { s.blk.upd with sched := none } ∧ QueueKept s t ∧ (s.blk.sys.rings = [] → MemKept s t)) ∧
  (∀ x s, s.blk.bitOf (R.EHR_PEERn_CFG_ROLE x.peer) 2 = true → s.blk.schedReason x.instant (some (x.version, x.epoch, x.digest)) = 0 → x.window ≠ 0 → Runs (.fleetAnnounce x) s fun t =>
    t.blk.upd.sched = some { id := x.id, instant := x.instant, window := min 240 x.window, fleet := true, digest := (s.blk.idOf 2).digest } ∧ t.fld R.UPD_SCHED_ID_ID = x.id % 2 ^ 32 ∧ QueueKept s t ∧ (s.blk.sys.rings = [] → MemKept s t)) ∧
  (∀ x s, s.blk.bitOf (R.EHR_PEERn_CFG_ROLE x.peer) 2 = true → s.blk.schedReason x.instant (some (x.version, x.epoch, x.digest)) ≠ 0 → Runs (.fleetAnnounce x) s fun t =>
    t.blk.upd.sched = s.blk.upd.sched ∧ t.fld R.UPD_CNT_REFUSED = s.counted R.UPD_CNT_REFUSED ∧ Kept s t) ∧
  (∀ x s, s.blk.bitOf (R.EHR_PEERn_CFG_ROLE x.peer) 2 = true → s.blk.schedIs x.id = true → Runs (.fleetCancel x) s fun t => t.blk.upd = { s.blk.upd with sched := none } ∧ QueueKept s t ∧ (s.blk.sys.rings = [] → MemKept s t)) ∧
  (∀ (k : BitVec 16) s, k ≠ 0xB1EF → ∀ i ∈ [Instr.updDiscard k, .updCancel k, .updSchedule k, .updConfirm k, .migDone k, .migFail k], Runs i s fun t => t = { s with blk := s.blk.status 0x70 }) ∧
  (∀ (k : Nat) s, s.blk.slotOf 2 = some k → Runs (.updDiscard 0xB1EF) s fun t => t.blk.upd.sched = none ∧ t.blk.upd.slots = freeRole 2 s.blk.upd.slots ∧ t.blk.fab.status = 0 ∧ QueueKept s t ∧ (s.blk.sys.rings = [] → MemKept s t)) ∧
  (∀ s, Runs (.updCancel 0xB1EF) s fun t => t.blk.upd = { s.blk.upd with sched := none } ∧ t.blk.fab.status = 0 ∧ QueueKept s t ∧ (s.blk.sys.rings = [] → MemKept s t)) ∧
  (∀ s, s.blk.schedReason (s.fld R.UPD_SCHED_LO_NS + 2 ^ 32 * s.fld R.UPD_SCHED_HI_NS) none = 0 → Runs (.updSchedule 0xB1EF) s fun t => t.blk.fab.status = 0 ∧
    (t.blk.upd.sched.map (·.instant)) = some (s.fld R.UPD_SCHED_LO_NS + 2 ^ 32 * s.fld R.UPD_SCHED_HI_NS) ∧ (t.blk.upd.sched.map (·.id)) = some (s.fld R.UPD_SCHED_ID_ID) ∧ QueueKept s t ∧ (s.blk.sys.rings = [] → MemKept s t)) ∧
  (∀ s, s.blk.schedReason (s.fld R.UPD_SCHED_LO_NS + 2 ^ 32 * s.fld R.UPD_SCHED_HI_NS) none ≠ 0 → Runs (.updSchedule 0xB1EF) s fun t => t.blk.fab.status = 0x66 ∧ t.blk.upd.sched = s.blk.upd.sched ∧ t.fld R.UPD_CNT_REFUSED = s.counted R.UPD_CNT_REFUSED ∧ Kept s t) ∧
  (∀ x g s, s.blk.inRun = true → s.blk.upd.sched = some x → s.blk.imageOf 2 = some g → x.instant ≠ 0 → (s.blk.imageVerdict g).code ≠ 0 → Runs .updPrecheck s fun t => t.blk.upd.sched = none ∧ t.blk.upd.slots = freeRole 2 s.blk.upd.slots ∧
    t.fld R.UPD_CNT_REFUSED = s.counted R.UPD_CNT_REFUSED ∧ t.fld R.UPD_STATUS_REASON = 7 ∧ (2 ≤ s.fld R.PWR_STATE_STATE → t.blk.sys.mtime = max s.blk.sys.mtime (x.instant - 1000000000)) ∧ QueueKept s t ∧ (s.blk.sys.rings = [] → MemKept s t)) ∧
  (∀ x g s, s.blk.inRun = true → s.blk.upd.sched = some x → s.blk.imageOf 2 = some g → x.instant ≠ 0 → (s.blk.imageVerdict g).code = 0 → Runs .updPrecheck s fun t => t.blk.upd = s.blk.upd ∧
    (2 ≤ s.fld R.PWR_STATE_STATE → t.blk.sys.mtime = max s.blk.sys.mtime (x.instant - 1000000000)) ∧ Frame s t []) ∧
  (∀ (f : Fin 61) (a b : Nat) x s, s.blk.inRun = true → s.blk.mode.live = true → s.blk.upd.sched = some x → x.instant ≠ 0 → x.last = none → x.skipped = false → s.blk.sys.mtime ≤ x.instant → (s.blk.toModule x.instant).deferReason x = 0 →
    Runs (.updActivationCheck f a b) s fun t => t.blk.pwr.inReset = true ∧ t.blk.pwr.cause = 4 ∧ t.fld R.SUP_RST_CAUSE_CAUSE = 4 ∧ t.blk.upd.activating = false ∧ QueueKept s t) ∧
  (∀ (f : Fin 61) (a b : Nat) x s, s.blk.inRun = true → s.blk.mode.live = true → s.blk.upd.sched = some x → x.instant ≠ 0 → x.last = none → x.skipped = false → s.blk.sys.mtime ≤ x.instant → (s.blk.toModule x.instant).deferReason x ≠ 0 → x.first = none →
    Runs (.updActivationCheck f a b) s fun t => (t.blk.upd.sched.map (·.reason)) = some ((s.blk.toModule x.instant).deferReason x) ∧ t.fld R.UPD_CNT_DEFERRALS = s.counted R.UPD_CNT_DEFERRALS ∧
    (2 ≤ s.fld R.PWR_STATE_STATE → t.blk.sys.mtime = max s.blk.sys.mtime (x.instant)) ∧ QueueKept s t ∧ (s.blk.sys.rings = [] → MemKept s t)) ∧
  (∀ x s, s.blk.inRun = true → s.blk.upd.sched = some x → x.first.isSome = true → Runs .updDeferLapse s fun t => t.blk.upd.sched = none ∧ t.fld R.UPD_CNT_REFUSED = s.counted R.UPD_CNT_REFUSED ∧
    (2 ≤ s.fld R.PWR_STATE_STATE → t.blk.sys.mtime = max s.blk.sys.mtime (x.instant + s.fld R.UPD_WINDOW_DEFER_MAX_H * 3600 * 1000000000)) ∧ QueueKept s t ∧ (s.blk.sys.rings = [] → MemKept s t)) ∧
  (∀ s, s.fld R.UPD_STATUS_PENDING_CONFIRM = 0 ∨ s.fld R.UPD_STATUS_FALL_DUE = 1 → Runs (.updConfirm 0xB1EF) s fun t => t = { s with blk := s.blk.status 0x66 }) ∧
  (∀ s, s.fld R.UPD_STATUS_PENDING_CONFIRM = 1 → s.fld R.UPD_STATUS_FALL_DUE = 0 → Runs (.updConfirm 0xB1EF) s fun t => t.fld R.UPD_STATUS_PENDING_CONFIRM = 0 ∧ t.blk.upd.runAt = none ∧
    t.fld R.UPD_MIN_EPOCH_EPOCH = max (s.fld R.UPD_MIN_EPOCH_EPOCH) ((s.blk.imageOf 1).getD {}).epoch % 2 ^ 32 ∧ t.blk.fab.status = 0 ∧ QueueKept s t ∧ (s.blk.sys.rings = [] → MemKept s t)) ∧
  (∀ s, Runs (.migDone 0xB1EF) s fun t => t.fld R.UPD_RET_FMT_STORED = s.blk.img.active.retFmt % 2 ^ R.UPD_RET_FMT_STORED.wid ∧ t.blk.fab.status = 0 ∧ QueueKept s t ∧ (s.blk.sys.rings = [] → Frame s t [R.UPD_RET_FMT_STORED])) ∧
  (∀ s, s.fld R.UPD_STATUS_PENDING_CONFIRM = 1 → s.fld R.UPD_STATUS_FALL_DUE = 0 → Runs (.migFail 0xB1EF) s fun t => t.fld R.UPD_STATUS_FALL_DUE = 1 ∧ t.blk.upd.slots = s.blk.upd.slots ∧ t.blk.fab.status = 0 ∧ Kept s t) ∧
  (∀ (x : Nat) s, s.blk.inRun = true → s.blk.upd.runAt = some x → s.fld R.UPD_STATUS_PENDING_CONFIRM = 1 → Runs .updWindowExpired s fun t => t.fld R.UPD_STATUS_FALL_DUE ≠ 0 ∧
    t.blk.now = max s.blk.now (x + (s.blk.upd.window * 60 - s.fld R.UPD_RUN_RUN_S) * 1000000000) ∧ Kept s t) ∧
  (∀ (x : Nat) s, s.blk.inRun = true → s.blk.upd.runAt = some x → Runs .updRunRecord s fun t => t.blk.now = max s.blk.now (x + 60000000000) ∧ t.fld R.UPD_RUN_RUN_S = s.counted R.UPD_RUN_RUN_S ((t.blk.now - x) / 1000000000) ∧
    t.blk.upd = { s.blk.upd with runAt := some (x + (t.blk.now - x) / 1000000000 * 1000000000) } ∧ QueueKept s t ∧ (s.blk.sys.rings = [] → Frame s t [R.UPD_RUN_RUN_S]))

/-- The crypto engines (R536, R537): a job on a channel that is not idle is refused with BUSY; a job whose arguments are wrong ends at once with BAD_JOB; one that is right runs when its engine is free; a job that ends writes its result, advances its sequence count, counts and frees its channel. -/
def Obligations.CryptoCommands : Prop :=
  (∀ (k : Fin 8) s, s.blk.shut 1 = true → Runs (.cryptoGo k) s fun t => t = { s with blk := s.blk.status 0x05 }) ∧
  (∀ (k : Fin 8) s, s.blk.shut 1 = false → s.fld (R.CRY_Ck_STAT_STATE k) ≠ 0 → Runs (.cryptoGo k) s fun t => t = { s with blk := s.blk.status 0x01 }) ∧
  (∀ (k : Fin 8) s, s.blk.cryRefusal k = none → s.blk.badJob k = true → Runs (.cryptoGo k) s fun t => t.fld (R.CRY_Ck_STAT_STATE k) = 0 ∧ t.fld (R.CRY_Ck_STAT_RESULT k) = 5 ∧
    t.fld (R.CRY_Ck_STAT_SEQ k) = (s.fld (R.CRY_Ck_STAT_SEQ k) + 1) % 2 ^ (R.CRY_Ck_STAT_SEQ k).wid ∧ t.fld R.CRY_CNT_JOBS = s.counted R.CRY_CNT_JOBS ∧ t.blk.fab.status = 0 ∧
    Frame s t [R.CRY_Ck_STAT_STATE k, R.CRY_Ck_STAT_RESULT k, R.CRY_Ck_STAT_SEQ k, R.CRY_CNT_JOBS, R.CRY_Ck_TIME_T k]) ∧
  (∀ (k : Fin 8) s, s.blk.cryRefusal k = none → s.blk.badJob k = false → (∀ j, j < 8 → s.fld (R.CRY_Ck_STAT_STATE j) = 0) → Runs (.cryptoGo k) s fun t => t.fld (R.CRY_Ck_STAT_STATE k) = 2 ∧ t.fld R.CRY_STATUS_BUSY = 2 ^ k.val ∧
    t.fld R.CRY_STATUS_PK_QUEUED = 0 ∧ t.blk.fab.status = 0 ∧ Frame s t [R.CRY_Ck_STAT_STATE k, R.CRY_STATUS_BUSY, R.CRY_STATUS_PK_QUEUED]) ∧
  (∀ x l (k : Nat) s, s.blk.cryRunning x = some k → Runs (.cryptoDone x l) s fun t => t.fld (R.CRY_Ck_STAT_STATE k) = 0 ∧
    t.fld (R.CRY_Ck_STAT_RESULT k) = ((s.blk.dramPut (putBytes l)).cryOutput k).1 % 2 ^ (R.CRY_Ck_STAT_RESULT k).wid ∧
    t.blk.dram = ((s.blk.dramPut (putBytes l)).dramWrite (s.fld (R.CRY_Ck_DST_ADDR k)) ((s.blk.dramPut (putBytes l)).cryOutput k).2).dram ∧ t.fld (R.CRY_Ck_STAT_SEQ k) = (s.fld (R.CRY_Ck_STAT_SEQ k) + 1) % 2 ^ (R.CRY_Ck_STAT_SEQ k).wid ∧
    t.fld R.CRY_CNT_JOBS = s.counted R.CRY_CNT_JOBS ∧ t.blk.now = max s.blk.now ((s.blk.job k).since + (s.blk.job k).left) ∧ Kept s t) ∧
  (∀ x l s, s.blk.cryRunning x = none → Runs (.cryptoDone x l) s fun t => t = s)

/-- The event recorder (R541 to R546, R550 to R553): an event that no trigger takes is unmatched and one that comes before the recorder lives waits; a software trigger forms a record with the next number; an answered word is settled and a missing one is TIMEOUT; a flush writes the complete records in front to their places; a freeze holds the records until it ends; an export takes up to 21 records; a clear needs its key and every record exported or force. -/
def Obligations.RecorderCommands : Prop :=
  (∀ p s, p.kind = .event → (s.blk.island 0).run = .running → s.blk.evr.live = true → ((List.range 64).find? fun k => s.blk.evrMatch k p.origin (bytesAt p.data 0 2)) = none → Runs (.eventPacket p) s fun t =>
    t.fld R.EVR_CNT_UNMATCHED_COUNT = s.counted R.EVR_CNT_UNMATCHED_COUNT ∧ t.blk.evr = s.blk.evr ∧ Frame s t [R.EVR_CNT_UNMATCHED_COUNT]) ∧
  (∀ p (k : Nat) s, p.kind = .event → (s.blk.island 0).run = .running → s.blk.evr.live = true → ((List.range 64).find? fun k => s.blk.evrMatch k p.origin (bytesAt p.data 0 2)) = some k → Runs (.eventPacket p) s fun t =>
    t = { s with blk := s.blk.evrTake k p.origin (bytesAt p.data 0 2) p.stamp p.data false }) ∧
  (∀ p s, p.kind = .event → (s.blk.island 0).run = .running → s.blk.evr.live = false → s.blk.evr.input.length < 256 → Runs (.eventPacket p) s fun t => t.blk.evr = { s.blk.evr with input := s.blk.evr.input ++ [p] } ∧ Frame s t []) ∧
  (∀ (k : Fin 64) (w : Fin 65536) s, s.blk.evr.staged = [] → s.fld R.EVR_STATUS_RUNNING = 1 → s.fld R.PWR_STATUS_COMMITTED = 0 → s.fld R.EVR_WRITTEN_COUNT < 349524 → Runs (.evrSoft k w) s fun t =>
    (t.blk.evr.staged.map fun r => (r.rseq, r.trig, r.origin, r.code, r.mtime)) = [(s.fld R.EVR_NEXT_RSEQ, k.val, w.val, 0x0002, s.blk.counter)] ∧ t.fld R.EVR_NEXT_RSEQ = (s.fld R.EVR_NEXT_RSEQ + 1) % 2 ^ R.EVR_NEXT_RSEQ.wid ∧
    t.fld (R.EVR_Tt_CNT_RECORDS k) = s.counted (R.EVR_Tt_CNT_RECORDS k) ∧ t.fld R.EVR_STATUS_STAGED = 1 ∧ t.blk.evr.missed = 0 ∧ t.blk.fab.status = 0 ∧ Kept s t) ∧
  (∀ (k : Fin 64) (w : Fin 65536) s, s.fld R.EVR_STATUS_RUNNING = 0 → Runs (.evrSoft k w) s fun t => t.fld R.EVR_CNT_MISSED_NO_SLOT = s.counted R.EVR_CNT_MISSED_NO_SLOT ∧ t.blk.evr = { s.blk.evr with missed := min 65535 (s.blk.evr.missed + 1) } ∧
    t.fld R.FAB_EDGE_SUMMARY_RECORDER = 1 ∧ t.blk.fab.status = 0 ∧ Frame s t [R.EVR_CNT_MISSED_NO_SLOT, R.FAB_EDGE_SUMMARY_RECORDER]) ∧
  (∀ (n : Nat) (w : Fin 32) fl r s, s.blk.evr.staged = [r] → r.rseq = n → w.val < r.words.length → r.words.getD w none = none → (s.readWords (s.fld (R.EVR_Tt_ADDRw_ADDR r.trig w)) 1 fl).2.1 = 0 → Runs (.snapshotAnswer n w fl) s fun t =>
    t.blk.evr.staged = [{ r with words := updAt r.words w fun _ => some ((s.readWords (s.fld (R.EVR_Tt_ADDRw_ADDR r.trig w)) 1 fl).2.2.2.getD 0 0, true) }] ∧ Frame (s.readWords (s.fld (R.EVR_Tt_ADDRw_ADDR r.trig w)) 1 fl).1 t []) ∧
  (∀ (n : Nat) (w : Fin 32) fl r s, s.blk.evr.staged = [r] → r.rseq = n → w.val < r.words.length → r.words.getD w none = none → (s.readWords (s.fld (R.EVR_Tt_ADDRw_ADDR r.trig w)) 1 fl).2.1 ≠ 0 → Runs (.snapshotAnswer n w fl) s fun t =>
    t.blk.evr.staged = [{ r with words := updAt r.words w fun _ => some ((s.readWords (s.fld (R.EVR_Tt_ADDRw_ADDR r.trig w)) 1 fl).2.1, false) }] ∧ t.fld R.EVR_CNT_WORDS_INVALID = (s.readWords (s.fld (R.EVR_Tt_ADDRw_ADDR r.trig w)) 1 fl).1.counted R.EVR_CNT_WORDS_INVALID ∧ Frame (s.readWords (s.fld (R.EVR_Tt_ADDRw_ADDR r.trig w)) 1 fl).1 t [R.EVR_CNT_WORDS_INVALID]) ∧
  (∀ (n : Nat) r s, s.blk.evr.staged = [r] → r.rseq = n → r.complete = false → Runs (.snapshotTimeout n) s fun t => (∀ x ∈ t.blk.evr.staged, x.complete = true) ∧ t.blk.now = max s.blk.now (r.since + 2000000) ∧
    Frame s t [R.EVR_CNT_WORDS_INVALID]) ∧
  (∀ r l s, s.blk.evr.staged = r :: l → s.fld R.EVR_STATUS_FROZEN = 0 → Runs .evrFlushTimer s fun t => t.blk.evr = { s.blk.evr with flushing := true } ∧
    t.blk.now = max s.blk.now (r.since + max 1 (s.fld R.EVR_CFG_FLUSH_S) * 1000000000) ∧ Frame s t []) ∧
  (∀ s, s.blk.evr.flushing = true → s.fld R.EVR_STATUS_FROZEN = 0 → Runs .evrFlushDone s fun t => t.blk.evr.staged = s.blk.evr.staged.drop s.blk.evrReady.length ∧ (s.blk.sys.rings = [] → t.mem = writeRecords s.mem s.blk.evrReady) ∧
    t.fld R.EVR_WRITTEN_COUNT = s.counted R.EVR_WRITTEN_COUNT s.blk.evrReady.length ∧ QueueKept s t) ∧
  (∀ s, s.blk.evr.flushing = false ∨ s.fld R.EVR_STATUS_FROZEN = 1 → Runs .evrFlushDone s fun t => t = s) ∧
  (∀ s, Runs .evrStop s fun t => t.fld R.EVR_STATUS_RUNNING = 0 ∧ t.blk.evr = s.blk.evr ∧ t.blk.fab.status = 0 ∧ Frame s t [R.EVR_STATUS_RUNNING]) ∧
  (∀ s, Runs .evrStart s fun t => t.fld R.EVR_STATUS_RUNNING = 1 ∧ t.blk.evr = s.blk.evr ∧ t.blk.fab.status = 0 ∧ Frame s t [R.EVR_STATUS_RUNNING]) ∧
  (∀ s, s.fld R.EVR_STATUS_FROZEN = 0 → s.blk.evr.staged ≠ [] → Runs .evrFlush s fun t => t.blk.evr = { s.blk.evr with flushing := true } ∧ t.blk.fab.status = 0 ∧ Frame s t []) ∧
  (∀ s, s.blk.evr.export_ = 0 → s.fld R.EVR_EXPORTED_COUNT < s.fld R.EVR_WRITTEN_COUNT → Runs .evrExport s fun t => t.blk.evr = { s.blk.evr with export_ := min 21 (s.fld R.EVR_WRITTEN_COUNT - s.fld R.EVR_EXPORTED_COUNT), errAt := none } ∧
    t.fld R.EVR_STATUS_EXPORTING = 1 ∧ t.blk.fab.status = 0 ∧ Kept s t) ∧
  (∀ s, Runs .evrClrCnt s fun t => (∀ f ∈ [R.EVR_CNT_MISSED_HOLDOFF, R.EVR_CNT_MISSED_NO_SLOT, R.EVR_CNT_FULL_REFUSED, R.EVR_CNT_FULL_LOST, R.EVR_CNT_UNMATCHED_COUNT, R.EVR_CNT_WORDS_INVALID], t.fld f = 0) ∧
    (∀ k, k < 64 → t.fld (R.EVR_Tt_CNT_RECORDS k) = 0) ∧ t.blk.evr = s.blk.evr ∧ t.blk.fab.status = 0 ∧ Kept s t) ∧
  (∀ (m : Fin 1024) s, s.fld R.EVR_STATUS_FROZEN = 0 → Runs (.evrFreezeWrite true m) s fun t => t.fld R.EVR_STATUS_FROZEN = 1 ∧ t.fld R.EVR_FREEZE_FREEZE = 1 ∧ t.fld R.EVR_FREEZE_FREEZE_MAX_S = max 1 (min 600 m.val) ∧
    t.blk.evr = { s.blk.evr with freezeAt := s.blk.now, flushing := false } ∧ t.blk.fab.status = 0 ∧ Frame s t [R.EVR_STATUS_FROZEN, R.EVR_FREEZE_FREEZE, R.EVR_FREEZE_FREEZE_MAX_S]) ∧
  (∀ (m : Fin 1024) s, s.fld R.EVR_STATUS_FROZEN = 1 → Runs (.evrFreezeWrite false m) s fun t => t.fld R.EVR_STATUS_FROZEN = 0 ∧ t.fld R.EVR_FREEZE_FREEZE = 0 ∧ (s.blk.evr.staged ≠ [] → t.blk.evr.flushing = true) ∧ t.blk.fab.status = 0 ∧
    Frame s t [R.EVR_STATUS_FROZEN, R.EVR_FREEZE_FREEZE, R.EVR_FREEZE_FREEZE_MAX_S]) ∧
  (∀ s, s.fld R.EVR_STATUS_FROZEN = 1 → Runs .evrFreezeExpired s fun t => t.fld R.EVR_STATUS_FROZEN = 0 ∧ t.fld R.EVR_FREEZE_FREEZE = 0 ∧ t.fld R.EVR_STATUS_FREEZE_EXP_EV = 1 ∧
    t.blk.now = max s.blk.now (s.blk.evr.freezeAt + s.fld R.EVR_FREEZE_FREEZE_MAX_S * 1000000000) ∧ Frame s t [R.EVR_STATUS_FROZEN, R.EVR_FREEZE_FREEZE, R.EVR_STATUS_FREEZE_EXP_EV]) ∧
  (∀ (r : Fin 524288) s, Runs (.evrCursorWrite r) s fun t => t.fld R.EVR_CURSOR_RSEQ = min 349524 r.val ∧ t.fld R.EVR_WIN_STAT_STALE = 1 ∧ t.blk.evr.loading.isSome = true ∧ t.blk.fab.status = 0 ∧
    Frame s t [R.EVR_CURSOR_RSEQ, R.EVR_WIN_STAT_STALE]) ∧
  (∀ w (n : Nat) l s, s.blk.evr.loading = some (w, n, l) → Runs .evrWindowLoaded s fun t => t.fld R.EVR_WIN_STAT_STALE = 0 ∧ t.fld R.EVR_WIN_STAT_COUNT = n % 2 ^ R.EVR_WIN_STAT_COUNT.wid ∧
    t.blk.evr = { s.blk.evr with loading := none, window := w, bad := l } ∧ Frame s t [R.EVR_WIN_STAT_STALE, R.EVR_WIN_STAT_COUNT]) ∧
  (∀ (k : BitVec 16) f s, k ≠ 0xB1EF → Runs (.evrClear k f) s fun t => t = { s with blk := s.blk.status 0x70 }) ∧
  (∀ f s, s.fld R.EVR_STATUS_FROZEN = 1 ∨ s.blk.evr.export_ ≠ 0 → Runs (.evrClear 0xB1EF f) s fun t => t = { s with blk := s.blk.status 0x01 }) ∧
  (∀ s, s.fld R.EVR_STATUS_FROZEN = 0 → s.blk.evr.export_ = 0 → s.fld R.EVR_EXPORTED_COUNT < s.fld R.EVR_WRITTEN_COUNT → Runs (.evrClear 0xB1EF false) s fun t => t = { s with blk := s.blk.status 0x6F }) ∧
  (∀ s, s.fld R.EVR_STATUS_FROZEN = 0 → s.blk.evr.export_ = 0 → Runs (.evrClear 0xB1EF true) s fun t => t.fld R.EVR_WRITTEN_COUNT = 0 ∧ t.fld R.EVR_EXPORTED_COUNT = 0 ∧ t.fld R.EVR_NEXT_RSEQ = 0 ∧ t.fld R.EVR_STATUS_FULL = 0 ∧
    t.blk.evr.staged = [] ∧ t.fld R.EVR_GEN_REGION_GEN = (s.fld R.EVR_GEN_REGION_GEN + 1) % 2 ^ 32 ∧
    t.fld R.EVR_CNT_FULL_LOST = s.counted R.EVR_CNT_FULL_LOST (s.fld R.EVR_WRITTEN_COUNT + s.blk.evr.staged.length - s.fld R.EVR_EXPORTED_COUNT) ∧ t.blk.fab.status = 0 ∧ QueueKept s t) ∧
  (∀ s, s.blk.evr.export_ ≠ 0 → Runs (.evrExportAnswer 0) s fun t => t.fld R.EVR_EXPORTED_COUNT = s.counted R.EVR_EXPORTED_COUNT s.blk.evr.export_ ∧ QueueKept s t ∧ (s.blk.sys.rings = [] → MemKept s t)) ∧
  (∀ (c : Fin 256) s, c.val ≠ 0 → s.blk.evr.export_ ≠ 0 → Runs (.evrExportAnswer c) s fun t => t.fld R.EVR_STATUS_EXPORTING = 0 ∧ t.fld R.EVR_STATUS_EXPORT_ERR_EV = 1 ∧ t.blk.evr = { s.blk.evr with export_ := 0, errAt := some s.blk.now } ∧
    Frame s t [R.EVR_STATUS_EXPORTING, R.EVR_STATUS_EXPORT_ERR_EV]) ∧
  (∀ (x : Nat) s, s.blk.evr.errAt = some x → s.blk.evr.export_ = 0 → s.fld R.EVR_EXPORTED_COUNT < s.fld R.EVR_WRITTEN_COUNT → Runs .evrExportRetry s fun t => t.blk.now = max s.blk.now (x + 1000000000) ∧ t.fld R.EVR_STATUS_EXPORTING = 1 ∧
    t.blk.evr.export_ = min 21 (s.fld R.EVR_WRITTEN_COUNT - s.fld R.EVR_EXPORTED_COUNT) ∧ Kept s t)

/-- The health block (R117, R556 to R566): a sample shows every valid temperature and voltage; the stream's number advances; a drift, a median of a minute and a saved count take their values; a reserve test shows the capacity and what it means for the reserve; a re-plan runs when the block is idle and waits otherwise; its end puts the plan in force. -/
def Obligations.HealthCommands : Prop :=
  (∀ ts vs s, s.blk.hltLive = true → Runs (.hltSample ts vs) s fun t => t.blk.now = max s.blk.now (s.blk.hlt.sampleAt + 10000000) ∧
    (∀ n, n < 40 → n < ts.length → s.blk.tempValid n = true → t.fld (R.HLT_Tn_T n) = lowBits 16 (satS 16 (ts.getD n 0)) ∧ t.fld (R.HLT_Tn_VALID n) = 1) ∧
    (∀ n, n < 64 → n < vs.length → s.blk.voltValid n = true → t.fld (R.HLT_Vn_MV n) = min 65535 (s.blk.monitor n (vs.getD n (0, false)).1) ∧ t.fld (R.HLT_Vn_VALID n) = 1) ∧ Kept s t) ∧
  (∀ s, s.blk.hltLive = true → Runs .hltStream s fun t => t.blk.hlt.hseq = (s.blk.hlt.hseq + 1) % 2 ^ 32 ∧ t.blk.now = max s.blk.now (s.blk.hlt.streamAt + s.blk.use R.HLT_CFG_PERIOD_MS * 1000000) ∧ Frame s t []) ∧
  (∀ l s, s.blk.hlt.roDue = true → Runs (.hltRoMeasure l) s fun t => t.blk.hlt = { s.blk.hlt with roAt := s.blk.now, roDue := false } ∧ t.blk.now = s.blk.now ∧
    (∀ n, n < 18 → s.blk.powered (n / 2) = true → ((l.getD n none).getD (0, 0)).1 ≠ 0 → t.fld (R.HLT_ROn_DRIFT_PPM n) = lowBits 24 (satS 24 (roDrift ((l.getD n none).getD (0, 0)).1 ((l.getD n none).getD (0, 0)).2))) ∧ Frame s t ((List.range 18).map R.HLT_ROn_DRIFT_PPM)) ∧
  (∀ l s, s.fld R.PWR_STATE_STATE = 3 → s.blk.hlt.roDue = false → Runs (.hltRoMeasure l) s fun t => t.blk.now = max s.blk.now (s.blk.hlt.roAt + 600000000000) ∧ t.blk.hlt = { s.blk.hlt with roAt := t.blk.now, roDue := false } ∧
    Frame s t ((List.range 18).map R.HLT_ROn_DRIFT_PPM)) ∧
  (∀ (c : Fin 24) (u : Fin 8) x l s, s.blk.runs c = true → s.blk.hlt.ron = [] → l.getD u [] = [x] → ronQualifies x = true → Runs (.hltRonMinute c l) s fun t =>
    t.fld (R.HLT_CHc_RON25 (8 * c.val + u.val)) = min 65535 (ron25 x (s.blk.geti (R.HLT_Tn_T c))) ∧ t.blk.now = max s.blk.now (s.blk.hlt.ronAt.getD c 0 + 60000000000) ∧ Kept s t) ∧
  (∀ s, s.blk.hltLive = true → Runs .hltMramSave s fun t => t.blk.now = max s.blk.now (s.blk.hlt.saveAt + 600000000000) ∧ t.blk.hlt = { s.blk.hlt with saved := s.blk.hlt.writes, saveAt := t.blk.now } ∧ Frame s t []) ∧
  (∀ s, s.blk.hltLive = true → Runs .hltThermal s fun t => t.blk.now = max s.blk.now (s.blk.hlt.thermAt + 1000000000) ∧ t.blk.hlt.thermAt = t.blk.now ∧ t.blk.hlt.dark = false ∧
    Frame s t ((List.range 9).flatMap fun k => [R.HLT_CYCk_A_C20 k, R.HLT_CYCk_A_C40 k, R.HLT_CYCk_B_C80 k, R.HLT_CYCk_B_DAMAGE k])) ∧
  (∀ s, s.fld R.PWR_STATUS_PF = 1 → Runs .hltCapTest s fun t => t = { s with blk := s.blk.status 0x01 }) ∧
  (∀ s, s.fld R.PWR_STATUS_PF = 0 → s.fld R.HLT_STATUS_STATE = 0 → Runs .hltCapTest s fun t => t.fld R.HLT_STATUS_STATE = 1 ∧ t.fld R.PWR_STATUS_RES_READY = 0 ∧ t.blk.fab.status = 0 ∧ Frame s t [R.HLT_STATUS_STATE, R.PWR_STATUS_RES_READY]) ∧
  (∀ s, s.fld R.PWR_STATUS_PF = 0 → 1 < s.fld R.HLT_STATUS_STATE → Runs .hltCapTest s fun t => t.blk.hlt = { s.blk.hlt with testDue := true } ∧ t.blk.fab.status = 0 ∧ Frame s t []) ∧
  (∀ (x : Nat) s, s.fld R.HLT_STATUS_STATE = 1 → s.fld R.HLT_STATUS_PLAN_PENDING = 0 → Runs (.hltCapTestDone x) s fun t => t.fld R.PWR_RES_CAP_UF = min 65535 (x / 20000) ∧ t.fld R.PWR_STATUS_RES_WORN = b2n (decide (min 65535 (x / 20000) < 3200)) ∧
    t.fld R.PWR_STATUS_RES_FAILED = b2n (decide (min 65535 (x / 20000) < 1710)) ∧ t.fld R.HLT_EV_CAP_DONE_EV = 1 ∧ t.fld R.HLT_STATUS_STATE = 0 ∧ t.fld R.PWR_RES_VOLT = 170 ∧
    Frame s t [R.PWR_RES_CAP_UF, R.PWR_STATUS_RES_WORN, R.PWR_STATUS_RES_FAILED, R.HLT_EV_CAP_DONE_EV, R.HLT_STATUS_STATE, R.PWR_RES_VOLT]) ∧
  (∀ s, s.fld R.HLT_STATUS_STATE = 0 → Runs .hltReplan s fun t => t.fld R.HLT_STATUS_STATE = 2 ∧ t.blk.hlt.next.isSome = true ∧ t.blk.fab.status = 0 ∧ Frame s t [R.HLT_STATUS_STATE]) ∧
  (∀ s, s.fld R.HLT_STATUS_STATE ≠ 0 → s.fld R.HLT_STATUS_PLAN_PENDING = 0 → Runs .hltReplan s fun t => t.fld R.HLT_STATUS_PLAN_PENDING = 1 ∧ t.blk.hlt = { s.blk.hlt with pendTrig := 1 } ∧ t.blk.fab.status = 0 ∧ Frame s t [R.HLT_STATUS_PLAN_PENDING]) ∧
  (∀ p s, s.fld R.HLT_STATUS_STATE = 2 → s.blk.hlt.next = some p → s.fld R.HLT_STATUS_PLAN_PENDING = 0 → s.blk.hlt.testDue = false → Runs .hltReplanDone s fun t => t.blk.hlt.plan = p ∧ t.blk.hlt.next = none ∧ t.fld R.HLT_STATUS_STATE = 0 ∧ t.blk.flag R.HLT_EV_REPLAN_EV = true ∧
    t.fld R.HLT_LIFE_REMAIN_H = p.left % 2 ^ R.HLT_LIFE_REMAIN_H.wid ∧ t.fld R.HLT_USED_U = p.used % 2 ^ R.HLT_USED_U.wid ∧ (65535 ≤ p.used → t.blk.flag R.HLT_EV_WORN_EV = true) ∧ QueueKept s t ∧ (s.blk.sys.rings = [] → MemKept s t)) ∧
  (∀ s, Runs .hltClrCnt s fun t => t = { s with blk := s.blk.status 0 }) ∧
  (∀ s, s.fld R.PWR_STATUS_LOGIC_VALID = 1 → (s.blk.island 0).run = .running → s.fld R.PWR_STATE_STATE ≠ 0 → s.blk.pwr.inReset = false → s.fld R.HLT_STATUS_STATE ≠ 1 → s.fld R.PWR_RES_CAP_UF ≠ 0 → Runs .reserveCharged s fun t => t.fld R.PWR_STATUS_RES_READY = 1 ∧ t.fld R.PWR_RES_VOLT = max 176 (s.fld R.PWR_RES_VOLT) % 2 ^ R.PWR_RES_VOLT.wid ∧
    Frame s t [R.PWR_STATUS_RES_READY, R.PWR_RES_VOLT])

/-- Mailbox services of a partition (R579, R580): a mailbox that is busy refuses; a service a partition may not call, or of wrong arguments, ends with BAD_SERVICE; HEARTBEAT clears the hang and starts the interval anew; RESTART starts the partition again and counts; WAIT_UNTIL waits, answers at once for a past instant and refuses one beyond 60 s; UTC and PART_INFO return what they name; an interval without a heartbeat shows the hang. -/
def Obligations.PartitionCommands : Prop :=
  (∀ (k : Fin 8) s, s.fld (R.SUP_MBXk_STAT_BUSY k) = 1 → ∀ i ∈ [Instr.heartbeat k, .restart k, .waitUntil k, .utc k, .partInfo k], Runs i s fun t => t = { s with blk := s.blk.status 0x01 }) ∧
  (∀ (k : Fin 8) s, s.fld (R.SUP_MBXk_STAT_BUSY k) = 0 → k.val ≠ 0 → (s.blk.part k).serviceMask = 0 → ∀ i ∈ [Instr.heartbeat k, .restart k, .waitUntil k, .utc k, .partInfo k], Runs i s fun t =>
    t.fld (R.SUP_MBXk_STAT_STATUS k) = 0x73 ∧ t.fld (R.SUP_MBXk_STAT_SEQ k) = (s.fld (R.SUP_MBXk_STAT_SEQ k) + 1) % 2 ^ (R.SUP_MBXk_STAT_SEQ k).wid ∧ t.blk.fab.status = 0 ∧
    Frame s t ([R.SUP_MBXk_CTRL_SVC k, R.SUP_MBXk_STAT_BUSY k, R.SUP_MBXk_STAT_STATUS k, R.SUP_MBXk_STAT_SEQ k] ++ (List.range 4).map (R.SUP_MBXk_RETn_RET k))) ∧
  (∀ (k : Fin 8) s, s.fld (R.SUP_MBXk_STAT_BUSY k) = 0 → s.blk.mayServe k 1 = true → Runs (.heartbeat k) s fun t => t.blk.bitOf R.SUP_PART_STATUS_HUNG k = false ∧ t.fld (R.SUP_MBXk_STAT_STATUS k) = 0 ∧
    t.fld (R.SUP_MBXk_STAT_SEQ k) = (s.fld (R.SUP_MBXk_STAT_SEQ k) + 1) % 2 ^ (R.SUP_MBXk_STAT_SEQ k).wid ∧
    t.blk.sys.parts = updAt s.blk.sys.parts k (fun p => { p with hbEnd := if k.val = 0 ∨ p.hbMs = 0 then none else some (s.blk.now + p.hbMs * 1000000) }) ∧ t.blk.fab.status = 0 ∧
    Frame s t ([R.SUP_PART_STATUS_HUNG, R.SUP_MBXk_CTRL_SVC k, R.SUP_MBXk_STAT_BUSY k, R.SUP_MBXk_STAT_STATUS k, R.SUP_MBXk_STAT_SEQ k] ++ (List.range 4).map (R.SUP_MBXk_RETn_RET k))) ∧
  (∀ (k : Fin 8) s, s.fld (R.SUP_MBXk_STAT_BUSY k) = 0 → s.fld (R.SUP_MBXk_ARGn_ARG k 0) ≠ 0xB1EF ∨ k.val = 0 → Runs (.restart k) s fun t => t.fld (R.SUP_MBXk_STAT_STATUS k) = 0x73 ∧ t.blk.sys.parts = s.blk.sys.parts ∧ t.blk.fab.status = 0 ∧ Kept s t) ∧
  (∀ (k : Fin 8) s, s.fld (R.SUP_MBXk_STAT_BUSY k) = 0 → s.blk.mayServe k 2 = true → s.fld (R.SUP_MBXk_ARGn_ARG k 0) = 0xB1EF → k.val ≠ 0 → Runs (.restart k) s fun t =>
    t.fld (R.SUP_PART_RESTARTk_COUNT k) = s.counted (R.SUP_PART_RESTARTk_COUNT k) ∧ t.blk.fab.status = 0 ∧ Kept s t) ∧
  (∀ (k : Fin 8) s, s.fld (R.SUP_MBXk_STAT_BUSY k) = 0 → s.blk.mayServe k 3 = true → s.blk.counter < s.fld (R.SUP_MBXk_ARGn_ARG k 0) + 2 ^ 32 * s.fld (R.SUP_MBXk_ARGn_ARG k 1) →
    s.fld (R.SUP_MBXk_ARGn_ARG k 0) + 2 ^ 32 * s.fld (R.SUP_MBXk_ARGn_ARG k 1) ≤ s.blk.sys.mtime + 60000000000 → Runs (.waitUntil k) s fun t => t.fld (R.SUP_MBXk_STAT_BUSY k) = 1 ∧
    t.blk.sys.waits = updAt s.blk.sys.waits k (fun _ => some (s.blk.now + ((s.fld (R.SUP_MBXk_ARGn_ARG k 0) + 2 ^ 32 * s.fld (R.SUP_MBXk_ARGn_ARG k 1) + 3) / 4 * 4 - s.blk.sys.mtime))) ∧ t.blk.fab.status = 0 ∧
    Frame s t [R.SUP_MBXk_CTRL_SVC k, R.SUP_MBXk_STAT_BUSY k]) ∧
  (∀ (k : Fin 8) s, s.fld (R.SUP_MBXk_STAT_BUSY k) = 0 → s.blk.mayServe k 3 = true → s.fld (R.SUP_MBXk_ARGn_ARG k 0) + 2 ^ 32 * s.fld (R.SUP_MBXk_ARGn_ARG k 1) ≤ s.blk.counter → Runs (.waitUntil k) s fun t =>
    t.fld (R.SUP_MBXk_STAT_BUSY k) = 0 ∧ t.fld (R.SUP_MBXk_STAT_STATUS k) = 0 ∧ t.fld (R.SUP_MBXk_RETn_RET k 0) = s.blk.counter % 2 ^ 32 ∧ t.fld (R.SUP_MBXk_RETn_RET k 1) = s.blk.counter / 2 ^ 32 % 2 ^ 32 ∧ t.blk.fab.status = 0 ∧ Kept s t) ∧
  (∀ (k : Fin 8) s, s.fld (R.SUP_MBXk_STAT_BUSY k) = 0 → s.blk.sys.mtime + 60000000000 < s.fld (R.SUP_MBXk_ARGn_ARG k 0) + 2 ^ 32 * s.fld (R.SUP_MBXk_ARGn_ARG k 1) → Runs (.waitUntil k) s fun t =>
    t.fld (R.SUP_MBXk_STAT_STATUS k) = 0x73 ∧ t.fld (R.SUP_MBXk_STAT_BUSY k) = 0 ∧ t.blk.fab.status = 0 ∧ Kept s t) ∧
  (∀ (k : Fin 8) (x : Nat) s, s.blk.sys.waits.getD k none = some x → Runs (.waitUntilDone k) s fun t => t.blk.now = max s.blk.now x ∧ t.fld (R.SUP_MBXk_STAT_BUSY k) = 0 ∧ t.fld (R.SUP_MBXk_STAT_STATUS k) = 0 ∧
    t.fld (R.SUP_MBXk_RETn_RET k 0) = t.blk.counter % 2 ^ 32 ∧ t.blk.sys.waits = updAt s.blk.sys.waits k (fun _ => none) ∧
    Frame s t ([R.SUP_MBXk_STAT_BUSY k, R.SUP_MBXk_STAT_STATUS k, R.SUP_MBXk_STAT_SEQ k] ++ (List.range 4).map (R.SUP_MBXk_RETn_RET k))) ∧
  (∀ (k : Fin 8) (l : Nat) s, s.fld (R.SUP_MBXk_STAT_BUSY k) = 0 → s.blk.mayServe k 4 = true → s.blk.sys.leap = some l → Runs (.utc k) s fun t => t.fld (R.SUP_MBXk_STAT_STATUS k) = 0 ∧ t.fld (R.SUP_MBXk_RETn_RET k 0) = l % 2 ^ 32 ∧
    t.fld (R.SUP_MBXk_RETn_RET k 1) = 1 ∧ t.fld (R.SUP_MBXk_RETn_RET k 2) = s.fld R.SUP_MTIME_STATUS_STATE % 2 ^ 32 ∧ t.blk.fab.status = 0 ∧ Kept s t) ∧
  (∀ (k : Fin 8) s, s.fld (R.SUP_MBXk_STAT_BUSY k) = 0 → s.blk.mayServe k 4 = true → s.blk.sys.leap = none → Runs (.utc k) s fun t => t.fld (R.SUP_MBXk_STAT_STATUS k) = 0 ∧ t.fld (R.SUP_MBXk_RETn_RET k 1) = 0 ∧
    t.fld (R.SUP_MBXk_RETn_RET k 2) = s.fld R.SUP_MTIME_STATUS_STATE % 2 ^ 32 ∧ t.blk.fab.status = 0 ∧ Kept s t) ∧
  (∀ (k c : Fin 8) s, s.fld (R.SUP_MBXk_STAT_BUSY k) = 0 → s.blk.mayServe k 5 = true → s.fld (R.SUP_MBXk_ARGn_ARG k 0) = c.val → Runs (.partInfo k) s fun t => t.fld (R.SUP_MBXk_STAT_STATUS k) = 0 ∧
    t.fld (R.SUP_MBXk_RETn_RET k 0) = (s.blk.part c).writeMask % 2 ^ 32 ∧ t.fld (R.SUP_MBXk_RETn_RET k 2) = ((s.blk.part c).serviceMask + 65536 * (s.blk.part c).hbMs) % 2 ^ 32 ∧ t.blk.fab.status = 0 ∧ Kept s t) ∧
  (∀ (k : Fin 8) (x : Nat) s, (s.blk.part k).hbEnd = some x → bit (s.blk.part k).flags 1 = false → Runs (.partHbExpired k) s fun t => t.blk.bitOf R.SUP_PART_STATUS_HUNG k = true ∧ t.blk.now = max s.blk.now x ∧
    t.blk.sys.parts = updAt s.blk.sys.parts k (fun p => { p with hbEnd := none }) ∧ Frame s t [R.SUP_PART_STATUS_HUNG]) ∧
  (∀ (k : Fin 8) (x : Nat) s, (s.blk.part k).hbEnd = some x → bit (s.blk.part k).flags 1 = true → Runs (.partHbExpired k) s fun t => t.fld (R.SUP_PART_RESTARTk_COUNT k) = s.counted (R.SUP_PART_RESTARTk_COUNT k) ∧ t.blk.now = max s.blk.now x ∧ Kept s t)
end

