-- ==== Sys2Proof/Laws/Exec.lean ====
section
/-! SUPPORT. `exec` at each command is one call of its meaning. -/

namespace Sys2Proof.Machine

open Sys2Proof

@[simp] theorem exec_islandResetAssert (k : Fin 8) (cause : Fin 4) (s : State) : exec (.islandResetAssert k cause) s = execIslandResetAssert k cause s := rfl
@[simp] theorem exec_islandLostDeclare (k : Fin 8) (s : State) : exec (.islandLostDeclare k) s = execIslandLostDeclare k s := rfl
@[simp] theorem exec_islandReloadComplete (k : Fin 8) (s : State) : exec (.islandReloadComplete k) s = execIslandReloadComplete k s := rfl
@[simp] theorem exec_beacon (sender : Fin 9) (s : State) : exec (.beacon sender) s = execBeacon sender s := rfl
@[simp] theorem exec_mtimeCorrection (ofs : Int) (s : State) : exec (.mtimeCorrection ofs) s = execMtimeCorrection ofs s := rfl
@[simp] theorem exec_mtimeStep (s : State) : exec .mtimeStep s = execMtimeStep s := rfl
@[simp] theorem exec_mtimeHoldover (s : State) : exec .mtimeHoldover s = execMtimeHoldover s := rfl
@[simp] theorem exec_mtimeFree (s : State) : exec .mtimeFree s = execMtimeFree s := rfl
@[simp] theorem exec_supMtimeLoRead (s : State) : exec .supMtimeLoRead s = execSupMtimeLoRead s := rfl
@[simp] theorem exec_packetForward (at_ dest : Fin 9) (p : Packet) (length : Nat) (check : BitVec 16) (lseq : Fin 256) (s : State) : exec (.packetForward at_ dest p length check lseq) s = execPacketForward at_ dest p length check lseq s := rfl
@[simp] theorem exec_linkCheckFail (link : Fin 36) (lane : Fin 8) (up : Bool) (s : State) : exec (.linkCheckFail link lane up) s = execLinkCheckFail link lane up s := rfl
@[simp] theorem exec_linkRetrainDone (link : Fin 36) (s : State) : exec (.linkRetrainDone link) s = execLinkRetrainDone link s := rfl
@[simp] theorem exec_linkRetrainTimeout (link : Fin 36) (s : State) : exec (.linkRetrainTimeout link) s = execLinkRetrainTimeout link s := rfl
@[simp] theorem exec_creditReturn (link : Fin 36) (lane : Fin 8) (up : Bool) (s : State) : exec (.creditReturn link lane up) s = execCreditReturn link lane up s := rfl
@[simp] theorem exec_readReq (p : Packet) (failing : List Nat) (s : State) : exec (.readReq p failing) s = execReadReq p failing s := rfl
@[simp] theorem exec_writeReq (p : Packet) (failing : List Nat) (s : State) : exec (.writeReq p failing) s = execWriteReq p failing s := rfl
@[simp] theorem exec_registerWrite (origin : Fin 65536) (addr value : BitVec 32) (s : State) : exec (.registerWrite origin addr value) s = execRegisterWrite origin addr value s := rfl
@[simp] theorem exec_responseArrival (p : Packet) (s : State) : exec (.responseArrival p) s = execResponseArrival p s := rfl
@[simp] theorem exec_errorNoteArrival (dest : Fin 9) (p : Packet) (s : State) : exec (.errorNoteArrival dest p) s = execErrorNoteArrival dest p s := rfl
@[simp] theorem exec_tagWaitLimit (source : Fin 65536) (s : State) : exec (.tagWaitLimit source) s = execTagWaitLimit source s := rfl
@[simp] theorem exec_rspTimeout (tag : Fin 8192) (s : State) : exec (.rspTimeout tag) s = execRspTimeout tag s := rfl
@[simp] theorem exec_clrCounters (s : State) : exec .clrCounters s = execClrCounters s := rfl
@[simp] theorem exec_loadData (m : LoadMsg) (s : State) : exec (.loadData m) s = execLoadData m s := rfl
@[simp] theorem exec_loadCommit (m : LoadMsg) (s : State) : exec (.loadCommit m) s = execLoadCommit m s := rfl
@[simp] theorem exec_loadAbort (m : LoadMsg) (s : State) : exec (.loadAbort m) s = execLoadAbort m s := rfl
@[simp] theorem exec_loadQuiesce (m : LoadMsg) (s : State) : exec (.loadQuiesce m) s = execLoadQuiesce m s := rfl
@[simp] theorem exec_loadStart (m : LoadMsg) (s : State) : exec (.loadStart m) s = execLoadStart m s := rfl
@[simp] theorem exec_loadRsp (m : LoadMsg) (code : Fin 256) (s : State) : exec (.loadRsp m code) s = execLoadRsp m code s := rfl
@[simp] theorem exec_commitInstant (s : State) : exec .commitInstant s = execCommitInstant s := rfl
@[simp] theorem exec_loadAnswerDeadline (s : State) : exec .loadAnswerDeadline s = execLoadAnswerDeadline s := rfl
@[simp] theorem exec_prStart (s : State) : exec .prStart s = execPrStart s := rfl
@[simp] theorem exec_prAbort (s : State) : exec .prAbort s = execPrAbort s := rfl
@[simp] theorem exec_prTimeout (s : State) : exec .prTimeout s = execPrTimeout s := rfl
@[simp] theorem exec_cellReloadComplete (island : Fin 9) (cell : Fin 31) (s : State) : exec (.cellReloadComplete island cell) s = execCellReloadComplete island cell s := rfl
@[simp] theorem exec_modeRequest (p : Packet) (s : State) : exec (.modeRequest p) s = execModeRequest p s := rfl
@[simp] theorem exec_modeReqSet (v : BitVec 12) (s : State) : exec (.modeReqSet v) s = execModeReqSet v s := rfl
@[simp] theorem exec_modeReqClr (v : BitVec 12) (s : State) : exec (.modeReqClr v) s = execModeReqClr v s := rfl
@[simp] theorem exec_modeConfirm (v : BitVec 12) (s : State) : exec (.modeConfirm v) s = execModeConfirm v s := rfl
@[simp] theorem exec_modeEvaluate (f : ModeFacts) (s : State) : exec (.modeEvaluate f) s = execModeEvaluate f s := rfl
@[simp] theorem exec_waitExpired (k : Fin 12) (s : State) : exec (.waitExpired k) s = execWaitExpired k s := rfl
@[simp] theorem exec_confirmExpired (k : Fin 12) (s : State) : exec (.confirmExpired k) s = execConfirmExpired k s := rfl
@[simp] theorem exec_supervisionLost (s : State) : exec .supervisionLost s = execSupervisionLost s := rfl
@[simp] theorem exec_jogLapse (ch : Fin 192) (s : State) : exec (.jogLapse ch) s = execJogLapse ch s := rfl
@[simp] theorem exec_stationary (s : State) : exec .stationary s = execStationary s := rfl
@[simp] theorem exec_stationaryLost (s : State) : exec .stationaryLost s = execStationaryLost s := rfl
@[simp] theorem exec_modeCalAccept (s : State) : exec .modeCalAccept s = execModeCalAccept s := rfl
@[simp] theorem exec_logicBatFail (flushMs : Nat) (s : State) : exec (.logicBatFail flushMs) s = execLogicBatFail flushMs s := rfl
@[simp] theorem exec_logicBatValid (s : State) : exec .logicBatValid s = execLogicBatValid s := rfl
@[simp] theorem exec_pfAbort (s : State) : exec .pfAbort s = execPfAbort s := rfl
@[simp] theorem exec_pfCommit (flushMs lost dead : Nat) (exhausted : Bool) (s : State) : exec (.pfCommit flushMs lost dead exhausted) s = execPfCommit flushMs lost dead exhausted s := rfl
@[simp] theorem exec_backupExit (s : State) : exec .backupExit s = execBackupExit s := rfl
@[simp] theorem exec_moduleStart (ign : Bool) (startUs fullUs : Nat) (s : State) : exec (.moduleStart ign startUs fullUs) s = execModuleStart ign startUs fullUs s := rfl
@[simp] theorem exec_ignFall (s : State) : exec .ignFall s = execIgnFall s := rfl
@[simp] theorem exec_ignRise (s : State) : exec .ignRise s = execIgnRise s := rfl
@[simp] theorem exec_pwrCtrlStandby (s : State) : exec .pwrCtrlStandby s = execPwrCtrlStandby s := rfl
@[simp] theorem exec_pwrCtrlParked (s : State) : exec .pwrCtrlParked s = execPwrCtrlParked s := rfl
@[simp] theorem exec_pwrCtrlExtend (s : State) : exec .pwrCtrlExtend s = execPwrCtrlExtend s := rfl
@[simp] theorem exec_ignWaitExpired (s : State) : exec .ignWaitExpired s = execIgnWaitExpired s := rfl
@[simp] theorem exec_runonExpired (flush : Option (Fin 61)) (dead : Nat) (s : State) : exec (.runonExpired flush dead) s = execRunonExpired flush dead s := rfl
@[simp] theorem exec_flushLimit (dead : Nat) (s : State) : exec (.flushLimit dead) s = execFlushLimit dead s := rfl
@[simp] theorem exec_wake (src : Fin 9) (startUs fullUs : Nat) (s : State) : exec (.wake src startUs fullUs) s = execWake src startUs fullUs s := rfl
@[simp] theorem exec_parkMaxExpired (s : State) : exec .parkMaxExpired s = execParkMaxExpired s := rfl
@[simp] theorem exec_parkBatLow (s : State) : exec .parkBatLow s = execParkBatLow s := rfl
@[simp] theorem exec_resetInAssert (low : Nat) (s : State) : exec (.resetInAssert low) s = execResetInAssert low s := rfl
@[simp] theorem exec_resetInRelease (ign : Bool) (startUs fullUs : Nat) (s : State) : exec (.resetInRelease ign startUs fullUs) s = execResetInRelease ign startUs fullUs s := rfl
@[simp] theorem exec_supRstModule (key : BitVec 16) (s : State) : exec (.supRstModule key) s = execSupRstModule key s := rfl
@[simp] theorem exec_supRstIsland (key : BitVec 16) (s : State) : exec (.supRstIsland key) s = execSupRstIsland key s := rfl
@[simp] theorem exec_supRstCell (key : BitVec 16) (s : State) : exec (.supRstCell key) s = execSupRstCell key s := rfl
@[simp] theorem exec_islandWatchdog (k : Fin 8) (s : State) : exec (.islandWatchdog k) s = execIslandWatchdog k s := rfl
@[simp] theorem exec_island0Watchdog (s : State) : exec .island0Watchdog s = execIsland0Watchdog s := rfl
@[simp] theorem exec_railMonitor (island : Fin 9) (s : State) : exec (.railMonitor island) s = execRailMonitor island s := rfl
@[simp] theorem exec_cellFaultReset (island : Fin 8) (cell : Fin 31) (s : State) : exec (.cellFaultReset island cell) s = execCellFaultReset island cell s := rfl
@[simp] theorem exec_reserveExhausted (s : State) : exec .reserveExhausted s = execReserveExhausted s := rfl
@[simp] theorem exec_fieldSetpoint (ch : Fin 192) (p : Packet) (s : State) : exec (.fieldSetpoint ch p) s = execFieldSetpoint ch p s := rfl
@[simp] theorem exec_hardShortTrip (ch : Fin 192) (both : Bool) (more : MorePaths) (s : State) : exec (.hardShortTrip ch both more) s = execHardShortTrip ch both more s := rfl
@[simp] theorem exec_limitTimeExpired (ch : Fin 192) (both : Bool) (more : MorePaths) (s : State) : exec (.limitTimeExpired ch both more) s = execLimitTimeExpired ch both more s := rfl
@[simp] theorem exec_geyserClose (ch : Fin 192) (cur : Nat) (s : State) : exec (.geyserClose ch cur) s = execGeyserClose ch cur s := rfl
@[simp] theorem exec_softEvent (ch : Fin 192) (cur : Nat) (heat : Bool) (s : State) : exec (.softEvent ch cur heat) s = execSoftEvent ch cur heat s := rfl
@[simp] theorem exec_blankEnd (ch : Fin 192) (cur : Nat) (s : State) : exec (.blankEnd ch cur) s = execBlankEnd ch cur s := rfl
@[simp] theorem exec_overTemp (ch : Fin 192) (s : State) : exec (.overTemp ch) s = execOverTemp ch s := rfl
@[simp] theorem exec_overTempResume (ch : Fin 192) (s : State) : exec (.overTempResume ch) s = execOverTempResume ch s := rfl
@[simp] theorem exec_shedEval (means : List Nat) (s : State) : exec (.shedEval means) s = execShedEval means s := rfl
@[simp] theorem exec_shedEscalate (sc : ShedScope) (s : State) : exec (.shedEscalate sc) s = execShedEscalate sc s := rfl
@[simp] theorem exec_commandTimeout (ch : Fin 192) (s : State) : exec (.commandTimeout ch) s = execCommandTimeout ch s := rfl
@[simp] theorem exec_clrLim (ch : Fin 192) (s : State) : exec (.clrLim ch) s = execClrLim ch s := rfl
@[simp] theorem exec_clrHard (ch : Fin 192) (s : State) : exec (.clrHard ch) s = execClrHard ch s := rfl
@[simp] theorem exec_clrShed (ch : Fin 192) (s : State) : exec (.clrShed ch) s = execClrShed ch s := rfl
@[simp] theorem exec_fcClrCnt (ch : Fin 192) (s : State) : exec (.fcClrCnt ch) s = execFcClrCnt ch s := rfl
@[simp] theorem exec_cellStop (c : Fin 24) (s : State) : exec (.cellStop c) s = execCellStop c s := rfl
@[simp] theorem exec_cellStart (c : Fin 24) (s : State) : exec (.cellStart c) s = execCellStart c s := rfl
@[simp] theorem exec_studUv (st : Fin 8) (s : State) : exec (.studUv st) s = execStudUv st s := rfl
@[simp] theorem exec_studRecover (st : Fin 8) (s : State) : exec (.studRecover st) s = execStudRecover st s := rfl
@[simp] theorem exec_groundLoss (s : State) : exec .groundLoss s = execGroundLoss s := rfl
@[simp] theorem exec_reverseVoltage (st : Option (Fin 8)) (s : State) : exec (.reverseVoltage st) s = execReverseVoltage st s := rfl
@[simp] theorem exec_loadDump (mv : Nat) (s : State) : exec (.loadDump mv) s = execLoadDump mv s := rfl
@[simp] theorem exec_measInterval (ch : Fin 192) (mean peak gmean gpeak : Int) (mv : Nat) (ovr : Bool) (s : State) : exec (.measInterval ch mean peak gmean gpeak mv ovr) s = execMeasInterval ch mean peak gmean gpeak mv ovr s := rfl
@[simp] theorem exec_fcMeasRead (ch : Fin 192) (s : State) : exec (.fcMeasRead ch) s = execFcMeasRead ch s := rfl
@[simp] theorem exec_pwmBoundary (ch : Fin 192) (mean peak : Int) (mv : Nat) (s : State) : exec (.pwmBoundary ch mean peak mv) s = execPwmBoundary ch mean peak mv s := rfl
@[simp] theorem exec_fcEchoRead (ch : Fin 192) (s : State) : exec (.fcEchoRead ch) s = execFcEchoRead ch s := rfl
@[simp] theorem exec_valveQueueStart (c : Fin 24) (s : State) : exec (.valveQueueStart c) s = execValveQueueStart c s := rfl
@[simp] theorem exec_boostWaitExpired (ch : Fin 192) (s : State) : exec (.boostWaitExpired ch) s = execBoostWaitExpired ch s := rfl
@[simp] theorem exec_valveBoostEnd (ch : Fin 192) (cur peak : Int) (quarterVolts : Nat) (s : State) : exec (.valveBoostEnd ch cur peak quarterVolts) s = execValveBoostEnd ch cur peak quarterVolts s := rfl
@[simp] theorem exec_valvePeakEnd (ch : Fin 192) (peak : Int) (s : State) : exec (.valvePeakEnd ch peak) s = execValvePeakEnd ch peak s := rfl
@[simp] theorem exec_releaseDecayEnd (ch : Fin 192) (s : State) : exec (.releaseDecayEnd ch) s = execReleaseDecayEnd ch s := rfl
@[simp] theorem exec_dutySlotEnd (ch : Fin 192) (squares : Nat) (s : State) : exec (.dutySlotEnd ch squares) s = execDutySlotEnd ch squares s := rfl
@[simp] theorem exec_clrPair (ch : Fin 192) (s : State) : exec (.clrPair ch) s = execClrPair ch s := rfl
@[simp] theorem exec_netPacket (ch : Fin 192) (p : Packet) (s : State) : exec (.netPacket ch p) s = execNetPacket ch p s := rfl
@[simp] theorem exec_netApply (ch : Fin 192) (clamp : Option Nat) (s : State) : exec (.netApply ch clamp) s = execNetApply ch clamp s := rfl
@[simp] theorem exec_netBitWrite (ch : Fin 192) (v : Bool) (clamp : Option Nat) (s : State) : exec (.netBitWrite ch v clamp) s = execNetBitWrite ch v clamp s := rfl
@[simp] theorem exec_forceWrite (ch : Fin 192) (v : Fin 4) (clamp : Option Nat) (s : State) : exec (.forceWrite ch v clamp) s = execForceWrite ch v clamp s := rfl
@[simp] theorem exec_freezeWrite (c : Fin 24) (v : Bool) (s : State) : exec (.freezeWrite c v) s = execFreezeWrite c v s := rfl
@[simp] theorem exec_netSilent (ch : Fin 192) (s : State) : exec (.netSilent ch) s = execNetSilent ch s := rfl
@[simp] theorem exec_dinTick (inp : DinInput) (pin : PinBand) (ov : Bool) (s : State) : exec (.dinTick inp pin ov) s = execDinTick inp pin ov s := rfl
@[simp] theorem exec_dinHeartbeat (ch : Fin 192) (s : State) : exec (.dinHeartbeat ch) s = execDinHeartbeat ch s := rfl
@[simp] theorem exec_ovClear (ch : Fin 192) (s : State) : exec (.ovClear ch) s = execOvClear ch s := rfl
@[simp] theorem exec_dcpSampleArrival (n : Fin 48) (second : Bool) (p : Packet) (mismatch : Bool) (s : State) : exec (.dcpSampleArrival n second p mismatch) s = execDcpSampleArrival n second p mismatch s := rfl
@[simp] theorem exec_dcpCheck (mismatch : Bool) (s : State) : exec (.dcpCheck mismatch) s = execDcpCheck mismatch s := rfl
@[simp] theorem exec_dcpOutputHeartbeat (n : Fin 48) (s : State) : exec (.dcpOutputHeartbeat n) s = execDcpOutputHeartbeat n s := rfl
@[simp] theorem exec_dcpConsumerTimeout (n : Fin 48) (s : State) : exec (.dcpConsumerTimeout n) s = execDcpConsumerTimeout n s := rfl
@[simp] theorem exec_dcpEnWrite (n : Fin 48) (en : Bool) (s : State) : exec (.dcpEnWrite n en) s = execDcpEnWrite n en s := rfl
@[simp] theorem exec_ainInterval (ch : Fin 192) (mean : Int) (p2p vref : Nat) (ovr : Bool) (s : State) : exec (.ainInterval ch mean p2p vref ovr) s = execAinInterval ch mean p2p vref ovr s := rfl
@[simp] theorem exec_shuntOpen (ch : Fin 192) (s : State) : exec (.shuntOpen ch) s = execShuntOpen ch s := rfl
@[simp] theorem exec_shuntClose (ch : Fin 192) (s : State) : exec (.shuntClose ch) s = execShuntClose ch s := rfl
@[simp] theorem exec_ainValRead (ch : Fin 192) (s : State) : exec (.ainValRead ch) s = execAinValRead ch s := rfl
@[simp] theorem exec_finInterval (ch : Fin 192) (ovr : Bool) (s : State) : exec (.finInterval ch ovr) s = execFinInterval ch ovr s := rfl
@[simp] theorem exec_finValRead (ch : Fin 192) (s : State) : exec (.finValRead ch) s = execFinValRead ch s := rfl
@[simp] theorem exec_supRegLimit (ch : Fin 192) (s : State) : exec (.supRegLimit ch) s = execSupRegLimit ch s := rfl
@[simp] theorem exec_supLow (ch : Fin 192) (low : Bool) (s : State) : exec (.supLow ch low) s = execSupLow ch low s := rfl
@[simp] theorem exec_tarnSync (p : Fin 16) (mv ma : Nat) (s : State) : exec (.tarnSync p mv ma) s = execTarnSync p mv ma s := rfl
@[simp] theorem exec_tarnPollAnswer (p : Fin 16) (far : Bool) (frame : List Nat) (took : Nat) (s : State) : exec (.tarnPollAnswer p far frame took) s = execTarnPollAnswer p far frame took s := rfl
@[simp] theorem exec_tarnPollTimeout (p : Fin 16) (far : Bool) (took : Nat) (s : State) : exec (.tarnPollTimeout p far took) s = execTarnPollTimeout p far took s := rfl
@[simp] theorem exec_tarnIdent (p : Fin 16) (frame : List Nat) (s : State) : exec (.tarnIdent p frame) s = execTarnIdent p frame s := rfl
@[simp] theorem exec_tarnEnumNoAnswer (p : Fin 16) (s : State) : exec (.tarnEnumNoAnswer p) s = execTarnEnumNoAnswer p s := rfl
@[simp] theorem exec_tarnAck (p : Fin 16) (frame : List Nat) (s : State) : exec (.tarnAck p frame) s = execTarnAck p frame s := rfl
@[simp] theorem exec_tarnHeadCfgWrite (p : Fin 16) (n : Fin 32) (v : BitVec 32) (s : State) : exec (.tarnHeadCfgWrite p n v) s = execTarnHeadCfgWrite p n v s := rfl
@[simp] theorem exec_tarnPowerFault (p : Fin 16) (s : State) : exec (.tarnPowerFault p) s = execTarnPowerFault p s := rfl
@[simp] theorem exec_tarnPwrRetry (p : Fin 16) (s : State) : exec (.tarnPwrRetry p) s = execTarnPwrRetry p s := rfl
@[simp] theorem exec_tarnOverload60w (s : State) : exec .tarnOverload60w s = execTarnOverload60w s := rfl
@[simp] theorem exec_tarnPoweringDone (p : Fin 16) (s : State) : exec (.tarnPoweringDone p) s = execTarnPoweringDone p s := rfl
@[simp] theorem exec_tarnStop (p : Fin 16) (s : State) : exec (.tarnStop p) s = execTarnStop p s := rfl
@[simp] theorem exec_tarnStart (p : Fin 16) (s : State) : exec (.tarnStart p) s = execTarnStart p s := rfl
@[simp] theorem exec_tarnReenum (p : Fin 16) (s : State) : exec (.tarnReenum p) s = execTarnReenum p s := rfl
@[simp] theorem exec_tarnPwrClr (p : Fin 16) (s : State) : exec (.tarnPwrClr p) s = execTarnPwrClr p s := rfl
@[simp] theorem exec_tarnClrCnt (p : Fin 16) (s : State) : exec (.tarnClrCnt p) s = execTarnClrCnt p s := rfl
@[simp] theorem exec_tarnSweepRead (p : Fin 16) (s : State) : exec (.tarnSweepRead p) s = execTarnSweepRead p s := rfl
@[simp] theorem exec_tarnFrameRead (p : Fin 16) (n : Fin 32) (s : State) : exec (.tarnFrameRead p n) s = execTarnFrameRead p n s := rfl
@[simp] theorem exec_groupFrameStart (g : Fin 4) (t : Nat) (s : State) : exec (.groupFrameStart g t) s = execGroupFrameStart g t s := rfl
@[simp] theorem exec_groupOverrun (g : Fin 4) (abandoned : Bool) (s : State) : exec (.groupOverrun g abandoned) s = execGroupOverrun g abandoned s := rfl
@[simp] theorem exec_graphEnable (word : BitVec 64) (s : State) : exec (.graphEnable word) s = execGraphEnable word s := rfl
@[simp] theorem exec_inPortPacket (p : Packet) (s : State) : exec (.inPortPacket p) s = execInPortPacket p s := rfl
@[simp] theorem exec_leStop (s : State) : exec .leStop s = execLeStop s := rfl
@[simp] theorem exec_leStart (s : State) : exec .leStart s = execLeStart s := rfl
@[simp] theorem exec_leClrCnt (s : State) : exec .leClrCnt s = execLeClrCnt s := rfl
@[simp] theorem exec_leStopped (s : State) : exec .leStopped s = execLeStopped s := rfl
@[simp] theorem exec_instanceWrite (w : LoopWord) (v : BitVec 32) (s : State) : exec (.instanceWrite w v) s = execInstanceWrite w v s := rfl
@[simp] theorem exec_leSigRead (inst : Fin 4096) (s : State) : exec (.leSigRead inst) s = execLeSigRead inst s := rfl
@[simp] theorem exec_solverCycle (pub : SolverPub) (s : State) : exec (.solverCycle pub) s = execSolverCycle pub s := rfl
@[simp] theorem exec_solverInputPacket (p : Packet) (s : State) : exec (.solverInputPacket p) s = execSolverInputPacket p s := rfl
@[simp] theorem exec_solverDeadline (s : State) : exec .solverDeadline s = execSolverDeadline s := rfl
@[simp] theorem exec_solverResult (s : State) : exec .solverResult s = execSolverResult s := rfl
@[simp] theorem exec_solverSkipSend (s : State) : exec .solverSkipSend s = execSolverSkipSend s := rfl
@[simp] theorem exec_solStop (s : State) : exec .solStop s = execSolStop s := rfl
@[simp] theorem exec_solStart (s : State) : exec .solStart s = execSolStart s := rfl
@[simp] theorem exec_solCold (s : State) : exec .solCold s = execSolCold s := rfl
@[simp] theorem exec_solClrCnt (s : State) : exec .solClrCnt s = execSolClrCnt s := rfl
@[simp] theorem exec_solResRead (s : State) : exec .solResRead s = execSolResRead s := rfl
@[simp] theorem exec_inertialSample (rates forces : List Int) (temp : Int) (saturated failed : Bool) (s : State) : exec (.inertialSample rates forces temp saturated failed) s = execInertialSample rates forces temp saturated failed s := rfl
@[simp] theorem exec_fusSample (p : Packet) (s : State) : exec (.fusSample p) s = execFusSample p s := rfl
@[simp] theorem exec_epochLimit (s : State) : exec .epochLimit s = execEpochLimit s := rfl
@[simp] theorem exec_fusDropout (inp : Fin 16) (s : State) : exec (.fusDropout inp) s = execFusDropout inp s := rfl
@[simp] theorem exec_inertialAbsent (s : State) : exec .inertialAbsent s = execInertialAbsent s := rfl
@[simp] theorem exec_fusForceMask (inp : Fin 16) (v : Bool) (s : State) : exec (.fusForceMask inp v) s = execFusForceMask inp v s := rfl
@[simp] theorem exec_fusStop (s : State) : exec .fusStop s = execFusStop s := rfl
@[simp] theorem exec_fusStart (s : State) : exec .fusStart s = execFusStart s := rfl
@[simp] theorem exec_fusReinit (s : State) : exec .fusReinit s = execFusReinit s := rfl
@[simp] theorem exec_fusClrCnt (s : State) : exec .fusClrCnt s = execFusClrCnt s := rfl
@[simp] theorem exec_fusStRead (s : State) : exec .fusStRead s = execFusStRead s := rfl
@[simp] theorem exec_antOpen (a : Fin 2) (ma : Nat) (s : State) : exec (.antOpen a ma) s = execAntOpen a ma s := rfl
@[simp] theorem exec_antShort (a : Fin 2) (s : State) : exec (.antShort a) s = execAntShort a s := rfl
@[simp] theorem exec_antRetry (a : Fin 2) (s : State) : exec (.antRetry a) s = execAntRetry a s := rfl
@[simp] theorem exec_gnssChannelAssign (n : Fin 384) (sig : Fin 17) (sv : Fin 256) (s : State) : exec (.gnssChannelAssign n sig sv) s = execGnssChannelAssign n sig sv s := rfl
@[simp] theorem exec_gnssDwellDone (n : Fin 384) (found : Bool) (s : State) : exec (.gnssDwellDone n found) s = execGnssDwellDone n found s := rfl
@[simp] theorem exec_gnssPullInLock (n : Fin 384) (cno : Nat) (s : State) : exec (.gnssPullInLock n cno) s = execGnssPullInLock n cno s := rfl
@[simp] theorem exec_gnssPullInTimeout (n : Fin 384) (s : State) : exec (.gnssPullInTimeout n) s = execGnssPullInTimeout n s := rfl
@[simp] theorem exec_gnssTrackLoss (n : Fin 384) (s : State) : exec (.gnssTrackLoss n) s = execGnssTrackLoss n s := rfl
@[simp] theorem exec_gnssLostTimeout (n : Fin 384) (s : State) : exec (.gnssLostTimeout n) s = execGnssLostTimeout n s := rfl
@[simp] theorem exec_gnssReschedule (a : Fin 2) (sig : Fin 17) (sv : Fin 256) (s : State) : exec (.gnssReschedule a sig sv) s = execGnssReschedule a sig sv s := rfl
@[simp] theorem exec_gnssChannelFree (n : Fin 384) (s : State) : exec (.gnssChannelFree n) s = execGnssChannelFree n s := rfl
@[simp] theorem exec_gnssMeasEpoch (meas : List GnsMeas) (s : State) : exec (.gnssMeasEpoch meas) s = execGnssMeasEpoch meas s := rfl
@[simp] theorem exec_gnssNavUnit (n : Fin 384) (check : Fin 4) (kind nbits : Nat) (bits : List Nat) (age : Nat) (eph alm leap : Option Nat) (s : State) : exec (.gnssNavUnit n check kind nbits bits age eph alm leap) s = execGnssNavUnit n check kind nbits bits age eph alm leap s := rfl
@[simp] theorem exec_gnssPvtEpoch (o : GnsSolution) (s : State) : exec (.gnssPvtEpoch o) s = execGnssPvtEpoch o s := rfl
@[simp] theorem exec_rtcmFrame (second good : Bool) (msg station : Nat) (moved : Bool) (eph : Option (Nat × Nat)) (s : State) : exec (.rtcmFrame second good msg station moved eph) s = execRtcmFrame second good msg station moved eph s := rfl
@[simp] theorem exec_rtcmAgeExpired (s : State) : exec .rtcmAgeExpired s = execRtcmAgeExpired s := rfl
@[simp] theorem exec_gnssJam (a : Fin 2) (band : Fin 3) (db : Nat) (s : State) : exec (.gnssJam a band db) s = execGnssJam a band db s := rfl
@[simp] theorem exec_gnssJamClear (a : Fin 2) (band : Fin 3) (db : Nat) (s : State) : exec (.gnssJamClear a band db) s = execGnssJamClear a band db s := rfl
@[simp] theorem exec_gnssParkRefresh (s : State) : exec .gnssParkRefresh s = execGnssParkRefresh s := rfl
@[simp] theorem exec_gnssRefreshEnd (s : State) : exec .gnssRefreshEnd s = execGnssRefreshEnd s := rfl
@[simp] theorem exec_gnssHotstartWrite (s : State) : exec .gnssHotstartWrite s = execGnssHotstartWrite s := rfl
@[simp] theorem exec_gnsStop (s : State) : exec .gnsStop s = execGnsStop s := rfl
@[simp] theorem exec_gnsStart (s : State) : exec .gnsStart s = execGnsStart s := rfl
@[simp] theorem exec_gnsCold (s : State) : exec .gnsCold s = execGnsCold s := rfl
@[simp] theorem exec_gnsClrCnt (s : State) : exec .gnsClrCnt s = execGnsClrCnt s := rfl
@[simp] theorem exec_gnsPvtRead (s : State) : exec .gnsPvtRead s = execGnsPvtRead s := rfl
@[simp] theorem exec_gnsHdgRead (s : State) : exec .gnsHdgRead s = execGnsHdgRead s := rfl
@[simp] theorem exec_ppsSecond (s : State) : exec .ppsSecond s = execPpsSecond s := rfl
@[simp] theorem exec_ppsReport (quant copyOfs : Int) (s : State) : exec (.ppsReport quant copyOfs) s = execPpsReport quant copyOfs s := rfl
@[simp] theorem exec_ppsaQerrRead (s : State) : exec .ppsaQerrRead s = execPpsaQerrRead s := rfl
@[simp] theorem exec_ppsbDelayWrite (delay : Bool) (v : BitVec 32) (s : State) : exec (.ppsbDelayWrite delay v) s = execPpsbDelayWrite delay v s := rfl
@[simp] theorem exec_pathCommit (buf : Fin 4) (s : State) : exec (.pathCommit buf) s = execPathCommit buf s := rfl
@[simp] theorem exec_pathInvalidate (buf : Fin 4) (s : State) : exec (.pathInvalidate buf) s = execPathInvalidate buf s := rfl
@[simp] theorem exec_strRefind (s : State) : exec .strRefind s = execStrRefind s := rfl
@[simp] theorem exec_strClrCnt (s : State) : exec .strClrCnt s = execStrClrCnt s := rfl
@[simp] theorem exec_engWaitExpired (s : State) : exec .engWaitExpired s = execEngWaitExpired s := rfl
@[simp] theorem exec_graceExpired (s : State) : exec .graceExpired s = execGraceExpired s := rfl
@[simp] theorem exec_strErrRead (s : State) : exec .strErrRead s = execStrErrRead s := rfl
@[simp] theorem exec_convoyPartnerEpoch (epoch peer : Nat) (sol : ConvoySol) (s : State) : exec (.convoyPartnerEpoch epoch peer sol) s = execConvoyPartnerEpoch epoch peer sol s := rfl
@[simp] theorem exec_convoyWaitExpired (sol : ConvoySol) (s : State) : exec (.convoyWaitExpired sol) s = execConvoyWaitExpired sol s := rfl
@[simp] theorem exec_convoyLoss (s : State) : exec .convoyLoss s = execConvoyLoss s := rfl
@[simp] theorem exec_cvyResetAmb (s : State) : exec .cvyResetAmb s = execCvyResetAmb s := rfl
@[simp] theorem exec_cvyClrCnt (s : State) : exec .cvyClrCnt s = execCvyClrCnt s := rfl
@[simp] theorem exec_strCvyRead (s : State) : exec .strCvyRead s = execStrCvyRead s := rfl
@[simp] theorem exec_yieldStep (pkts : List (Fin 16 × Packet)) (s : State) : exec (.yieldStep pkts) s = execYieldStep pkts s := rfl
@[simp] theorem exec_yieldAck (cseq : BitVec 32) (s : State) : exec (.yieldAck cseq) s = execYieldAck cseq s := rfl
@[simp] theorem exec_contributionPacket (p : Packet) (s : State) : exec (.contributionPacket p) s = execContributionPacket p s := rfl
@[simp] theorem exec_tileFlush (s : State) : exec .tileFlush s = execTileFlush s := rfl
@[simp] theorem exec_tileReadbackDone (tx ty : Int) (s : State) : exec (.tileReadbackDone tx ty) s = execTileReadbackDone tx ty s := rfl
@[simp] theorem exec_tileWait (tx ty : Int) (s : State) : exec (.tileWait tx ty) s = execTileWait tx ty s := rfl
@[simp] theorem exec_ffRatio (s : State) : exec .ffRatio s = execFfRatio s := rfl
@[simp] theorem exec_deltaSend (s : State) : exec .deltaSend s = execDeltaSend s := rfl
@[simp] theorem exec_fleetDelta (sender : Nat) (p : Packet) (s : State) : exec (.fleetDelta sender p) s = execFleetDelta sender p s := rfl
@[simp] theorem exec_drainExpired (s : State) : exec .drainExpired s = execDrainExpired s := rfl
@[simp] theorem exec_yldStop (s : State) : exec .yldStop s = execYldStop s := rfl
@[simp] theorem exec_yldStart (s : State) : exec .yldStart s = execYldStart s := rfl
@[simp] theorem exec_yldClrCnt (s : State) : exec .yldClrCnt s = execYldClrCnt s := rfl
@[simp] theorem exec_yldNewPass (s : State) : exec .yldNewPass s = execYldNewPass s := rfl
@[simp] theorem exec_yldFlush (s : State) : exec .yldFlush s = execYldFlush s := rfl
@[simp] theorem exec_yldTStop (s : State) : exec .yldTStop s = execYldTStop s := rfl
@[simp] theorem exec_yldTStart (s : State) : exec .yldTStart s = execYldTStart s := rfl
@[simp] theorem exec_yldTClrCnt (s : State) : exec .yldTClrCnt s = execYldTClrCnt s := rfl
@[simp] theorem exec_yldTFlush (s : State) : exec .yldTFlush s = execYldTFlush s := rfl
@[simp] theorem exec_tileLookup (index : Fin 262144) (layer : Fin 16) (s : State) : exec (.tileLookup index layer) s = execTileLookup index layer s := rfl
@[simp] theorem exec_yldTmRead (s : State) : exec .yldTmRead s = execYldTmRead s := rfl
@[simp] theorem exec_yldLedgerRead (s : State) : exec .yldLedgerRead s = execYldLedgerRead s := rfl
@[simp] theorem exec_yldFfRead (s : State) : exec .yldFfRead s = execYldFfRead s := rfl
@[simp] theorem exec_yldQwRead (s : State) : exec .yldQwRead s = execYldQwRead s := rfl
@[simp] theorem exec_tierPacket (p : Packet) (s : State) : exec (.tierPacket p) s = execTierPacket p s := rfl
@[simp] theorem exec_blockClose (tier : Fin 4) (s : State) : exec (.blockClose tier) s = execBlockClose tier s := rfl
@[simp] theorem exec_driveCompletion (d : Fin 4) (q : Fin 8) (entry : Fin 1024) (ok : Bool) (s : State) : exec (.driveCompletion d q entry ok) s = execDriveCompletion d q entry ok s := rfl
@[simp] theorem exec_driveStall (d : Fin 4) (q : Fin 8) (entry : Fin 1024) (s : State) : exec (.driveStall d q entry) s = execDriveStall d q entry s := rfl
@[simp] theorem exec_blockDiscard (s : State) : exec .blockDiscard s = execBlockDiscard s := rfl
@[simp] theorem exec_shedEvaluate (s : State) : exec .shedEvaluate s = execShedEvaluate s := rfl
@[simp] theorem exec_driveCmdTimeout (d : Fin 4) (q : Fin 8) (entry : Fin 1024) (s : State) : exec (.driveCmdTimeout d q entry) s = execDriveCmdTimeout d q entry s := rfl
@[simp] theorem exec_driveLinkDown (d : Fin 4) (s : State) : exec (.driveLinkDown d) s = execDriveLinkDown d s := rfl
@[simp] theorem exec_driveReady (d : Fin 4) (gen : Fin 4) (gb entries : Nat) (own : Bool) (s : State) : exec (.driveReady d gen gb entries own) s = execDriveReady d gen gb entries own s := rfl
@[simp] theorem exec_mountDone (s : State) : exec .mountDone s = execMountDone s := rfl
@[simp] theorem exec_mountTimeout (s : State) : exec .mountTimeout s = execMountTimeout s := rfl
@[simp] theorem exec_readBlock (p : Packet) (s : State) : exec (.readBlock p) s = execReadBlock p s := rfl
@[simp] theorem exec_find (p : Packet) (s : State) : exec (.find p) s = execFind p s := rfl
@[simp] theorem exec_append (p : Packet) (s : State) : exec (.append p) s = execAppend p s := rfl
@[simp] theorem exec_tilePut (p : Packet) (s : State) : exec (.tilePut p) s = execTilePut p s := rfl
@[simp] theorem exec_tileGet (p : Packet) (s : State) : exec (.tileGet p) s = execTileGet p s := rfl
@[simp] theorem exec_replayOpen (s : State) : exec .replayOpen s = execReplayOpen s := rfl
@[simp] theorem exec_replayReady (s : State) : exec .replayReady s = execReplayReady s := rfl
@[simp] theorem exec_replayClose (s : State) : exec .replayClose s = execReplayClose s := rfl
@[simp] theorem exec_replayEmit (wait : Nat) (s : State) : exec (.replayEmit wait) s = execReplayEmit wait s := rfl
@[simp] theorem exec_replayEnd (s : State) : exec .replayEnd s = execReplayEnd s := rfl
@[simp] theorem exec_sstStop (s : State) : exec .sstStop s = execSstStop s := rfl
@[simp] theorem exec_sstStart (s : State) : exec .sstStart s = execSstStart s := rfl
@[simp] theorem exec_sstRescan (s : State) : exec .sstRescan s = execSstRescan s := rfl
@[simp] theorem exec_sstFlush (s : State) : exec .sstFlush s = execSstFlush s := rfl
@[simp] theorem exec_sstClrCnt (s : State) : exec .sstClrCnt s = execSstClrCnt s := rfl
@[simp] theorem exec_sstFmt (key : BitVec 16) (mask : Fin 16) (s : State) : exec (.sstFmt key mask) s = execSstFmt key mask s := rfl
@[simp] theorem exec_canFrameRx (n : Fin 24) (f : CanFrame) (sof : Nat) (s : State) : exec (.canFrameRx n f sof) s = execCanFrameRx n f sof s := rfl
@[simp] theorem exec_canRxDeliver (n : Fin 24) (s : State) : exec (.canRxDeliver n) s = execCanRxDeliver n s := rfl
@[simp] theorem exec_canReference (n : Fin 24) (f : CanFrame) (sof : Nat) (s : State) : exec (.canReference n f sof) s = execCanReference n f sof s := rfl
@[simp] theorem exec_canTxSuccess (n : Fin 24) (sof : Nat) (s : State) : exec (.canTxSuccess n sof) s = execCanTxSuccess n sof s := rfl
@[simp] theorem exec_canTxError (n : Fin 24) (sof : Nat) (lec : Fin 7) (dataPhase quiet : Bool) (s : State) : exec (.canTxError n sof lec dataPhase quiet) s = execCanTxError n sof lec dataPhase quiet s := rfl
@[simp] theorem exec_canRxError (n : Fin 24) (lec : Fin 7) (dataPhase dominant : Bool) (s : State) : exec (.canRxError n lec dataPhase dominant) s = execCanRxError n lec dataPhase dominant s := rfl
@[simp] theorem exec_canObjectPacket (n : Fin 24) (o : Fin 32) (p : Packet) (onWire : Bool) (s : State) : exec (.canObjectPacket n o p onWire) s = execCanObjectPacket n o p onWire s := rfl
@[simp] theorem exec_canQueuePacket (n : Fin 24) (p : Packet) (s : State) : exec (.canQueuePacket n p) s = execCanQueuePacket n p s := rfl
@[simp] theorem exec_canObjectPeriod (n : Fin 24) (o : Fin 32) (s : State) : exec (.canObjectPeriod n o) s = execCanObjectPeriod n o s := rfl
@[simp] theorem exec_canBasicCycle (n : Fin 24) (s : State) : exec (.canBasicCycle n) s = execCanBasicCycle n s := rfl
@[simp] theorem exec_canRefLate (n : Fin 24) (s : State) : exec (.canRefLate n) s = execCanRefLate n s := rfl
@[simp] theorem exec_canRefMiss (n : Fin 24) (s : State) : exec (.canRefMiss n) s = execCanRefMiss n s := rfl
@[simp] theorem exec_canFallback (n : Fin 24) (s : State) : exec (.canFallback n) s = execCanFallback n s := rfl
@[simp] theorem exec_canWindowStart (n : Fin 24) (w : Fin 32) (s : State) : exec (.canWindowStart n w) s = execCanWindowStart n w s := rfl
@[simp] theorem exec_canRecoverDelay (n : Fin 24) (s : State) : exec (.canRecoverDelay n) s = execCanRecoverDelay n s := rfl
@[simp] theorem exec_canRecovered (n : Fin 24) (s : State) : exec (.canRecovered n) s = execCanRecovered n s := rfl
@[simp] theorem exec_canStuck (n : Fin 24) (s : State) : exec (.canStuck n) s = execCanStuck n s := rfl
@[simp] theorem exec_mbStop (n : Fin 24) (s : State) : exec (.mbStop n) s = execMbStop n s := rfl
@[simp] theorem exec_mbStart (n : Fin 24) (s : State) : exec (.mbStart n) s = execMbStart n s := rfl
@[simp] theorem exec_mbIsolate (n : Fin 24) (s : State) : exec (.mbIsolate n) s = execMbIsolate n s := rfl
@[simp] theorem exec_mbRejoin (n : Fin 24) (s : State) : exec (.mbRejoin n) s = execMbRejoin n s := rfl
@[simp] theorem exec_mbFlushQ (n : Fin 24) (s : State) : exec (.mbFlushQ n) s = execMbFlushQ n s := rfl
@[simp] theorem exec_mbClrCnt (n : Fin 24) (s : State) : exec (.mbClrCnt n) s = execMbClrCnt n s := rfl
@[simp] theorem exec_ethFrameRx (p : Fin 16) (f : EthFrame) (fcsBad : Bool) (s : State) : exec (.ethFrameRx p f fcsBad) s = execEthFrameRx p f fcsBad s := rfl
@[simp] theorem exec_ethHostTx (f : EthFrame) (s : State) : exec (.ethHostTx f) s = execEthHostTx f s := rfl
@[simp] theorem exec_ethHostRxDeliver (s : State) : exec .ethHostRxDeliver s = execEthHostRxDeliver s := rfl
@[simp] theorem exec_ethLinkChange (p : Fin 16) (up : Bool) (sqi : Fin 8) (s : State) : exec (.ethLinkChange p up sqi) s = execEthLinkChange p up sqi s := rfl
@[simp] theorem exec_ethMacAge (s : State) : exec .ethMacAge s = execEthMacAge s := rfl
@[simp] theorem exec_ethGateEntry (p : Fin 16) (e : Fin 64) (s : State) : exec (.ethGateEntry p e) s = execEthGateEntry p e s := rfl
@[simp] theorem exec_gptpSync (s : State) : exec .gptpSync s = execGptpSync s := rfl
@[simp] theorem exec_gptpPdelay (s : State) : exec .gptpPdelay s = execGptpPdelay s := rfl
@[simp] theorem exec_gptpAnnounce (s : State) : exec .gptpAnnounce s = execGptpAnnounce s := rfl
@[simp] theorem exec_gptpMsgRx (p : Fin 16) (m : GptpMsg) (s : State) : exec (.gptpMsgRx p m) s = execGptpMsgRx p m s := rfl
@[simp] theorem exec_tqFrame (s : State) : exec .tqFrame s = execTqFrame s := rfl
@[simp] theorem exec_evtEdgeStamp (x : Fin 2) (pin : PinBand) (s : State) : exec (.evtEdgeStamp x pin) s = execEvtEdgeStamp x pin s := rfl
@[simp] theorem exec_ethEvtcapRead (x : Fin 2) (s : State) : exec (.ethEvtcapRead x) s = execEthEvtcapRead x s := rfl
@[simp] theorem exec_ethClrCnt (s : State) : exec .ethClrCnt s = execEthClrCnt s := rfl
@[simp] theorem exec_ethFlushMac (s : State) : exec .ethFlushMac s = execEthFlushMac s := rfl
@[simp] theorem exec_ehrRouterAdvert (addr : BitVec 128) (s : State) : exec (.ehrRouterAdvert addr) s = execEhrRouterAdvert addr s := rfl
@[simp] theorem exec_ehrPeerEnable (n : Fin 16) (en : Bool) (s : State) : exec (.ehrPeerEnable n en) s = execEhrPeerEnable n en s := rfl
@[simp] theorem exec_ehrClientHello (n : Fin 16) (s : State) : exec (.ehrClientHello n) s = execEhrClientHello n s := rfl
@[simp] theorem exec_ehrHandshakeDone (n : Fin 16) (chain : List FleetCert) (transcript verify : List Nat) (s : State) : exec (.ehrHandshakeDone n chain transcript verify) s = execEhrHandshakeDone n chain transcript verify s := rfl
@[simp] theorem exec_ehrHandshakeTimeout (n : Fin 16) (s : State) : exec (.ehrHandshakeTimeout n) s = execEhrHandshakeTimeout n s := rfl
@[simp] theorem exec_ehrFlightRetransmit (n : Fin 16) (s : State) : exec (.ehrFlightRetransmit n) s = execEhrFlightRetransmit n s := rfl
@[simp] theorem exec_ehrBackoff (n : Fin 16) (s : State) : exec (.ehrBackoff n) s = execEhrBackoff n s := rfl
@[simp] theorem exec_ehrSessionTimeout (n : Fin 16) (s : State) : exec (.ehrSessionTimeout n) s = execEhrSessionTimeout n s := rfl
@[simp] theorem exec_ehrHeartbeat (s : State) : exec .ehrHeartbeat s = execEhrHeartbeat s := rfl
@[simp] theorem exec_ehrKeyUpdate (n : Fin 16) (s : State) : exec (.ehrKeyUpdate n) s = execEhrKeyUpdate n s := rfl
@[simp] theorem exec_dtlsRecordRx (n : Fin 16) (num : Nat) (frame : List Nat) (close : Bool) (s : State) : exec (.dtlsRecordRx n num frame close) s = execDtlsRecordRx n num frame close s := rfl
@[simp] theorem exec_ehrReasmTimeout (n : Fin 16) (s : State) : exec (.ehrReasmTimeout n) s = execEhrReasmTimeout n s := rfl
@[simp] theorem exec_ehrPayloadTx (cls : Fin 8) (p : Packet) (s : State) : exec (.ehrPayloadTx cls p) s = execEhrPayloadTx cls p s := rfl
@[simp] theorem exec_ehrRetransmit (n : Fin 16) (s : State) : exec (.ehrRetransmit n) s = execEhrRetransmit n s := rfl
@[simp] theorem exec_ehrStop (s : State) : exec .ehrStop s = execEhrStop s := rfl
@[simp] theorem exec_ehrStart (s : State) : exec .ehrStart s = execEhrStart s := rfl
@[simp] theorem exec_ehrClrCnt (s : State) : exec .ehrClrCnt s = execEhrClrCnt s := rfl
@[simp] theorem exec_dspVblank (n : Fin 2) (late : List (Nat × Nat)) (s : State) : exec (.dspVblank n late) s = execDspVblank n late s := rfl
@[simp] theorem exec_dspEnWrite (n : Fin 2) (en : Bool) (s : State) : exec (.dspEnWrite n en) s = execDspEnWrite n en s := rfl
@[simp] theorem exec_dspTOn1 (n : Fin 2) (s : State) : exec (.dspTOn1 n) s = execDspTOn1 n s := rfl
@[simp] theorem exec_dspTOn2 (n : Fin 2) (s : State) : exec (.dspTOn2 n) s = execDspTOn2 n s := rfl
@[simp] theorem exec_dspTOff1 (n : Fin 2) (s : State) : exec (.dspTOff1 n) s = execDspTOff1 n s := rfl
@[simp] theorem exec_dspTOff2 (n : Fin 2) (s : State) : exec (.dspTOff2 n) s = execDspTOff2 n s := rfl
@[simp] theorem exec_dspTRest (n : Fin 2) (s : State) : exec (.dspTRest n) s = execDspTRest n s := rfl
@[simp] theorem exec_dspTempUpdate (n : Fin 2) (ohms : Nat) (s : State) : exec (.dspTempUpdate n ohms) s = execDspTempUpdate n ohms s := rfl
@[simp] theorem exec_dspClrCnt (s : State) : exec .dspClrCnt s = execDspClrCnt s := rfl
@[simp] theorem exec_rtcSecond (s : State) : exec .rtcSecond s = execRtcSecond s := rfl
@[simp] theorem exec_bkpRtcSet (s : State) : exec .bkpRtcSet s = execBkpRtcSet s := rfl
@[simp] theorem exec_rtcAutoSet (s : State) : exec .rtcAutoSet s = execRtcAutoSet s := rfl
@[simp] theorem exec_rtcCalWindow (rate : Int) (s : State) : exec (.rtcCalWindow rate) s = execRtcCalWindow rate s := rfl
@[simp] theorem exec_bkpSwitchVbak (rail vbak : Nat) (s : State) : exec (.bkpSwitchVbak rail vbak) s = execBkpSwitchVbak rail vbak s := rfl
@[simp] theorem exec_bkpSwitchRail (rail vbak : Nat) (s : State) : exec (.bkpSwitchRail rail vbak) s = execBkpSwitchRail rail vbak s := rfl
@[simp] theorem exec_bkpPor (s : State) : exec .bkpPor s = execBkpPor s := rfl
@[simp] theorem exec_bkpRtcRead (s : State) : exec .bkpRtcRead s = execBkpRtcRead s := rfl
@[simp] theorem exec_pwrreqSet (s : State) : exec .pwrreqSet s = execPwrreqSet s := rfl
@[simp] theorem exec_pwrreqClr (s : State) : exec .pwrreqClr s = execPwrreqClr s := rfl
@[simp] theorem exec_pwrreqPulseEnd (s : State) : exec .pwrreqPulseEnd s = execPwrreqPulseEnd s := rfl
@[simp] theorem exec_pwrreqMax (s : State) : exec .pwrreqMax s = execPwrreqMax s := rfl
@[simp] theorem exec_toolPresent (s : State) : exec .toolPresent s = execToolPresent s := rfl
@[simp] theorem exec_toolReleased (s : State) : exec .toolReleased s = execToolReleased s := rfl
@[simp] theorem exec_helloMsg (m : WhdMsg) (s : State) : exec (.helloMsg m) s = execHello m s := rfl
@[simp] theorem exec_authMsg (m : WhdMsg) (c : Credential) (s : State) : exec (.authMsg m c) s = execAuth m c s := rfl
@[simp] theorem exec_authAnswer (s : State) : exec .authAnswer s = execAuthAnswer s := rfl
@[simp] theorem exec_closeMsg (m : WhdMsg) (s : State) : exec (.closeMsg m) s = execClose m s := rfl
@[simp] theorem exec_stageBegin (m : WhdMsg) (length digest : Nat) (s : State) : exec (.stageBegin m length digest) s = execStageBegin m length digest s := rfl
@[simp] theorem exec_stageData (m : WhdMsg) (offset : Nat) (data : List Nat) (s : State) : exec (.stageData m offset data) s = execStageData m offset data s := rfl
@[simp] theorem exec_stageEnd (m : WhdMsg) (s : State) : exec (.stageEnd m) s = execStageEnd m s := rfl
@[simp] theorem exec_stageVerifyDone (g : Image) (s : State) : exec (.stageVerifyDone g) s = execStageVerifyDone g s := rfl
@[simp] theorem exec_stageAbort (m : WhdMsg) (s : State) : exec (.stageAbort m) s = execStageAbort m s := rfl
@[simp] theorem exec_discardMsg (m : WhdMsg) (s : State) : exec (.discardMsg m) s = execDiscard m s := rfl
@[simp] theorem exec_scheduleMsg (m : WhdMsg) (id instant window : Nat) (s : State) : exec (.scheduleMsg m id instant window) s = execSchedule m id instant window s := rfl
@[simp] theorem exec_cancelMsg (m : WhdMsg) (id : Nat) (s : State) : exec (.cancelMsg m id) s = execCancel m id s := rfl
@[simp] theorem exec_statusMsg (m : WhdMsg) (s : State) : exec (.statusMsg m) s = execStatus m s := rfl
@[simp] theorem exec_readMsg (m : WhdMsg) (addr : BitVec 32) (count : Nat) (failing : List Nat) (s : State) : exec (.readMsg m addr count failing) s = execRead m addr count failing s := rfl
@[simp] theorem exec_writeMsg (m : WhdMsg) (addr : BitVec 32) (words : List (BitVec 32)) (failing : List Nat) (s : State) : exec (.writeMsg m addr words failing) s = execWrite m addr words failing s := rfl
@[simp] theorem exec_modeMsg (m : WhdMsg) (set clr conf : BitVec 12) (s : State) : exec (.modeMsg m set clr conf) s = execMode m set clr conf s := rfl
@[simp] theorem exec_jogMsg (m : WhdMsg) (ch : Fin 192) (v : Int) (cmd : Fin 256) (inLoop : Bool) (s : State) : exec (.jogMsg m ch v cmd inLoop) s = execJog m ch v cmd inLoop s := rfl
@[simp] theorem exec_revokeMsg (m : WhdMsg) (o : RevokeOrder) (s : State) : exec (.revokeMsg m o) s = execRevoke m o s := rfl
@[simp] theorem exec_authTimeout (path : Fin 2) (s : State) : exec (.authTimeout path) s = execAuthTimeout path s := rfl
@[simp] theorem exec_whdIdle (path : Fin 2) (s : State) : exec (.whdIdle path) s = execWhdIdle path s := rfl
@[simp] theorem exec_whdLockoutEnd (path : Fin 2) (s : State) : exec (.whdLockoutEnd path) s = execWhdLockoutEnd path s := rfl
@[simp] theorem exec_whdCtrlClose (s : State) : exec .whdCtrlClose s = execWhdCtrlClose s := rfl
@[simp] theorem exec_relayOpen (n : Fin 16) (id : BitVec 32) (s : State) : exec (.relayOpen n id) s = execRelayOpen n id s := rfl
@[simp] theorem exec_relayData (n : Fin 16) (id : BitVec 32) (offset bytes : Nat) (s : State) : exec (.relayData n id offset bytes) s = execRelayData n id offset bytes s := rfl
@[simp] theorem exec_relayClose (n : Fin 16) (id : BitVec 32) (s : State) : exec (.relayClose n id) s = execRelayClose n id s := rfl
@[simp] theorem exec_fleetAnnounce (x : FleetSched) (s : State) : exec (.fleetAnnounce x) s = execAnnounce x s := rfl
@[simp] theorem exec_fleetCancel (x : FleetSched) (s : State) : exec (.fleetCancel x) s = execFleetCancel x s := rfl
@[simp] theorem exec_updDiscard (key : BitVec 16) (s : State) : exec (.updDiscard key) s = execUpdDiscard key s := rfl
@[simp] theorem exec_updCancel (key : BitVec 16) (s : State) : exec (.updCancel key) s = execUpdCancel key s := rfl
@[simp] theorem exec_updSchedule (key : BitVec 16) (s : State) : exec (.updSchedule key) s = execUpdSchedule key s := rfl
@[simp] theorem exec_updPrecheck (s : State) : exec .updPrecheck s = execUpdPrecheck s := rfl
@[simp] theorem exec_updActivationCheck (flush : Fin 61) (lost dead : Nat) (s : State) : exec (.updActivationCheck flush lost dead) s = execUpdActivationCheck flush lost dead s := rfl
@[simp] theorem exec_updDeferLapse (s : State) : exec .updDeferLapse s = execUpdDeferLapse s := rfl
@[simp] theorem exec_updConfirm (key : BitVec 16) (s : State) : exec (.updConfirm key) s = execUpdConfirm key s := rfl
@[simp] theorem exec_migDone (key : BitVec 16) (s : State) : exec (.migDone key) s = execMigDone key s := rfl
@[simp] theorem exec_migFail (key : BitVec 16) (s : State) : exec (.migFail key) s = execMigFail key s := rfl
@[simp] theorem exec_updWindowExpired (s : State) : exec .updWindowExpired s = execUpdWindowExpired s := rfl
@[simp] theorem exec_updRunRecord (s : State) : exec .updRunRecord s = execUpdRunRecord s := rfl
@[simp] theorem exec_cryptoGo (k : Fin 8) (s : State) : exec (.cryptoGo k) s = execCryptoGo k s := rfl
@[simp] theorem exec_cryptoDone (pk : Bool) (put : List (BitVec 32 × BitVec 8)) (s : State) : exec (.cryptoDone pk put) s = execCryptoDone pk put s := rfl
@[simp] theorem exec_eventPacket (p : Packet) (s : State) : exec (.eventPacket p) s = execEventPacket p s := rfl
@[simp] theorem exec_snapshotAnswer (rseq : Nat) (w : Fin 32) (failing : List Nat) (s : State) : exec (.snapshotAnswer rseq w failing) s = execSnapshotAnswer rseq w failing s := rfl
@[simp] theorem exec_snapshotTimeout (rseq : Nat) (s : State) : exec (.snapshotTimeout rseq) s = execSnapshotTimeout rseq s := rfl
@[simp] theorem exec_evrFlushTimer (s : State) : exec .evrFlushTimer s = execEvrFlushTimer s := rfl
@[simp] theorem exec_evrFlushDone (s : State) : exec .evrFlushDone s = execEvrFlushDone s := rfl
@[simp] theorem exec_evrStop (s : State) : exec .evrStop s = execEvrStop s := rfl
@[simp] theorem exec_evrStart (s : State) : exec .evrStart s = execEvrStart s := rfl
@[simp] theorem exec_evrFlush (s : State) : exec .evrFlush s = execEvrFlush s := rfl
@[simp] theorem exec_evrExport (s : State) : exec .evrExport s = execEvrExport s := rfl
@[simp] theorem exec_evrClrCnt (s : State) : exec .evrClrCnt s = execEvrClrCnt s := rfl
@[simp] theorem exec_evrSoft (trig : Fin 64) (writer : Fin 65536) (s : State) : exec (.evrSoft trig writer) s = execEvrSoft trig writer s := rfl
@[simp] theorem exec_evrFreezeWrite (freeze : Bool) (maxS : Fin 1024) (s : State) : exec (.evrFreezeWrite freeze maxS) s = execEvrFreezeWrite freeze maxS s := rfl
@[simp] theorem exec_evrFreezeExpired (s : State) : exec .evrFreezeExpired s = execEvrFreezeExpired s := rfl
@[simp] theorem exec_evrCursorWrite (rseq : Fin 524288) (s : State) : exec (.evrCursorWrite rseq) s = execEvrCursorWrite rseq s := rfl
@[simp] theorem exec_evrWindowLoaded (s : State) : exec .evrWindowLoaded s = execEvrWindowLoaded s := rfl
@[simp] theorem exec_evrClear (key : BitVec 16) (force : Bool) (s : State) : exec (.evrClear key force) s = execEvrClear key force s := rfl
@[simp] theorem exec_evrExportAnswer (code : Fin 256) (s : State) : exec (.evrExportAnswer code) s = execEvrExportAnswer code s := rfl
@[simp] theorem exec_evrExportRetry (s : State) : exec .evrExportRetry s = execEvrExportRetry s := rfl
@[simp] theorem exec_hltSample (temps : List Int) (volts : List (Nat × Bool)) (s : State) : exec (.hltSample temps volts) s = execHltSample temps volts s := rfl
@[simp] theorem exec_hltStream (s : State) : exec .hltStream s = execHltStream s := rfl
@[simp] theorem exec_hltRoMeasure (freqs : List (Option (Nat × Nat))) (s : State) : exec (.hltRoMeasure freqs) s = execHltRoMeasure freqs s := rfl
@[simp] theorem exec_hltRonMinute (c : Fin 24) (samples : List (List RonSample)) (s : State) : exec (.hltRonMinute c samples) s = execHltRonMinute c samples s := rfl
@[simp] theorem exec_hltMramSave (s : State) : exec .hltMramSave s = execHltMramSave s := rfl
@[simp] theorem exec_hltThermal (s : State) : exec .hltThermal s = execHltThermal s := rfl
@[simp] theorem exec_hltCapTest (s : State) : exec .hltCapTest s = execHltCapTest s := rfl
@[simp] theorem exec_hltCapTestDone (t : Nat) (s : State) : exec (.hltCapTestDone t) s = execHltCapTestDone t s := rfl
@[simp] theorem exec_hltReplan (s : State) : exec .hltReplan s = execHltReplan s := rfl
@[simp] theorem exec_hltReplanDone (s : State) : exec .hltReplanDone s = execHltReplanDone s := rfl
@[simp] theorem exec_hltClrCnt (s : State) : exec .hltClrCnt s = execHltClrCnt s := rfl
@[simp] theorem exec_heartbeat (k : Fin 8) (s : State) : exec (.heartbeat k) s = execHeartbeat k s := rfl
@[simp] theorem exec_restart (k : Fin 8) (s : State) : exec (.restart k) s = execRestart k s := rfl
@[simp] theorem exec_waitUntil (k : Fin 8) (s : State) : exec (.waitUntil k) s = execWaitUntil k s := rfl
@[simp] theorem exec_waitUntilDone (k : Fin 8) (s : State) : exec (.waitUntilDone k) s = execWaitUntilDone k s := rfl
@[simp] theorem exec_utc (k : Fin 8) (s : State) : exec (.utc k) s = execUtc k s := rfl
@[simp] theorem exec_partInfo (k : Fin 8) (s : State) : exec (.partInfo k) s = execPartInfo k s := rfl
@[simp] theorem exec_partHbExpired (k : Fin 8) (s : State) : exec (.partHbExpired k) s = execPartHbExpired k s := rfl
@[simp] theorem exec_islandResetRelease (k : Fin 8) (s : State) : exec (.islandResetRelease k) s = execIslandResetRelease k s := rfl
@[simp] theorem exec_inLimitChange (ch : Fin 192) (inLimit : Bool) (s : State) : exec (.inLimitChange ch inLimit) s = execInLimitChange ch inLimit s := rfl
@[simp] theorem exec_boostReady (c : Fin 24) (vStart t : Nat) (s : State) : exec (.boostReady c vStart t) s = execBoostReady c vStart t s := rfl
@[simp] theorem exec_reserveCharged (s : State) : exec .reserveCharged s = execReserveCharged s := rfl
@[simp] theorem exec_epochBoundary (s : State) : exec .epochBoundary s = execEpochBoundary s := rfl
@[simp] theorem exec_antSupplyOk (a : Fin 2) (ma : Nat) (s : State) : exec (.antSupplyOk a ma) s = execAntSupplyOk a ma s := rfl
@[simp] theorem exec_driveResetTimeout (d : Fin 4) (s : State) : exec (.driveResetTimeout d) s = execDriveResetTimeout d s := rfl
@[simp] theorem exec_whdTcpConnect (s : State) : exec .whdTcpConnect s = execWhdTcpConnect s := rfl
@[simp] theorem exec_freqEdge (ch : Fin 192) (e : Edge) (s : State) : exec (.freqEdge ch e) s = execFreqEdge ch e s := rfl

end Sys2Proof.Machine
end

