-- ==== Sys2Proof/Laws/Memory.lean ====
section
/-! SUPPORT. Laws of the addressed memories: a byte reads what was last written, every other byte stands, and every operation keeps the canonical form. -/

namespace Sys2Proof.Machine

open Sys2Proof

theorem Memory.read_write_self (m : Memory) (a : Nat) (v : BitVec 8) (h : Memory.wf m = true) : Memory.read (Memory.write m a v) a = v := by
  have above : ∀ (m : Memory) (c : Host.Cell), Memory.wf (c :: m) = true → ∀ x, x ≤ c.1 → Memory.read m x = 0#8 := by
    intro m
    induction m with
    | nil => intros; rfl
    | cons d r ih =>
      intro c hw x hx
      simp only [Memory.wf, Bool.and_eq_true, decide_eq_true_eq] at hw
      have hd : x < d.1 := by omega
      have hne : d.1 ≠ x := by omega
      simp only [Memory.read, hne, if_false]
      exact ih d (by simpa [Memory.wf] using hw.2) x (by omega)
  induction m with
  | nil => by_cases hv : v = 0#8 <;> simp [Memory.write, hv, Memory.read]
  | cons c r ih =>
    simp only [Memory.write]
    split
    · next hlt =>
      by_cases hv : v = 0#8
      · have hne : c.1 ≠ a := by omega
        simp only [hv, if_true, Memory.read, hne, if_false]
        exact above r c h a (by omega)
      · simp [hv, Memory.read]
    · next hge =>
      split
      · next he =>
        by_cases hv : v = 0#8
        · simp only [hv, if_true]
          exact above r c h a (by omega)
        · simp [hv, Memory.read]
      · next hne =>
        have hr : Memory.wf r = true := by
          simp only [Memory.wf, Bool.and_eq_true] at h
          exact h.2
        simpa [Memory.read, Ne.symm hne] using ih hr

theorem Memory.read_write_ne (m : Memory) (a x : Nat) (v : BitVec 8) (h : x ≠ a) : Memory.read (Memory.write m a v) x = Memory.read m x := by
  induction m with
  | nil => by_cases hv : v = 0#8 <;> simp [Memory.write, hv, Memory.read, Ne.symm h]
  | cons c r ih =>
    simp only [Memory.write]
    split
    · by_cases hv : v = 0#8 <;> simp [hv, Memory.read, Ne.symm h]
    · split
      · next he =>
        have hc : c.1 ≠ x := by omega
        by_cases hv : v = 0#8 <;> simp [hv, Memory.read, hc, Ne.symm h]
      · simp [Memory.read, ih]

/-- A write keeps the canonical form. -/
theorem Memory.wf_write (m : Memory) (a : Nat) (v : BitVec 8) (h : Memory.wf m = true) : Memory.wf (Memory.write m a v) = true := by
  have key : ∀ (m : Memory), Memory.wf m = true → Memory.wf (Memory.write m a v) = true ∧
      ∀ x : Nat, x < a → (∀ d ∈ m.head?, x < d.1) → ∀ d ∈ (Memory.write m a v).head?, x < d.1 := by
    intro m
    induction m with
    | nil => intro _; by_cases hv : v = 0#8 <;> simp [Memory.write, hv, Memory.wf]
    | cons c r ih =>
      intro h
      simp only [Memory.wf, Bool.and_eq_true] at h
      obtain ⟨⟨h0, h1⟩, h2⟩ := h
      obtain ⟨ih1, ih2⟩ := ih h2
      have hhead : ∀ d ∈ r.head?, c.1 < d.1 := by
        intro d hd
        cases r with
        | nil => simp at hd
        | cons e t => simp at hd; subst hd; simpa using h1
      simp only [Memory.write]
      split
      · next hlt =>
        by_cases hv : v = 0#8
        · refine ⟨by simpa [hv, Memory.wf, h0, h2] using h1, ?_⟩
          simp [hv]
        · refine ⟨by simp [hv, Memory.wf, hlt, h0, h2]; simpa using h1, ?_⟩
          simp only [hv, if_false, List.head?_cons, Option.mem_some_iff, forall_eq']
          intro x hx _; exact hx
      · next hge =>
        split
        · next he =>
          by_cases hv : v = 0#8
          · refine ⟨by simpa [hv] using h2, ?_⟩
            intro x hx hc d hd
            simp only [hv, if_true] at hd
            have := hhead d hd
            omega
          · refine ⟨by simp [hv, Memory.wf, h2, he]; simpa using h1, ?_⟩
            simp only [hv, if_false, List.head?_cons, Option.mem_some_iff, forall_eq']
            intro x hx _; exact hx
        · next hne =>
          refine ⟨?_, by simp⟩
          have hh : ∀ d ∈ (Memory.write r a v).head?, c.1 < d.1 := ih2 c.1 (by omega) hhead
          simp only [Memory.wf, h0, ih1, Bool.and_true, Bool.true_and]
          split
          · rfl
          · next d t hd => simpa using hh d (by simp [hd])
  exact (key m h).1

theorem Memory.wf_writeBytes (m : Memory) (a : Nat) (l : List Nat) (h : Memory.wf m = true) : Memory.wf (Memory.writeBytes m a l) = true := by
  induction l generalizing m a with
  | nil => exact h
  | cons v r ih => exact ih _ _ (Memory.wf_write _ _ _ h)

theorem Memory.wf_putWord (m : Memory) (a v : Nat) (h : Memory.wf m = true) : Memory.wf (Memory.putWord m a v) = true :=
  Memory.wf_writeBytes _ _ _ h

/-- A write of bytes leaves every byte outside them alone. -/
theorem Memory.read_writeBytes_outside (m : Memory) (a : Nat) (l : List Nat) (x : Nat) (h : x < a ∨ a + l.length ≤ x) :
    Memory.read (Memory.writeBytes m a l) x = Memory.read m x := by
  induction l generalizing m a with
  | nil => rfl
  | cons v r ih =>
    simp only [List.length_cons] at h
    rw [Memory.writeBytes, ih _ _ (by omega), Memory.read_write_ne _ _ _ _ (by omega)]

/-- A list of addresses strictly rising keeps that form under a filter. -/
theorem Memory.wf_filter (m : Memory) (p : Host.Cell → Bool) (h : Memory.wf m = true) : Memory.wf (m.filter p) = true := by
  have key : ∀ (m : Memory), Memory.wf m = true → Memory.wf (m.filter p) = true ∧
      ∀ x : Nat, (∀ d ∈ m.head?, x < d.1) → ∀ d ∈ (m.filter p).head?, x < d.1 := by
    intro m
    induction m with
    | nil => intro _; simp [Memory.wf]
    | cons c r ih =>
      intro h
      simp only [Memory.wf, Bool.and_eq_true] at h
      obtain ⟨⟨h0, h1⟩, h2⟩ := h
      obtain ⟨ih1, ih2⟩ := ih h2
      have hhead : ∀ d ∈ r.head?, c.1 < d.1 := by
        intro d hd
        cases r with
        | nil => simp at hd
        | cons e t => simp at hd; subst hd; simpa using h1
      by_cases hp : p c = true
      · rw [List.filter_cons_of_pos hp]
        refine ⟨?_, by simp⟩
        have hh := ih2 c.1 hhead
        simp only [Memory.wf, h0, ih1, Bool.and_true, Bool.true_and]
        split
        · rfl
        · next d t hd => simpa using hh d (by simp [hd])
      · rw [List.filter_cons_of_neg hp]
        refine ⟨ih1, ?_⟩
        intro x hx
        apply ih2
        intro d hd
        have hc : x < c.1 := hx c (by simp)
        have := hhead d hd
        omega
  exact (key m h).1

theorem Memory.wf_zero (m : Memory) (a n : Nat) (h : Memory.wf m = true) : Memory.wf (Memory.zero m a n) = true := Memory.wf_filter _ _ h

/-- A cleared range reads 0. -/
theorem Memory.read_zero_inside (m : Memory) (a n x : Nat) (h : a ≤ x) (h' : x < a + n) : Memory.read (Memory.zero m a n) x = 0#8 := by
  induction m with
  | nil => rfl
  | cons c r ih =>
    by_cases hp : (decide (c.1 < a) || decide (a + n ≤ c.1)) = true
    · have hne : c.1 ≠ x := by
        simp only [Bool.or_eq_true, decide_eq_true_eq] at hp
        omega
      simpa [Memory.zero, List.filter, hp, Memory.read, hne] using ih
    · have hf : (decide (c.1 < a) || decide (a + n ≤ c.1)) = false := by simpa using hp
      simpa [Memory.zero, List.filter, hf] using ih

/-- A cleared range leaves every byte outside it alone. -/
theorem Memory.read_zero_outside (m : Memory) (a n x : Nat) (h : x < a ∨ a + n ≤ x) : Memory.read (Memory.zero m a n) x = Memory.read m x := by
  induction m with
  | nil => rfl
  | cons c r ih =>
    by_cases hx : c.1 = x
    · have hp : (decide (c.1 < a) || decide (a + n ≤ c.1)) = true := by simpa [hx] using h
      simp only [Memory.zero, List.filter, hp]
      simp [Memory.read, hx]
    · by_cases hp : (decide (c.1 < a) || decide (a + n ≤ c.1)) = true
      · simpa [Memory.zero, List.filter, hp, Memory.read, hx] using ih
      · have hf : (decide (c.1 < a) || decide (a + n ≤ c.1)) = false := by simpa using hp
        simpa [Memory.zero, List.filter, hf, Memory.read, hx] using ih

end Sys2Proof.Machine
end

