-- ==== Sys2Proof/Laws/Registers.lean ====
section
/-! SUPPORT. Laws of the register file: a field reads what was written, masked to its width, and every other field stands. -/

namespace Sys2Proof.Machine

open Sys2Proof

/-! ## Sparse tables -/

theorem Store.find?_ins_self (m : Store) (k v : Nat) (h : ∀ e ∈ m, e.1 ≠ k) : (m.ins k v).find? k = some v := by
  induction m with
  | nil => simp [Store.ins, Store.find?]
  | cons e r ih =>
    have he := h e (by simp)
    have hr := ih fun x hx => h x (by simp [hx])
    simp only [Store.ins]
    split <;> simp [Store.find?, he, hr]

theorem Store.find?_ins_ne (m : Store) (k k' v : Nat) (h : k' ≠ k) : (m.ins k v).find? k' = m.find? k' := by
  induction m with
  | nil => simp [Store.ins, Store.find?, Ne.symm h]
  | cons e r ih =>
    simp only [Store.ins]
    split
    · simp [Store.find?, Ne.symm h]
    · simp [Store.find?, ih]

theorem Store.find?_erase_self (m : Store) (k : Nat) : (m.erase k).find? k = none := by
  induction m with
  | nil => rfl
  | cons e r ih =>
    by_cases h : e.1 = k
    · simpa [Store.erase, h] using ih
    · simpa [Store.erase, h, Store.find?] using ih

theorem Store.find?_erase_ne (m : Store) (k k' : Nat) (h : k' ≠ k) : (m.erase k).find? k' = m.find? k' := by
  induction m with
  | nil => rfl
  | cons e r ih =>
    by_cases he : e.1 = k
    · simpa [Store.erase, he, Store.find?, Ne.symm h] using ih
    · by_cases hk : e.1 = k'
      · simp [Store.erase, Store.find?, hk, h]
      · simpa [Store.erase, he, Store.find?, hk] using ih

theorem Store.erase_free (m : Store) (k : Nat) : ∀ e ∈ m.erase k, e.1 ≠ k := by
  intro e he
  simp only [Store.erase, List.mem_filter] at he
  simpa using he.2

theorem Store.find_putD_self (m : Store) (k v d : Nat) : (m.putD k v d).find k d = v := by
  unfold Store.putD Store.find
  split
  · next h => simp [Store.find?_erase_self, h]
  · simp [Store.put, Store.find?_ins_self _ _ _ (Store.erase_free m k)]

theorem Store.find_putD_ne (m : Store) (k k' v d d' : Nat) (h : k' ≠ k) : (m.putD k v d).find k' d' = m.find k' d' := by
  unfold Store.putD Store.find
  split
  · simp [Store.find?_erase_ne _ _ _ h]
  · simp [Store.put, Store.find?_ins_ne _ _ _ _ h, Store.find?_erase_ne _ _ _ h]

theorem Store.find_put_self (m : Store) (k v d : Nat) : (m.put k v).find k d = v := by
  simp [Store.put, Store.find, Store.find?_ins_self _ _ _ (Store.erase_free m k)]

theorem Store.find_put_ne (m : Store) (k k' v d : Nat) (h : k' ≠ k) : (m.put k v).find k' d = m.find k' d := by
  simp [Store.put, Store.find, Store.find?_ins_ne _ _ _ _ h, Store.find?_erase_ne _ _ _ h]

/-- What a filter that keeps a key leaves of its value. -/
theorem Store.find?_filter_keep (m : Store) (p : Nat × Nat → Bool) (k : Nat) (h : ∀ e : Nat × Nat, e.1 = k → p e = true) :
    Store.find? (m.filter p) k = m.find? k := by
  induction m with
  | nil => rfl
  | cons e r ih =>
    by_cases hk : e.1 = k
    · simp [List.filter, h e hk, Store.find?, hk]
    · by_cases hp : p e = true
      · simpa [List.filter, hp, Store.find?, hk] using ih
      · have hf : p e = false := by simpa using hp
        simpa [List.filter, hf, Store.find?, hk] using ih

/-! ## Fields -/

@[simp] theorem Block.get_set_self (b : Block) (f : Fld) (v : Nat) : (b.set f v).get f = v % 2 ^ f.wid :=
  Store.find_putD_self _ _ _ _

theorem Block.get_set_ne (b : Block) (f g : Fld) (v : Nat) (h : g.key ≠ f.key) : (b.set f v).get g = b.get g :=
  Store.find_putD_ne _ _ _ _ _ _ h

@[simp] theorem Block.get_setS (b : Block) (f g : Fld) (v : Nat) : (b.setS f v).get g = (b.set f v).get g := id rfl

@[simp] theorem Block.get_setB_self (b : Block) (f : Fld) (v : Bool) (h : 0 < f.wid) : (b.setB f v).get f = b2n v := by
  have h1 : 1 < 2 ^ f.wid := Nat.one_lt_two_pow_iff.mpr (by omega)
  rw [Block.setB, Block.get_set_self]
  exact Nat.mod_eq_of_lt (by cases v <;> simp [b2n] <;> omega)

theorem Block.get_setB_ne (b : Block) (f g : Fld) (v : Bool) (h : g.key ≠ f.key) : (b.setB f v).get g = b.get g := b.get_set_ne f g _ h
theorem Block.get_seti_ne (b : Block) (f g : Fld) (v : Int) (h : g.key ≠ f.key) : (b.seti f v).get g = b.get g := b.get_set_ne f g _ h
theorem Block.get_setBit_ne (b : Block) (f g : Fld) (i : Nat) (v : Bool) (h : g.key ≠ f.key) : (b.setBit f i v).get g = b.get g := b.get_set_ne f g _ h
theorem Block.get_inc_ne (b : Block) (f g : Fld) (n : Nat) (h : g.key ≠ f.key) : (b.inc f n).get g = b.get g := b.get_set_ne f g _ h
theorem Block.get_incW_ne (b : Block) (f g : Fld) (n : Nat) (h : g.key ≠ f.key) : (b.incW f n).get g = b.get g := b.get_set_ne f g _ h

/-- A counter counts up and stays at its maximum. -/
@[simp] theorem Block.get_inc_self (b : Block) (f : Fld) (n : Nat) : (b.inc f n).get f = min (2 ^ f.wid - 1) (b.get f + n) := by
  have h := Nat.two_pow_pos f.wid
  rw [Block.inc, Block.get_set_self]
  exact Nat.mod_eq_of_lt (by omega)

@[simp] theorem Block.get_incW_self (b : Block) (f : Fld) (n : Nat) : (b.incW f n).get f = (b.get f + n) % 2 ^ f.wid := b.get_set_self f _

@[simp] theorem Block.get_setBit_self (b : Block) (f : Fld) (i : Nat) (v : Bool) : (b.setBit f i v).get f = withBit (b.get f) i v % 2 ^ f.wid :=
  b.get_set_self f _

@[simp] theorem Block.get_seti_self (b : Block) (f : Fld) (v : Int) : (b.seti f v).get f = lowBits f.wid v % 2 ^ f.wid := b.get_set_self f _

/-- A list of fields cleared: each reads 0. -/
theorem Block.get_clear_mem (b : Block) (l : List Fld) (f : Fld) (h : f ∈ l) (hk : ∀ g ∈ l, g.key = f.key → g = f) : (b.clear l).get f = 0 := by
  have key : ∀ (l : List Fld) (b : Block), (∀ g ∈ l, g.key = f.key → g = f) → f ∈ l ∨ b.get f = 0 → (l.foldl (fun b g => b.set g 0) b).get f = 0 := by
    intro l
    induction l with
    | nil => intro b _ h; simpa using h
    | cons g r ih =>
      intro b hk h
      apply ih _ fun x hx => hk x (by simp [hx])
      by_cases hg : g.key = f.key
      · right
        rw [hk g (by simp) hg]
        simp
      · rcases h with h | h
        · rcases List.mem_cons.mp h with rfl | h
          · exact absurd rfl hg
          · exact .inl h
        · right
          rw [Block.get_set_ne _ _ _ _ (Ne.symm hg)]
          exact h
  exact key l b hk (.inl h)

/-- A list of fields cleared: every other field stands. -/
theorem Block.get_clear_ne (b : Block) (l : List Fld) (f : Fld) (h : ∀ g ∈ l, f.key ≠ g.key) : (b.clear l).get f = b.get f := by
  have key : ∀ (l : List Fld) (b : Block), (∀ g ∈ l, f.key ≠ g.key) → (l.foldl (fun b g => b.set g 0) b).get f = b.get f := by
    intro l
    induction l with
    | nil => intro b _; rfl
    | cons g r ih =>
      intro b hk
      rw [List.foldl, ih _ fun x hx => hk x (by simp [hx]), Block.get_set_ne _ _ _ _ (hk g (by simp))]
  exact key l b h

/-- The registers of an address range at their reset values: a field outside the range stands. -/
theorem Block.get_resetRegs_outside (b : Block) (lo hi : Nat) (f : Fld) (h : f.key < lo * 32 ∨ hi * 32 ≤ f.key) : (b.resetRegs lo hi).get f = b.get f := by
  unfold Block.get Store.find Block.resetRegs
  simp only
  rw [Store.find?_filter_keep]
  intro e he
  simpa [he] using h

/-- A field inside the range reads its reset value. -/
theorem Block.get_resetRegs_inside (b : Block) (lo hi : Nat) (f : Fld) (h : lo * 32 ≤ f.key) (h' : f.key < hi * 32) : (b.resetRegs lo hi).get f = f.reset := by
  have key : ∀ m : Store, Store.find? (m.filter fun e => decide (e.1 < lo * 32) || decide (hi * 32 ≤ e.1)) f.key = none := by
    intro m
    induction m with
    | nil => rfl
    | cons e r ih =>
      by_cases hp : (decide (e.1 < lo * 32) || decide (hi * 32 ≤ e.1)) = true
      · have : e.1 ≠ f.key := by
          simp only [Bool.or_eq_true, decide_eq_true_eq] at hp
          omega
        simpa [List.filter, hp, Store.find?, this] using ih
      · have hf : (decide (e.1 < lo * 32) || decide (hi * 32 ≤ e.1)) = false := by simpa using hp
        simpa [List.filter, hf] using ih
  simp [Block.get, Block.resetRegs, Store.find, key]

end Sys2Proof.Machine
end

