-- ==== Sys2Proof/Laws/State.lean ====
section
/-! SUPPORT. What each shared update leaves alone: one lemma per update and field, true by definition, so that no proof unfolds a record update. Each is stated through `id`, so that simp uses it as a rewriting rule and the kernel never compares two blocks field by field. -/

namespace Sys2Proof.Machine

open Sys2Proof

@[simp] theorem Block.set_now (b : Block) (f : Fld) (v : Nat) : (b.set f v).now = b.now := id rfl
@[simp] theorem Block.set_inuse (b : Block) (f : Fld) (v : Nat) : (b.set f v).inuse = b.inuse := id rfl
@[simp] theorem Block.set_out (b : Block) (f : Fld) (v : Nat) : (b.set f v).out = b.out := id rfl
@[simp] theorem Block.set_free (b : Block) (f : Fld) (v : Nat) : (b.set f v).free = b.free := id rfl
@[simp] theorem Block.set_sys (b : Block) (f : Fld) (v : Nat) : (b.set f v).sys = b.sys := id rfl
@[simp] theorem Block.set_fab (b : Block) (f : Fld) (v : Nat) : (b.set f v).fab = b.fab := id rfl
@[simp] theorem Block.set_img (b : Block) (f : Fld) (v : Nat) : (b.set f v).img = b.img := id rfl
@[simp] theorem Block.set_chans (b : Block) (f : Fld) (v : Nat) : (b.set f v).chans = b.chans := id rfl
@[simp] theorem Block.set_cells (b : Block) (f : Fld) (v : Nat) : (b.set f v).cells = b.cells := id rfl
@[simp] theorem Block.set_scopes (b : Block) (f : Fld) (v : Nat) : (b.set f v).scopes = b.scopes := id rfl
@[simp] theorem Block.set_pairs (b : Block) (f : Fld) (v : Nat) : (b.set f v).pairs = b.pairs := id rfl
@[simp] theorem Block.set_evtIn (b : Block) (f : Fld) (v : Nat) : (b.set f v).evtIn = b.evtIn := id rfl
@[simp] theorem Block.set_pwr (b : Block) (f : Fld) (v : Nat) : (b.set f v).pwr = b.pwr := id rfl
@[simp] theorem Block.set_mode (b : Block) (f : Fld) (v : Nat) : (b.set f v).mode = b.mode := id rfl
@[simp] theorem Block.set_tarn (b : Block) (f : Fld) (v : Nat) : (b.set f v).tarn = b.tarn := id rfl
@[simp] theorem Block.set_loop (b : Block) (f : Fld) (v : Nat) : (b.set f v).loop = b.loop := id rfl
@[simp] theorem Block.set_solver (b : Block) (f : Fld) (v : Nat) : (b.set f v).solver = b.solver := id rfl
@[simp] theorem Block.set_fusion (b : Block) (f : Fld) (v : Nat) : (b.set f v).fusion = b.fusion := id rfl
@[simp] theorem Block.set_gnss (b : Block) (f : Fld) (v : Nat) : (b.set f v).gnss = b.gnss := id rfl
@[simp] theorem Block.set_bkp (b : Block) (f : Fld) (v : Nat) : (b.set f v).bkp = b.bkp := id rfl
@[simp] theorem Block.set_sst (b : Block) (f : Fld) (v : Nat) : (b.set f v).sst = b.sst := id rfl
@[simp] theorem Block.set_steer (b : Block) (f : Fld) (v : Nat) : (b.set f v).steer = b.steer := id rfl
@[simp] theorem Block.set_cvy (b : Block) (f : Fld) (v : Nat) : (b.set f v).cvy = b.cvy := id rfl
@[simp] theorem Block.set_yld (b : Block) (f : Fld) (v : Nat) : (b.set f v).yld = b.yld := id rfl
@[simp] theorem Block.set_tile (b : Block) (f : Fld) (v : Nat) : (b.set f v).tile = b.tile := id rfl
@[simp] theorem Block.set_can (b : Block) (f : Fld) (v : Nat) : (b.set f v).can = b.can := id rfl
@[simp] theorem Block.set_eth (b : Block) (f : Fld) (v : Nat) : (b.set f v).eth = b.eth := id rfl
@[simp] theorem Block.set_ehr (b : Block) (f : Fld) (v : Nat) : (b.set f v).ehr = b.ehr := id rfl
@[simp] theorem Block.set_dsp (b : Block) (f : Fld) (v : Nat) : (b.set f v).dsp = b.dsp := id rfl
@[simp] theorem Block.set_evr (b : Block) (f : Fld) (v : Nat) : (b.set f v).evr = b.evr := id rfl
@[simp] theorem Block.set_poison (b : Block) (f : Fld) (v : Nat) : (b.set f v).poison = b.poison := id rfl
@[simp] theorem Block.set_corrected (b : Block) (f : Fld) (v : Nat) : (b.set f v).corrected = b.corrected := id rfl
@[simp] theorem Block.set_hlt (b : Block) (f : Fld) (v : Nat) : (b.set f v).hlt = b.hlt := id rfl
@[simp] theorem Block.set_cry (b : Block) (f : Fld) (v : Nat) : (b.set f v).cry = b.cry := id rfl
@[simp] theorem Block.set_dram (b : Block) (f : Fld) (v : Nat) : (b.set f v).dram = b.dram := id rfl
@[simp] theorem Block.set_upd (b : Block) (f : Fld) (v : Nat) : (b.set f v).upd = b.upd := id rfl
@[simp] theorem Block.set_whd (b : Block) (f : Fld) (v : Nat) : (b.set f v).whd = b.whd := id rfl

@[simp] theorem Block.setS_now (b : Block) (f : Fld) (v : Nat) : (b.setS f v).now = b.now := id rfl
@[simp] theorem Block.setS_out (b : Block) (f : Fld) (v : Nat) : (b.setS f v).out = b.out := id rfl
@[simp] theorem Block.setS_free (b : Block) (f : Fld) (v : Nat) : (b.setS f v).free = b.free := id rfl
@[simp] theorem Block.setS_sys (b : Block) (f : Fld) (v : Nat) : (b.setS f v).sys = b.sys := id rfl
@[simp] theorem Block.setS_fab (b : Block) (f : Fld) (v : Nat) : (b.setS f v).fab = b.fab := id rfl
@[simp] theorem Block.setS_img (b : Block) (f : Fld) (v : Nat) : (b.setS f v).img = b.img := id rfl
@[simp] theorem Block.setS_chans (b : Block) (f : Fld) (v : Nat) : (b.setS f v).chans = b.chans := id rfl
@[simp] theorem Block.setS_cells (b : Block) (f : Fld) (v : Nat) : (b.setS f v).cells = b.cells := id rfl
@[simp] theorem Block.setS_scopes (b : Block) (f : Fld) (v : Nat) : (b.setS f v).scopes = b.scopes := id rfl
@[simp] theorem Block.setS_pairs (b : Block) (f : Fld) (v : Nat) : (b.setS f v).pairs = b.pairs := id rfl
@[simp] theorem Block.setS_evtIn (b : Block) (f : Fld) (v : Nat) : (b.setS f v).evtIn = b.evtIn := id rfl
@[simp] theorem Block.setS_pwr (b : Block) (f : Fld) (v : Nat) : (b.setS f v).pwr = b.pwr := id rfl
@[simp] theorem Block.setS_mode (b : Block) (f : Fld) (v : Nat) : (b.setS f v).mode = b.mode := id rfl
@[simp] theorem Block.setS_tarn (b : Block) (f : Fld) (v : Nat) : (b.setS f v).tarn = b.tarn := id rfl
@[simp] theorem Block.setS_loop (b : Block) (f : Fld) (v : Nat) : (b.setS f v).loop = b.loop := id rfl
@[simp] theorem Block.setS_solver (b : Block) (f : Fld) (v : Nat) : (b.setS f v).solver = b.solver := id rfl
@[simp] theorem Block.setS_fusion (b : Block) (f : Fld) (v : Nat) : (b.setS f v).fusion = b.fusion := id rfl
@[simp] theorem Block.setS_gnss (b : Block) (f : Fld) (v : Nat) : (b.setS f v).gnss = b.gnss := id rfl
@[simp] theorem Block.setS_bkp (b : Block) (f : Fld) (v : Nat) : (b.setS f v).bkp = b.bkp := id rfl
@[simp] theorem Block.setS_sst (b : Block) (f : Fld) (v : Nat) : (b.setS f v).sst = b.sst := id rfl
@[simp] theorem Block.setS_steer (b : Block) (f : Fld) (v : Nat) : (b.setS f v).steer = b.steer := id rfl
@[simp] theorem Block.setS_cvy (b : Block) (f : Fld) (v : Nat) : (b.setS f v).cvy = b.cvy := id rfl
@[simp] theorem Block.setS_yld (b : Block) (f : Fld) (v : Nat) : (b.setS f v).yld = b.yld := id rfl
@[simp] theorem Block.setS_tile (b : Block) (f : Fld) (v : Nat) : (b.setS f v).tile = b.tile := id rfl
@[simp] theorem Block.setS_can (b : Block) (f : Fld) (v : Nat) : (b.setS f v).can = b.can := id rfl
@[simp] theorem Block.setS_eth (b : Block) (f : Fld) (v : Nat) : (b.setS f v).eth = b.eth := id rfl
@[simp] theorem Block.setS_ehr (b : Block) (f : Fld) (v : Nat) : (b.setS f v).ehr = b.ehr := id rfl
@[simp] theorem Block.setS_dsp (b : Block) (f : Fld) (v : Nat) : (b.setS f v).dsp = b.dsp := id rfl
@[simp] theorem Block.setS_evr (b : Block) (f : Fld) (v : Nat) : (b.setS f v).evr = b.evr := id rfl
@[simp] theorem Block.setS_poison (b : Block) (f : Fld) (v : Nat) : (b.setS f v).poison = b.poison := id rfl
@[simp] theorem Block.setS_corrected (b : Block) (f : Fld) (v : Nat) : (b.setS f v).corrected = b.corrected := id rfl
@[simp] theorem Block.setS_hlt (b : Block) (f : Fld) (v : Nat) : (b.setS f v).hlt = b.hlt := id rfl
@[simp] theorem Block.setS_cry (b : Block) (f : Fld) (v : Nat) : (b.setS f v).cry = b.cry := id rfl
@[simp] theorem Block.setS_dram (b : Block) (f : Fld) (v : Nat) : (b.setS f v).dram = b.dram := id rfl
@[simp] theorem Block.setS_upd (b : Block) (f : Fld) (v : Nat) : (b.setS f v).upd = b.upd := id rfl
@[simp] theorem Block.setS_whd (b : Block) (f : Fld) (v : Nat) : (b.setS f v).whd = b.whd := id rfl

@[simp] theorem Block.setB_now (b : Block) (f : Fld) (v : Bool) : (b.setB f v).now = b.now := id rfl
@[simp] theorem Block.setB_inuse (b : Block) (f : Fld) (v : Bool) : (b.setB f v).inuse = b.inuse := id rfl
@[simp] theorem Block.setB_out (b : Block) (f : Fld) (v : Bool) : (b.setB f v).out = b.out := id rfl
@[simp] theorem Block.setB_free (b : Block) (f : Fld) (v : Bool) : (b.setB f v).free = b.free := id rfl
@[simp] theorem Block.setB_sys (b : Block) (f : Fld) (v : Bool) : (b.setB f v).sys = b.sys := id rfl
@[simp] theorem Block.setB_fab (b : Block) (f : Fld) (v : Bool) : (b.setB f v).fab = b.fab := id rfl
@[simp] theorem Block.setB_img (b : Block) (f : Fld) (v : Bool) : (b.setB f v).img = b.img := id rfl
@[simp] theorem Block.setB_chans (b : Block) (f : Fld) (v : Bool) : (b.setB f v).chans = b.chans := id rfl
@[simp] theorem Block.setB_cells (b : Block) (f : Fld) (v : Bool) : (b.setB f v).cells = b.cells := id rfl
@[simp] theorem Block.setB_scopes (b : Block) (f : Fld) (v : Bool) : (b.setB f v).scopes = b.scopes := id rfl
@[simp] theorem Block.setB_pairs (b : Block) (f : Fld) (v : Bool) : (b.setB f v).pairs = b.pairs := id rfl
@[simp] theorem Block.setB_evtIn (b : Block) (f : Fld) (v : Bool) : (b.setB f v).evtIn = b.evtIn := id rfl
@[simp] theorem Block.setB_pwr (b : Block) (f : Fld) (v : Bool) : (b.setB f v).pwr = b.pwr := id rfl
@[simp] theorem Block.setB_mode (b : Block) (f : Fld) (v : Bool) : (b.setB f v).mode = b.mode := id rfl
@[simp] theorem Block.setB_tarn (b : Block) (f : Fld) (v : Bool) : (b.setB f v).tarn = b.tarn := id rfl
@[simp] theorem Block.setB_loop (b : Block) (f : Fld) (v : Bool) : (b.setB f v).loop = b.loop := id rfl
@[simp] theorem Block.setB_solver (b : Block) (f : Fld) (v : Bool) : (b.setB f v).solver = b.solver := id rfl
@[simp] theorem Block.setB_fusion (b : Block) (f : Fld) (v : Bool) : (b.setB f v).fusion = b.fusion := id rfl
@[simp] theorem Block.setB_gnss (b : Block) (f : Fld) (v : Bool) : (b.setB f v).gnss = b.gnss := id rfl
@[simp] theorem Block.setB_bkp (b : Block) (f : Fld) (v : Bool) : (b.setB f v).bkp = b.bkp := id rfl
@[simp] theorem Block.setB_sst (b : Block) (f : Fld) (v : Bool) : (b.setB f v).sst = b.sst := id rfl
@[simp] theorem Block.setB_steer (b : Block) (f : Fld) (v : Bool) : (b.setB f v).steer = b.steer := id rfl
@[simp] theorem Block.setB_cvy (b : Block) (f : Fld) (v : Bool) : (b.setB f v).cvy = b.cvy := id rfl
@[simp] theorem Block.setB_yld (b : Block) (f : Fld) (v : Bool) : (b.setB f v).yld = b.yld := id rfl
@[simp] theorem Block.setB_tile (b : Block) (f : Fld) (v : Bool) : (b.setB f v).tile = b.tile := id rfl
@[simp] theorem Block.setB_can (b : Block) (f : Fld) (v : Bool) : (b.setB f v).can = b.can := id rfl
@[simp] theorem Block.setB_eth (b : Block) (f : Fld) (v : Bool) : (b.setB f v).eth = b.eth := id rfl
@[simp] theorem Block.setB_ehr (b : Block) (f : Fld) (v : Bool) : (b.setB f v).ehr = b.ehr := id rfl
@[simp] theorem Block.setB_dsp (b : Block) (f : Fld) (v : Bool) : (b.setB f v).dsp = b.dsp := id rfl
@[simp] theorem Block.setB_evr (b : Block) (f : Fld) (v : Bool) : (b.setB f v).evr = b.evr := id rfl
@[simp] theorem Block.setB_poison (b : Block) (f : Fld) (v : Bool) : (b.setB f v).poison = b.poison := id rfl
@[simp] theorem Block.setB_corrected (b : Block) (f : Fld) (v : Bool) : (b.setB f v).corrected = b.corrected := id rfl
@[simp] theorem Block.setB_hlt (b : Block) (f : Fld) (v : Bool) : (b.setB f v).hlt = b.hlt := id rfl
@[simp] theorem Block.setB_cry (b : Block) (f : Fld) (v : Bool) : (b.setB f v).cry = b.cry := id rfl
@[simp] theorem Block.setB_dram (b : Block) (f : Fld) (v : Bool) : (b.setB f v).dram = b.dram := id rfl
@[simp] theorem Block.setB_upd (b : Block) (f : Fld) (v : Bool) : (b.setB f v).upd = b.upd := id rfl
@[simp] theorem Block.setB_whd (b : Block) (f : Fld) (v : Bool) : (b.setB f v).whd = b.whd := id rfl

@[simp] theorem Block.seti_now (b : Block) (f : Fld) (v : Int) : (b.seti f v).now = b.now := id rfl
@[simp] theorem Block.seti_inuse (b : Block) (f : Fld) (v : Int) : (b.seti f v).inuse = b.inuse := id rfl
@[simp] theorem Block.seti_out (b : Block) (f : Fld) (v : Int) : (b.seti f v).out = b.out := id rfl
@[simp] theorem Block.seti_free (b : Block) (f : Fld) (v : Int) : (b.seti f v).free = b.free := id rfl
@[simp] theorem Block.seti_sys (b : Block) (f : Fld) (v : Int) : (b.seti f v).sys = b.sys := id rfl
@[simp] theorem Block.seti_fab (b : Block) (f : Fld) (v : Int) : (b.seti f v).fab = b.fab := id rfl
@[simp] theorem Block.seti_img (b : Block) (f : Fld) (v : Int) : (b.seti f v).img = b.img := id rfl
@[simp] theorem Block.seti_chans (b : Block) (f : Fld) (v : Int) : (b.seti f v).chans = b.chans := id rfl
@[simp] theorem Block.seti_cells (b : Block) (f : Fld) (v : Int) : (b.seti f v).cells = b.cells := id rfl
@[simp] theorem Block.seti_scopes (b : Block) (f : Fld) (v : Int) : (b.seti f v).scopes = b.scopes := id rfl
@[simp] theorem Block.seti_pairs (b : Block) (f : Fld) (v : Int) : (b.seti f v).pairs = b.pairs := id rfl
@[simp] theorem Block.seti_evtIn (b : Block) (f : Fld) (v : Int) : (b.seti f v).evtIn = b.evtIn := id rfl
@[simp] theorem Block.seti_pwr (b : Block) (f : Fld) (v : Int) : (b.seti f v).pwr = b.pwr := id rfl
@[simp] theorem Block.seti_mode (b : Block) (f : Fld) (v : Int) : (b.seti f v).mode = b.mode := id rfl
@[simp] theorem Block.seti_tarn (b : Block) (f : Fld) (v : Int) : (b.seti f v).tarn = b.tarn := id rfl
@[simp] theorem Block.seti_loop (b : Block) (f : Fld) (v : Int) : (b.seti f v).loop = b.loop := id rfl
@[simp] theorem Block.seti_solver (b : Block) (f : Fld) (v : Int) : (b.seti f v).solver = b.solver := id rfl
@[simp] theorem Block.seti_fusion (b : Block) (f : Fld) (v : Int) : (b.seti f v).fusion = b.fusion := id rfl
@[simp] theorem Block.seti_gnss (b : Block) (f : Fld) (v : Int) : (b.seti f v).gnss = b.gnss := id rfl
@[simp] theorem Block.seti_bkp (b : Block) (f : Fld) (v : Int) : (b.seti f v).bkp = b.bkp := id rfl
@[simp] theorem Block.seti_sst (b : Block) (f : Fld) (v : Int) : (b.seti f v).sst = b.sst := id rfl
@[simp] theorem Block.seti_steer (b : Block) (f : Fld) (v : Int) : (b.seti f v).steer = b.steer := id rfl
@[simp] theorem Block.seti_cvy (b : Block) (f : Fld) (v : Int) : (b.seti f v).cvy = b.cvy := id rfl
@[simp] theorem Block.seti_yld (b : Block) (f : Fld) (v : Int) : (b.seti f v).yld = b.yld := id rfl
@[simp] theorem Block.seti_tile (b : Block) (f : Fld) (v : Int) : (b.seti f v).tile = b.tile := id rfl
@[simp] theorem Block.seti_can (b : Block) (f : Fld) (v : Int) : (b.seti f v).can = b.can := id rfl
@[simp] theorem Block.seti_eth (b : Block) (f : Fld) (v : Int) : (b.seti f v).eth = b.eth := id rfl
@[simp] theorem Block.seti_ehr (b : Block) (f : Fld) (v : Int) : (b.seti f v).ehr = b.ehr := id rfl
@[simp] theorem Block.seti_dsp (b : Block) (f : Fld) (v : Int) : (b.seti f v).dsp = b.dsp := id rfl
@[simp] theorem Block.seti_evr (b : Block) (f : Fld) (v : Int) : (b.seti f v).evr = b.evr := id rfl
@[simp] theorem Block.seti_poison (b : Block) (f : Fld) (v : Int) : (b.seti f v).poison = b.poison := id rfl
@[simp] theorem Block.seti_corrected (b : Block) (f : Fld) (v : Int) : (b.seti f v).corrected = b.corrected := id rfl
@[simp] theorem Block.seti_hlt (b : Block) (f : Fld) (v : Int) : (b.seti f v).hlt = b.hlt := id rfl
@[simp] theorem Block.seti_cry (b : Block) (f : Fld) (v : Int) : (b.seti f v).cry = b.cry := id rfl
@[simp] theorem Block.seti_dram (b : Block) (f : Fld) (v : Int) : (b.seti f v).dram = b.dram := id rfl
@[simp] theorem Block.seti_upd (b : Block) (f : Fld) (v : Int) : (b.seti f v).upd = b.upd := id rfl
@[simp] theorem Block.seti_whd (b : Block) (f : Fld) (v : Int) : (b.seti f v).whd = b.whd := id rfl

@[simp] theorem Block.setBit_now (b : Block) (f : Fld) (i : Nat) (v : Bool) : (b.setBit f i v).now = b.now := id rfl
@[simp] theorem Block.setBit_inuse (b : Block) (f : Fld) (i : Nat) (v : Bool) : (b.setBit f i v).inuse = b.inuse := id rfl
@[simp] theorem Block.setBit_out (b : Block) (f : Fld) (i : Nat) (v : Bool) : (b.setBit f i v).out = b.out := id rfl
@[simp] theorem Block.setBit_free (b : Block) (f : Fld) (i : Nat) (v : Bool) : (b.setBit f i v).free = b.free := id rfl
@[simp] theorem Block.setBit_sys (b : Block) (f : Fld) (i : Nat) (v : Bool) : (b.setBit f i v).sys = b.sys := id rfl
@[simp] theorem Block.setBit_fab (b : Block) (f : Fld) (i : Nat) (v : Bool) : (b.setBit f i v).fab = b.fab := id rfl
@[simp] theorem Block.setBit_img (b : Block) (f : Fld) (i : Nat) (v : Bool) : (b.setBit f i v).img = b.img := id rfl
@[simp] theorem Block.setBit_chans (b : Block) (f : Fld) (i : Nat) (v : Bool) : (b.setBit f i v).chans = b.chans := id rfl
@[simp] theorem Block.setBit_cells (b : Block) (f : Fld) (i : Nat) (v : Bool) : (b.setBit f i v).cells = b.cells := id rfl
@[simp] theorem Block.setBit_scopes (b : Block) (f : Fld) (i : Nat) (v : Bool) : (b.setBit f i v).scopes = b.scopes := id rfl
@[simp] theorem Block.setBit_pairs (b : Block) (f : Fld) (i : Nat) (v : Bool) : (b.setBit f i v).pairs = b.pairs := id rfl
@[simp] theorem Block.setBit_evtIn (b : Block) (f : Fld) (i : Nat) (v : Bool) : (b.setBit f i v).evtIn = b.evtIn := id rfl
@[simp] theorem Block.setBit_pwr (b : Block) (f : Fld) (i : Nat) (v : Bool) : (b.setBit f i v).pwr = b.pwr := id rfl
@[simp] theorem Block.setBit_mode (b : Block) (f : Fld) (i : Nat) (v : Bool) : (b.setBit f i v).mode = b.mode := id rfl
@[simp] theorem Block.setBit_tarn (b : Block) (f : Fld) (i : Nat) (v : Bool) : (b.setBit f i v).tarn = b.tarn := id rfl
@[simp] theorem Block.setBit_loop (b : Block) (f : Fld) (i : Nat) (v : Bool) : (b.setBit f i v).loop = b.loop := id rfl
@[simp] theorem Block.setBit_solver (b : Block) (f : Fld) (i : Nat) (v : Bool) : (b.setBit f i v).solver = b.solver := id rfl
@[simp] theorem Block.setBit_fusion (b : Block) (f : Fld) (i : Nat) (v : Bool) : (b.setBit f i v).fusion = b.fusion := id rfl
@[simp] theorem Block.setBit_gnss (b : Block) (f : Fld) (i : Nat) (v : Bool) : (b.setBit f i v).gnss = b.gnss := id rfl
@[simp] theorem Block.setBit_bkp (b : Block) (f : Fld) (i : Nat) (v : Bool) : (b.setBit f i v).bkp = b.bkp := id rfl
@[simp] theorem Block.setBit_sst (b : Block) (f : Fld) (i : Nat) (v : Bool) : (b.setBit f i v).sst = b.sst := id rfl
@[simp] theorem Block.setBit_steer (b : Block) (f : Fld) (i : Nat) (v : Bool) : (b.setBit f i v).steer = b.steer := id rfl
@[simp] theorem Block.setBit_cvy (b : Block) (f : Fld) (i : Nat) (v : Bool) : (b.setBit f i v).cvy = b.cvy := id rfl
@[simp] theorem Block.setBit_yld (b : Block) (f : Fld) (i : Nat) (v : Bool) : (b.setBit f i v).yld = b.yld := id rfl
@[simp] theorem Block.setBit_tile (b : Block) (f : Fld) (i : Nat) (v : Bool) : (b.setBit f i v).tile = b.tile := id rfl
@[simp] theorem Block.setBit_can (b : Block) (f : Fld) (i : Nat) (v : Bool) : (b.setBit f i v).can = b.can := id rfl
@[simp] theorem Block.setBit_eth (b : Block) (f : Fld) (i : Nat) (v : Bool) : (b.setBit f i v).eth = b.eth := id rfl
@[simp] theorem Block.setBit_ehr (b : Block) (f : Fld) (i : Nat) (v : Bool) : (b.setBit f i v).ehr = b.ehr := id rfl
@[simp] theorem Block.setBit_dsp (b : Block) (f : Fld) (i : Nat) (v : Bool) : (b.setBit f i v).dsp = b.dsp := id rfl
@[simp] theorem Block.setBit_evr (b : Block) (f : Fld) (i : Nat) (v : Bool) : (b.setBit f i v).evr = b.evr := id rfl
@[simp] theorem Block.setBit_poison (b : Block) (f : Fld) (i : Nat) (v : Bool) : (b.setBit f i v).poison = b.poison := id rfl
@[simp] theorem Block.setBit_corrected (b : Block) (f : Fld) (i : Nat) (v : Bool) : (b.setBit f i v).corrected = b.corrected := id rfl
@[simp] theorem Block.setBit_hlt (b : Block) (f : Fld) (i : Nat) (v : Bool) : (b.setBit f i v).hlt = b.hlt := id rfl
@[simp] theorem Block.setBit_cry (b : Block) (f : Fld) (i : Nat) (v : Bool) : (b.setBit f i v).cry = b.cry := id rfl
@[simp] theorem Block.setBit_dram (b : Block) (f : Fld) (i : Nat) (v : Bool) : (b.setBit f i v).dram = b.dram := id rfl
@[simp] theorem Block.setBit_upd (b : Block) (f : Fld) (i : Nat) (v : Bool) : (b.setBit f i v).upd = b.upd := id rfl
@[simp] theorem Block.setBit_whd (b : Block) (f : Fld) (i : Nat) (v : Bool) : (b.setBit f i v).whd = b.whd := id rfl

@[simp] theorem Block.inc_now (b : Block) (f : Fld) (n : Nat) : (b.inc f n).now = b.now := id rfl
@[simp] theorem Block.inc_inuse (b : Block) (f : Fld) (n : Nat) : (b.inc f n).inuse = b.inuse := id rfl
@[simp] theorem Block.inc_out (b : Block) (f : Fld) (n : Nat) : (b.inc f n).out = b.out := id rfl
@[simp] theorem Block.inc_free (b : Block) (f : Fld) (n : Nat) : (b.inc f n).free = b.free := id rfl
@[simp] theorem Block.inc_sys (b : Block) (f : Fld) (n : Nat) : (b.inc f n).sys = b.sys := id rfl
@[simp] theorem Block.inc_fab (b : Block) (f : Fld) (n : Nat) : (b.inc f n).fab = b.fab := id rfl
@[simp] theorem Block.inc_img (b : Block) (f : Fld) (n : Nat) : (b.inc f n).img = b.img := id rfl
@[simp] theorem Block.inc_chans (b : Block) (f : Fld) (n : Nat) : (b.inc f n).chans = b.chans := id rfl
@[simp] theorem Block.inc_cells (b : Block) (f : Fld) (n : Nat) : (b.inc f n).cells = b.cells := id rfl
@[simp] theorem Block.inc_scopes (b : Block) (f : Fld) (n : Nat) : (b.inc f n).scopes = b.scopes := id rfl
@[simp] theorem Block.inc_pairs (b : Block) (f : Fld) (n : Nat) : (b.inc f n).pairs = b.pairs := id rfl
@[simp] theorem Block.inc_evtIn (b : Block) (f : Fld) (n : Nat) : (b.inc f n).evtIn = b.evtIn := id rfl
@[simp] theorem Block.inc_pwr (b : Block) (f : Fld) (n : Nat) : (b.inc f n).pwr = b.pwr := id rfl
@[simp] theorem Block.inc_mode (b : Block) (f : Fld) (n : Nat) : (b.inc f n).mode = b.mode := id rfl
@[simp] theorem Block.inc_tarn (b : Block) (f : Fld) (n : Nat) : (b.inc f n).tarn = b.tarn := id rfl
@[simp] theorem Block.inc_loop (b : Block) (f : Fld) (n : Nat) : (b.inc f n).loop = b.loop := id rfl
@[simp] theorem Block.inc_solver (b : Block) (f : Fld) (n : Nat) : (b.inc f n).solver = b.solver := id rfl
@[simp] theorem Block.inc_fusion (b : Block) (f : Fld) (n : Nat) : (b.inc f n).fusion = b.fusion := id rfl
@[simp] theorem Block.inc_gnss (b : Block) (f : Fld) (n : Nat) : (b.inc f n).gnss = b.gnss := id rfl
@[simp] theorem Block.inc_bkp (b : Block) (f : Fld) (n : Nat) : (b.inc f n).bkp = b.bkp := id rfl
@[simp] theorem Block.inc_sst (b : Block) (f : Fld) (n : Nat) : (b.inc f n).sst = b.sst := id rfl
@[simp] theorem Block.inc_steer (b : Block) (f : Fld) (n : Nat) : (b.inc f n).steer = b.steer := id rfl
@[simp] theorem Block.inc_cvy (b : Block) (f : Fld) (n : Nat) : (b.inc f n).cvy = b.cvy := id rfl
@[simp] theorem Block.inc_yld (b : Block) (f : Fld) (n : Nat) : (b.inc f n).yld = b.yld := id rfl
@[simp] theorem Block.inc_tile (b : Block) (f : Fld) (n : Nat) : (b.inc f n).tile = b.tile := id rfl
@[simp] theorem Block.inc_can (b : Block) (f : Fld) (n : Nat) : (b.inc f n).can = b.can := id rfl
@[simp] theorem Block.inc_eth (b : Block) (f : Fld) (n : Nat) : (b.inc f n).eth = b.eth := id rfl
@[simp] theorem Block.inc_ehr (b : Block) (f : Fld) (n : Nat) : (b.inc f n).ehr = b.ehr := id rfl
@[simp] theorem Block.inc_dsp (b : Block) (f : Fld) (n : Nat) : (b.inc f n).dsp = b.dsp := id rfl
@[simp] theorem Block.inc_evr (b : Block) (f : Fld) (n : Nat) : (b.inc f n).evr = b.evr := id rfl
@[simp] theorem Block.inc_poison (b : Block) (f : Fld) (n : Nat) : (b.inc f n).poison = b.poison := id rfl
@[simp] theorem Block.inc_corrected (b : Block) (f : Fld) (n : Nat) : (b.inc f n).corrected = b.corrected := id rfl
@[simp] theorem Block.inc_hlt (b : Block) (f : Fld) (n : Nat) : (b.inc f n).hlt = b.hlt := id rfl
@[simp] theorem Block.inc_cry (b : Block) (f : Fld) (n : Nat) : (b.inc f n).cry = b.cry := id rfl
@[simp] theorem Block.inc_dram (b : Block) (f : Fld) (n : Nat) : (b.inc f n).dram = b.dram := id rfl
@[simp] theorem Block.inc_upd (b : Block) (f : Fld) (n : Nat) : (b.inc f n).upd = b.upd := id rfl
@[simp] theorem Block.inc_whd (b : Block) (f : Fld) (n : Nat) : (b.inc f n).whd = b.whd := id rfl

@[simp] theorem Block.incW_now (b : Block) (f : Fld) (n : Nat) : (b.incW f n).now = b.now := id rfl
@[simp] theorem Block.incW_inuse (b : Block) (f : Fld) (n : Nat) : (b.incW f n).inuse = b.inuse := id rfl
@[simp] theorem Block.incW_out (b : Block) (f : Fld) (n : Nat) : (b.incW f n).out = b.out := id rfl
@[simp] theorem Block.incW_free (b : Block) (f : Fld) (n : Nat) : (b.incW f n).free = b.free := id rfl
@[simp] theorem Block.incW_sys (b : Block) (f : Fld) (n : Nat) : (b.incW f n).sys = b.sys := id rfl
@[simp] theorem Block.incW_fab (b : Block) (f : Fld) (n : Nat) : (b.incW f n).fab = b.fab := id rfl
@[simp] theorem Block.incW_img (b : Block) (f : Fld) (n : Nat) : (b.incW f n).img = b.img := id rfl
@[simp] theorem Block.incW_chans (b : Block) (f : Fld) (n : Nat) : (b.incW f n).chans = b.chans := id rfl
@[simp] theorem Block.incW_cells (b : Block) (f : Fld) (n : Nat) : (b.incW f n).cells = b.cells := id rfl
@[simp] theorem Block.incW_scopes (b : Block) (f : Fld) (n : Nat) : (b.incW f n).scopes = b.scopes := id rfl
@[simp] theorem Block.incW_pairs (b : Block) (f : Fld) (n : Nat) : (b.incW f n).pairs = b.pairs := id rfl
@[simp] theorem Block.incW_evtIn (b : Block) (f : Fld) (n : Nat) : (b.incW f n).evtIn = b.evtIn := id rfl
@[simp] theorem Block.incW_pwr (b : Block) (f : Fld) (n : Nat) : (b.incW f n).pwr = b.pwr := id rfl
@[simp] theorem Block.incW_mode (b : Block) (f : Fld) (n : Nat) : (b.incW f n).mode = b.mode := id rfl
@[simp] theorem Block.incW_tarn (b : Block) (f : Fld) (n : Nat) : (b.incW f n).tarn = b.tarn := id rfl
@[simp] theorem Block.incW_loop (b : Block) (f : Fld) (n : Nat) : (b.incW f n).loop = b.loop := id rfl
@[simp] theorem Block.incW_solver (b : Block) (f : Fld) (n : Nat) : (b.incW f n).solver = b.solver := id rfl
@[simp] theorem Block.incW_fusion (b : Block) (f : Fld) (n : Nat) : (b.incW f n).fusion = b.fusion := id rfl
@[simp] theorem Block.incW_gnss (b : Block) (f : Fld) (n : Nat) : (b.incW f n).gnss = b.gnss := id rfl
@[simp] theorem Block.incW_bkp (b : Block) (f : Fld) (n : Nat) : (b.incW f n).bkp = b.bkp := id rfl
@[simp] theorem Block.incW_sst (b : Block) (f : Fld) (n : Nat) : (b.incW f n).sst = b.sst := id rfl
@[simp] theorem Block.incW_steer (b : Block) (f : Fld) (n : Nat) : (b.incW f n).steer = b.steer := id rfl
@[simp] theorem Block.incW_cvy (b : Block) (f : Fld) (n : Nat) : (b.incW f n).cvy = b.cvy := id rfl
@[simp] theorem Block.incW_yld (b : Block) (f : Fld) (n : Nat) : (b.incW f n).yld = b.yld := id rfl
@[simp] theorem Block.incW_tile (b : Block) (f : Fld) (n : Nat) : (b.incW f n).tile = b.tile := id rfl
@[simp] theorem Block.incW_can (b : Block) (f : Fld) (n : Nat) : (b.incW f n).can = b.can := id rfl
@[simp] theorem Block.incW_eth (b : Block) (f : Fld) (n : Nat) : (b.incW f n).eth = b.eth := id rfl
@[simp] theorem Block.incW_ehr (b : Block) (f : Fld) (n : Nat) : (b.incW f n).ehr = b.ehr := id rfl
@[simp] theorem Block.incW_dsp (b : Block) (f : Fld) (n : Nat) : (b.incW f n).dsp = b.dsp := id rfl
@[simp] theorem Block.incW_evr (b : Block) (f : Fld) (n : Nat) : (b.incW f n).evr = b.evr := id rfl
@[simp] theorem Block.incW_poison (b : Block) (f : Fld) (n : Nat) : (b.incW f n).poison = b.poison := id rfl
@[simp] theorem Block.incW_corrected (b : Block) (f : Fld) (n : Nat) : (b.incW f n).corrected = b.corrected := id rfl
@[simp] theorem Block.incW_hlt (b : Block) (f : Fld) (n : Nat) : (b.incW f n).hlt = b.hlt := id rfl
@[simp] theorem Block.incW_cry (b : Block) (f : Fld) (n : Nat) : (b.incW f n).cry = b.cry := id rfl
@[simp] theorem Block.incW_dram (b : Block) (f : Fld) (n : Nat) : (b.incW f n).dram = b.dram := id rfl
@[simp] theorem Block.incW_upd (b : Block) (f : Fld) (n : Nat) : (b.incW f n).upd = b.upd := id rfl
@[simp] theorem Block.incW_whd (b : Block) (f : Fld) (n : Nat) : (b.incW f n).whd = b.whd := id rfl

@[simp] theorem Block.boundary_now (b : Block) (lo hi : Nat) : (b.boundary lo hi).now = b.now := id rfl
@[simp] theorem Block.boundary_regs (b : Block) (lo hi : Nat) : (b.boundary lo hi).regs = b.regs := id rfl
@[simp] theorem Block.boundary_out (b : Block) (lo hi : Nat) : (b.boundary lo hi).out = b.out := id rfl
@[simp] theorem Block.boundary_free (b : Block) (lo hi : Nat) : (b.boundary lo hi).free = b.free := id rfl
@[simp] theorem Block.boundary_sys (b : Block) (lo hi : Nat) : (b.boundary lo hi).sys = b.sys := id rfl
@[simp] theorem Block.boundary_fab (b : Block) (lo hi : Nat) : (b.boundary lo hi).fab = b.fab := id rfl
@[simp] theorem Block.boundary_img (b : Block) (lo hi : Nat) : (b.boundary lo hi).img = b.img := id rfl
@[simp] theorem Block.boundary_chans (b : Block) (lo hi : Nat) : (b.boundary lo hi).chans = b.chans := id rfl
@[simp] theorem Block.boundary_cells (b : Block) (lo hi : Nat) : (b.boundary lo hi).cells = b.cells := id rfl
@[simp] theorem Block.boundary_scopes (b : Block) (lo hi : Nat) : (b.boundary lo hi).scopes = b.scopes := id rfl
@[simp] theorem Block.boundary_pairs (b : Block) (lo hi : Nat) : (b.boundary lo hi).pairs = b.pairs := id rfl
@[simp] theorem Block.boundary_evtIn (b : Block) (lo hi : Nat) : (b.boundary lo hi).evtIn = b.evtIn := id rfl
@[simp] theorem Block.boundary_pwr (b : Block) (lo hi : Nat) : (b.boundary lo hi).pwr = b.pwr := id rfl
@[simp] theorem Block.boundary_mode (b : Block) (lo hi : Nat) : (b.boundary lo hi).mode = b.mode := id rfl
@[simp] theorem Block.boundary_tarn (b : Block) (lo hi : Nat) : (b.boundary lo hi).tarn = b.tarn := id rfl
@[simp] theorem Block.boundary_loop (b : Block) (lo hi : Nat) : (b.boundary lo hi).loop = b.loop := id rfl
@[simp] theorem Block.boundary_solver (b : Block) (lo hi : Nat) : (b.boundary lo hi).solver = b.solver := id rfl
@[simp] theorem Block.boundary_fusion (b : Block) (lo hi : Nat) : (b.boundary lo hi).fusion = b.fusion := id rfl
@[simp] theorem Block.boundary_gnss (b : Block) (lo hi : Nat) : (b.boundary lo hi).gnss = b.gnss := id rfl
@[simp] theorem Block.boundary_bkp (b : Block) (lo hi : Nat) : (b.boundary lo hi).bkp = b.bkp := id rfl
@[simp] theorem Block.boundary_sst (b : Block) (lo hi : Nat) : (b.boundary lo hi).sst = b.sst := id rfl
@[simp] theorem Block.boundary_steer (b : Block) (lo hi : Nat) : (b.boundary lo hi).steer = b.steer := id rfl
@[simp] theorem Block.boundary_cvy (b : Block) (lo hi : Nat) : (b.boundary lo hi).cvy = b.cvy := id rfl
@[simp] theorem Block.boundary_yld (b : Block) (lo hi : Nat) : (b.boundary lo hi).yld = b.yld := id rfl
@[simp] theorem Block.boundary_tile (b : Block) (lo hi : Nat) : (b.boundary lo hi).tile = b.tile := id rfl
@[simp] theorem Block.boundary_can (b : Block) (lo hi : Nat) : (b.boundary lo hi).can = b.can := id rfl
@[simp] theorem Block.boundary_eth (b : Block) (lo hi : Nat) : (b.boundary lo hi).eth = b.eth := id rfl
@[simp] theorem Block.boundary_ehr (b : Block) (lo hi : Nat) : (b.boundary lo hi).ehr = b.ehr := id rfl
@[simp] theorem Block.boundary_dsp (b : Block) (lo hi : Nat) : (b.boundary lo hi).dsp = b.dsp := id rfl
@[simp] theorem Block.boundary_evr (b : Block) (lo hi : Nat) : (b.boundary lo hi).evr = b.evr := id rfl
@[simp] theorem Block.boundary_poison (b : Block) (lo hi : Nat) : (b.boundary lo hi).poison = b.poison := id rfl
@[simp] theorem Block.boundary_corrected (b : Block) (lo hi : Nat) : (b.boundary lo hi).corrected = b.corrected := id rfl
@[simp] theorem Block.boundary_hlt (b : Block) (lo hi : Nat) : (b.boundary lo hi).hlt = b.hlt := id rfl
@[simp] theorem Block.boundary_cry (b : Block) (lo hi : Nat) : (b.boundary lo hi).cry = b.cry := id rfl
@[simp] theorem Block.boundary_dram (b : Block) (lo hi : Nat) : (b.boundary lo hi).dram = b.dram := id rfl
@[simp] theorem Block.boundary_upd (b : Block) (lo hi : Nat) : (b.boundary lo hi).upd = b.upd := id rfl
@[simp] theorem Block.boundary_whd (b : Block) (lo hi : Nat) : (b.boundary lo hi).whd = b.whd := id rfl
@[simp] theorem Block.get_boundary (b : Block) (lo hi : Nat) (k : Fld) : (b.boundary lo hi).get k = b.get k := id rfl

@[simp] theorem Block.resetRegs_now (b : Block) (lo hi : Nat) : (b.resetRegs lo hi).now = b.now := id rfl
@[simp] theorem Block.resetRegs_out (b : Block) (lo hi : Nat) : (b.resetRegs lo hi).out = b.out := id rfl
@[simp] theorem Block.resetRegs_free (b : Block) (lo hi : Nat) : (b.resetRegs lo hi).free = b.free := id rfl
@[simp] theorem Block.resetRegs_sys (b : Block) (lo hi : Nat) : (b.resetRegs lo hi).sys = b.sys := id rfl
@[simp] theorem Block.resetRegs_fab (b : Block) (lo hi : Nat) : (b.resetRegs lo hi).fab = b.fab := id rfl
@[simp] theorem Block.resetRegs_img (b : Block) (lo hi : Nat) : (b.resetRegs lo hi).img = b.img := id rfl
@[simp] theorem Block.resetRegs_chans (b : Block) (lo hi : Nat) : (b.resetRegs lo hi).chans = b.chans := id rfl
@[simp] theorem Block.resetRegs_cells (b : Block) (lo hi : Nat) : (b.resetRegs lo hi).cells = b.cells := id rfl
@[simp] theorem Block.resetRegs_scopes (b : Block) (lo hi : Nat) : (b.resetRegs lo hi).scopes = b.scopes := id rfl
@[simp] theorem Block.resetRegs_pairs (b : Block) (lo hi : Nat) : (b.resetRegs lo hi).pairs = b.pairs := id rfl
@[simp] theorem Block.resetRegs_evtIn (b : Block) (lo hi : Nat) : (b.resetRegs lo hi).evtIn = b.evtIn := id rfl
@[simp] theorem Block.resetRegs_pwr (b : Block) (lo hi : Nat) : (b.resetRegs lo hi).pwr = b.pwr := id rfl
@[simp] theorem Block.resetRegs_mode (b : Block) (lo hi : Nat) : (b.resetRegs lo hi).mode = b.mode := id rfl
@[simp] theorem Block.resetRegs_tarn (b : Block) (lo hi : Nat) : (b.resetRegs lo hi).tarn = b.tarn := id rfl
@[simp] theorem Block.resetRegs_loop (b : Block) (lo hi : Nat) : (b.resetRegs lo hi).loop = b.loop := id rfl
@[simp] theorem Block.resetRegs_solver (b : Block) (lo hi : Nat) : (b.resetRegs lo hi).solver = b.solver := id rfl
@[simp] theorem Block.resetRegs_fusion (b : Block) (lo hi : Nat) : (b.resetRegs lo hi).fusion = b.fusion := id rfl
@[simp] theorem Block.resetRegs_gnss (b : Block) (lo hi : Nat) : (b.resetRegs lo hi).gnss = b.gnss := id rfl
@[simp] theorem Block.resetRegs_bkp (b : Block) (lo hi : Nat) : (b.resetRegs lo hi).bkp = b.bkp := id rfl
@[simp] theorem Block.resetRegs_sst (b : Block) (lo hi : Nat) : (b.resetRegs lo hi).sst = b.sst := id rfl
@[simp] theorem Block.resetRegs_steer (b : Block) (lo hi : Nat) : (b.resetRegs lo hi).steer = b.steer := id rfl
@[simp] theorem Block.resetRegs_cvy (b : Block) (lo hi : Nat) : (b.resetRegs lo hi).cvy = b.cvy := id rfl
@[simp] theorem Block.resetRegs_yld (b : Block) (lo hi : Nat) : (b.resetRegs lo hi).yld = b.yld := id rfl
@[simp] theorem Block.resetRegs_tile (b : Block) (lo hi : Nat) : (b.resetRegs lo hi).tile = b.tile := id rfl
@[simp] theorem Block.resetRegs_can (b : Block) (lo hi : Nat) : (b.resetRegs lo hi).can = b.can := id rfl
@[simp] theorem Block.resetRegs_eth (b : Block) (lo hi : Nat) : (b.resetRegs lo hi).eth = b.eth := id rfl
@[simp] theorem Block.resetRegs_ehr (b : Block) (lo hi : Nat) : (b.resetRegs lo hi).ehr = b.ehr := id rfl
@[simp] theorem Block.resetRegs_dsp (b : Block) (lo hi : Nat) : (b.resetRegs lo hi).dsp = b.dsp := id rfl
@[simp] theorem Block.resetRegs_evr (b : Block) (lo hi : Nat) : (b.resetRegs lo hi).evr = b.evr := id rfl
@[simp] theorem Block.resetRegs_poison (b : Block) (lo hi : Nat) : (b.resetRegs lo hi).poison = b.poison := id rfl
@[simp] theorem Block.resetRegs_corrected (b : Block) (lo hi : Nat) : (b.resetRegs lo hi).corrected = b.corrected := id rfl
@[simp] theorem Block.resetRegs_hlt (b : Block) (lo hi : Nat) : (b.resetRegs lo hi).hlt = b.hlt := id rfl
@[simp] theorem Block.resetRegs_cry (b : Block) (lo hi : Nat) : (b.resetRegs lo hi).cry = b.cry := id rfl
@[simp] theorem Block.resetRegs_dram (b : Block) (lo hi : Nat) : (b.resetRegs lo hi).dram = b.dram := id rfl
@[simp] theorem Block.resetRegs_upd (b : Block) (lo hi : Nat) : (b.resetRegs lo hi).upd = b.upd := id rfl
@[simp] theorem Block.resetRegs_whd (b : Block) (lo hi : Nat) : (b.resetRegs lo hi).whd = b.whd := id rfl

@[simp] theorem Block.spend_now (b : Block) : (b.spend).now = b.now := id rfl
@[simp] theorem Block.spend_regs (b : Block) : (b.spend).regs = b.regs := id rfl
@[simp] theorem Block.spend_inuse (b : Block) : (b.spend).inuse = b.inuse := id rfl
@[simp] theorem Block.spend_out (b : Block) : (b.spend).out = b.out := id rfl
@[simp] theorem Block.spend_sys (b : Block) : (b.spend).sys = b.sys := id rfl
@[simp] theorem Block.spend_fab (b : Block) : (b.spend).fab = b.fab := id rfl
@[simp] theorem Block.spend_img (b : Block) : (b.spend).img = b.img := id rfl
@[simp] theorem Block.spend_chans (b : Block) : (b.spend).chans = b.chans := id rfl
@[simp] theorem Block.spend_cells (b : Block) : (b.spend).cells = b.cells := id rfl
@[simp] theorem Block.spend_scopes (b : Block) : (b.spend).scopes = b.scopes := id rfl
@[simp] theorem Block.spend_pairs (b : Block) : (b.spend).pairs = b.pairs := id rfl
@[simp] theorem Block.spend_evtIn (b : Block) : (b.spend).evtIn = b.evtIn := id rfl
@[simp] theorem Block.spend_pwr (b : Block) : (b.spend).pwr = b.pwr := id rfl
@[simp] theorem Block.spend_mode (b : Block) : (b.spend).mode = b.mode := id rfl
@[simp] theorem Block.spend_tarn (b : Block) : (b.spend).tarn = b.tarn := id rfl
@[simp] theorem Block.spend_loop (b : Block) : (b.spend).loop = b.loop := id rfl
@[simp] theorem Block.spend_solver (b : Block) : (b.spend).solver = b.solver := id rfl
@[simp] theorem Block.spend_fusion (b : Block) : (b.spend).fusion = b.fusion := id rfl
@[simp] theorem Block.spend_gnss (b : Block) : (b.spend).gnss = b.gnss := id rfl
@[simp] theorem Block.spend_bkp (b : Block) : (b.spend).bkp = b.bkp := id rfl
@[simp] theorem Block.spend_sst (b : Block) : (b.spend).sst = b.sst := id rfl
@[simp] theorem Block.spend_steer (b : Block) : (b.spend).steer = b.steer := id rfl
@[simp] theorem Block.spend_cvy (b : Block) : (b.spend).cvy = b.cvy := id rfl
@[simp] theorem Block.spend_yld (b : Block) : (b.spend).yld = b.yld := id rfl
@[simp] theorem Block.spend_tile (b : Block) : (b.spend).tile = b.tile := id rfl
@[simp] theorem Block.spend_can (b : Block) : (b.spend).can = b.can := id rfl
@[simp] theorem Block.spend_eth (b : Block) : (b.spend).eth = b.eth := id rfl
@[simp] theorem Block.spend_ehr (b : Block) : (b.spend).ehr = b.ehr := id rfl
@[simp] theorem Block.spend_dsp (b : Block) : (b.spend).dsp = b.dsp := id rfl
@[simp] theorem Block.spend_evr (b : Block) : (b.spend).evr = b.evr := id rfl
@[simp] theorem Block.spend_poison (b : Block) : (b.spend).poison = b.poison := id rfl
@[simp] theorem Block.spend_corrected (b : Block) : (b.spend).corrected = b.corrected := id rfl
@[simp] theorem Block.spend_hlt (b : Block) : (b.spend).hlt = b.hlt := id rfl
@[simp] theorem Block.spend_cry (b : Block) : (b.spend).cry = b.cry := id rfl
@[simp] theorem Block.spend_dram (b : Block) : (b.spend).dram = b.dram := id rfl
@[simp] theorem Block.spend_upd (b : Block) : (b.spend).upd = b.upd := id rfl
@[simp] theorem Block.spend_whd (b : Block) : (b.spend).whd = b.whd := id rfl
@[simp] theorem Block.get_spend (b : Block) (k : Fld) : (b.spend).get k = b.get k := id rfl

@[simp] theorem Block.setOpen_now (b : Block) (f : Fld) : (b.setOpen f).now = b.now := id rfl
@[simp] theorem Block.setOpen_inuse (b : Block) (f : Fld) : (b.setOpen f).inuse = b.inuse := id rfl
@[simp] theorem Block.setOpen_out (b : Block) (f : Fld) : (b.setOpen f).out = b.out := id rfl
@[simp] theorem Block.setOpen_sys (b : Block) (f : Fld) : (b.setOpen f).sys = b.sys := id rfl
@[simp] theorem Block.setOpen_fab (b : Block) (f : Fld) : (b.setOpen f).fab = b.fab := id rfl
@[simp] theorem Block.setOpen_img (b : Block) (f : Fld) : (b.setOpen f).img = b.img := id rfl
@[simp] theorem Block.setOpen_chans (b : Block) (f : Fld) : (b.setOpen f).chans = b.chans := id rfl
@[simp] theorem Block.setOpen_cells (b : Block) (f : Fld) : (b.setOpen f).cells = b.cells := id rfl
@[simp] theorem Block.setOpen_scopes (b : Block) (f : Fld) : (b.setOpen f).scopes = b.scopes := id rfl
@[simp] theorem Block.setOpen_pairs (b : Block) (f : Fld) : (b.setOpen f).pairs = b.pairs := id rfl
@[simp] theorem Block.setOpen_evtIn (b : Block) (f : Fld) : (b.setOpen f).evtIn = b.evtIn := id rfl
@[simp] theorem Block.setOpen_pwr (b : Block) (f : Fld) : (b.setOpen f).pwr = b.pwr := id rfl
@[simp] theorem Block.setOpen_mode (b : Block) (f : Fld) : (b.setOpen f).mode = b.mode := id rfl
@[simp] theorem Block.setOpen_tarn (b : Block) (f : Fld) : (b.setOpen f).tarn = b.tarn := id rfl
@[simp] theorem Block.setOpen_loop (b : Block) (f : Fld) : (b.setOpen f).loop = b.loop := id rfl
@[simp] theorem Block.setOpen_solver (b : Block) (f : Fld) : (b.setOpen f).solver = b.solver := id rfl
@[simp] theorem Block.setOpen_fusion (b : Block) (f : Fld) : (b.setOpen f).fusion = b.fusion := id rfl
@[simp] theorem Block.setOpen_gnss (b : Block) (f : Fld) : (b.setOpen f).gnss = b.gnss := id rfl
@[simp] theorem Block.setOpen_bkp (b : Block) (f : Fld) : (b.setOpen f).bkp = b.bkp := id rfl
@[simp] theorem Block.setOpen_sst (b : Block) (f : Fld) : (b.setOpen f).sst = b.sst := id rfl
@[simp] theorem Block.setOpen_steer (b : Block) (f : Fld) : (b.setOpen f).steer = b.steer := id rfl
@[simp] theorem Block.setOpen_cvy (b : Block) (f : Fld) : (b.setOpen f).cvy = b.cvy := id rfl
@[simp] theorem Block.setOpen_yld (b : Block) (f : Fld) : (b.setOpen f).yld = b.yld := id rfl
@[simp] theorem Block.setOpen_tile (b : Block) (f : Fld) : (b.setOpen f).tile = b.tile := id rfl
@[simp] theorem Block.setOpen_can (b : Block) (f : Fld) : (b.setOpen f).can = b.can := id rfl
@[simp] theorem Block.setOpen_eth (b : Block) (f : Fld) : (b.setOpen f).eth = b.eth := id rfl
@[simp] theorem Block.setOpen_ehr (b : Block) (f : Fld) : (b.setOpen f).ehr = b.ehr := id rfl
@[simp] theorem Block.setOpen_dsp (b : Block) (f : Fld) : (b.setOpen f).dsp = b.dsp := id rfl
@[simp] theorem Block.setOpen_evr (b : Block) (f : Fld) : (b.setOpen f).evr = b.evr := id rfl
@[simp] theorem Block.setOpen_poison (b : Block) (f : Fld) : (b.setOpen f).poison = b.poison := id rfl
@[simp] theorem Block.setOpen_corrected (b : Block) (f : Fld) : (b.setOpen f).corrected = b.corrected := id rfl
@[simp] theorem Block.setOpen_hlt (b : Block) (f : Fld) : (b.setOpen f).hlt = b.hlt := id rfl
@[simp] theorem Block.setOpen_cry (b : Block) (f : Fld) : (b.setOpen f).cry = b.cry := id rfl
@[simp] theorem Block.setOpen_dram (b : Block) (f : Fld) : (b.setOpen f).dram = b.dram := id rfl
@[simp] theorem Block.setOpen_upd (b : Block) (f : Fld) : (b.setOpen f).upd = b.upd := id rfl
@[simp] theorem Block.setOpen_whd (b : Block) (f : Fld) : (b.setOpen f).whd = b.whd := id rfl

@[simp] theorem Block.send_now (b : Block) (p : Packet) : (b.send p).now = b.now := id rfl
@[simp] theorem Block.send_regs (b : Block) (p : Packet) : (b.send p).regs = b.regs := id rfl
@[simp] theorem Block.send_inuse (b : Block) (p : Packet) : (b.send p).inuse = b.inuse := id rfl
@[simp] theorem Block.send_free (b : Block) (p : Packet) : (b.send p).free = b.free := id rfl
@[simp] theorem Block.send_sys (b : Block) (p : Packet) : (b.send p).sys = b.sys := id rfl
@[simp] theorem Block.send_fab (b : Block) (p : Packet) : (b.send p).fab = b.fab := id rfl
@[simp] theorem Block.send_img (b : Block) (p : Packet) : (b.send p).img = b.img := id rfl
@[simp] theorem Block.send_chans (b : Block) (p : Packet) : (b.send p).chans = b.chans := id rfl
@[simp] theorem Block.send_cells (b : Block) (p : Packet) : (b.send p).cells = b.cells := id rfl
@[simp] theorem Block.send_scopes (b : Block) (p : Packet) : (b.send p).scopes = b.scopes := id rfl
@[simp] theorem Block.send_pairs (b : Block) (p : Packet) : (b.send p).pairs = b.pairs := id rfl
@[simp] theorem Block.send_evtIn (b : Block) (p : Packet) : (b.send p).evtIn = b.evtIn := id rfl
@[simp] theorem Block.send_pwr (b : Block) (p : Packet) : (b.send p).pwr = b.pwr := id rfl
@[simp] theorem Block.send_mode (b : Block) (p : Packet) : (b.send p).mode = b.mode := id rfl
@[simp] theorem Block.send_tarn (b : Block) (p : Packet) : (b.send p).tarn = b.tarn := id rfl
@[simp] theorem Block.send_loop (b : Block) (p : Packet) : (b.send p).loop = b.loop := id rfl
@[simp] theorem Block.send_solver (b : Block) (p : Packet) : (b.send p).solver = b.solver := id rfl
@[simp] theorem Block.send_fusion (b : Block) (p : Packet) : (b.send p).fusion = b.fusion := id rfl
@[simp] theorem Block.send_gnss (b : Block) (p : Packet) : (b.send p).gnss = b.gnss := id rfl
@[simp] theorem Block.send_bkp (b : Block) (p : Packet) : (b.send p).bkp = b.bkp := id rfl
@[simp] theorem Block.send_sst (b : Block) (p : Packet) : (b.send p).sst = b.sst := id rfl
@[simp] theorem Block.send_steer (b : Block) (p : Packet) : (b.send p).steer = b.steer := id rfl
@[simp] theorem Block.send_cvy (b : Block) (p : Packet) : (b.send p).cvy = b.cvy := id rfl
@[simp] theorem Block.send_yld (b : Block) (p : Packet) : (b.send p).yld = b.yld := id rfl
@[simp] theorem Block.send_tile (b : Block) (p : Packet) : (b.send p).tile = b.tile := id rfl
@[simp] theorem Block.send_can (b : Block) (p : Packet) : (b.send p).can = b.can := id rfl
@[simp] theorem Block.send_eth (b : Block) (p : Packet) : (b.send p).eth = b.eth := id rfl
@[simp] theorem Block.send_ehr (b : Block) (p : Packet) : (b.send p).ehr = b.ehr := id rfl
@[simp] theorem Block.send_dsp (b : Block) (p : Packet) : (b.send p).dsp = b.dsp := id rfl
@[simp] theorem Block.send_evr (b : Block) (p : Packet) : (b.send p).evr = b.evr := id rfl
@[simp] theorem Block.send_poison (b : Block) (p : Packet) : (b.send p).poison = b.poison := id rfl
@[simp] theorem Block.send_corrected (b : Block) (p : Packet) : (b.send p).corrected = b.corrected := id rfl
@[simp] theorem Block.send_hlt (b : Block) (p : Packet) : (b.send p).hlt = b.hlt := id rfl
@[simp] theorem Block.send_cry (b : Block) (p : Packet) : (b.send p).cry = b.cry := id rfl
@[simp] theorem Block.send_dram (b : Block) (p : Packet) : (b.send p).dram = b.dram := id rfl
@[simp] theorem Block.send_upd (b : Block) (p : Packet) : (b.send p).upd = b.upd := id rfl
@[simp] theorem Block.send_whd (b : Block) (p : Packet) : (b.send p).whd = b.whd := id rfl
@[simp] theorem Block.get_send (b : Block) (p : Packet) (k : Fld) : (b.send p).get k = b.get k := id rfl

@[simp] theorem Block.post_now (b : Block) (p : Packet) : (b.post p).now = b.now := id rfl
@[simp] theorem Block.post_regs (b : Block) (p : Packet) : (b.post p).regs = b.regs := id rfl
@[simp] theorem Block.post_inuse (b : Block) (p : Packet) : (b.post p).inuse = b.inuse := id rfl
@[simp] theorem Block.post_free (b : Block) (p : Packet) : (b.post p).free = b.free := id rfl
@[simp] theorem Block.post_sys (b : Block) (p : Packet) : (b.post p).sys = b.sys := id rfl
@[simp] theorem Block.post_img (b : Block) (p : Packet) : (b.post p).img = b.img := id rfl
@[simp] theorem Block.post_chans (b : Block) (p : Packet) : (b.post p).chans = b.chans := id rfl
@[simp] theorem Block.post_cells (b : Block) (p : Packet) : (b.post p).cells = b.cells := id rfl
@[simp] theorem Block.post_scopes (b : Block) (p : Packet) : (b.post p).scopes = b.scopes := id rfl
@[simp] theorem Block.post_pairs (b : Block) (p : Packet) : (b.post p).pairs = b.pairs := id rfl
@[simp] theorem Block.post_evtIn (b : Block) (p : Packet) : (b.post p).evtIn = b.evtIn := id rfl
@[simp] theorem Block.post_pwr (b : Block) (p : Packet) : (b.post p).pwr = b.pwr := id rfl
@[simp] theorem Block.post_mode (b : Block) (p : Packet) : (b.post p).mode = b.mode := id rfl
@[simp] theorem Block.post_tarn (b : Block) (p : Packet) : (b.post p).tarn = b.tarn := id rfl
@[simp] theorem Block.post_loop (b : Block) (p : Packet) : (b.post p).loop = b.loop := id rfl
@[simp] theorem Block.post_solver (b : Block) (p : Packet) : (b.post p).solver = b.solver := id rfl
@[simp] theorem Block.post_fusion (b : Block) (p : Packet) : (b.post p).fusion = b.fusion := id rfl
@[simp] theorem Block.post_gnss (b : Block) (p : Packet) : (b.post p).gnss = b.gnss := id rfl
@[simp] theorem Block.post_bkp (b : Block) (p : Packet) : (b.post p).bkp = b.bkp := id rfl
@[simp] theorem Block.post_sst (b : Block) (p : Packet) : (b.post p).sst = b.sst := id rfl
@[simp] theorem Block.post_steer (b : Block) (p : Packet) : (b.post p).steer = b.steer := id rfl
@[simp] theorem Block.post_cvy (b : Block) (p : Packet) : (b.post p).cvy = b.cvy := id rfl
@[simp] theorem Block.post_yld (b : Block) (p : Packet) : (b.post p).yld = b.yld := id rfl
@[simp] theorem Block.post_tile (b : Block) (p : Packet) : (b.post p).tile = b.tile := id rfl
@[simp] theorem Block.post_can (b : Block) (p : Packet) : (b.post p).can = b.can := id rfl
@[simp] theorem Block.post_eth (b : Block) (p : Packet) : (b.post p).eth = b.eth := id rfl
@[simp] theorem Block.post_ehr (b : Block) (p : Packet) : (b.post p).ehr = b.ehr := id rfl
@[simp] theorem Block.post_dsp (b : Block) (p : Packet) : (b.post p).dsp = b.dsp := id rfl
@[simp] theorem Block.post_evr (b : Block) (p : Packet) : (b.post p).evr = b.evr := id rfl
@[simp] theorem Block.post_poison (b : Block) (p : Packet) : (b.post p).poison = b.poison := id rfl
@[simp] theorem Block.post_corrected (b : Block) (p : Packet) : (b.post p).corrected = b.corrected := id rfl
@[simp] theorem Block.post_hlt (b : Block) (p : Packet) : (b.post p).hlt = b.hlt := id rfl
@[simp] theorem Block.post_cry (b : Block) (p : Packet) : (b.post p).cry = b.cry := id rfl
@[simp] theorem Block.post_dram (b : Block) (p : Packet) : (b.post p).dram = b.dram := id rfl
@[simp] theorem Block.post_upd (b : Block) (p : Packet) : (b.post p).upd = b.upd := id rfl
@[simp] theorem Block.post_whd (b : Block) (p : Packet) : (b.post p).whd = b.whd := id rfl
@[simp] theorem Block.get_post (b : Block) (p : Packet) (k : Fld) : (b.post p).get k = b.get k := id rfl

@[simp] theorem Block.resync_now (b : Block) (q : Nat → Bool) : (b.resync q).now = b.now := id rfl
@[simp] theorem Block.resync_regs (b : Block) (q : Nat → Bool) : (b.resync q).regs = b.regs := id rfl
@[simp] theorem Block.resync_inuse (b : Block) (q : Nat → Bool) : (b.resync q).inuse = b.inuse := id rfl
@[simp] theorem Block.resync_out (b : Block) (q : Nat → Bool) : (b.resync q).out = b.out := id rfl
@[simp] theorem Block.resync_free (b : Block) (q : Nat → Bool) : (b.resync q).free = b.free := id rfl
@[simp] theorem Block.resync_sys (b : Block) (q : Nat → Bool) : (b.resync q).sys = b.sys := id rfl
@[simp] theorem Block.resync_img (b : Block) (q : Nat → Bool) : (b.resync q).img = b.img := id rfl
@[simp] theorem Block.resync_chans (b : Block) (q : Nat → Bool) : (b.resync q).chans = b.chans := id rfl
@[simp] theorem Block.resync_cells (b : Block) (q : Nat → Bool) : (b.resync q).cells = b.cells := id rfl
@[simp] theorem Block.resync_scopes (b : Block) (q : Nat → Bool) : (b.resync q).scopes = b.scopes := id rfl
@[simp] theorem Block.resync_pairs (b : Block) (q : Nat → Bool) : (b.resync q).pairs = b.pairs := id rfl
@[simp] theorem Block.resync_evtIn (b : Block) (q : Nat → Bool) : (b.resync q).evtIn = b.evtIn := id rfl
@[simp] theorem Block.resync_pwr (b : Block) (q : Nat → Bool) : (b.resync q).pwr = b.pwr := id rfl
@[simp] theorem Block.resync_mode (b : Block) (q : Nat → Bool) : (b.resync q).mode = b.mode := id rfl
@[simp] theorem Block.resync_tarn (b : Block) (q : Nat → Bool) : (b.resync q).tarn = b.tarn := id rfl
@[simp] theorem Block.resync_loop (b : Block) (q : Nat → Bool) : (b.resync q).loop = b.loop := id rfl
@[simp] theorem Block.resync_solver (b : Block) (q : Nat → Bool) : (b.resync q).solver = b.solver := id rfl
@[simp] theorem Block.resync_fusion (b : Block) (q : Nat → Bool) : (b.resync q).fusion = b.fusion := id rfl
@[simp] theorem Block.resync_gnss (b : Block) (q : Nat → Bool) : (b.resync q).gnss = b.gnss := id rfl
@[simp] theorem Block.resync_bkp (b : Block) (q : Nat → Bool) : (b.resync q).bkp = b.bkp := id rfl
@[simp] theorem Block.resync_sst (b : Block) (q : Nat → Bool) : (b.resync q).sst = b.sst := id rfl
@[simp] theorem Block.resync_steer (b : Block) (q : Nat → Bool) : (b.resync q).steer = b.steer := id rfl
@[simp] theorem Block.resync_cvy (b : Block) (q : Nat → Bool) : (b.resync q).cvy = b.cvy := id rfl
@[simp] theorem Block.resync_yld (b : Block) (q : Nat → Bool) : (b.resync q).yld = b.yld := id rfl
@[simp] theorem Block.resync_tile (b : Block) (q : Nat → Bool) : (b.resync q).tile = b.tile := id rfl
@[simp] theorem Block.resync_can (b : Block) (q : Nat → Bool) : (b.resync q).can = b.can := id rfl
@[simp] theorem Block.resync_eth (b : Block) (q : Nat → Bool) : (b.resync q).eth = b.eth := id rfl
@[simp] theorem Block.resync_ehr (b : Block) (q : Nat → Bool) : (b.resync q).ehr = b.ehr := id rfl
@[simp] theorem Block.resync_dsp (b : Block) (q : Nat → Bool) : (b.resync q).dsp = b.dsp := id rfl
@[simp] theorem Block.resync_evr (b : Block) (q : Nat → Bool) : (b.resync q).evr = b.evr := id rfl
@[simp] theorem Block.resync_poison (b : Block) (q : Nat → Bool) : (b.resync q).poison = b.poison := id rfl
@[simp] theorem Block.resync_corrected (b : Block) (q : Nat → Bool) : (b.resync q).corrected = b.corrected := id rfl
@[simp] theorem Block.resync_hlt (b : Block) (q : Nat → Bool) : (b.resync q).hlt = b.hlt := id rfl
@[simp] theorem Block.resync_cry (b : Block) (q : Nat → Bool) : (b.resync q).cry = b.cry := id rfl
@[simp] theorem Block.resync_dram (b : Block) (q : Nat → Bool) : (b.resync q).dram = b.dram := id rfl
@[simp] theorem Block.resync_upd (b : Block) (q : Nat → Bool) : (b.resync q).upd = b.upd := id rfl
@[simp] theorem Block.resync_whd (b : Block) (q : Nat → Bool) : (b.resync q).whd = b.whd := id rfl
@[simp] theorem Block.get_resync (b : Block) (q : Nat → Bool) (k : Fld) : (b.resync q).get k = b.get k := id rfl

@[simp] theorem Block.status_now (b : Block) (c : Nat) : (b.status c).now = b.now := id rfl
@[simp] theorem Block.status_regs (b : Block) (c : Nat) : (b.status c).regs = b.regs := id rfl
@[simp] theorem Block.status_inuse (b : Block) (c : Nat) : (b.status c).inuse = b.inuse := id rfl
@[simp] theorem Block.status_out (b : Block) (c : Nat) : (b.status c).out = b.out := id rfl
@[simp] theorem Block.status_free (b : Block) (c : Nat) : (b.status c).free = b.free := id rfl
@[simp] theorem Block.status_sys (b : Block) (c : Nat) : (b.status c).sys = b.sys := id rfl
@[simp] theorem Block.status_img (b : Block) (c : Nat) : (b.status c).img = b.img := id rfl
@[simp] theorem Block.status_chans (b : Block) (c : Nat) : (b.status c).chans = b.chans := id rfl
@[simp] theorem Block.status_cells (b : Block) (c : Nat) : (b.status c).cells = b.cells := id rfl
@[simp] theorem Block.status_scopes (b : Block) (c : Nat) : (b.status c).scopes = b.scopes := id rfl
@[simp] theorem Block.status_pairs (b : Block) (c : Nat) : (b.status c).pairs = b.pairs := id rfl
@[simp] theorem Block.status_evtIn (b : Block) (c : Nat) : (b.status c).evtIn = b.evtIn := id rfl
@[simp] theorem Block.status_pwr (b : Block) (c : Nat) : (b.status c).pwr = b.pwr := id rfl
@[simp] theorem Block.status_mode (b : Block) (c : Nat) : (b.status c).mode = b.mode := id rfl
@[simp] theorem Block.status_tarn (b : Block) (c : Nat) : (b.status c).tarn = b.tarn := id rfl
@[simp] theorem Block.status_loop (b : Block) (c : Nat) : (b.status c).loop = b.loop := id rfl
@[simp] theorem Block.status_solver (b : Block) (c : Nat) : (b.status c).solver = b.solver := id rfl
@[simp] theorem Block.status_fusion (b : Block) (c : Nat) : (b.status c).fusion = b.fusion := id rfl
@[simp] theorem Block.status_gnss (b : Block) (c : Nat) : (b.status c).gnss = b.gnss := id rfl
@[simp] theorem Block.status_bkp (b : Block) (c : Nat) : (b.status c).bkp = b.bkp := id rfl
@[simp] theorem Block.status_sst (b : Block) (c : Nat) : (b.status c).sst = b.sst := id rfl
@[simp] theorem Block.status_steer (b : Block) (c : Nat) : (b.status c).steer = b.steer := id rfl
@[simp] theorem Block.status_cvy (b : Block) (c : Nat) : (b.status c).cvy = b.cvy := id rfl
@[simp] theorem Block.status_yld (b : Block) (c : Nat) : (b.status c).yld = b.yld := id rfl
@[simp] theorem Block.status_tile (b : Block) (c : Nat) : (b.status c).tile = b.tile := id rfl
@[simp] theorem Block.status_can (b : Block) (c : Nat) : (b.status c).can = b.can := id rfl
@[simp] theorem Block.status_eth (b : Block) (c : Nat) : (b.status c).eth = b.eth := id rfl
@[simp] theorem Block.status_ehr (b : Block) (c : Nat) : (b.status c).ehr = b.ehr := id rfl
@[simp] theorem Block.status_dsp (b : Block) (c : Nat) : (b.status c).dsp = b.dsp := id rfl
@[simp] theorem Block.status_evr (b : Block) (c : Nat) : (b.status c).evr = b.evr := id rfl
@[simp] theorem Block.status_poison (b : Block) (c : Nat) : (b.status c).poison = b.poison := id rfl
@[simp] theorem Block.status_corrected (b : Block) (c : Nat) : (b.status c).corrected = b.corrected := id rfl
@[simp] theorem Block.status_hlt (b : Block) (c : Nat) : (b.status c).hlt = b.hlt := id rfl
@[simp] theorem Block.status_cry (b : Block) (c : Nat) : (b.status c).cry = b.cry := id rfl
@[simp] theorem Block.status_dram (b : Block) (c : Nat) : (b.status c).dram = b.dram := id rfl
@[simp] theorem Block.status_upd (b : Block) (c : Nat) : (b.status c).upd = b.upd := id rfl
@[simp] theorem Block.status_whd (b : Block) (c : Nat) : (b.status c).whd = b.whd := id rfl
@[simp] theorem Block.get_status (b : Block) (c : Nat) (k : Fld) : (b.status c).get k = b.get k := id rfl

@[simp] theorem Block.reach_regs (b : Block) (t : Nat) : (b.reach t).regs = b.regs := id rfl
@[simp] theorem Block.reach_inuse (b : Block) (t : Nat) : (b.reach t).inuse = b.inuse := id rfl
@[simp] theorem Block.reach_out (b : Block) (t : Nat) : (b.reach t).out = b.out := id rfl
@[simp] theorem Block.reach_free (b : Block) (t : Nat) : (b.reach t).free = b.free := id rfl
@[simp] theorem Block.reach_fab (b : Block) (t : Nat) : (b.reach t).fab = b.fab := id rfl
@[simp] theorem Block.reach_img (b : Block) (t : Nat) : (b.reach t).img = b.img := id rfl
@[simp] theorem Block.reach_chans (b : Block) (t : Nat) : (b.reach t).chans = b.chans := id rfl
@[simp] theorem Block.reach_cells (b : Block) (t : Nat) : (b.reach t).cells = b.cells := id rfl
@[simp] theorem Block.reach_scopes (b : Block) (t : Nat) : (b.reach t).scopes = b.scopes := id rfl
@[simp] theorem Block.reach_pairs (b : Block) (t : Nat) : (b.reach t).pairs = b.pairs := id rfl
@[simp] theorem Block.reach_evtIn (b : Block) (t : Nat) : (b.reach t).evtIn = b.evtIn := id rfl
@[simp] theorem Block.reach_pwr (b : Block) (t : Nat) : (b.reach t).pwr = b.pwr := id rfl
@[simp] theorem Block.reach_mode (b : Block) (t : Nat) : (b.reach t).mode = b.mode := id rfl
@[simp] theorem Block.reach_tarn (b : Block) (t : Nat) : (b.reach t).tarn = b.tarn := id rfl
@[simp] theorem Block.reach_loop (b : Block) (t : Nat) : (b.reach t).loop = b.loop := id rfl
@[simp] theorem Block.reach_solver (b : Block) (t : Nat) : (b.reach t).solver = b.solver := id rfl
@[simp] theorem Block.reach_fusion (b : Block) (t : Nat) : (b.reach t).fusion = b.fusion := id rfl
@[simp] theorem Block.reach_gnss (b : Block) (t : Nat) : (b.reach t).gnss = b.gnss := id rfl
@[simp] theorem Block.reach_bkp (b : Block) (t : Nat) : (b.reach t).bkp = b.bkp := id rfl
@[simp] theorem Block.reach_sst (b : Block) (t : Nat) : (b.reach t).sst = b.sst := id rfl
@[simp] theorem Block.reach_steer (b : Block) (t : Nat) : (b.reach t).steer = b.steer := id rfl
@[simp] theorem Block.reach_cvy (b : Block) (t : Nat) : (b.reach t).cvy = b.cvy := id rfl
@[simp] theorem Block.reach_yld (b : Block) (t : Nat) : (b.reach t).yld = b.yld := id rfl
@[simp] theorem Block.reach_tile (b : Block) (t : Nat) : (b.reach t).tile = b.tile := id rfl
@[simp] theorem Block.reach_can (b : Block) (t : Nat) : (b.reach t).can = b.can := id rfl
@[simp] theorem Block.reach_eth (b : Block) (t : Nat) : (b.reach t).eth = b.eth := id rfl
@[simp] theorem Block.reach_ehr (b : Block) (t : Nat) : (b.reach t).ehr = b.ehr := id rfl
@[simp] theorem Block.reach_dsp (b : Block) (t : Nat) : (b.reach t).dsp = b.dsp := id rfl
@[simp] theorem Block.reach_evr (b : Block) (t : Nat) : (b.reach t).evr = b.evr := id rfl
@[simp] theorem Block.reach_poison (b : Block) (t : Nat) : (b.reach t).poison = b.poison := id rfl
@[simp] theorem Block.reach_corrected (b : Block) (t : Nat) : (b.reach t).corrected = b.corrected := id rfl
@[simp] theorem Block.reach_hlt (b : Block) (t : Nat) : (b.reach t).hlt = b.hlt := id rfl
@[simp] theorem Block.reach_cry (b : Block) (t : Nat) : (b.reach t).cry = b.cry := id rfl
@[simp] theorem Block.reach_dram (b : Block) (t : Nat) : (b.reach t).dram = b.dram := id rfl
@[simp] theorem Block.reach_upd (b : Block) (t : Nat) : (b.reach t).upd = b.upd := id rfl
@[simp] theorem Block.reach_whd (b : Block) (t : Nat) : (b.reach t).whd = b.whd := id rfl
@[simp] theorem Block.get_reach (b : Block) (t : Nat) (k : Fld) : (b.reach t).get k = b.get k := id rfl

@[simp] theorem Block.toBoundary_regs (b : Block) (p : Nat) (x : Bool) : (b.toBoundary p x).regs = b.regs := id rfl
@[simp] theorem Block.toBoundary_inuse (b : Block) (p : Nat) (x : Bool) : (b.toBoundary p x).inuse = b.inuse := id rfl
@[simp] theorem Block.toBoundary_out (b : Block) (p : Nat) (x : Bool) : (b.toBoundary p x).out = b.out := id rfl
@[simp] theorem Block.toBoundary_free (b : Block) (p : Nat) (x : Bool) : (b.toBoundary p x).free = b.free := id rfl
@[simp] theorem Block.toBoundary_fab (b : Block) (p : Nat) (x : Bool) : (b.toBoundary p x).fab = b.fab := id rfl
@[simp] theorem Block.toBoundary_img (b : Block) (p : Nat) (x : Bool) : (b.toBoundary p x).img = b.img := id rfl
@[simp] theorem Block.toBoundary_chans (b : Block) (p : Nat) (x : Bool) : (b.toBoundary p x).chans = b.chans := id rfl
@[simp] theorem Block.toBoundary_cells (b : Block) (p : Nat) (x : Bool) : (b.toBoundary p x).cells = b.cells := id rfl
@[simp] theorem Block.toBoundary_scopes (b : Block) (p : Nat) (x : Bool) : (b.toBoundary p x).scopes = b.scopes := id rfl
@[simp] theorem Block.toBoundary_pairs (b : Block) (p : Nat) (x : Bool) : (b.toBoundary p x).pairs = b.pairs := id rfl
@[simp] theorem Block.toBoundary_evtIn (b : Block) (p : Nat) (x : Bool) : (b.toBoundary p x).evtIn = b.evtIn := id rfl
@[simp] theorem Block.toBoundary_pwr (b : Block) (p : Nat) (x : Bool) : (b.toBoundary p x).pwr = b.pwr := id rfl
@[simp] theorem Block.toBoundary_mode (b : Block) (p : Nat) (x : Bool) : (b.toBoundary p x).mode = b.mode := id rfl
@[simp] theorem Block.toBoundary_tarn (b : Block) (p : Nat) (x : Bool) : (b.toBoundary p x).tarn = b.tarn := id rfl
@[simp] theorem Block.toBoundary_loop (b : Block) (p : Nat) (x : Bool) : (b.toBoundary p x).loop = b.loop := id rfl
@[simp] theorem Block.toBoundary_solver (b : Block) (p : Nat) (x : Bool) : (b.toBoundary p x).solver = b.solver := id rfl
@[simp] theorem Block.toBoundary_fusion (b : Block) (p : Nat) (x : Bool) : (b.toBoundary p x).fusion = b.fusion := id rfl
@[simp] theorem Block.toBoundary_gnss (b : Block) (p : Nat) (x : Bool) : (b.toBoundary p x).gnss = b.gnss := id rfl
@[simp] theorem Block.toBoundary_bkp (b : Block) (p : Nat) (x : Bool) : (b.toBoundary p x).bkp = b.bkp := id rfl
@[simp] theorem Block.toBoundary_sst (b : Block) (p : Nat) (x : Bool) : (b.toBoundary p x).sst = b.sst := id rfl
@[simp] theorem Block.toBoundary_steer (b : Block) (p : Nat) (x : Bool) : (b.toBoundary p x).steer = b.steer := id rfl
@[simp] theorem Block.toBoundary_cvy (b : Block) (p : Nat) (x : Bool) : (b.toBoundary p x).cvy = b.cvy := id rfl
@[simp] theorem Block.toBoundary_yld (b : Block) (p : Nat) (x : Bool) : (b.toBoundary p x).yld = b.yld := id rfl
@[simp] theorem Block.toBoundary_tile (b : Block) (p : Nat) (x : Bool) : (b.toBoundary p x).tile = b.tile := id rfl
@[simp] theorem Block.toBoundary_can (b : Block) (p : Nat) (x : Bool) : (b.toBoundary p x).can = b.can := id rfl
@[simp] theorem Block.toBoundary_eth (b : Block) (p : Nat) (x : Bool) : (b.toBoundary p x).eth = b.eth := id rfl
@[simp] theorem Block.toBoundary_ehr (b : Block) (p : Nat) (x : Bool) : (b.toBoundary p x).ehr = b.ehr := id rfl
@[simp] theorem Block.toBoundary_dsp (b : Block) (p : Nat) (x : Bool) : (b.toBoundary p x).dsp = b.dsp := id rfl
@[simp] theorem Block.toBoundary_evr (b : Block) (p : Nat) (x : Bool) : (b.toBoundary p x).evr = b.evr := id rfl
@[simp] theorem Block.toBoundary_poison (b : Block) (p : Nat) (x : Bool) : (b.toBoundary p x).poison = b.poison := id rfl
@[simp] theorem Block.toBoundary_corrected (b : Block) (p : Nat) (x : Bool) : (b.toBoundary p x).corrected = b.corrected := id rfl
@[simp] theorem Block.toBoundary_hlt (b : Block) (p : Nat) (x : Bool) : (b.toBoundary p x).hlt = b.hlt := id rfl
@[simp] theorem Block.toBoundary_cry (b : Block) (p : Nat) (x : Bool) : (b.toBoundary p x).cry = b.cry := id rfl
@[simp] theorem Block.toBoundary_dram (b : Block) (p : Nat) (x : Bool) : (b.toBoundary p x).dram = b.dram := id rfl
@[simp] theorem Block.toBoundary_upd (b : Block) (p : Nat) (x : Bool) : (b.toBoundary p x).upd = b.upd := id rfl
@[simp] theorem Block.toBoundary_whd (b : Block) (p : Nat) (x : Bool) : (b.toBoundary p x).whd = b.whd := id rfl
@[simp] theorem Block.get_toBoundary (b : Block) (p : Nat) (x : Bool) (k : Fld) : (b.toBoundary p x).get k = b.get k := id rfl

@[simp] theorem Block.modCh_now (b : Block) (c : Nat) (g : Chan → Chan) : (b.modCh c g).now = b.now := id rfl
@[simp] theorem Block.modCh_regs (b : Block) (c : Nat) (g : Chan → Chan) : (b.modCh c g).regs = b.regs := id rfl
@[simp] theorem Block.modCh_inuse (b : Block) (c : Nat) (g : Chan → Chan) : (b.modCh c g).inuse = b.inuse := id rfl
@[simp] theorem Block.modCh_out (b : Block) (c : Nat) (g : Chan → Chan) : (b.modCh c g).out = b.out := id rfl
@[simp] theorem Block.modCh_free (b : Block) (c : Nat) (g : Chan → Chan) : (b.modCh c g).free = b.free := id rfl
@[simp] theorem Block.modCh_sys (b : Block) (c : Nat) (g : Chan → Chan) : (b.modCh c g).sys = b.sys := id rfl
@[simp] theorem Block.modCh_fab (b : Block) (c : Nat) (g : Chan → Chan) : (b.modCh c g).fab = b.fab := id rfl
@[simp] theorem Block.modCh_img (b : Block) (c : Nat) (g : Chan → Chan) : (b.modCh c g).img = b.img := id rfl
@[simp] theorem Block.modCh_cells (b : Block) (c : Nat) (g : Chan → Chan) : (b.modCh c g).cells = b.cells := id rfl
@[simp] theorem Block.modCh_scopes (b : Block) (c : Nat) (g : Chan → Chan) : (b.modCh c g).scopes = b.scopes := id rfl
@[simp] theorem Block.modCh_pairs (b : Block) (c : Nat) (g : Chan → Chan) : (b.modCh c g).pairs = b.pairs := id rfl
@[simp] theorem Block.modCh_evtIn (b : Block) (c : Nat) (g : Chan → Chan) : (b.modCh c g).evtIn = b.evtIn := id rfl
@[simp] theorem Block.modCh_pwr (b : Block) (c : Nat) (g : Chan → Chan) : (b.modCh c g).pwr = b.pwr := id rfl
@[simp] theorem Block.modCh_mode (b : Block) (c : Nat) (g : Chan → Chan) : (b.modCh c g).mode = b.mode := id rfl
@[simp] theorem Block.modCh_tarn (b : Block) (c : Nat) (g : Chan → Chan) : (b.modCh c g).tarn = b.tarn := id rfl
@[simp] theorem Block.modCh_loop (b : Block) (c : Nat) (g : Chan → Chan) : (b.modCh c g).loop = b.loop := id rfl
@[simp] theorem Block.modCh_solver (b : Block) (c : Nat) (g : Chan → Chan) : (b.modCh c g).solver = b.solver := id rfl
@[simp] theorem Block.modCh_fusion (b : Block) (c : Nat) (g : Chan → Chan) : (b.modCh c g).fusion = b.fusion := id rfl
@[simp] theorem Block.modCh_gnss (b : Block) (c : Nat) (g : Chan → Chan) : (b.modCh c g).gnss = b.gnss := id rfl
@[simp] theorem Block.modCh_bkp (b : Block) (c : Nat) (g : Chan → Chan) : (b.modCh c g).bkp = b.bkp := id rfl
@[simp] theorem Block.modCh_sst (b : Block) (c : Nat) (g : Chan → Chan) : (b.modCh c g).sst = b.sst := id rfl
@[simp] theorem Block.modCh_steer (b : Block) (c : Nat) (g : Chan → Chan) : (b.modCh c g).steer = b.steer := id rfl
@[simp] theorem Block.modCh_cvy (b : Block) (c : Nat) (g : Chan → Chan) : (b.modCh c g).cvy = b.cvy := id rfl
@[simp] theorem Block.modCh_yld (b : Block) (c : Nat) (g : Chan → Chan) : (b.modCh c g).yld = b.yld := id rfl
@[simp] theorem Block.modCh_tile (b : Block) (c : Nat) (g : Chan → Chan) : (b.modCh c g).tile = b.tile := id rfl
@[simp] theorem Block.modCh_can (b : Block) (c : Nat) (g : Chan → Chan) : (b.modCh c g).can = b.can := id rfl
@[simp] theorem Block.modCh_eth (b : Block) (c : Nat) (g : Chan → Chan) : (b.modCh c g).eth = b.eth := id rfl
@[simp] theorem Block.modCh_ehr (b : Block) (c : Nat) (g : Chan → Chan) : (b.modCh c g).ehr = b.ehr := id rfl
@[simp] theorem Block.modCh_dsp (b : Block) (c : Nat) (g : Chan → Chan) : (b.modCh c g).dsp = b.dsp := id rfl
@[simp] theorem Block.modCh_evr (b : Block) (c : Nat) (g : Chan → Chan) : (b.modCh c g).evr = b.evr := id rfl
@[simp] theorem Block.modCh_poison (b : Block) (c : Nat) (g : Chan → Chan) : (b.modCh c g).poison = b.poison := id rfl
@[simp] theorem Block.modCh_corrected (b : Block) (c : Nat) (g : Chan → Chan) : (b.modCh c g).corrected = b.corrected := id rfl
@[simp] theorem Block.modCh_hlt (b : Block) (c : Nat) (g : Chan → Chan) : (b.modCh c g).hlt = b.hlt := id rfl
@[simp] theorem Block.modCh_cry (b : Block) (c : Nat) (g : Chan → Chan) : (b.modCh c g).cry = b.cry := id rfl
@[simp] theorem Block.modCh_dram (b : Block) (c : Nat) (g : Chan → Chan) : (b.modCh c g).dram = b.dram := id rfl
@[simp] theorem Block.modCh_upd (b : Block) (c : Nat) (g : Chan → Chan) : (b.modCh c g).upd = b.upd := id rfl
@[simp] theorem Block.modCh_whd (b : Block) (c : Nat) (g : Chan → Chan) : (b.modCh c g).whd = b.whd := id rfl
@[simp] theorem Block.get_modCh (b : Block) (c : Nat) (g : Chan → Chan) (k : Fld) : (b.modCh c g).get k = b.get k := id rfl

@[simp] theorem Block.modCore_now (b : Block) (c : Nat) (g : ChanCore → ChanCore) : (b.modCore c g).now = b.now := id rfl
@[simp] theorem Block.modCore_regs (b : Block) (c : Nat) (g : ChanCore → ChanCore) : (b.modCore c g).regs = b.regs := id rfl
@[simp] theorem Block.modCore_inuse (b : Block) (c : Nat) (g : ChanCore → ChanCore) : (b.modCore c g).inuse = b.inuse := id rfl
@[simp] theorem Block.modCore_out (b : Block) (c : Nat) (g : ChanCore → ChanCore) : (b.modCore c g).out = b.out := id rfl
@[simp] theorem Block.modCore_free (b : Block) (c : Nat) (g : ChanCore → ChanCore) : (b.modCore c g).free = b.free := id rfl
@[simp] theorem Block.modCore_sys (b : Block) (c : Nat) (g : ChanCore → ChanCore) : (b.modCore c g).sys = b.sys := id rfl
@[simp] theorem Block.modCore_fab (b : Block) (c : Nat) (g : ChanCore → ChanCore) : (b.modCore c g).fab = b.fab := id rfl
@[simp] theorem Block.modCore_img (b : Block) (c : Nat) (g : ChanCore → ChanCore) : (b.modCore c g).img = b.img := id rfl
@[simp] theorem Block.modCore_cells (b : Block) (c : Nat) (g : ChanCore → ChanCore) : (b.modCore c g).cells = b.cells := id rfl
@[simp] theorem Block.modCore_scopes (b : Block) (c : Nat) (g : ChanCore → ChanCore) : (b.modCore c g).scopes = b.scopes := id rfl
@[simp] theorem Block.modCore_pairs (b : Block) (c : Nat) (g : ChanCore → ChanCore) : (b.modCore c g).pairs = b.pairs := id rfl
@[simp] theorem Block.modCore_evtIn (b : Block) (c : Nat) (g : ChanCore → ChanCore) : (b.modCore c g).evtIn = b.evtIn := id rfl
@[simp] theorem Block.modCore_pwr (b : Block) (c : Nat) (g : ChanCore → ChanCore) : (b.modCore c g).pwr = b.pwr := id rfl
@[simp] theorem Block.modCore_mode (b : Block) (c : Nat) (g : ChanCore → ChanCore) : (b.modCore c g).mode = b.mode := id rfl
@[simp] theorem Block.modCore_tarn (b : Block) (c : Nat) (g : ChanCore → ChanCore) : (b.modCore c g).tarn = b.tarn := id rfl
@[simp] theorem Block.modCore_loop (b : Block) (c : Nat) (g : ChanCore → ChanCore) : (b.modCore c g).loop = b.loop := id rfl
@[simp] theorem Block.modCore_solver (b : Block) (c : Nat) (g : ChanCore → ChanCore) : (b.modCore c g).solver = b.solver := id rfl
@[simp] theorem Block.modCore_fusion (b : Block) (c : Nat) (g : ChanCore → ChanCore) : (b.modCore c g).fusion = b.fusion := id rfl
@[simp] theorem Block.modCore_gnss (b : Block) (c : Nat) (g : ChanCore → ChanCore) : (b.modCore c g).gnss = b.gnss := id rfl
@[simp] theorem Block.modCore_bkp (b : Block) (c : Nat) (g : ChanCore → ChanCore) : (b.modCore c g).bkp = b.bkp := id rfl
@[simp] theorem Block.modCore_sst (b : Block) (c : Nat) (g : ChanCore → ChanCore) : (b.modCore c g).sst = b.sst := id rfl
@[simp] theorem Block.modCore_steer (b : Block) (c : Nat) (g : ChanCore → ChanCore) : (b.modCore c g).steer = b.steer := id rfl
@[simp] theorem Block.modCore_cvy (b : Block) (c : Nat) (g : ChanCore → ChanCore) : (b.modCore c g).cvy = b.cvy := id rfl
@[simp] theorem Block.modCore_yld (b : Block) (c : Nat) (g : ChanCore → ChanCore) : (b.modCore c g).yld = b.yld := id rfl
@[simp] theorem Block.modCore_tile (b : Block) (c : Nat) (g : ChanCore → ChanCore) : (b.modCore c g).tile = b.tile := id rfl
@[simp] theorem Block.modCore_can (b : Block) (c : Nat) (g : ChanCore → ChanCore) : (b.modCore c g).can = b.can := id rfl
@[simp] theorem Block.modCore_eth (b : Block) (c : Nat) (g : ChanCore → ChanCore) : (b.modCore c g).eth = b.eth := id rfl
@[simp] theorem Block.modCore_ehr (b : Block) (c : Nat) (g : ChanCore → ChanCore) : (b.modCore c g).ehr = b.ehr := id rfl
@[simp] theorem Block.modCore_dsp (b : Block) (c : Nat) (g : ChanCore → ChanCore) : (b.modCore c g).dsp = b.dsp := id rfl
@[simp] theorem Block.modCore_evr (b : Block) (c : Nat) (g : ChanCore → ChanCore) : (b.modCore c g).evr = b.evr := id rfl
@[simp] theorem Block.modCore_poison (b : Block) (c : Nat) (g : ChanCore → ChanCore) : (b.modCore c g).poison = b.poison := id rfl
@[simp] theorem Block.modCore_corrected (b : Block) (c : Nat) (g : ChanCore → ChanCore) : (b.modCore c g).corrected = b.corrected := id rfl
@[simp] theorem Block.modCore_hlt (b : Block) (c : Nat) (g : ChanCore → ChanCore) : (b.modCore c g).hlt = b.hlt := id rfl
@[simp] theorem Block.modCore_cry (b : Block) (c : Nat) (g : ChanCore → ChanCore) : (b.modCore c g).cry = b.cry := id rfl
@[simp] theorem Block.modCore_dram (b : Block) (c : Nat) (g : ChanCore → ChanCore) : (b.modCore c g).dram = b.dram := id rfl
@[simp] theorem Block.modCore_upd (b : Block) (c : Nat) (g : ChanCore → ChanCore) : (b.modCore c g).upd = b.upd := id rfl
@[simp] theorem Block.modCore_whd (b : Block) (c : Nat) (g : ChanCore → ChanCore) : (b.modCore c g).whd = b.whd := id rfl
@[simp] theorem Block.get_modCore (b : Block) (c : Nat) (g : ChanCore → ChanCore) (k : Fld) : (b.modCore c g).get k = b.get k := id rfl

@[simp] theorem Block.modDrv_now (b : Block) (c : Nat) (g : ChanDrive → ChanDrive) : (b.modDrv c g).now = b.now := id rfl
@[simp] theorem Block.modDrv_regs (b : Block) (c : Nat) (g : ChanDrive → ChanDrive) : (b.modDrv c g).regs = b.regs := id rfl
@[simp] theorem Block.modDrv_inuse (b : Block) (c : Nat) (g : ChanDrive → ChanDrive) : (b.modDrv c g).inuse = b.inuse := id rfl
@[simp] theorem Block.modDrv_out (b : Block) (c : Nat) (g : ChanDrive → ChanDrive) : (b.modDrv c g).out = b.out := id rfl
@[simp] theorem Block.modDrv_free (b : Block) (c : Nat) (g : ChanDrive → ChanDrive) : (b.modDrv c g).free = b.free := id rfl
@[simp] theorem Block.modDrv_sys (b : Block) (c : Nat) (g : ChanDrive → ChanDrive) : (b.modDrv c g).sys = b.sys := id rfl
@[simp] theorem Block.modDrv_fab (b : Block) (c : Nat) (g : ChanDrive → ChanDrive) : (b.modDrv c g).fab = b.fab := id rfl
@[simp] theorem Block.modDrv_img (b : Block) (c : Nat) (g : ChanDrive → ChanDrive) : (b.modDrv c g).img = b.img := id rfl
@[simp] theorem Block.modDrv_cells (b : Block) (c : Nat) (g : ChanDrive → ChanDrive) : (b.modDrv c g).cells = b.cells := id rfl
@[simp] theorem Block.modDrv_scopes (b : Block) (c : Nat) (g : ChanDrive → ChanDrive) : (b.modDrv c g).scopes = b.scopes := id rfl
@[simp] theorem Block.modDrv_pairs (b : Block) (c : Nat) (g : ChanDrive → ChanDrive) : (b.modDrv c g).pairs = b.pairs := id rfl
@[simp] theorem Block.modDrv_evtIn (b : Block) (c : Nat) (g : ChanDrive → ChanDrive) : (b.modDrv c g).evtIn = b.evtIn := id rfl
@[simp] theorem Block.modDrv_pwr (b : Block) (c : Nat) (g : ChanDrive → ChanDrive) : (b.modDrv c g).pwr = b.pwr := id rfl
@[simp] theorem Block.modDrv_mode (b : Block) (c : Nat) (g : ChanDrive → ChanDrive) : (b.modDrv c g).mode = b.mode := id rfl
@[simp] theorem Block.modDrv_tarn (b : Block) (c : Nat) (g : ChanDrive → ChanDrive) : (b.modDrv c g).tarn = b.tarn := id rfl
@[simp] theorem Block.modDrv_loop (b : Block) (c : Nat) (g : ChanDrive → ChanDrive) : (b.modDrv c g).loop = b.loop := id rfl
@[simp] theorem Block.modDrv_solver (b : Block) (c : Nat) (g : ChanDrive → ChanDrive) : (b.modDrv c g).solver = b.solver := id rfl
@[simp] theorem Block.modDrv_fusion (b : Block) (c : Nat) (g : ChanDrive → ChanDrive) : (b.modDrv c g).fusion = b.fusion := id rfl
@[simp] theorem Block.modDrv_gnss (b : Block) (c : Nat) (g : ChanDrive → ChanDrive) : (b.modDrv c g).gnss = b.gnss := id rfl
@[simp] theorem Block.modDrv_bkp (b : Block) (c : Nat) (g : ChanDrive → ChanDrive) : (b.modDrv c g).bkp = b.bkp := id rfl
@[simp] theorem Block.modDrv_sst (b : Block) (c : Nat) (g : ChanDrive → ChanDrive) : (b.modDrv c g).sst = b.sst := id rfl
@[simp] theorem Block.modDrv_steer (b : Block) (c : Nat) (g : ChanDrive → ChanDrive) : (b.modDrv c g).steer = b.steer := id rfl
@[simp] theorem Block.modDrv_cvy (b : Block) (c : Nat) (g : ChanDrive → ChanDrive) : (b.modDrv c g).cvy = b.cvy := id rfl
@[simp] theorem Block.modDrv_yld (b : Block) (c : Nat) (g : ChanDrive → ChanDrive) : (b.modDrv c g).yld = b.yld := id rfl
@[simp] theorem Block.modDrv_tile (b : Block) (c : Nat) (g : ChanDrive → ChanDrive) : (b.modDrv c g).tile = b.tile := id rfl
@[simp] theorem Block.modDrv_can (b : Block) (c : Nat) (g : ChanDrive → ChanDrive) : (b.modDrv c g).can = b.can := id rfl
@[simp] theorem Block.modDrv_eth (b : Block) (c : Nat) (g : ChanDrive → ChanDrive) : (b.modDrv c g).eth = b.eth := id rfl
@[simp] theorem Block.modDrv_ehr (b : Block) (c : Nat) (g : ChanDrive → ChanDrive) : (b.modDrv c g).ehr = b.ehr := id rfl
@[simp] theorem Block.modDrv_dsp (b : Block) (c : Nat) (g : ChanDrive → ChanDrive) : (b.modDrv c g).dsp = b.dsp := id rfl
@[simp] theorem Block.modDrv_evr (b : Block) (c : Nat) (g : ChanDrive → ChanDrive) : (b.modDrv c g).evr = b.evr := id rfl
@[simp] theorem Block.modDrv_poison (b : Block) (c : Nat) (g : ChanDrive → ChanDrive) : (b.modDrv c g).poison = b.poison := id rfl
@[simp] theorem Block.modDrv_corrected (b : Block) (c : Nat) (g : ChanDrive → ChanDrive) : (b.modDrv c g).corrected = b.corrected := id rfl
@[simp] theorem Block.modDrv_hlt (b : Block) (c : Nat) (g : ChanDrive → ChanDrive) : (b.modDrv c g).hlt = b.hlt := id rfl
@[simp] theorem Block.modDrv_cry (b : Block) (c : Nat) (g : ChanDrive → ChanDrive) : (b.modDrv c g).cry = b.cry := id rfl
@[simp] theorem Block.modDrv_dram (b : Block) (c : Nat) (g : ChanDrive → ChanDrive) : (b.modDrv c g).dram = b.dram := id rfl
@[simp] theorem Block.modDrv_upd (b : Block) (c : Nat) (g : ChanDrive → ChanDrive) : (b.modDrv c g).upd = b.upd := id rfl
@[simp] theorem Block.modDrv_whd (b : Block) (c : Nat) (g : ChanDrive → ChanDrive) : (b.modDrv c g).whd = b.whd := id rfl
@[simp] theorem Block.get_modDrv (b : Block) (c : Nat) (g : ChanDrive → ChanDrive) (k : Fld) : (b.modDrv c g).get k = b.get k := id rfl

@[simp] theorem Block.modNet_now (b : Block) (c : Nat) (g : ChanNet → ChanNet) : (b.modNet c g).now = b.now := id rfl
@[simp] theorem Block.modNet_regs (b : Block) (c : Nat) (g : ChanNet → ChanNet) : (b.modNet c g).regs = b.regs := id rfl
@[simp] theorem Block.modNet_inuse (b : Block) (c : Nat) (g : ChanNet → ChanNet) : (b.modNet c g).inuse = b.inuse := id rfl
@[simp] theorem Block.modNet_out (b : Block) (c : Nat) (g : ChanNet → ChanNet) : (b.modNet c g).out = b.out := id rfl
@[simp] theorem Block.modNet_free (b : Block) (c : Nat) (g : ChanNet → ChanNet) : (b.modNet c g).free = b.free := id rfl
@[simp] theorem Block.modNet_sys (b : Block) (c : Nat) (g : ChanNet → ChanNet) : (b.modNet c g).sys = b.sys := id rfl
@[simp] theorem Block.modNet_fab (b : Block) (c : Nat) (g : ChanNet → ChanNet) : (b.modNet c g).fab = b.fab := id rfl
@[simp] theorem Block.modNet_img (b : Block) (c : Nat) (g : ChanNet → ChanNet) : (b.modNet c g).img = b.img := id rfl
@[simp] theorem Block.modNet_cells (b : Block) (c : Nat) (g : ChanNet → ChanNet) : (b.modNet c g).cells = b.cells := id rfl
@[simp] theorem Block.modNet_scopes (b : Block) (c : Nat) (g : ChanNet → ChanNet) : (b.modNet c g).scopes = b.scopes := id rfl
@[simp] theorem Block.modNet_pairs (b : Block) (c : Nat) (g : ChanNet → ChanNet) : (b.modNet c g).pairs = b.pairs := id rfl
@[simp] theorem Block.modNet_evtIn (b : Block) (c : Nat) (g : ChanNet → ChanNet) : (b.modNet c g).evtIn = b.evtIn := id rfl
@[simp] theorem Block.modNet_pwr (b : Block) (c : Nat) (g : ChanNet → ChanNet) : (b.modNet c g).pwr = b.pwr := id rfl
@[simp] theorem Block.modNet_mode (b : Block) (c : Nat) (g : ChanNet → ChanNet) : (b.modNet c g).mode = b.mode := id rfl
@[simp] theorem Block.modNet_tarn (b : Block) (c : Nat) (g : ChanNet → ChanNet) : (b.modNet c g).tarn = b.tarn := id rfl
@[simp] theorem Block.modNet_loop (b : Block) (c : Nat) (g : ChanNet → ChanNet) : (b.modNet c g).loop = b.loop := id rfl
@[simp] theorem Block.modNet_solver (b : Block) (c : Nat) (g : ChanNet → ChanNet) : (b.modNet c g).solver = b.solver := id rfl
@[simp] theorem Block.modNet_fusion (b : Block) (c : Nat) (g : ChanNet → ChanNet) : (b.modNet c g).fusion = b.fusion := id rfl
@[simp] theorem Block.modNet_gnss (b : Block) (c : Nat) (g : ChanNet → ChanNet) : (b.modNet c g).gnss = b.gnss := id rfl
@[simp] theorem Block.modNet_bkp (b : Block) (c : Nat) (g : ChanNet → ChanNet) : (b.modNet c g).bkp = b.bkp := id rfl
@[simp] theorem Block.modNet_sst (b : Block) (c : Nat) (g : ChanNet → ChanNet) : (b.modNet c g).sst = b.sst := id rfl
@[simp] theorem Block.modNet_steer (b : Block) (c : Nat) (g : ChanNet → ChanNet) : (b.modNet c g).steer = b.steer := id rfl
@[simp] theorem Block.modNet_cvy (b : Block) (c : Nat) (g : ChanNet → ChanNet) : (b.modNet c g).cvy = b.cvy := id rfl
@[simp] theorem Block.modNet_yld (b : Block) (c : Nat) (g : ChanNet → ChanNet) : (b.modNet c g).yld = b.yld := id rfl
@[simp] theorem Block.modNet_tile (b : Block) (c : Nat) (g : ChanNet → ChanNet) : (b.modNet c g).tile = b.tile := id rfl
@[simp] theorem Block.modNet_can (b : Block) (c : Nat) (g : ChanNet → ChanNet) : (b.modNet c g).can = b.can := id rfl
@[simp] theorem Block.modNet_eth (b : Block) (c : Nat) (g : ChanNet → ChanNet) : (b.modNet c g).eth = b.eth := id rfl
@[simp] theorem Block.modNet_ehr (b : Block) (c : Nat) (g : ChanNet → ChanNet) : (b.modNet c g).ehr = b.ehr := id rfl
@[simp] theorem Block.modNet_dsp (b : Block) (c : Nat) (g : ChanNet → ChanNet) : (b.modNet c g).dsp = b.dsp := id rfl
@[simp] theorem Block.modNet_evr (b : Block) (c : Nat) (g : ChanNet → ChanNet) : (b.modNet c g).evr = b.evr := id rfl
@[simp] theorem Block.modNet_poison (b : Block) (c : Nat) (g : ChanNet → ChanNet) : (b.modNet c g).poison = b.poison := id rfl
@[simp] theorem Block.modNet_corrected (b : Block) (c : Nat) (g : ChanNet → ChanNet) : (b.modNet c g).corrected = b.corrected := id rfl
@[simp] theorem Block.modNet_hlt (b : Block) (c : Nat) (g : ChanNet → ChanNet) : (b.modNet c g).hlt = b.hlt := id rfl
@[simp] theorem Block.modNet_cry (b : Block) (c : Nat) (g : ChanNet → ChanNet) : (b.modNet c g).cry = b.cry := id rfl
@[simp] theorem Block.modNet_dram (b : Block) (c : Nat) (g : ChanNet → ChanNet) : (b.modNet c g).dram = b.dram := id rfl
@[simp] theorem Block.modNet_upd (b : Block) (c : Nat) (g : ChanNet → ChanNet) : (b.modNet c g).upd = b.upd := id rfl
@[simp] theorem Block.modNet_whd (b : Block) (c : Nat) (g : ChanNet → ChanNet) : (b.modNet c g).whd = b.whd := id rfl
@[simp] theorem Block.get_modNet (b : Block) (c : Nat) (g : ChanNet → ChanNet) (k : Fld) : (b.modNet c g).get k = b.get k := id rfl

@[simp] theorem Block.modIn_now (b : Block) (c : Nat) (g : ChanIn → ChanIn) : (b.modIn c g).now = b.now := id rfl
@[simp] theorem Block.modIn_regs (b : Block) (c : Nat) (g : ChanIn → ChanIn) : (b.modIn c g).regs = b.regs := id rfl
@[simp] theorem Block.modIn_inuse (b : Block) (c : Nat) (g : ChanIn → ChanIn) : (b.modIn c g).inuse = b.inuse := id rfl
@[simp] theorem Block.modIn_out (b : Block) (c : Nat) (g : ChanIn → ChanIn) : (b.modIn c g).out = b.out := id rfl
@[simp] theorem Block.modIn_free (b : Block) (c : Nat) (g : ChanIn → ChanIn) : (b.modIn c g).free = b.free := id rfl
@[simp] theorem Block.modIn_sys (b : Block) (c : Nat) (g : ChanIn → ChanIn) : (b.modIn c g).sys = b.sys := id rfl
@[simp] theorem Block.modIn_fab (b : Block) (c : Nat) (g : ChanIn → ChanIn) : (b.modIn c g).fab = b.fab := id rfl
@[simp] theorem Block.modIn_img (b : Block) (c : Nat) (g : ChanIn → ChanIn) : (b.modIn c g).img = b.img := id rfl
@[simp] theorem Block.modIn_cells (b : Block) (c : Nat) (g : ChanIn → ChanIn) : (b.modIn c g).cells = b.cells := id rfl
@[simp] theorem Block.modIn_scopes (b : Block) (c : Nat) (g : ChanIn → ChanIn) : (b.modIn c g).scopes = b.scopes := id rfl
@[simp] theorem Block.modIn_pairs (b : Block) (c : Nat) (g : ChanIn → ChanIn) : (b.modIn c g).pairs = b.pairs := id rfl
@[simp] theorem Block.modIn_evtIn (b : Block) (c : Nat) (g : ChanIn → ChanIn) : (b.modIn c g).evtIn = b.evtIn := id rfl
@[simp] theorem Block.modIn_pwr (b : Block) (c : Nat) (g : ChanIn → ChanIn) : (b.modIn c g).pwr = b.pwr := id rfl
@[simp] theorem Block.modIn_mode (b : Block) (c : Nat) (g : ChanIn → ChanIn) : (b.modIn c g).mode = b.mode := id rfl
@[simp] theorem Block.modIn_tarn (b : Block) (c : Nat) (g : ChanIn → ChanIn) : (b.modIn c g).tarn = b.tarn := id rfl
@[simp] theorem Block.modIn_loop (b : Block) (c : Nat) (g : ChanIn → ChanIn) : (b.modIn c g).loop = b.loop := id rfl
@[simp] theorem Block.modIn_solver (b : Block) (c : Nat) (g : ChanIn → ChanIn) : (b.modIn c g).solver = b.solver := id rfl
@[simp] theorem Block.modIn_fusion (b : Block) (c : Nat) (g : ChanIn → ChanIn) : (b.modIn c g).fusion = b.fusion := id rfl
@[simp] theorem Block.modIn_gnss (b : Block) (c : Nat) (g : ChanIn → ChanIn) : (b.modIn c g).gnss = b.gnss := id rfl
@[simp] theorem Block.modIn_bkp (b : Block) (c : Nat) (g : ChanIn → ChanIn) : (b.modIn c g).bkp = b.bkp := id rfl
@[simp] theorem Block.modIn_sst (b : Block) (c : Nat) (g : ChanIn → ChanIn) : (b.modIn c g).sst = b.sst := id rfl
@[simp] theorem Block.modIn_steer (b : Block) (c : Nat) (g : ChanIn → ChanIn) : (b.modIn c g).steer = b.steer := id rfl
@[simp] theorem Block.modIn_cvy (b : Block) (c : Nat) (g : ChanIn → ChanIn) : (b.modIn c g).cvy = b.cvy := id rfl
@[simp] theorem Block.modIn_yld (b : Block) (c : Nat) (g : ChanIn → ChanIn) : (b.modIn c g).yld = b.yld := id rfl
@[simp] theorem Block.modIn_tile (b : Block) (c : Nat) (g : ChanIn → ChanIn) : (b.modIn c g).tile = b.tile := id rfl
@[simp] theorem Block.modIn_can (b : Block) (c : Nat) (g : ChanIn → ChanIn) : (b.modIn c g).can = b.can := id rfl
@[simp] theorem Block.modIn_eth (b : Block) (c : Nat) (g : ChanIn → ChanIn) : (b.modIn c g).eth = b.eth := id rfl
@[simp] theorem Block.modIn_ehr (b : Block) (c : Nat) (g : ChanIn → ChanIn) : (b.modIn c g).ehr = b.ehr := id rfl
@[simp] theorem Block.modIn_dsp (b : Block) (c : Nat) (g : ChanIn → ChanIn) : (b.modIn c g).dsp = b.dsp := id rfl
@[simp] theorem Block.modIn_evr (b : Block) (c : Nat) (g : ChanIn → ChanIn) : (b.modIn c g).evr = b.evr := id rfl
@[simp] theorem Block.modIn_poison (b : Block) (c : Nat) (g : ChanIn → ChanIn) : (b.modIn c g).poison = b.poison := id rfl
@[simp] theorem Block.modIn_corrected (b : Block) (c : Nat) (g : ChanIn → ChanIn) : (b.modIn c g).corrected = b.corrected := id rfl
@[simp] theorem Block.modIn_hlt (b : Block) (c : Nat) (g : ChanIn → ChanIn) : (b.modIn c g).hlt = b.hlt := id rfl
@[simp] theorem Block.modIn_cry (b : Block) (c : Nat) (g : ChanIn → ChanIn) : (b.modIn c g).cry = b.cry := id rfl
@[simp] theorem Block.modIn_dram (b : Block) (c : Nat) (g : ChanIn → ChanIn) : (b.modIn c g).dram = b.dram := id rfl
@[simp] theorem Block.modIn_upd (b : Block) (c : Nat) (g : ChanIn → ChanIn) : (b.modIn c g).upd = b.upd := id rfl
@[simp] theorem Block.modIn_whd (b : Block) (c : Nat) (g : ChanIn → ChanIn) : (b.modIn c g).whd = b.whd := id rfl
@[simp] theorem Block.get_modIn (b : Block) (c : Nat) (g : ChanIn → ChanIn) (k : Fld) : (b.modIn c g).get k = b.get k := id rfl

@[simp] theorem Block.modCell_now (b : Block) (c : Nat) (g : Cell → Cell) : (b.modCell c g).now = b.now := id rfl
@[simp] theorem Block.modCell_regs (b : Block) (c : Nat) (g : Cell → Cell) : (b.modCell c g).regs = b.regs := id rfl
@[simp] theorem Block.modCell_inuse (b : Block) (c : Nat) (g : Cell → Cell) : (b.modCell c g).inuse = b.inuse := id rfl
@[simp] theorem Block.modCell_out (b : Block) (c : Nat) (g : Cell → Cell) : (b.modCell c g).out = b.out := id rfl
@[simp] theorem Block.modCell_free (b : Block) (c : Nat) (g : Cell → Cell) : (b.modCell c g).free = b.free := id rfl
@[simp] theorem Block.modCell_sys (b : Block) (c : Nat) (g : Cell → Cell) : (b.modCell c g).sys = b.sys := id rfl
@[simp] theorem Block.modCell_fab (b : Block) (c : Nat) (g : Cell → Cell) : (b.modCell c g).fab = b.fab := id rfl
@[simp] theorem Block.modCell_img (b : Block) (c : Nat) (g : Cell → Cell) : (b.modCell c g).img = b.img := id rfl
@[simp] theorem Block.modCell_chans (b : Block) (c : Nat) (g : Cell → Cell) : (b.modCell c g).chans = b.chans := id rfl
@[simp] theorem Block.modCell_scopes (b : Block) (c : Nat) (g : Cell → Cell) : (b.modCell c g).scopes = b.scopes := id rfl
@[simp] theorem Block.modCell_pairs (b : Block) (c : Nat) (g : Cell → Cell) : (b.modCell c g).pairs = b.pairs := id rfl
@[simp] theorem Block.modCell_evtIn (b : Block) (c : Nat) (g : Cell → Cell) : (b.modCell c g).evtIn = b.evtIn := id rfl
@[simp] theorem Block.modCell_pwr (b : Block) (c : Nat) (g : Cell → Cell) : (b.modCell c g).pwr = b.pwr := id rfl
@[simp] theorem Block.modCell_mode (b : Block) (c : Nat) (g : Cell → Cell) : (b.modCell c g).mode = b.mode := id rfl
@[simp] theorem Block.modCell_tarn (b : Block) (c : Nat) (g : Cell → Cell) : (b.modCell c g).tarn = b.tarn := id rfl
@[simp] theorem Block.modCell_loop (b : Block) (c : Nat) (g : Cell → Cell) : (b.modCell c g).loop = b.loop := id rfl
@[simp] theorem Block.modCell_solver (b : Block) (c : Nat) (g : Cell → Cell) : (b.modCell c g).solver = b.solver := id rfl
@[simp] theorem Block.modCell_fusion (b : Block) (c : Nat) (g : Cell → Cell) : (b.modCell c g).fusion = b.fusion := id rfl
@[simp] theorem Block.modCell_gnss (b : Block) (c : Nat) (g : Cell → Cell) : (b.modCell c g).gnss = b.gnss := id rfl
@[simp] theorem Block.modCell_bkp (b : Block) (c : Nat) (g : Cell → Cell) : (b.modCell c g).bkp = b.bkp := id rfl
@[simp] theorem Block.modCell_sst (b : Block) (c : Nat) (g : Cell → Cell) : (b.modCell c g).sst = b.sst := id rfl
@[simp] theorem Block.modCell_steer (b : Block) (c : Nat) (g : Cell → Cell) : (b.modCell c g).steer = b.steer := id rfl
@[simp] theorem Block.modCell_cvy (b : Block) (c : Nat) (g : Cell → Cell) : (b.modCell c g).cvy = b.cvy := id rfl
@[simp] theorem Block.modCell_yld (b : Block) (c : Nat) (g : Cell → Cell) : (b.modCell c g).yld = b.yld := id rfl
@[simp] theorem Block.modCell_tile (b : Block) (c : Nat) (g : Cell → Cell) : (b.modCell c g).tile = b.tile := id rfl
@[simp] theorem Block.modCell_can (b : Block) (c : Nat) (g : Cell → Cell) : (b.modCell c g).can = b.can := id rfl
@[simp] theorem Block.modCell_eth (b : Block) (c : Nat) (g : Cell → Cell) : (b.modCell c g).eth = b.eth := id rfl
@[simp] theorem Block.modCell_ehr (b : Block) (c : Nat) (g : Cell → Cell) : (b.modCell c g).ehr = b.ehr := id rfl
@[simp] theorem Block.modCell_dsp (b : Block) (c : Nat) (g : Cell → Cell) : (b.modCell c g).dsp = b.dsp := id rfl
@[simp] theorem Block.modCell_evr (b : Block) (c : Nat) (g : Cell → Cell) : (b.modCell c g).evr = b.evr := id rfl
@[simp] theorem Block.modCell_poison (b : Block) (c : Nat) (g : Cell → Cell) : (b.modCell c g).poison = b.poison := id rfl
@[simp] theorem Block.modCell_corrected (b : Block) (c : Nat) (g : Cell → Cell) : (b.modCell c g).corrected = b.corrected := id rfl
@[simp] theorem Block.modCell_hlt (b : Block) (c : Nat) (g : Cell → Cell) : (b.modCell c g).hlt = b.hlt := id rfl
@[simp] theorem Block.modCell_cry (b : Block) (c : Nat) (g : Cell → Cell) : (b.modCell c g).cry = b.cry := id rfl
@[simp] theorem Block.modCell_dram (b : Block) (c : Nat) (g : Cell → Cell) : (b.modCell c g).dram = b.dram := id rfl
@[simp] theorem Block.modCell_upd (b : Block) (c : Nat) (g : Cell → Cell) : (b.modCell c g).upd = b.upd := id rfl
@[simp] theorem Block.modCell_whd (b : Block) (c : Nat) (g : Cell → Cell) : (b.modCell c g).whd = b.whd := id rfl
@[simp] theorem Block.get_modCell (b : Block) (c : Nat) (g : Cell → Cell) (k : Fld) : (b.modCell c g).get k = b.get k := id rfl

@[simp] theorem Block.modIsland_now (b : Block) (i : Nat) (g : Island → Island) : (b.modIsland i g).now = b.now := id rfl
@[simp] theorem Block.modIsland_regs (b : Block) (i : Nat) (g : Island → Island) : (b.modIsland i g).regs = b.regs := id rfl
@[simp] theorem Block.modIsland_inuse (b : Block) (i : Nat) (g : Island → Island) : (b.modIsland i g).inuse = b.inuse := id rfl
@[simp] theorem Block.modIsland_out (b : Block) (i : Nat) (g : Island → Island) : (b.modIsland i g).out = b.out := id rfl
@[simp] theorem Block.modIsland_free (b : Block) (i : Nat) (g : Island → Island) : (b.modIsland i g).free = b.free := id rfl
@[simp] theorem Block.modIsland_fab (b : Block) (i : Nat) (g : Island → Island) : (b.modIsland i g).fab = b.fab := id rfl
@[simp] theorem Block.modIsland_img (b : Block) (i : Nat) (g : Island → Island) : (b.modIsland i g).img = b.img := id rfl
@[simp] theorem Block.modIsland_chans (b : Block) (i : Nat) (g : Island → Island) : (b.modIsland i g).chans = b.chans := id rfl
@[simp] theorem Block.modIsland_cells (b : Block) (i : Nat) (g : Island → Island) : (b.modIsland i g).cells = b.cells := id rfl
@[simp] theorem Block.modIsland_scopes (b : Block) (i : Nat) (g : Island → Island) : (b.modIsland i g).scopes = b.scopes := id rfl
@[simp] theorem Block.modIsland_pairs (b : Block) (i : Nat) (g : Island → Island) : (b.modIsland i g).pairs = b.pairs := id rfl
@[simp] theorem Block.modIsland_evtIn (b : Block) (i : Nat) (g : Island → Island) : (b.modIsland i g).evtIn = b.evtIn := id rfl
@[simp] theorem Block.modIsland_pwr (b : Block) (i : Nat) (g : Island → Island) : (b.modIsland i g).pwr = b.pwr := id rfl
@[simp] theorem Block.modIsland_mode (b : Block) (i : Nat) (g : Island → Island) : (b.modIsland i g).mode = b.mode := id rfl
@[simp] theorem Block.modIsland_tarn (b : Block) (i : Nat) (g : Island → Island) : (b.modIsland i g).tarn = b.tarn := id rfl
@[simp] theorem Block.modIsland_loop (b : Block) (i : Nat) (g : Island → Island) : (b.modIsland i g).loop = b.loop := id rfl
@[simp] theorem Block.modIsland_solver (b : Block) (i : Nat) (g : Island → Island) : (b.modIsland i g).solver = b.solver := id rfl
@[simp] theorem Block.modIsland_fusion (b : Block) (i : Nat) (g : Island → Island) : (b.modIsland i g).fusion = b.fusion := id rfl
@[simp] theorem Block.modIsland_gnss (b : Block) (i : Nat) (g : Island → Island) : (b.modIsland i g).gnss = b.gnss := id rfl
@[simp] theorem Block.modIsland_bkp (b : Block) (i : Nat) (g : Island → Island) : (b.modIsland i g).bkp = b.bkp := id rfl
@[simp] theorem Block.modIsland_sst (b : Block) (i : Nat) (g : Island → Island) : (b.modIsland i g).sst = b.sst := id rfl
@[simp] theorem Block.modIsland_steer (b : Block) (i : Nat) (g : Island → Island) : (b.modIsland i g).steer = b.steer := id rfl
@[simp] theorem Block.modIsland_cvy (b : Block) (i : Nat) (g : Island → Island) : (b.modIsland i g).cvy = b.cvy := id rfl
@[simp] theorem Block.modIsland_yld (b : Block) (i : Nat) (g : Island → Island) : (b.modIsland i g).yld = b.yld := id rfl
@[simp] theorem Block.modIsland_tile (b : Block) (i : Nat) (g : Island → Island) : (b.modIsland i g).tile = b.tile := id rfl
@[simp] theorem Block.modIsland_can (b : Block) (i : Nat) (g : Island → Island) : (b.modIsland i g).can = b.can := id rfl
@[simp] theorem Block.modIsland_eth (b : Block) (i : Nat) (g : Island → Island) : (b.modIsland i g).eth = b.eth := id rfl
@[simp] theorem Block.modIsland_ehr (b : Block) (i : Nat) (g : Island → Island) : (b.modIsland i g).ehr = b.ehr := id rfl
@[simp] theorem Block.modIsland_dsp (b : Block) (i : Nat) (g : Island → Island) : (b.modIsland i g).dsp = b.dsp := id rfl
@[simp] theorem Block.modIsland_evr (b : Block) (i : Nat) (g : Island → Island) : (b.modIsland i g).evr = b.evr := id rfl
@[simp] theorem Block.modIsland_poison (b : Block) (i : Nat) (g : Island → Island) : (b.modIsland i g).poison = b.poison := id rfl
@[simp] theorem Block.modIsland_corrected (b : Block) (i : Nat) (g : Island → Island) : (b.modIsland i g).corrected = b.corrected := id rfl
@[simp] theorem Block.modIsland_hlt (b : Block) (i : Nat) (g : Island → Island) : (b.modIsland i g).hlt = b.hlt := id rfl
@[simp] theorem Block.modIsland_cry (b : Block) (i : Nat) (g : Island → Island) : (b.modIsland i g).cry = b.cry := id rfl
@[simp] theorem Block.modIsland_dram (b : Block) (i : Nat) (g : Island → Island) : (b.modIsland i g).dram = b.dram := id rfl
@[simp] theorem Block.modIsland_upd (b : Block) (i : Nat) (g : Island → Island) : (b.modIsland i g).upd = b.upd := id rfl
@[simp] theorem Block.modIsland_whd (b : Block) (i : Nat) (g : Island → Island) : (b.modIsland i g).whd = b.whd := id rfl
@[simp] theorem Block.get_modIsland (b : Block) (i : Nat) (g : Island → Island) (k : Fld) : (b.modIsland i g).get k = b.get k := id rfl

@[simp] theorem Block.event_now (b : Block) (o a n : Nat) (x : List Nat) : (b.event o a n x).now = b.now := id rfl
@[simp] theorem Block.event_regs (b : Block) (o a n : Nat) (x : List Nat) : (b.event o a n x).regs = b.regs := id rfl
@[simp] theorem Block.event_inuse (b : Block) (o a n : Nat) (x : List Nat) : (b.event o a n x).inuse = b.inuse := id rfl
@[simp] theorem Block.event_free (b : Block) (o a n : Nat) (x : List Nat) : (b.event o a n x).free = b.free := id rfl
@[simp] theorem Block.event_sys (b : Block) (o a n : Nat) (x : List Nat) : (b.event o a n x).sys = b.sys := id rfl
@[simp] theorem Block.event_img (b : Block) (o a n : Nat) (x : List Nat) : (b.event o a n x).img = b.img := id rfl
@[simp] theorem Block.event_chans (b : Block) (o a n : Nat) (x : List Nat) : (b.event o a n x).chans = b.chans := id rfl
@[simp] theorem Block.event_cells (b : Block) (o a n : Nat) (x : List Nat) : (b.event o a n x).cells = b.cells := id rfl
@[simp] theorem Block.event_scopes (b : Block) (o a n : Nat) (x : List Nat) : (b.event o a n x).scopes = b.scopes := id rfl
@[simp] theorem Block.event_pairs (b : Block) (o a n : Nat) (x : List Nat) : (b.event o a n x).pairs = b.pairs := id rfl
@[simp] theorem Block.event_evtIn (b : Block) (o a n : Nat) (x : List Nat) : (b.event o a n x).evtIn = b.evtIn := id rfl
@[simp] theorem Block.event_pwr (b : Block) (o a n : Nat) (x : List Nat) : (b.event o a n x).pwr = b.pwr := id rfl
@[simp] theorem Block.event_mode (b : Block) (o a n : Nat) (x : List Nat) : (b.event o a n x).mode = b.mode := id rfl
@[simp] theorem Block.event_tarn (b : Block) (o a n : Nat) (x : List Nat) : (b.event o a n x).tarn = b.tarn := id rfl
@[simp] theorem Block.event_loop (b : Block) (o a n : Nat) (x : List Nat) : (b.event o a n x).loop = b.loop := id rfl
@[simp] theorem Block.event_solver (b : Block) (o a n : Nat) (x : List Nat) : (b.event o a n x).solver = b.solver := id rfl
@[simp] theorem Block.event_fusion (b : Block) (o a n : Nat) (x : List Nat) : (b.event o a n x).fusion = b.fusion := id rfl
@[simp] theorem Block.event_gnss (b : Block) (o a n : Nat) (x : List Nat) : (b.event o a n x).gnss = b.gnss := id rfl
@[simp] theorem Block.event_bkp (b : Block) (o a n : Nat) (x : List Nat) : (b.event o a n x).bkp = b.bkp := id rfl
@[simp] theorem Block.event_sst (b : Block) (o a n : Nat) (x : List Nat) : (b.event o a n x).sst = b.sst := id rfl
@[simp] theorem Block.event_steer (b : Block) (o a n : Nat) (x : List Nat) : (b.event o a n x).steer = b.steer := id rfl
@[simp] theorem Block.event_cvy (b : Block) (o a n : Nat) (x : List Nat) : (b.event o a n x).cvy = b.cvy := id rfl
@[simp] theorem Block.event_yld (b : Block) (o a n : Nat) (x : List Nat) : (b.event o a n x).yld = b.yld := id rfl
@[simp] theorem Block.event_tile (b : Block) (o a n : Nat) (x : List Nat) : (b.event o a n x).tile = b.tile := id rfl
@[simp] theorem Block.event_can (b : Block) (o a n : Nat) (x : List Nat) : (b.event o a n x).can = b.can := id rfl
@[simp] theorem Block.event_eth (b : Block) (o a n : Nat) (x : List Nat) : (b.event o a n x).eth = b.eth := id rfl
@[simp] theorem Block.event_ehr (b : Block) (o a n : Nat) (x : List Nat) : (b.event o a n x).ehr = b.ehr := id rfl
@[simp] theorem Block.event_dsp (b : Block) (o a n : Nat) (x : List Nat) : (b.event o a n x).dsp = b.dsp := id rfl
@[simp] theorem Block.event_evr (b : Block) (o a n : Nat) (x : List Nat) : (b.event o a n x).evr = b.evr := id rfl
@[simp] theorem Block.event_poison (b : Block) (o a n : Nat) (x : List Nat) : (b.event o a n x).poison = b.poison := id rfl
@[simp] theorem Block.event_corrected (b : Block) (o a n : Nat) (x : List Nat) : (b.event o a n x).corrected = b.corrected := id rfl
@[simp] theorem Block.event_hlt (b : Block) (o a n : Nat) (x : List Nat) : (b.event o a n x).hlt = b.hlt := id rfl
@[simp] theorem Block.event_cry (b : Block) (o a n : Nat) (x : List Nat) : (b.event o a n x).cry = b.cry := id rfl
@[simp] theorem Block.event_dram (b : Block) (o a n : Nat) (x : List Nat) : (b.event o a n x).dram = b.dram := id rfl
@[simp] theorem Block.event_upd (b : Block) (o a n : Nat) (x : List Nat) : (b.event o a n x).upd = b.upd := id rfl
@[simp] theorem Block.event_whd (b : Block) (o a n : Nat) (x : List Nat) : (b.event o a n x).whd = b.whd := id rfl
@[simp] theorem Block.get_event (b : Block) (o a n : Nat) (x : List Nat) (k : Fld) : (b.event o a n x).get k = b.get k := id rfl

@[simp] theorem Block.eventRaw_now (b : Block) (o : Nat) (x : List Nat) : (b.eventRaw o x).now = b.now := id rfl
@[simp] theorem Block.eventRaw_regs (b : Block) (o : Nat) (x : List Nat) : (b.eventRaw o x).regs = b.regs := id rfl
@[simp] theorem Block.eventRaw_inuse (b : Block) (o : Nat) (x : List Nat) : (b.eventRaw o x).inuse = b.inuse := id rfl
@[simp] theorem Block.eventRaw_free (b : Block) (o : Nat) (x : List Nat) : (b.eventRaw o x).free = b.free := id rfl
@[simp] theorem Block.eventRaw_sys (b : Block) (o : Nat) (x : List Nat) : (b.eventRaw o x).sys = b.sys := id rfl
@[simp] theorem Block.eventRaw_img (b : Block) (o : Nat) (x : List Nat) : (b.eventRaw o x).img = b.img := id rfl
@[simp] theorem Block.eventRaw_chans (b : Block) (o : Nat) (x : List Nat) : (b.eventRaw o x).chans = b.chans := id rfl
@[simp] theorem Block.eventRaw_cells (b : Block) (o : Nat) (x : List Nat) : (b.eventRaw o x).cells = b.cells := id rfl
@[simp] theorem Block.eventRaw_scopes (b : Block) (o : Nat) (x : List Nat) : (b.eventRaw o x).scopes = b.scopes := id rfl
@[simp] theorem Block.eventRaw_pairs (b : Block) (o : Nat) (x : List Nat) : (b.eventRaw o x).pairs = b.pairs := id rfl
@[simp] theorem Block.eventRaw_evtIn (b : Block) (o : Nat) (x : List Nat) : (b.eventRaw o x).evtIn = b.evtIn := id rfl
@[simp] theorem Block.eventRaw_pwr (b : Block) (o : Nat) (x : List Nat) : (b.eventRaw o x).pwr = b.pwr := id rfl
@[simp] theorem Block.eventRaw_mode (b : Block) (o : Nat) (x : List Nat) : (b.eventRaw o x).mode = b.mode := id rfl
@[simp] theorem Block.eventRaw_tarn (b : Block) (o : Nat) (x : List Nat) : (b.eventRaw o x).tarn = b.tarn := id rfl
@[simp] theorem Block.eventRaw_loop (b : Block) (o : Nat) (x : List Nat) : (b.eventRaw o x).loop = b.loop := id rfl
@[simp] theorem Block.eventRaw_solver (b : Block) (o : Nat) (x : List Nat) : (b.eventRaw o x).solver = b.solver := id rfl
@[simp] theorem Block.eventRaw_fusion (b : Block) (o : Nat) (x : List Nat) : (b.eventRaw o x).fusion = b.fusion := id rfl
@[simp] theorem Block.eventRaw_gnss (b : Block) (o : Nat) (x : List Nat) : (b.eventRaw o x).gnss = b.gnss := id rfl
@[simp] theorem Block.eventRaw_bkp (b : Block) (o : Nat) (x : List Nat) : (b.eventRaw o x).bkp = b.bkp := id rfl
@[simp] theorem Block.eventRaw_sst (b : Block) (o : Nat) (x : List Nat) : (b.eventRaw o x).sst = b.sst := id rfl
@[simp] theorem Block.eventRaw_steer (b : Block) (o : Nat) (x : List Nat) : (b.eventRaw o x).steer = b.steer := id rfl
@[simp] theorem Block.eventRaw_cvy (b : Block) (o : Nat) (x : List Nat) : (b.eventRaw o x).cvy = b.cvy := id rfl
@[simp] theorem Block.eventRaw_yld (b : Block) (o : Nat) (x : List Nat) : (b.eventRaw o x).yld = b.yld := id rfl
@[simp] theorem Block.eventRaw_tile (b : Block) (o : Nat) (x : List Nat) : (b.eventRaw o x).tile = b.tile := id rfl
@[simp] theorem Block.eventRaw_can (b : Block) (o : Nat) (x : List Nat) : (b.eventRaw o x).can = b.can := id rfl
@[simp] theorem Block.eventRaw_eth (b : Block) (o : Nat) (x : List Nat) : (b.eventRaw o x).eth = b.eth := id rfl
@[simp] theorem Block.eventRaw_ehr (b : Block) (o : Nat) (x : List Nat) : (b.eventRaw o x).ehr = b.ehr := id rfl
@[simp] theorem Block.eventRaw_dsp (b : Block) (o : Nat) (x : List Nat) : (b.eventRaw o x).dsp = b.dsp := id rfl
@[simp] theorem Block.eventRaw_evr (b : Block) (o : Nat) (x : List Nat) : (b.eventRaw o x).evr = b.evr := id rfl
@[simp] theorem Block.eventRaw_poison (b : Block) (o : Nat) (x : List Nat) : (b.eventRaw o x).poison = b.poison := id rfl
@[simp] theorem Block.eventRaw_corrected (b : Block) (o : Nat) (x : List Nat) : (b.eventRaw o x).corrected = b.corrected := id rfl
@[simp] theorem Block.eventRaw_hlt (b : Block) (o : Nat) (x : List Nat) : (b.eventRaw o x).hlt = b.hlt := id rfl
@[simp] theorem Block.eventRaw_cry (b : Block) (o : Nat) (x : List Nat) : (b.eventRaw o x).cry = b.cry := id rfl
@[simp] theorem Block.eventRaw_dram (b : Block) (o : Nat) (x : List Nat) : (b.eventRaw o x).dram = b.dram := id rfl
@[simp] theorem Block.eventRaw_upd (b : Block) (o : Nat) (x : List Nat) : (b.eventRaw o x).upd = b.upd := id rfl
@[simp] theorem Block.eventRaw_whd (b : Block) (o : Nat) (x : List Nat) : (b.eventRaw o x).whd = b.whd := id rfl
@[simp] theorem Block.get_eventRaw (b : Block) (o : Nat) (x : List Nat) (k : Fld) : (b.eventRaw o x).get k = b.get k := id rfl

@[simp] theorem Block.raise_now (b : Block) (o : Nat) (f : Fld) (x : List Nat) : (b.raise o f x).now = b.now := id rfl
@[simp] theorem Block.raise_inuse (b : Block) (o : Nat) (f : Fld) (x : List Nat) : (b.raise o f x).inuse = b.inuse := id rfl
@[simp] theorem Block.raise_free (b : Block) (o : Nat) (f : Fld) (x : List Nat) : (b.raise o f x).free = b.free := id rfl
@[simp] theorem Block.raise_sys (b : Block) (o : Nat) (f : Fld) (x : List Nat) : (b.raise o f x).sys = b.sys := id rfl
@[simp] theorem Block.raise_img (b : Block) (o : Nat) (f : Fld) (x : List Nat) : (b.raise o f x).img = b.img := id rfl
@[simp] theorem Block.raise_chans (b : Block) (o : Nat) (f : Fld) (x : List Nat) : (b.raise o f x).chans = b.chans := id rfl
@[simp] theorem Block.raise_cells (b : Block) (o : Nat) (f : Fld) (x : List Nat) : (b.raise o f x).cells = b.cells := id rfl
@[simp] theorem Block.raise_scopes (b : Block) (o : Nat) (f : Fld) (x : List Nat) : (b.raise o f x).scopes = b.scopes := id rfl
@[simp] theorem Block.raise_pairs (b : Block) (o : Nat) (f : Fld) (x : List Nat) : (b.raise o f x).pairs = b.pairs := id rfl
@[simp] theorem Block.raise_evtIn (b : Block) (o : Nat) (f : Fld) (x : List Nat) : (b.raise o f x).evtIn = b.evtIn := id rfl
@[simp] theorem Block.raise_pwr (b : Block) (o : Nat) (f : Fld) (x : List Nat) : (b.raise o f x).pwr = b.pwr := id rfl
@[simp] theorem Block.raise_mode (b : Block) (o : Nat) (f : Fld) (x : List Nat) : (b.raise o f x).mode = b.mode := id rfl
@[simp] theorem Block.raise_tarn (b : Block) (o : Nat) (f : Fld) (x : List Nat) : (b.raise o f x).tarn = b.tarn := id rfl
@[simp] theorem Block.raise_loop (b : Block) (o : Nat) (f : Fld) (x : List Nat) : (b.raise o f x).loop = b.loop := id rfl
@[simp] theorem Block.raise_solver (b : Block) (o : Nat) (f : Fld) (x : List Nat) : (b.raise o f x).solver = b.solver := id rfl
@[simp] theorem Block.raise_fusion (b : Block) (o : Nat) (f : Fld) (x : List Nat) : (b.raise o f x).fusion = b.fusion := id rfl
@[simp] theorem Block.raise_gnss (b : Block) (o : Nat) (f : Fld) (x : List Nat) : (b.raise o f x).gnss = b.gnss := id rfl
@[simp] theorem Block.raise_bkp (b : Block) (o : Nat) (f : Fld) (x : List Nat) : (b.raise o f x).bkp = b.bkp := id rfl
@[simp] theorem Block.raise_sst (b : Block) (o : Nat) (f : Fld) (x : List Nat) : (b.raise o f x).sst = b.sst := id rfl
@[simp] theorem Block.raise_steer (b : Block) (o : Nat) (f : Fld) (x : List Nat) : (b.raise o f x).steer = b.steer := id rfl
@[simp] theorem Block.raise_cvy (b : Block) (o : Nat) (f : Fld) (x : List Nat) : (b.raise o f x).cvy = b.cvy := id rfl
@[simp] theorem Block.raise_yld (b : Block) (o : Nat) (f : Fld) (x : List Nat) : (b.raise o f x).yld = b.yld := id rfl
@[simp] theorem Block.raise_tile (b : Block) (o : Nat) (f : Fld) (x : List Nat) : (b.raise o f x).tile = b.tile := id rfl
@[simp] theorem Block.raise_can (b : Block) (o : Nat) (f : Fld) (x : List Nat) : (b.raise o f x).can = b.can := id rfl
@[simp] theorem Block.raise_eth (b : Block) (o : Nat) (f : Fld) (x : List Nat) : (b.raise o f x).eth = b.eth := id rfl
@[simp] theorem Block.raise_ehr (b : Block) (o : Nat) (f : Fld) (x : List Nat) : (b.raise o f x).ehr = b.ehr := id rfl
@[simp] theorem Block.raise_dsp (b : Block) (o : Nat) (f : Fld) (x : List Nat) : (b.raise o f x).dsp = b.dsp := id rfl
@[simp] theorem Block.raise_evr (b : Block) (o : Nat) (f : Fld) (x : List Nat) : (b.raise o f x).evr = b.evr := id rfl
@[simp] theorem Block.raise_poison (b : Block) (o : Nat) (f : Fld) (x : List Nat) : (b.raise o f x).poison = b.poison := id rfl
@[simp] theorem Block.raise_corrected (b : Block) (o : Nat) (f : Fld) (x : List Nat) : (b.raise o f x).corrected = b.corrected := id rfl
@[simp] theorem Block.raise_hlt (b : Block) (o : Nat) (f : Fld) (x : List Nat) : (b.raise o f x).hlt = b.hlt := id rfl
@[simp] theorem Block.raise_cry (b : Block) (o : Nat) (f : Fld) (x : List Nat) : (b.raise o f x).cry = b.cry := id rfl
@[simp] theorem Block.raise_dram (b : Block) (o : Nat) (f : Fld) (x : List Nat) : (b.raise o f x).dram = b.dram := id rfl
@[simp] theorem Block.raise_upd (b : Block) (o : Nat) (f : Fld) (x : List Nat) : (b.raise o f x).upd = b.upd := id rfl
@[simp] theorem Block.raise_whd (b : Block) (o : Nat) (f : Fld) (x : List Nat) : (b.raise o f x).whd = b.whd := id rfl

@[simp] theorem Block.raiseBit_now (b : Block) (o : Nat) (f : Fld) (i : Nat) (x : List Nat) : (b.raiseBit o f i x).now = b.now := id rfl
@[simp] theorem Block.raiseBit_inuse (b : Block) (o : Nat) (f : Fld) (i : Nat) (x : List Nat) : (b.raiseBit o f i x).inuse = b.inuse := id rfl
@[simp] theorem Block.raiseBit_free (b : Block) (o : Nat) (f : Fld) (i : Nat) (x : List Nat) : (b.raiseBit o f i x).free = b.free := id rfl
@[simp] theorem Block.raiseBit_sys (b : Block) (o : Nat) (f : Fld) (i : Nat) (x : List Nat) : (b.raiseBit o f i x).sys = b.sys := id rfl
@[simp] theorem Block.raiseBit_img (b : Block) (o : Nat) (f : Fld) (i : Nat) (x : List Nat) : (b.raiseBit o f i x).img = b.img := id rfl
@[simp] theorem Block.raiseBit_chans (b : Block) (o : Nat) (f : Fld) (i : Nat) (x : List Nat) : (b.raiseBit o f i x).chans = b.chans := id rfl
@[simp] theorem Block.raiseBit_cells (b : Block) (o : Nat) (f : Fld) (i : Nat) (x : List Nat) : (b.raiseBit o f i x).cells = b.cells := id rfl
@[simp] theorem Block.raiseBit_scopes (b : Block) (o : Nat) (f : Fld) (i : Nat) (x : List Nat) : (b.raiseBit o f i x).scopes = b.scopes := id rfl
@[simp] theorem Block.raiseBit_pairs (b : Block) (o : Nat) (f : Fld) (i : Nat) (x : List Nat) : (b.raiseBit o f i x).pairs = b.pairs := id rfl
@[simp] theorem Block.raiseBit_evtIn (b : Block) (o : Nat) (f : Fld) (i : Nat) (x : List Nat) : (b.raiseBit o f i x).evtIn = b.evtIn := id rfl
@[simp] theorem Block.raiseBit_pwr (b : Block) (o : Nat) (f : Fld) (i : Nat) (x : List Nat) : (b.raiseBit o f i x).pwr = b.pwr := id rfl
@[simp] theorem Block.raiseBit_mode (b : Block) (o : Nat) (f : Fld) (i : Nat) (x : List Nat) : (b.raiseBit o f i x).mode = b.mode := id rfl
@[simp] theorem Block.raiseBit_tarn (b : Block) (o : Nat) (f : Fld) (i : Nat) (x : List Nat) : (b.raiseBit o f i x).tarn = b.tarn := id rfl
@[simp] theorem Block.raiseBit_loop (b : Block) (o : Nat) (f : Fld) (i : Nat) (x : List Nat) : (b.raiseBit o f i x).loop = b.loop := id rfl
@[simp] theorem Block.raiseBit_solver (b : Block) (o : Nat) (f : Fld) (i : Nat) (x : List Nat) : (b.raiseBit o f i x).solver = b.solver := id rfl
@[simp] theorem Block.raiseBit_fusion (b : Block) (o : Nat) (f : Fld) (i : Nat) (x : List Nat) : (b.raiseBit o f i x).fusion = b.fusion := id rfl
@[simp] theorem Block.raiseBit_gnss (b : Block) (o : Nat) (f : Fld) (i : Nat) (x : List Nat) : (b.raiseBit o f i x).gnss = b.gnss := id rfl
@[simp] theorem Block.raiseBit_bkp (b : Block) (o : Nat) (f : Fld) (i : Nat) (x : List Nat) : (b.raiseBit o f i x).bkp = b.bkp := id rfl
@[simp] theorem Block.raiseBit_sst (b : Block) (o : Nat) (f : Fld) (i : Nat) (x : List Nat) : (b.raiseBit o f i x).sst = b.sst := id rfl
@[simp] theorem Block.raiseBit_steer (b : Block) (o : Nat) (f : Fld) (i : Nat) (x : List Nat) : (b.raiseBit o f i x).steer = b.steer := id rfl
@[simp] theorem Block.raiseBit_cvy (b : Block) (o : Nat) (f : Fld) (i : Nat) (x : List Nat) : (b.raiseBit o f i x).cvy = b.cvy := id rfl
@[simp] theorem Block.raiseBit_yld (b : Block) (o : Nat) (f : Fld) (i : Nat) (x : List Nat) : (b.raiseBit o f i x).yld = b.yld := id rfl
@[simp] theorem Block.raiseBit_tile (b : Block) (o : Nat) (f : Fld) (i : Nat) (x : List Nat) : (b.raiseBit o f i x).tile = b.tile := id rfl
@[simp] theorem Block.raiseBit_can (b : Block) (o : Nat) (f : Fld) (i : Nat) (x : List Nat) : (b.raiseBit o f i x).can = b.can := id rfl
@[simp] theorem Block.raiseBit_eth (b : Block) (o : Nat) (f : Fld) (i : Nat) (x : List Nat) : (b.raiseBit o f i x).eth = b.eth := id rfl
@[simp] theorem Block.raiseBit_ehr (b : Block) (o : Nat) (f : Fld) (i : Nat) (x : List Nat) : (b.raiseBit o f i x).ehr = b.ehr := id rfl
@[simp] theorem Block.raiseBit_dsp (b : Block) (o : Nat) (f : Fld) (i : Nat) (x : List Nat) : (b.raiseBit o f i x).dsp = b.dsp := id rfl
@[simp] theorem Block.raiseBit_evr (b : Block) (o : Nat) (f : Fld) (i : Nat) (x : List Nat) : (b.raiseBit o f i x).evr = b.evr := id rfl
@[simp] theorem Block.raiseBit_poison (b : Block) (o : Nat) (f : Fld) (i : Nat) (x : List Nat) : (b.raiseBit o f i x).poison = b.poison := id rfl
@[simp] theorem Block.raiseBit_corrected (b : Block) (o : Nat) (f : Fld) (i : Nat) (x : List Nat) : (b.raiseBit o f i x).corrected = b.corrected := id rfl
@[simp] theorem Block.raiseBit_hlt (b : Block) (o : Nat) (f : Fld) (i : Nat) (x : List Nat) : (b.raiseBit o f i x).hlt = b.hlt := id rfl
@[simp] theorem Block.raiseBit_cry (b : Block) (o : Nat) (f : Fld) (i : Nat) (x : List Nat) : (b.raiseBit o f i x).cry = b.cry := id rfl
@[simp] theorem Block.raiseBit_dram (b : Block) (o : Nat) (f : Fld) (i : Nat) (x : List Nat) : (b.raiseBit o f i x).dram = b.dram := id rfl
@[simp] theorem Block.raiseBit_upd (b : Block) (o : Nat) (f : Fld) (i : Nat) (x : List Nat) : (b.raiseBit o f i x).upd = b.upd := id rfl
@[simp] theorem Block.raiseBit_whd (b : Block) (o : Nat) (f : Fld) (i : Nat) (x : List Nat) : (b.raiseBit o f i x).whd = b.whd := id rfl

/-- A field reads the register file alone. -/
@[simp] theorem Block.get_mk (f : Fld) x0 x1 x2 x3 x4 x5 x6 x7 x8 x9 x10 x11 x12 x13 x14 x15 x16 x17 x18 x19 x20 x21 x22 x23 x24 x25 x26 x27 x28 x29 x30 x31 x32 x33 x34 x35 x36 x37 : (Block.mk x0 x1 x2 x3 x4 x5 x6 x7 x8 x9 x10 x11 x12 x13 x14 x15 x16 x17 x18 x19 x20 x21 x22 x23 x24 x25 x26 x27 x28 x29 x30 x31 x32 x33 x34 x35 x36 x37).get f = Store.find x1 f.key f.reset := id rfl
theorem Block.find_regs (b : Block) (f : Fld) : Store.find b.regs f.key f.reset = b.get f := id rfl

end Sys2Proof.Machine
end

