-- ==== Sys2Proof/Laws/Ops.lean ====
section
/-! SUPPORT. What each shared form of a meaning can do, said once. -/

namespace Sys2Proof.Machine

open Sys2Proof

/-! ## Forms of a meaning -/

theorem State.go_eq (s : State) (f : Block → Block) : s.go f = .next { s with blk := f s.blk } := rfl

/-- An answered operation answers a next state: the refusal alone, or the effect with success. -/
theorem State.ask_eq (s : State) (r : Option Nat) (f : Block → Block) :
    s.ask r f = .next { s with blk := match r with | some c => s.blk.status c | none => (f s.blk).status 0 } := by
  cases r <;> rfl

theorem State.ask_none (s : State) (f : Block → Block) : s.ask none f = .next { s with blk := (f s.blk).status 0 } := rfl
theorem State.ask_some (s : State) (c : Nat) (f : Block → Block) : s.ask (some c) f = .next { s with blk := s.blk.status c } := rfl

/-- An event whose condition does not hold changes nothing. -/
theorem State.if_eq (s : State) (c : Bool) (f : Block → Block) : s.if_ c f = .next { s with blk := if c then f s.blk else s.blk } := rfl

theorem State.goMem_eq (s : State) (f : Block → Block) (g : Block → Memory → Memory) : s.goMem f g = .next { s with blk := f s.blk, mem := g s.blk s.mem } := rfl
theorem State.goBoth_eq (s : State) (f : Block → Memory → Block × Memory) :
    s.goBoth f = .next { s with blk := (f s.blk s.mem).1, mem := (f s.blk s.mem).2 } := rfl

/-! ## Repetition -/

/-- What every single change leaves alone, the repetition leaves alone. -/
theorem Block.each_keeps {α : Type} (p : Block → α) (f : Nat → Block → Block) (h : ∀ i b, p (f i b) = p b) (n : Nat) (b : Block) :
    p (b.each n f) = p b := by
  have key : ∀ (l : List Nat) (b : Block), p (l.foldl (fun b i => f i b) b) = p b := by
    intro l
    induction l with
    | nil => intro b; rfl
    | cons i r ih => intro b; rw [List.foldl, ih, h]
  exact key _ b

theorem Block.eachOf_keeps {α β : Type} (p : Block → α) (f : β → Block → Block) (h : ∀ i b, p (f i b) = p b) (l : List β) (b : Block) :
    p (b.eachOf l f) = p b := by
  unfold Block.eachOf
  induction l generalizing b with
  | nil => rfl
  | cons i r ih => rw [List.foldl, ih, h]

theorem Block.when_keeps {α : Type} (p : Block → α) (f : Block → Block) (h : ∀ b, p (f b) = p b) (c : Bool) (b : Block) : p (b.when c f) = p b := by
  cases c <;> simp [Block.when, h]

@[simp] theorem Block.when_true (b : Block) (f : Block → Block) : b.when true f = f b := rfl
@[simp] theorem Block.when_false (b : Block) (f : Block → Block) : b.when false f = b := rfl

/-! ## Samples -/

/-- A sample leaves every register alone. -/
@[simp] theorem Block.get_sample (b : Block) (o n : Nat) (d : List Nat) (c : Nat) (v : Bool) (st : Option Nat) (x y z : Bool) (k : Fld) :
    (b.sample o n d c v st x y z).get k = b.get k := by
  unfold Block.sample
  split <;> rfl

/-- A sample on an output that the image does not route sends nothing. -/
theorem Block.sample_unrouted (b : Block) (o n : Nat) (d : List Nat) (c : Nat) (v : Bool) (st : Option Nat) (x y z : Bool) (h : b.route? o n = none) :
    b.sample o n d c v st x y z = b := by
  simp [Block.sample, h]

/-! ## Answers and events -/

@[simp] theorem Block.status_fab_status (b : Block) (c : Nat) : (b.status c).fab.status = c := rfl

/-- A posted packet is the last one sent, with the count of its stream and origin as SEQ (R59). -/
theorem Block.post_out (b : Block) (p : Packet) :
    (b.post p).out = b.out ++ [{ p with seq := b.fab.seqs.find (p.stream * 65536 + p.origin) 0 % 256, resync := p.resync || (b.fab.seqs.find? (p.stream * 65536 + p.origin)).isNone }] := rfl

/-- An event posts a packet of kind EVENT that names the register and its bit (R540). -/
theorem Block.event_eq (b : Block) (o a n : Nat) (x : List Nat) :
    b.event o a n x = b.post { kind := Kind.event, stream := 0xFF01, origin := o, stamp := b.stamp, data := [1, 0, n, 0] ++ le 4 a ++ x } := rfl

@[simp] theorem Block.get_raise_self (b : Block) (o : Nat) (f : Fld) (x : List Nat) : (b.raise o f x).get f = 1 % 2 ^ f.wid := b.get_set_self f 1

theorem Block.get_raise_ne (b : Block) (o : Nat) (f g : Fld) (x : List Nat) (h : g.key ≠ f.key) : (b.raise o f x).get g = b.get g := b.get_set_ne f g 1 h

/-! ## The clock -/

/-- Elapsed time never goes back (R31). -/
theorem Block.reach_now (b : Block) (t : Nat) : (b.reach t).now = max b.now t := by
  simp only [Block.reach]
  omega

end Sys2Proof.Machine
end

