-- ==== Sys2Proof/WellFormed.lean ====
section
/-! DEFINITION. Which commands are well formed: every number that arrives in a field of a packet, frame or message fits that field. Indices are bounded by their types.
The block answers an ill-formed content that the spec describes (a wrong LENGTH, a reserved KIND, an unknown operation); what is refused here could not have arrived at all. -/

namespace Sys2Proof

/-- Every number is a byte. -/
def bytesOk (l : List Nat) : Bool := l.all fun x => decide (x < 256)

/-- A reserved kind is a code absent from Table 2.3. -/
def Kind.wf : Kind → Bool
  | .reserved c => decide (c < 256) && !([1, 2, 3, 4, 5, 0x10, 0x11, 0x12, 0x13, 0x14, 0x15, 0x16, 0x17, 0x1F].contains c)
  | _ => true

/-- Every header field within its width (Table 2.1), the payload of bytes. -/
def Packet.wf (p : Packet) : Bool :=
  p.kind.wf && decide (p.stream < 65536) && decide (p.origin < 65536) && decide (p.tag < 65536) && decide (p.seq < 256) &&
    decide (p.conf < 256) && decide (p.stamp < 2 ^ 32) && bytesOk p.data && decide (p.data.length < 65536)

/-- Every field of a LOAD payload within its width (Table 3.5). -/
def LoadMsg.wf (m : LoadMsg) : Bool :=
  decide (m.op < 256) && decide (m.target < 65536) && decide (m.section_ < 65536) && decide (m.offset < 2 ^ 32) && decide (m.total < 2 ^ 32) &&
    decide (m.instant < 2 ^ 64) && bytesOk m.data && decide (m.data.length ≤ 4072) && decide (m.tag < 65536)

/-- Every field of a message header within its width (Table 22.7). -/
def WhdMsg.wf (m : WhdMsg) : Bool :=
  decide (m.version < 65536) && decide (m.type < 65536) && decide (m.flags < 65536) && decide (m.req < 2 ^ 32) && decide (m.length < 2 ^ 32)

/-- Data length of a DLC (Table 18.5). -/
def dlcBytes (fdf : Bool) (dlc : Nat) : Nat :=
  if dlc ≤ 8 then dlc else if fdf then [12, 16, 20, 24, 32, 48, 64].getD (dlc - 9) 64 else 8

/-- Identifier and DLC within their widths, bit rate switching with FDF only, a remote frame classical and without data, the data as long as the DLC says. -/
def CanFrame.wf (f : CanFrame) : Bool :=
  decide (f.id < (if f.ide then 2 ^ 29 else 2 ^ 11)) && decide (f.dlc < 16) && (f.fdf || !f.brs) && !(f.fdf && f.rtr) &&
    decide (f.data.length = (if f.rtr then 0 else dlcBytes f.fdf f.dlc)) && bytesOk f.data

/-- Addresses, tag and octets within their widths. -/
def EthFrame.wf (f : EthFrame) : Bool :=
  decide (f.dst < 2 ^ 48) && decide (f.src < 2 ^ 48) && bytesOk f.body && (match f.tag with | some (pcp, vid) => decide (pcp < 8) && decide (vid < 4096) | none => true)

/-- A string of exactly n bytes. -/
def bytesOf (n : Nat) (l : List Nat) : Bool := decide (l.length = n) && bytesOk l

/-- The fields of a section table entry within their widths (Table 3.3), the section's bytes, and field values of at most 64 bits. -/
def Section.wf (x : Section) : Bool :=
  decide (x.type < 65536) && decide (x.target < 65536) && decide (x.span < 256) && decide (x.phase < 256) && decide (x.variant < 256) && decide (x.flagsRest < 64) &&
    decide (x.offset < 2 ^ 32) && decide (x.bytes.length < 2 ^ 32) && decide (x.guard < 65536) && bytesOf 14 x.reserved && bytesOf 48 x.digest && bytesOk x.bytes &&
    x.fields.all fun v => decide (v.val < 2 ^ 64)

/-- The fields of a signature block within their widths (Table 3.4). -/
def SigBlock.wf (k : SigBlock) : Bool :=
  decide (k.kind < 256) && decide (k.format < 256) && decide (k.length < 65536) && bytesOf 16 k.keyId && bytesOf 16 k.unitId && bytesOf 97 k.publicKey &&
    bytesOf 96 k.endorsement && bytesOf 96 k.signature && bytesOf 187 k.reserved

/-- The fields of an image header within their widths (Table 3.1), its signature blocks and its sections. -/
def Image.wf (g : Image) : Bool :=
  bytesOf 8 g.magic && decide (g.major < 256) && decide (g.minor < 256) && decide (g.headerLen < 65536) && decide (g.length < 2 ^ 32) && decide (g.version < 2 ^ 32) &&
    decide (g.epoch < 2 ^ 32) && decide (g.part < 65536) && decide (g.hw < 256) && decide (g.grades < 256) && decide (g.retFmt < 65536) && decide (g.minFmt < 65536) &&
    decide (g.bindFlags < 2 ^ 32) && bytesOf 16 g.unitId && decide (g.buildTime < 2 ^ 64) && decide (g.tableOffset < 2 ^ 32) && decide (g.sigArea < 2 ^ 32) &&
    decide (g.composer < 2 ^ 32) && decide (g.loadBytes < 2 ^ 32) && bytesOf 32 g.name && bytesOf 144 g.reserved && g.blocks.all SigBlock.wf && g.sections.all Section.wf

/-- A credential of 256 bytes and a proof of 96 (Table 22.9, R528). -/
def Credential.wf (c : Credential) : Bool := bytesOf 256 c.bytes && bytesOf 96 c.proof

/-- The fields of an update-schedule payload within their widths (Table 19.7). -/
def FleetSched.wf (x : FleetSched) : Bool :=
  decide (x.id < 2 ^ 32) && decide (x.version < 2 ^ 32) && decide (x.epoch < 2 ^ 32) && decide (x.digest < 2 ^ 384) && decide (x.instant < 2 ^ 64) && decide (x.window < 2 ^ 32)

/-- A revocation order of 116 bytes (R513). -/
def RevokeOrder.wf (o : RevokeOrder) : Bool := bytesOf 116 o.bytes

/-- A command is well formed. -/
def Instr.wf : Instr → Bool
  | .islandResetAssert _ _ => true
  | .islandLostDeclare _ => true
  | .islandReloadComplete _ => true
  | .beacon _ => true
  | .mtimeCorrection _ => true
  | .mtimeStep => true
  | .mtimeHoldover => true
  | .mtimeFree => true
  | .supMtimeLoRead => true
  | .packetForward _ _ p length _ _ => p.wf && decide (length < 2 ^ 16)
  | .linkCheckFail _ _ _ => true
  | .linkRetrainDone _ => true
  | .linkRetrainTimeout _ => true
  | .creditReturn _ _ _ => true
  | .readReq p failing => p.wf && failing.all (· < 2 ^ 32)
  | .writeReq p failing => p.wf && failing.all (· < 2 ^ 32)
  | .registerWrite _ _ _ => true
  | .responseArrival p => p.wf
  | .errorNoteArrival _ p => p.wf
  | .tagWaitLimit _ => true
  | .rspTimeout _ => true
  | .clrCounters => true
  | .loadData m => m.wf
  | .loadCommit m => m.wf
  | .loadAbort m => m.wf
  | .loadQuiesce m => m.wf
  | .loadStart m => m.wf
  | .loadRsp m _ => m.wf
  | .commitInstant => true
  | .loadAnswerDeadline => true
  | .prStart => true
  | .prAbort => true
  | .prTimeout => true
  | .cellReloadComplete _ _ => true
  | .modeRequest p => p.wf
  | .modeReqSet _ => true
  | .modeReqClr _ => true
  | .modeConfirm _ => true
  | .modeEvaluate _ => true
  | .waitExpired _ => true
  | .confirmExpired _ => true
  | .supervisionLost => true
  | .jogLapse _ => true
  | .stationary => true
  | .stationaryLost => true
  | .modeCalAccept => true
  | .logicBatFail _ => true
  | .logicBatValid => true
  | .pfAbort => true
  | .pfCommit _ _ _ _ => true
  | .backupExit => true
  | .moduleStart _ _ _ => true
  | .ignFall => true
  | .ignRise => true
  | .pwrCtrlStandby => true
  | .pwrCtrlParked => true
  | .pwrCtrlExtend => true
  | .ignWaitExpired => true
  | .runonExpired _ _ => true
  | .flushLimit _ => true
  | .wake _ _ _ => true
  | .parkMaxExpired => true
  | .parkBatLow => true
  | .resetInAssert _ => true
  | .resetInRelease _ _ _ => true
  | .supRstModule _ => true
  | .supRstIsland _ => true
  | .supRstCell _ => true
  | .islandWatchdog _ => true
  | .island0Watchdog => true
  | .railMonitor _ => true
  | .cellFaultReset _ _ => true
  | .reserveExhausted => true
  | .fieldSetpoint _ p => p.wf
  | .hardShortTrip _ _ _ => true
  | .limitTimeExpired _ _ _ => true
  | .geyserClose _ _ => true
  | .softEvent _ _ _ => true
  | .blankEnd _ _ => true
  | .overTemp _ => true
  | .overTempResume _ => true
  | .shedEval _ => true
  | .shedEscalate _ => true
  | .commandTimeout _ => true
  | .clrLim _ => true
  | .clrHard _ => true
  | .clrShed _ => true
  | .fcClrCnt _ => true
  | .cellStop _ => true
  | .cellStart _ => true
  | .studUv _ => true
  | .studRecover _ => true
  | .groundLoss => true
  | .reverseVoltage _ => true
  | .loadDump _ => true
  | .measInterval _ _ _ _ _ _ _ => true
  | .fcMeasRead _ => true
  | .pwmBoundary _ _ _ _ => true
  | .fcEchoRead _ => true
  | .valveQueueStart _ => true
  | .boostWaitExpired _ => true
  | .valveBoostEnd _ _ _ _ => true
  | .valvePeakEnd _ _ => true
  | .releaseDecayEnd _ => true
  | .dutySlotEnd _ _ => true
  | .clrPair _ => true
  | .netPacket _ p => p.wf
  | .netApply _ _ => true
  | .netBitWrite _ _ _ => true
  | .forceWrite _ _ _ => true
  | .freezeWrite _ _ => true
  | .netSilent _ => true
  | .dinTick _ _ _ => true
  | .dinHeartbeat _ => true
  | .ovClear _ => true
  | .dcpSampleArrival _ _ p _ => p.wf
  | .dcpCheck _ => true
  | .dcpOutputHeartbeat _ => true
  | .dcpConsumerTimeout _ => true
  | .dcpEnWrite _ _ => true
  | .ainInterval _ _ _ _ _ => true
  | .shuntOpen _ => true
  | .shuntClose _ => true
  | .ainValRead _ => true
  | .finInterval _ _ => true
  | .finValRead _ => true
  | .supRegLimit _ => true
  | .supLow _ _ => true
  | .tarnSync _ _ _ => true
  | .tarnPollAnswer _ _ frame _ => bytesOk frame
  | .tarnPollTimeout _ _ _ => true
  | .tarnIdent _ frame => bytesOk frame
  | .tarnEnumNoAnswer _ => true
  | .tarnAck _ frame => bytesOk frame
  | .tarnHeadCfgWrite _ _ _ => true
  | .tarnPowerFault _ => true
  | .tarnPwrRetry _ => true
  | .tarnOverload60w => true
  | .tarnPoweringDone _ => true
  | .tarnStop _ => true
  | .tarnStart _ => true
  | .tarnReenum _ => true
  | .tarnPwrClr _ => true
  | .tarnClrCnt _ => true
  | .tarnSweepRead _ => true
  | .tarnFrameRead _ _ => true
  | .groupFrameStart _ _ => true
  | .groupOverrun _ _ => true
  | .graphEnable _ => true
  | .inPortPacket p => p.wf
  | .leStop => true
  | .leStart => true
  | .leClrCnt => true
  | .leStopped => true
  | .instanceWrite _ _ => true
  | .leSigRead _ => true
  | .solverCycle _ => true
  | .solverInputPacket p => p.wf
  | .solverDeadline => true
  | .solverResult => true
  | .solverSkipSend => true
  | .solStop => true
  | .solStart => true
  | .solCold => true
  | .solClrCnt => true
  | .solResRead => true
  | .inertialSample _ _ _ _ _ => true
  | .fusSample p => p.wf
  | .epochLimit => true
  | .fusDropout _ => true
  | .inertialAbsent => true
  | .fusForceMask _ _ => true
  | .fusStop => true
  | .fusStart => true
  | .fusReinit => true
  | .fusClrCnt => true
  | .fusStRead => true
  | .antOpen _ _ => true
  | .antShort _ => true
  | .antRetry _ => true
  | .gnssChannelAssign _ _ _ => true
  | .gnssDwellDone _ _ => true
  | .gnssPullInLock _ _ => true
  | .gnssPullInTimeout _ => true
  | .gnssTrackLoss _ => true
  | .gnssLostTimeout _ => true
  | .gnssReschedule _ _ _ => true
  | .gnssChannelFree _ => true
  | .gnssMeasEpoch _ => true
  | .gnssNavUnit _ _ _ _ _ age _ _ _ => decide (age < 2 ^ 64)
  | .gnssPvtEpoch _ => true
  | .rtcmFrame _ _ _ _ _ _ => true
  | .rtcmAgeExpired => true
  | .gnssJam _ _ _ => true
  | .gnssJamClear _ _ _ => true
  | .gnssParkRefresh => true
  | .gnssRefreshEnd => true
  | .gnssHotstartWrite => true
  | .gnsStop => true
  | .gnsStart => true
  | .gnsCold => true
  | .gnsClrCnt => true
  | .gnsPvtRead => true
  | .gnsHdgRead => true
  | .ppsSecond => true
  | .ppsReport _ _ => true
  | .ppsaQerrRead => true
  | .ppsbDelayWrite _ _ => true
  | .pathCommit _ => true
  | .pathInvalidate _ => true
  | .strRefind => true
  | .strClrCnt => true
  | .engWaitExpired => true
  | .graceExpired => true
  | .strErrRead => true
  | .convoyPartnerEpoch _ _ _ => true
  | .convoyWaitExpired _ => true
  | .convoyLoss => true
  | .cvyResetAmb => true
  | .cvyClrCnt => true
  | .strCvyRead => true
  | .yieldStep pkts => pkts.all fun e => e.2.wf
  | .yieldAck _ => true
  | .contributionPacket p => p.wf
  | .tileFlush => true
  | .tileReadbackDone _ _ => true
  | .tileWait _ _ => true
  | .ffRatio => true
  | .deltaSend => true
  | .fleetDelta _ p => p.wf
  | .drainExpired => true
  | .yldStop => true
  | .yldStart => true
  | .yldClrCnt => true
  | .yldNewPass => true
  | .yldFlush => true
  | .yldTStop => true
  | .yldTStart => true
  | .yldTClrCnt => true
  | .yldTFlush => true
  | .tileLookup _ _ => true
  | .yldTmRead => true
  | .yldLedgerRead => true
  | .yldFfRead => true
  | .yldQwRead => true
  | .tierPacket p => p.wf
  | .blockClose _ => true
  | .driveCompletion _ _ _ _ => true
  | .driveStall _ _ _ => true
  | .blockDiscard => true
  | .shedEvaluate => true
  | .driveCmdTimeout _ _ _ => true
  | .driveLinkDown _ => true
  | .driveReady _ _ _ _ _ => true
  | .mountDone => true
  | .mountTimeout => true
  | .readBlock p => p.wf
  | .find p => p.wf
  | .append p => p.wf
  | .tilePut p => p.wf
  | .tileGet p => p.wf
  | .replayOpen => true
  | .replayReady => true
  | .replayClose => true
  | .replayEmit _ => true
  | .replayEnd => true
  | .sstStop => true
  | .sstStart => true
  | .sstRescan => true
  | .sstFlush => true
  | .sstClrCnt => true
  | .sstFmt _ _ => true
  | .canFrameRx _ f sof => f.wf && decide (sof < 2 ^ 64)
  | .canRxDeliver _ => true
  | .canReference _ f sof => f.wf && decide (sof < 2 ^ 64)
  | .canTxSuccess _ sof => decide (sof < 2 ^ 64)
  | .canTxError _ sof _ _ _ => decide (sof < 2 ^ 64)
  | .canRxError _ _ _ _ => true
  | .canObjectPacket _ _ p _ => p.wf
  | .canQueuePacket _ p => p.wf
  | .canObjectPeriod _ _ => true
  | .canBasicCycle _ => true
  | .canRefLate _ => true
  | .canRefMiss _ => true
  | .canFallback _ => true
  | .canWindowStart _ _ => true
  | .canRecoverDelay _ => true
  | .canRecovered _ => true
  | .canStuck _ => true
  | .mbStop _ => true
  | .mbStart _ => true
  | .mbIsolate _ => true
  | .mbRejoin _ => true
  | .mbFlushQ _ => true
  | .mbClrCnt _ => true
  | .ethFrameRx _ f _ => f.wf
  | .ethHostTx f => f.wf
  | .ethHostRxDeliver => true
  | .ethLinkChange _ _ _ => true
  | .ethMacAge => true
  | .ethGateEntry _ _ => true
  | .gptpSync => true
  | .gptpPdelay => true
  | .gptpAnnounce => true
  | .gptpMsgRx _ _ => true
  | .tqFrame => true
  | .evtEdgeStamp _ _ => true
  | .ethEvtcapRead _ => true
  | .ethClrCnt => true
  | .ethFlushMac => true
  | .ehrRouterAdvert _ => true
  | .ehrPeerEnable _ _ => true
  | .ehrClientHello _ => true
  | .ehrHandshakeDone _ _ _ _ => true
  | .ehrHandshakeTimeout _ => true
  | .ehrFlightRetransmit _ => true
  | .ehrBackoff _ => true
  | .ehrSessionTimeout _ => true
  | .ehrHeartbeat => true
  | .ehrKeyUpdate _ => true
  | .dtlsRecordRx _ _ frame _ => bytesOk frame
  | .ehrReasmTimeout _ => true
  | .ehrPayloadTx _ p => p.wf
  | .ehrRetransmit _ => true
  | .ehrStop => true
  | .ehrStart => true
  | .ehrClrCnt => true
  | .dspVblank _ _ => true
  | .dspEnWrite _ _ => true
  | .dspTOn1 _ => true
  | .dspTOn2 _ => true
  | .dspTOff1 _ => true
  | .dspTOff2 _ => true
  | .dspTRest _ => true
  | .dspTempUpdate _ _ => true
  | .dspClrCnt => true
  | .rtcSecond => true
  | .bkpRtcSet => true
  | .rtcAutoSet => true
  | .rtcCalWindow _ => true
  | .bkpSwitchVbak _ _ => true
  | .bkpSwitchRail _ _ => true
  | .bkpPor => true
  | .bkpRtcRead => true
  | .pwrreqSet => true
  | .pwrreqClr => true
  | .pwrreqPulseEnd => true
  | .pwrreqMax => true
  | .toolPresent => true
  | .toolReleased => true
  | .helloMsg m => m.wf
  | .authMsg m c => m.wf && c.wf
  | .authAnswer => true
  | .closeMsg m => m.wf
  | .stageBegin m length digest => m.wf && decide (length < 2 ^ 32) && decide (digest < 2 ^ 384)
  | .stageData m offset data => m.wf && decide (offset < 2 ^ 32) && bytesOk data
  | .stageEnd m => m.wf
  | .stageVerifyDone g => g.wf
  | .stageAbort m => m.wf
  | .discardMsg m => m.wf
  | .scheduleMsg m id instant window => m.wf && decide (id < 2 ^ 32) && decide (instant < 2 ^ 64) && decide (window < 2 ^ 32)
  | .cancelMsg m id => m.wf && decide (id < 2 ^ 32)
  | .statusMsg m => m.wf
  | .readMsg m _ count failing => m.wf && decide (count < 2 ^ 32) && failing.all (· < 2 ^ 32)
  | .writeMsg m _ _ failing => m.wf && failing.all (· < 2 ^ 32)
  | .modeMsg m _ _ _ => m.wf
  | .jogMsg m _ _ _ _ => m.wf
  | .revokeMsg m o => m.wf && o.wf
  | .authTimeout _ => true
  | .whdIdle _ => true
  | .whdLockoutEnd _ => true
  | .whdCtrlClose => true
  | .relayOpen _ _ => true
  | .relayData _ _ offset _ => decide (offset < 2 ^ 32)
  | .relayClose _ _ => true
  | .fleetAnnounce x => x.wf
  | .fleetCancel x => x.wf
  | .updDiscard _ => true
  | .updCancel _ => true
  | .updSchedule _ => true
  | .updPrecheck => true
  | .updActivationCheck _ _ _ => true
  | .updDeferLapse => true
  | .updConfirm _ => true
  | .migDone _ => true
  | .migFail _ => true
  | .updWindowExpired => true
  | .updRunRecord => true
  | .cryptoGo _ => true
  | .cryptoDone _ _ => true
  | .eventPacket p => p.wf
  | .snapshotAnswer _ _ failing => failing.all (· < 2 ^ 32)
  | .snapshotTimeout _ => true
  | .evrFlushTimer => true
  | .evrFlushDone => true
  | .evrStop => true
  | .evrStart => true
  | .evrFlush => true
  | .evrExport => true
  | .evrClrCnt => true
  | .evrSoft _ _ => true
  | .evrFreezeWrite _ _ => true
  | .evrFreezeExpired => true
  | .evrCursorWrite _ => true
  | .evrWindowLoaded => true
  | .evrClear _ _ => true
  | .evrExportAnswer _ => true
  | .evrExportRetry => true
  | .hltSample _ _ => true
  | .hltStream => true
  | .hltRoMeasure _ => true
  | .hltRonMinute _ _ => true
  | .hltMramSave => true
  | .hltThermal => true
  | .hltCapTest => true
  | .hltCapTestDone _ => true
  | .hltReplan => true
  | .hltReplanDone => true
  | .hltClrCnt => true
  | .heartbeat _ => true
  | .restart _ => true
  | .waitUntil _ => true
  | .waitUntilDone _ => true
  | .utc _ => true
  | .partInfo _ => true
  | .partHbExpired _ => true
  | .islandResetRelease _ => true
  | .inLimitChange _ _ => true
  | .boostReady _ _ _ => true
  | .reserveCharged => true
  | .epochBoundary => true
  | .antSupplyOk _ _ => true
  | .driveResetTimeout _ => true
  | .whdTcpConnect => true
  | .freqEdge _ _ => true

end Sys2Proof
end

