-- ==== Sys2Proof/Tests/Slice0.lean ====
section
/-! SUPPORT. Tests: ill-formed terms that the checks refuse, single steps with results taken from the spec, and for every statement with hypotheses a state and operands that meet them. -/

namespace Sys2Proof.Tests

open Sys2Proof Sys2Proof.Machine

set_option maxRecDepth 20000
set_option Elab.async false

/-- A small state: register fields at the values listed, all else at reset values, in RUN unless the list says otherwise. -/
def mk (l : List (Fld × Nat)) (b : Block := {}) : State := { blk := ((R.PWR_STATE_STATE, 3) :: l).foldl (fun b e => b.set e.1 e.2) b }
/-- The default block with island `i` in run state `r`. -/
def isl (i : Nat) (r : IslRun) (b : Block := {}) : Block := b.modIsland i fun x => { x with run := r }

/-- The default block with every island running. -/
def allUp : Block := { sys := { islands := List.replicate 9 { run := .running } } }

/-- A block whose cells run, with channel `ch` in state `c`. -/
def chB (ch : Nat) (c : Chan := {}) (b : Block := allUp) : Block := { b with chans := updAt b.chans ch (fun _ => c), cells := List.replicate 24 { run := .running } }

/-- A block whose Tarn port `p` is in state `x`. -/
def tarnB (p : Nat) (x : TarnPort) (b : Block := allUp) : Block := { b with tarn := updAt b.tarn p (fun _ => x) }

/-- A block whose message-bus port `n` is in state `x`. -/
def canB (n : Nat) (x : CanPort) (b : Block := {}) : Block := { b with can := updAt b.can n (fun _ => x) }

/-- A block with every island running whose session with peer `n` is in state `x`. -/
def ehrB (n : Nat) (x : EhrSession) (b : Block := allUp) : Block := { b with ehr := { b.ehr with sessions := updAt b.ehr.sessions n (fun _ => x) } }

/-- A block in RUN, out of reset, whose Wellhead path is in state `x`, with what its session may do in `perm`. -/
def whdS (x : WhdPath) (perm : Nat) (l : List (Fld × Nat)) (b : Block := allUp) : State :=
  mk ([(R.WHD_STATUS_TOOL, 1), (R.WHD_STATUS_PERM, perm)] ++ l) { b with pwr := { inReset := false }, whd := { paths := [{ x with conn := true }, {}], active := some 0 } }

/-- Public keys of the tests, vendor, OEM and tool, and signatures under them (points of P-384 computed apart). -/
def vendorKey : List Nat := (le 97 0x04077a41d4606ffa1464793c7e5fdc7d98cb9d3910202dcd06bea4f240d3566da6b408bbae5026580d02d7e5c70500c831c995f7ca0b0c42837d0bbe9602a9fc998520b41c85115aa5f7684c0edc111eacc24abd6be4b5d298b65f28600a2f1df1).reverse
def oemKey : List Nat := (le 97 0x0411de24a2c251c777573cac5ea025e467f208e51dbff98fc54f6661cbe56583b037882f4a1ca297e60abcdbc3836d84bc8fa696c77440f92d0f5837e90a00e7c5284b447754d5dee88c986533b6901aeb3177686d0ae8fb33184414abe6c1713a).reverse

/-- An image that every check of its acceptance passes: a FABRIC section and two signature blocks. -/
def goodImage : Image :=
  { length := 1408, sigArea := 384,
    blocks := [{ kind := 1, keyId := (le 16 0x724b9957582f0a755fa67e1febc163df).reverse, publicKey := vendorKey, signature := (le 96 0x099056e27da7b998da1eeec2904816c57fe935ed5837c37456c9fd14892d3f8c4749b66e3afb81d626356f3b55b4ddd80f20534807a858a83744a947a82dca150acdaf14ff72c162807dc05887f6b2832f848a99e1516fa0e84a3e1ea1917d63).reverse },
      { kind := 2, keyId := (le 16 0xb6ad1a858cfb19ac6545fdbc7e9b4906).reverse, publicKey := oemKey, endorsement := (le 96 0x099056e27da7b998da1eeec2904816c57fe935ed5837c37456c9fd14892d3f8c4749b66e3afb81d626356f3b55b4ddd8e3825110d5213acb353b85145ef61508f0bb7e1d9057c5d2a4dd2227d5dd56dfc2c9feb980c9cf7ac8852e58cec7b73b).reverse,
        signature := (le 96 0x099056e27da7b998da1eeec2904816c57fe935ed5837c37456c9fd14892d3f8c4749b66e3afb81d626356f3b55b4ddd8cb0c05fcd8af91acbc04779993ddce38f383b8e30f7ce4ebdb76554669c9f6b37c8d9e7566b9d27e55b9d9314613383b).reverse }],
    sections := [{ type := 0x10, target := 0x0FFF, phase := 0, offset := 384, digest := sha384 [] }] }

/-- The bytes of that image. -/
def goodBytes : List Nat := manifest goodImage ++ List.replicate 48 0 ++ goodImage.blocks.flatMap blockBytes

/-- A credential with PERM 9 under that image's OEM key, and its proof for the nonce 5. -/
def goodCred : Credential :=
  { bytes := (le 160 0x010092010000000000000000000000000000000000000000000000000000000000000000090000004d000000000000000000000000000000048f0a39a4049bcb3ef1bf29b8b025b78f2216f7291e6fd3bac6cb1ee285fb6e21c388528bfee2b9535c55e4461079118b62c77e1438b601d6452c4a5322c3a9799a9b3d7ca3c400c6b7678854aed9b3029e743efedfd51b68262da4f9ac664af800000000000000).reverse ++ (le 96 0x099056e27da7b998da1eeec2904816c57fe935ed5837c37456c9fd14892d3f8c4749b66e3afb81d626356f3b55b4ddd8d7be0f2653cf4620f7e70deef9480bc254ac3e6cdc28ad285816e24fca3c72b275b7ccf5321e75882c00f2f23061a260).reverse,
    proof := (le 96 0x099056e27da7b998da1eeec2904816c57fe935ed5837c37456c9fd14892d3f8c4749b66e3afb81d626356f3b55b4ddd8a8d4fbfc0f3720ecf7186ab49cde124e8d5137aea766b893942733d0d15dedf046dd809e65f012bae567e288f076288c).reverse }

/-- An order that revokes vendor key 0, signed by vendor key 1. -/
def goodOrder : RevokeOrder := { bytes := (le 20 0x5201920100000000000000000000000000000000).reverse ++ (le 96 0x099056e27da7b998da1eeec2904816c57fe935ed5837c37456c9fd14892d3f8c4749b66e3afb81d626356f3b55b4ddd8ff4fe59c46c38c1638bf1a814e23774d7e0422902bef8141fea0d5b984fec9107c9011d5476753667043feb3b80570f7).reverse }

/-- A block whose partition `k` is `p`. -/
def partB (k : Nat) (p : Partition) (b : Block := {}) : Block := { b with sys := { b.sys with parts := updAt b.sys.parts k (fun _ => p) } }

/-- Registers with the radio router's port up and the endpoint running with time. -/
def netUp : List (Fld × Nat) := [(R.ETH_Pp_CFG_EN 12, 1), (R.ETH_Pp_STAT_LINK 12, 1), (R.EHR_STATUS_STATE, 1), (R.SUP_MTIME_STATUS_STATE, 2)]

/-- A fleet key and a signature of the byte 2 under it (a point of P-384 computed apart). -/
def fleetKey : List Nat := (le 97 0x04b42062144550e6f1c1eab261bc2f03156627cfba964fb8b26e2ec1644432b6873cf698069cf8aabcd7ebc2754650b412ced6ff89af867f08cc08fa4c6a369dc0e2ee4f55350a07a3820e84657604c645d002b3907e62a6a02e4847ea6bb59fbc).reverse
def fleetSig : List Nat := (le 96 0xdb475240477c5e4497a2c5724ca485f5b1f2c2fc0602b92bae234238ec8d4e873a7148c739593e95a7f4dfe7c6e69f69db475240477c5e4497a2c5724ca485f5b1f2c2fc0602b92bae234238ec8d4e873a7148c739593e95a7f4dfe7c6e69f69).reverse

/-- A fleet certificate of the unit of 16 zero bytes, whose key is the fleet's anchor. -/
def fleetCert : FleetCert := { signed := [], key := fleetKey, unit := List.replicate 16 0, expiry := 4000000000 }

/-! ## Ill-formed terms are refused -/

/-- A well-formed packet. -/
def okPacket : Packet := { kind := .sample, stream := 9, origin := 0x4085 }

/-- A well-formed LOAD message. -/
def okLoad : LoadMsg := { op := 1, target := 0x6000 }

/-- A well-formed section table entry. -/
def okSection : Section := { type := 0x10, target := 0x0FFF, digest := List.replicate 48 0 }

/-- A well-formed signature block. -/
def okBlock : SigBlock := { kind := 1, keyId := List.replicate 16 0, signature := List.replicate 96 0 }

/-- A well-formed frame. -/
def okFrame : CanFrame := { id := 5, dlc := 2, data := [1, 2] }

theorem test_wf_packet : (Instr.errorNoteArrival 0 okPacket).wf = true := by decide
theorem test_wf_kind : [Kind.reserved 0x1F, .reserved 256].all (fun k => !k.wf) = true := by decide
theorem test_wf_packet_fields :
    [{ okPacket with stream := 65536 }, { okPacket with origin := 65536 }, { okPacket with tag := 65536 }, { okPacket with seq := 256 }, { okPacket with conf := 256 },
     { okPacket with stamp := 2 ^ 32 }, { okPacket with data := [256] }, { okPacket with kind := .reserved 1 }].all (fun (p : Packet) => !p.wf) = true := by decide +kernel
theorem test_wf_packet_length (p : Packet) (h : 65536 ≤ p.data.length) : p.wf = false := by
  have : ¬ p.data.length < 65536 := by omega
  simp [Packet.wf, this]
theorem test_wf_load :
    (okLoad.wf && [{ okLoad with op := 256 }, { okLoad with target := 65536 }, { okLoad with section_ := 65536 }, { okLoad with offset := 2 ^ 32 }, { okLoad with total := 2 ^ 32 }, { okLoad with instant := 2 ^ 64 },
     { okLoad with data := List.replicate 4073 0 }, { okLoad with data := [256] }, { okLoad with tag := 65536 }].all (fun (m : LoadMsg) => !m.wf)) = true := by decide +kernel
theorem test_wf_message : (Instr.statusMsg { type := 1, req := 2 ^ 32 }).wf = false := by decide
theorem test_wf_can :
    (okFrame.wf && [{ okFrame with id := 2 ^ 11 }, { okFrame with ide := true, id := 2 ^ 29 }, { okFrame with dlc := 16 }, { okFrame with brs := true }, { okFrame with fdf := true, rtr := true, data := [] },
      { okFrame with data := [1] }, { okFrame with data := [1, 256] }, { okFrame with rtr := true }].all (fun (f : CanFrame) => !f.wf)) = true := by decide +kernel
theorem test_wf_eth :
    [{ dst := 2 ^ 48, src := 0 }, { dst := 0, src := 2 ^ 48 }, { dst := 0, src := 0, body := [256] }, { dst := 0, src := 0, tag := some (8, 0) }, { dst := 0, src := 0, tag := some (0, 4096) }].all
      (fun (f : EthFrame) => !f.wf) = true := by decide +kernel
theorem test_wf_section :
    (okSection.wf && [{ okSection with type := 65536 }, { okSection with target := 65536 }, { okSection with span := 256 }, { okSection with phase := 256 }, { okSection with flagsRest := 64 }, { okSection with variant := 256 },
      { okSection with offset := 2 ^ 32 }, { okSection with guard := 65536 }, { okSection with reserved := [] }, { okSection with digest := [] }, { okSection with bytes := [256] },
      { okSection with fields := [{ addr := 0, lo := 0, val := 2 ^ 64 }] }].all (fun (x : Section) => !x.wf)) = true := by decide +kernel
theorem test_wf_signature :
    (okBlock.wf && [{ okBlock with kind := 256 }, { okBlock with format := 256 }, { okBlock with length := 65536 }, { okBlock with keyId := [] }, { okBlock with unitId := [] }, { okBlock with publicKey := [] },
      { okBlock with endorsement := [] }, { okBlock with signature := [] }, { okBlock with reserved := [] }].all (fun (k : SigBlock) => !k.wf)) = true := by decide +kernel
theorem test_wf_image :
    (goodImage.wf && [{ goodImage with magic := [] }, { goodImage with major := 256 }, { goodImage with minor := 256 }, { goodImage with headerLen := 65536 }, { goodImage with length := 2 ^ 32 }, { goodImage with version := 2 ^ 32 },
      { goodImage with epoch := 2 ^ 32 }, { goodImage with part := 65536 }, { goodImage with hw := 256 }, { goodImage with grades := 256 }, { goodImage with retFmt := 65536 }, { goodImage with minFmt := 65536 },
      { goodImage with bindFlags := 2 ^ 32 }, { goodImage with unitId := [] }, { goodImage with buildTime := 2 ^ 64 }, { goodImage with tableOffset := 2 ^ 32 }, { goodImage with sigArea := 2 ^ 32 },
      { goodImage with composer := 2 ^ 32 }, { goodImage with loadBytes := 2 ^ 32 }, { goodImage with name := [] }, { goodImage with reserved := [] }, { goodImage with blocks := [{ okBlock with kind := 256 }] },
      { goodImage with sections := [{ okSection with span := 256 }] }].all (fun (g : Image) => !g.wf)) = true := by decide +kernel
theorem test_wf_credential : (goodCred.wf && [{ goodCred with bytes := [] }, { goodCred with proof := [] }].all (fun (c : Credential) => !c.wf)) = true := by decide +kernel
theorem test_wf_schedule :
    [{ peer := 0, id := 2 ^ 32 }, { peer := 0, id := 1, version := 2 ^ 32 }, { peer := 0, id := 1, epoch := 2 ^ 32 }, { peer := 0, id := 1, digest := 2 ^ 384 }, { peer := 0, id := 1, instant := 2 ^ 64 },
     { peer := 0, id := 1, window := 2 ^ 32 }].all (fun (x : FleetSched) => !x.wf) = true := by decide +kernel
theorem test_wf_revocation : (goodOrder.wf && !({ bytes := [] } : RevokeOrder).wf) = true := by decide +kernel

/-! ## Figures of the spec -/

/-- The examples under Table 1.1: MB13 and T9. -/
theorem test_origin_examples : org 4 1 5 = 0x4085 ∧ org 4 5 1 = 0x4281 ∧ le 2 (org 4 1 5) = [0x85, 0x40] := by decide

/-- Table 18.5: DLC 9 carries 12 bytes with FDF and 8 without. -/
theorem test_dlc : dlcBytes true 9 = 12 ∧ dlcBytes true 15 = 64 ∧ dlcBytes false 9 = 8 := by decide

/-- FIPS 180-4's example: SHA-384 of the three bytes "abc". -/
theorem test_sha384_abc : sha384 [0x61, 0x62, 0x63] = (le 48 0xcb00753f45a35e8bb5a03d699ac65007272c32ab0eded1631a8b605a43ff5bed8086072ba1e7cc2358baeca134c825a7).reverse := by decide +kernel

/-- R5: a stamp of module time at 4,294,967,296 µs is 0 again. -/
theorem test_stamp_wraps : ({ sys := { mtime := 4294967296000 } } : Block).stamp = 0 := by decide +kernel

/-- Table 2.9: a read of an unmapped word is answered UNMAPPED (0x02). -/
theorem test_unmapped : (match exec (.readReq { kind := .readReq, stream := 0, origin := 0x1000, data := le 4 0x40FF0000 ++ [1, 0, 0, 0] } []) (mk [] allUp) with
    | .next t => t.blk.fab.status == 2 | _ => false) = true := by decide +kernel

/-- Step takes the command in front and leaves the one behind it. -/
theorem test_queue : (match step { (mk [] allUp) with pending := [.mtimeHoldover, .mtimeFree] } with | .next t => t.pending == [.mtimeFree] | _ => false) = true := by decide +kernel

/-- No word spells a command of this table. -/
theorem test_no_word : decodeTableWord 32 0 = none := rfl

/-- A job of kind 1 on an empty range is in order, however much memory island 1 has. -/
theorem goodJob : (mk [(R.CRY_Ck_CTRL_OP 3, 1)] allUp).blk.badJob 3 = false := by
  have h1 : (mk [(R.CRY_Ck_CTRL_OP 3, 1)] allUp).blk.get (R.CRY_Ck_CTRL_OP 3) = 1 := by decide +kernel
  have h2 : (mk [(R.CRY_Ck_CTRL_OP 3, 1)] allUp).blk.get (R.CRY_Ck_LEN_BYTES 3) = 0 := by decide +kernel
  have h3 : (mk [(R.CRY_Ck_CTRL_OP 3, 1)] allUp).blk.get (R.CRY_Ck_SRC_ADDR 3) = 0 := by decide +kernel
  have h4 : (mk [(R.CRY_Ck_CTRL_OP 3, 1)] allUp).blk.get (R.CRY_Ck_DST_ADDR 3) = 0 := by decide +kernel
  simp [Block.badJob, h1, h2, h3, h4, Config.dramBytes]
  omega

/-! ## What meets the hypotheses of the statements -/

/-- The hypotheses of the statements over every step are met right after reset. -/
theorem meets_every_step : Safe State.reset ∧ AllUnits State.reset.blk ∧ ∃ t, step State.reset = .next t := ⟨by unfold Safe; decide +kernel, by unfold AllUnits; decide +kernel, _, rfl⟩

theorem meets_StepRunsFrontCommand : ∃ (c : Instr) (l : List Instr) (s : State), s.pending = c :: l := ⟨.mtimeFree, [], { pending := [.mtimeFree] }, rfl⟩

theorem meets_IdleStepPassesTime : (∃ s : State, s.pending = [] ∧ 2 ≤ s.fld R.PWR_STATE_STATE) ∧ (∃ s : State, s.pending = [] ∧ s.fld R.PWR_STATE_STATE < 2) :=
  ⟨⟨mk [], by decide +kernel⟩, ⟨mk [(R.PWR_STATE_STATE, 1)], by decide +kernel⟩⟩

theorem meets_MemoryChangesOnlyBy : ∃ (c : Instr) (s t : State), changesMemory c = false ∧ exec c s = .next t := ⟨.clrCounters, {}, _, rfl, rfl⟩

theorem meets_LinkIndices : ∃ a b : Nat, a < 9 ∧ b < 9 ∧ a < b := ⟨7, 8, by decide⟩

theorem meets_PacketLanes :
    (∃ (b : Block) (k : Nat) (p : Packet), 0 < b.get (R.FAB_LINKk_LANES k) ∧ rspKind p.kind = none ∧ isAnswer p.kind = false) ∧
    (∃ p q : Packet, rspKind p.kind = none ∧ isAnswer p.kind = false ∧ rspKind q.kind = none ∧ isAnswer q.kind = false ∧ p.stream = q.stream ∧ p.origin = q.origin) ∧
    (∃ (b : Block) (k : Nat) (p : Packet), 0 < b.get (R.FAB_LINKk_LANES k) ∧ (p.kind = .storeReq ∨ p.kind = .storeRsp) ∧ p.tag < 0x8000) ∧
    (∃ p : Packet, (rspKind p.kind).isSome = true ∧ 0x8000 ≤ p.tag) ∧
    (∃ p : Packet, p.kind = .readRsp ∨ p.kind = .writeRsp ∨ p.kind = .loadRsp ∨ p.kind = .errorNote) :=
  ⟨⟨(mk [(R.FAB_LINKk_LANES 35, 4)]).blk, 35, okPacket, by decide +kernel⟩, ⟨okPacket, { okPacket with seq := 1 }, by decide⟩,
   ⟨(mk [(R.FAB_LINKk_LANES 0, 4)]).blk, 0, { kind := .storeRsp, stream := 0, origin := 0x5000, tag := 0x7FFF }, by decide +kernel⟩,
   ⟨{ kind := .readReq, stream := 0, origin := 0, tag := 0x8000 }, by decide⟩, ⟨{ kind := .loadRsp, stream := 0, origin := 0 }, by decide⟩⟩

theorem meets_ReservedBitsReadZero : ∃ (b : Block) (a i k : Nat) (l : List FieldRow), wordAt a = some (l, i) ∧ (rowOf a).any memoryRow = false ∧
    (∀ f ∈ l, (b.live a).get (f.fld a i) < 2 ^ f.wid) ∧ (∀ f ∈ l, k < f.lo ∨ f.lo + f.wid ≤ k) :=
  ⟨{}, 0x40000200, 0, 31, ((wordAt 0x40000200).getD ([], 0)).1, by decide +kernel⟩

/-- The two variables and two rows of the wet patch of Table 12.7: ground speed in 1/256 km/h, fan speed in min⁻¹, the engine-power row and row 7, with weights that reward speed a little. -/
def wetPatch (p lo hi : List Rat) (y : Rat) : Qp :=
  { n := 2, lo := lo, hi := hi, hess := [[1 / 8192, 0], [0, 1 / 200]], grad := [-(p.getD 0 0) / 8192 - 1 / 100, -(p.getD 1 0) / 200]
    rows := [⟨0, [1, 0], 1536, pow2 64, 1⟩, ⟨7, [1 / 1024, -1 / 500], 1 - (y - 3 / 2 + 57 / 25), pow2 40, 1⟩] }
def wetResult (p lo hi : List Rat) (y : Rat) (work rows : List Nat) : List Int × List Nat × Bool :=
  let r := (wetPatch p lo hi y).run 64 ((wetPatch p lo hi y).start p work rows) 0
  (r.1.x.map solRound, r.1.row, r.2.2)

/-- Table 12.7, cycle k: both variables go to their move limits and row 7 stays violated. -/
theorem test_wet_patch_k : wetResult [1536, 1140] [1408, 1120] [1664, 1160] (38 / 25) [0, 0] [0] = ([1408, 1160], [0, 1], true) := by decide +kernel

/-- Table 12.7, cycle k + 3: row 7 is met at its kink, with 4.28125 km/h sent. -/
theorem test_wet_patch_k3 : wetResult [1152, 1200] [1024, 1180] [1280, 1200] (31 / 20) [1, 2] [] = ([1096, 1200], [0, 2], true) := by decide +kernel


/-- Each clause of ModuleTimeCommands that has hypotheses has a state and operands that meet them all. -/
theorem meets_ModuleTimeCommands :
    (∃ (s : State), s.blk.get R.SUP_MTIME_STATUS_STATE = 2) ∧
    (∃ (s : State) (t0 : Nat), s.blk.get R.SUP_MTIME_STATUS_STATE = 3 ∧ s.blk.sys.leftLock = some t0) ∧
    (∃ (s : State), s.blk.sys.step = none) ∧
    (∃ (s : State) (t0 : Nat) (d : Int), s.blk.sys.step = some (t0, d) ∧ 2 ≤ s.fld R.PWR_STATE_STATE) :=
  ⟨⟨mk [(R.SUP_MTIME_STATUS_STATE, 2), (R.SUP_MTIME_ERR_BOUND_NS, 900)], by decide +kernel⟩,
   ⟨mk [(R.SUP_MTIME_STATUS_STATE, 3)] { sys := { leftLock := some 5 } }, 5, by decide +kernel⟩,
   ⟨mk [], by decide +kernel⟩,
   ⟨mk [] { sys := { step := some (7000, 3000), mtime := 5000 } }, 7000, 3000, by decide +kernel⟩⟩

/-- Each clause of FabricLinkCommands that has hypotheses has a state and operands that meet them all. -/
theorem meets_FabricLinkCommands :
    (∃ (i : Fin 9) (e : Fin 9) (p : Packet) (n : Nat) (u : Nat) (s : State), routerOf p.origin = i.val ∧ s.blk.badPacket i p n = none ∧ rspKind p.kind = none ∧ s.blk.unitsOf p e = [u] ∧ routerOf u ≠ i.val ∧ s.blk.barred u = false) ∧
    (∃ (i : Fin 9) (p : Packet) (c : BitVec 16) (q : Fin 256) (j : Nat) (s : State), routerOf p.origin ≠ i.val ∧ s.fld (R.FAB_LINKk_UP (linkOf (routerOf p.origin) i)) = 1 ∧ s.blk.inFlight (linkOf (routerOf p.origin) i) (s.blk.laneOf (linkOf (routerOf p.origin) i) p) (decide (routerOf p.origin < i.val)) = some j ∧ (s.blk.fab.held[j]?).map (·.packet) = some p ∧ (s.blk.fab.held[j]?).map (·.lseq) = some (some q.val) ∧ c.toNat = linkCheck p) ∧
    (∃ (i : Fin 9) (p : Packet) (x : Nat), oIsland p.origin = i ∧ p.kind = .reserved x) ∧
    (∃ (k : Fin 36) (l : Fin 8) (up : Bool) (i : Nat) (h : Held) (s : State), s.blk.inFlight k l up = some i ∧ s.blk.fab.held[i]? = some h ∧ h.attempts < 5) ∧
    (∃ (k : Fin 36) (l : Fin 8) (up : Bool) (i : Nat) (h : Held) (s : State), s.blk.inFlight k l up = some i ∧ s.blk.fab.held[i]? = some h ∧ 5 ≤ h.attempts) ∧
    (∃ (k : Fin 36) (s : State), s.blk.get (R.FAB_LINKk_UP k) = 0 ∧ s.blk.released (linkEnds k).1 = true ∧ s.blk.released (linkEnds k).2 = true ∧ s.blk.fab.waiting = []) ∧
    (∃ (k : Fin 36) (s : State) (t0 : Nat), (s.blk.link k).downAt = some t0 ∧ s.blk.get (R.FAB_LINKk_UP k) = 0 ∧ s.blk.released (linkEnds k).1 = true ∧ s.blk.released (linkEnds k).2 = true ∧ s.blk.isLost (linkEnds k).1 = false ∧ s.blk.isLost (linkEnds k).2 = false) ∧
    (∃ (k : Fin 36) (l : Fin 8) (up : Bool) (i : Nat) (h : Held) (s : State), s.fld (R.FAB_LINKk_UP k) = 1 ∧ (s.blk.link k).used.getD (dirOf l up) 0 ≤ 4 ∧ s.blk.served k l up = some i ∧ s.blk.fab.held[i]? = some h) :=
  ⟨⟨3, 5, { kind := .event, stream := 0xFF01, origin := 0x3000, data := [1] }, 1, 0x027F, mk [] allUp, by decide +kernel⟩,
   ⟨0, { kind := .event, stream := 0xFF01, origin := 0x3000, data := [1] }, BitVec.ofNat 16 (linkCheck { kind := .event, stream := 0xFF01, origin := 0x3000, data := [1] }), 7, 0, mk [(R.FAB_LINKk_UP 2, 1)] { allUp with fab := { held := [{ link := 2, lane := 1, up := false, packet := { kind := .event, stream := 0xFF01, origin := 0x3000, data := [1] }, lseq := some 7 }], links := List.replicate 36 { expect := List.replicate 16 7 } } }, by decide +kernel⟩,
   ⟨3, { kind := .reserved 15, stream := 0, origin := 0x3000 }, 15, by decide +kernel⟩,
   ⟨2, 1, true, 0, { link := 2, lane := 1, up := true, packet := { kind := .event, stream := 0, origin := 0 }, lseq := some 0, attempts := 2 }, mk [] { fab := { held := [{ link := 2, lane := 1, up := true, packet := { kind := .event, stream := 0, origin := 0 }, lseq := some 0, attempts := 2 }] } }, by decide +kernel⟩,
   ⟨2, 1, true, 0, { link := 2, lane := 1, up := true, packet := { kind := .event, stream := 0, origin := 0 }, lseq := some 0, attempts := 5 }, mk [] { fab := { held := [{ link := 2, lane := 1, up := true, packet := { kind := .event, stream := 0, origin := 0 }, lseq := some 0, attempts := 5 }] } }, by decide +kernel⟩,
   ⟨2, mk [(R.FAB_LINKk_UP 2, 0)] { allUp with fab := { held := [{ link := 2, lane := 1, up := true, packet := { kind := .event, stream := 0, origin := 0 }, lseq := some 0, attempts := 5 }] } }, by decide +kernel⟩,
   ⟨2, mk [(R.FAB_LINKk_UP 2, 0)] { allUp with fab := { links := List.replicate 36 { downAt := some 7 } } }, 7, by decide +kernel⟩,
   ⟨2, 1, true, 0, { link := 2, lane := 1, up := true, packet := { kind := .event, stream := 0, origin := 0 } }, mk [(R.FAB_LINKk_UP 2, 1)] { fab := { held := [{ link := 2, lane := 1, up := true, packet := { kind := .event, stream := 0, origin := 0 } }] } }, by decide +kernel⟩⟩

/-- Each clause of FabricTagCommands that has hypotheses has a state and operands that meet them all. -/
theorem meets_FabricTagCommands :
    (∃ (p : Packet) (s : State), (s.blk.fab.tags.find? fun t => t.tag == p.tag) = none ∧ s.blk.storeTagLive p.tag = false) ∧
    (∃ (p : Packet) (r : TagRec) (s : State), (s.blk.fab.tags.find? fun t => t.tag == p.tag) = some r ∧ r.quarantined = false ∧ s.blk.now ≤ r.expires ∧ s.blk.fab.waiting = []) ∧
    (∃ (p : Packet) (r : TagRec) (s : State), (s.blk.fab.tags.find? fun t => t.tag == p.tag) = some r ∧ r.quarantined = true ∧ s.blk.fab.waiting = []) ∧
    (∃ (d : Fin 9) (p : Packet) (s : State), p.kind = .errorNote ∧ s.blk.shut d = true) ∧
    (∃ (d : Fin 9) (p : Packet) (s : State), p.kind = .errorNote ∧ s.blk.shut d = false) ∧
    (∃ (o : Fin 65536) (w : TagWait) (s : State), (s.blk.fab.waiting.find? fun w => w.source == o.val) = some w) ∧
    (∃ (g : Fin 8192) (r : TagRec) (s : State), (s.blk.fab.tags.find? fun t => t.tag == 0x8000 + g.val && !t.quarantined) = some r) :=
  ⟨⟨{ kind := .readRsp, stream := 0, origin := 0, tag := 0x8003 }, mk [], by decide +kernel⟩,
   ⟨{ kind := .readRsp, stream := 0, origin := 0, tag := 0x8003 }, { tag := 0x8003, source := 5, target := 6, kind := .readReq, expires := 9 }, mk [] { fab := { tags := [{ tag := 0x8003, source := 5, target := 6, kind := .readReq, expires := 9 }] } }, by decide +kernel⟩,
   ⟨{ kind := .readRsp, stream := 0, origin := 0, tag := 0x8003 }, { tag := 0x8003, source := 5, target := 6, kind := .readReq, expires := 9, quarantined := true }, mk [] { fab := { tags := [{ tag := 0x8003, source := 5, target := 6, kind := .readReq, expires := 9, quarantined := true }] } }, by decide +kernel⟩,
   ⟨3, { kind := .errorNote, stream := 0, origin := 0 }, mk [] (isl 3 .poweredDown), by decide +kernel⟩,
   ⟨3, { kind := .errorNote, stream := 0, origin := 0 }, mk [] (isl 3 .running), by decide +kernel⟩,
   ⟨0x1234, { source := 0x1234, since := 50, packet := { kind := .readReq, stream := 0, origin := 0x1234 }, dest := 2 }, mk [(R.FAB_TAG_WAIT_LIMIT_LIMIT_MS, 3)] { fab := { waiting := [{ source := 0x1234, since := 50, packet := { kind := .readReq, stream := 0, origin := 0x1234 }, dest := 2 }] } }, by decide +kernel⟩,
   ⟨3, { tag := 0x8003, source := 5, target := 6, kind := .readReq, expires := 9 }, mk [] { fab := { tags := [{ tag := 0x8003, source := 5, target := 6, kind := .readReq, expires := 9 }] } }, by decide +kernel⟩⟩

/-- Each clause of IslandCommands that has hypotheses has a state and operands that meet them all. -/
theorem meets_IslandCommands :
    (∃ (k : Fin 8) (s : State), s.blk.bitOf R.SUP_ISL_STATUS_HELD (k + 1) = false ∧ (s.blk.island (k + 1)).run ≠ .poweredDown) ∧
    (∃ (k : Fin 8) (s : State), (s.blk.bitOf R.SUP_ISL_STATUS_HELD (k + 1) = true ∨ (s.blk.island (k + 1)).run = .poweredDown)) ∧
    (∃ (k : Fin 8) (s : State), s.blk.isLost (k + 1) = false ∧ (s.blk.bitOf R.IMG_STATUS_RELOAD_PENDING (k + 1) = true ∨ s.blk.bitOf R.SUP_ISL_STATUS_HELD (k + 1) = true)) ∧
    (∃ (k : Fin 8) (s : State), s.blk.isLost (k + 1) = true) ∧
    (∃ (k : Fin 8) (s : State), (s.blk.island (k + 1)).run = .inReset ∧ s.blk.bitOf R.SUP_ISL_STATUS_HELD (k + 1) = false ∧ s.blk.sys.abandoned.contains (k.val + 1) = false ∧ s.blk.upd.safeHold = false ∧ s.blk.pwr.inReset = false) ∧
    (∃ (k : Fin 8) (s : State) (x : Nat × Nat), (s.blk.island (k + 1)).run = .reloading ∧ s.blk.sys.reload = some (k.val + 1) ∧ s.blk.loadFault (inIsland (k + 1)) = some x) ∧
    (∃ (k : Fin 8) (s : State), (s.blk.island (k + 1)).run = .reloading ∧ s.blk.sys.reload = some (k.val + 1) ∧ s.blk.loadFault (inIsland (k + 1)) = none) ∧
    (∃ (ofs : Int) (s : State), 2 ≤ s.blk.get R.PWR_STATE_STATE ∧ ofs.natAbs ≤ 100000000 ∧ s.blk.get R.SUP_MTIME_STATUS_STATE ≠ 0) ∧
    (∃ (ofs : Int) (s : State), 2 ≤ s.blk.get R.PWR_STATE_STATE ∧ 100000000 < ofs.natAbs ∧ s.blk.get R.SUP_MTIME_STATUS_STATE ≤ 1 ∧ s.blk.sys.stepped = false ∧ s.blk.sys.step = none) ∧
    (∃ (ofs : Int) (s : State), 100000000 < ofs.natAbs ∧ (2 ≤ s.blk.get R.SUP_MTIME_STATUS_STATE ∨ s.blk.sys.stepped = true)) :=
  ⟨⟨2, mk [] (isl 3 .running), by decide +kernel⟩,
   ⟨2, mk [(R.SUP_ISL_STATUS_HELD, 8)], by decide +kernel⟩,
   ⟨2, mk [(R.IMG_STATUS_RELOAD_PENDING, 8), (R.SUP_MTIME_STATUS_STATE, 2)], by decide +kernel⟩,
   ⟨2, mk [(R.SUP_ISL_STATUS_LOST, 8)], by decide +kernel⟩,
   ⟨2, mk [] { pwr := { inReset := false } }, by decide +kernel⟩,
   ⟨2, mk [(R.IMG_SELECTEDk_SEL 0, 1), (R.IMG_STATUS_RELOAD_PENDING, 8)] { sys := { islands := updAt (updAt (List.replicate 9 {}) 3 fun x => { x with run := .reloading }) 1 fun x => { x with run := .running }, reload := some 3 }, img := { active := { sections := [{ type := 0x30, target := 0x3FFF, bytes := [1] }] } } }, (0x49, 0), by decide +kernel⟩,
   ⟨2, mk [(R.IMG_STATUS_RELOAD_PENDING, 8)] { sys := { islands := updAt (updAt (List.replicate 9 {}) 3 fun x => { x with run := .reloading }) 1 fun x => { x with run := .running }, reload := some 3 } }, by decide +kernel⟩,
   ⟨-5000, mk [(R.SUP_MTIME_STATUS_STATE, 3)] { sys := { mtime := 77 } }, by decide +kernel⟩,
   ⟨200000000, mk [(R.SUP_MTIME_STATUS_STATE, 1)] { sys := { mtime := 77 } }, by decide +kernel⟩,
   ⟨200000000, mk [(R.SUP_MTIME_STATUS_STATE, 2)] { sys := { mtime := 77 } }, by decide +kernel⟩⟩

/-- Each clause of RequestCommands that has hypotheses has a state and operands that meet them all. -/
theorem meets_RequestCommands :
    (∃ (p : Packet) (l : List Nat) (s : State), p.kind = .readReq ∧ s.blk.up = true ∧ s.blk.rowDown (bytesAt p.data 0 4) = false ∧ p.data.length = 8 ∧ 1 ≤ bytesAt p.data 4 2 ∧ bytesAt p.data 4 2 ≤ 1024 ∧ unmappedAt (bytesAt p.data 0 4) (bytesAt p.data 4 2) = none ∧ isRetained (bytesAt p.data 0 4) = false ∧ ((∀ j, j < bytesAt p.data 4 2 → s.blk.poisonedWord l (bytesAt p.data 0 4 + 4 * j) = false))) ∧
    (∃ (p : Packet) (j : Nat) (s : State), p.kind = .readReq ∧ s.blk.up = true ∧ s.blk.rowDown (bytesAt p.data 0 4) = false ∧ p.data.length = 8 ∧ 1 ≤ bytesAt p.data 4 2 ∧ bytesAt p.data 4 2 ≤ 1024 ∧ unmappedAt (bytesAt p.data 0 4) (bytesAt p.data 4 2) = some j) ∧
    (∃ (p : Packet) (s : State), p.kind = .readReq ∧ s.blk.up = true ∧ s.blk.rowDown (bytesAt p.data 0 4) = false ∧ (p.data.length ≠ 8 ∨ bytesAt p.data 4 2 = 0 ∨ 1024 < bytesAt p.data 4 2)) ∧
    (∃ (p : Packet) (c : Nat) (j : Nat) (s : State), p.kind = .writeReq ∧ s.blk.up = true ∧ s.blk.rowDown (bytesAt p.data 0 4) = false ∧ 1 ≤ bytesAt p.data 4 2 ∧ bytesAt p.data 4 2 ≤ 1022 ∧ p.data.length = 8 + 4 * bytesAt p.data 4 2 ∧ s.blk.writeRefusal s.mem p.origin (bytesAt p.data 0 4) (writtenWords p.data (bytesAt p.data 4 2)) = some (c, j)) ∧
    (∃ (p : Packet) (u : State) (s : State), p.kind = .writeReq ∧ s.blk.up = true ∧ s.blk.rowDown (bytesAt p.data 0 4) = false ∧ 1 ≤ bytesAt p.data 4 2 ∧ bytesAt p.data 4 2 ≤ 1022 ∧ p.data.length = 8 + 4 * bytesAt p.data 4 2 ∧ s.blk.writeRefusal s.mem p.origin (bytesAt p.data 0 4) (writtenWords p.data (bytesAt p.data 4 2)) = none ∧ isRetained (bytesAt p.data 0 4) = false ∧ s.storeWords s.blk (((writtenWords p.data (bytesAt p.data 4 2)).zipIdx).foldl (fun (b : Block) e => b.storeWord (bytesAt p.data 0 4 + 4 * e.2) e.1) s.blk) p.origin (bytesAt p.data 0 4) 0 (writtenWords p.data (bytesAt p.data 4 2)) = (u, 0, 0)) ∧
    (∃ (o : Fin 65536) (a : BitVec 32) (v : BitVec 32) (c : Nat) (j : Nat) (s : State), s.blk.up = true ∧ s.blk.writeRefusal s.mem o a.toNat [v.toNat] = some (c, j)) ∧
    (∃ (o : Fin 65536) (a : BitVec 32) (v : BitVec 32) (s : State), s.blk.up = true ∧ s.blk.writeRefusal s.mem o a.toNat [v.toNat] = none ∧ isRetained a.toNat = false ∧ s.blk.wordRefusal (s.blk.storeWord a.toNat v.toNat) a.toNat v.toNat = none ∧ wordActs o a.toNat v.toNat = []) :=
  ⟨⟨{ kind := .readReq, stream := 0, origin := 0x1000, tag := 0x8001, data := le 4 0x40100030 ++ [1, 0, 0, 0] }, [], mk [] allUp, by decide +kernel⟩,
   ⟨{ kind := .readReq, stream := 0, origin := 0x1000, tag := 0x8001, data := le 4 0x40100030 ++ [0, 4, 0, 0] }, 13, mk [] allUp, by decide +kernel⟩,
   ⟨{ kind := .readReq, stream := 0, origin := 0x1000, tag := 0x8001, data := le 4 0x40100030 ++ [0, 0, 0, 0] }, mk [] allUp, by decide +kernel⟩,
   ⟨{ kind := .writeReq, stream := 0, origin := 0x7000, tag := 0x8001, data := le 4 0x40100064 ++ [1, 0, 0, 0] ++ le 4 100 }, 2, 0, mk [] allUp, by decide +kernel⟩,
   ⟨{ kind := .writeReq, stream := 0, origin := 0x1000, tag := 0x8001, data := le 4 0x40100030 ++ [1, 0, 0, 0] ++ le 4 100 }, (mk [] allUp).store 0x40100030 100, mk [] allUp, by decide +kernel⟩,
   ⟨0x7000, 0x40100064, 100, 2, 0, mk [] allUp, by decide +kernel⟩,
   ⟨0x1000, 0x40100030, 100, mk [] allUp, by decide +kernel⟩⟩

/-- Each clause of LoadCommands that has hypotheses has a state and operands that meet them all. -/
theorem meets_LoadCommands :
    (∃ (m : LoadMsg) (s : State), s.blk.barred m.target = false ∧ (s.blk.loadSection m).any (fun x => (sectionTargets x).contains m.target) = true ∧ s.blk.img.staged.find? (Staging.isOf m) = none ∧ m.offset = 0 ∧ m.data.length ≤ m.total) ∧
    (∃ (m : LoadMsg) (y : Staging) (s : State), s.blk.barred m.target = false ∧ (s.blk.loadSection m).any (fun x => (sectionTargets x).contains m.target) = true ∧ s.blk.img.staged.find? (Staging.isOf m) = some y ∧ m.offset = y.data.length ∧ m.offset + m.data.length ≤ y.total) ∧
    (∃ (m : LoadMsg) (x : Section) (s : State), s.blk.barred m.target = false ∧ s.blk.loadSection m = some x ∧ (sectionTargets x).contains m.target = true ∧ s.blk.limitCode x = 0 ∧ (s.blk.img.staged.any fun y => Staging.isOf m y && y.data == x.bytes) = true) ∧
    (∃ (m : LoadMsg) (x : Section) (s : State), s.blk.barred m.target = false ∧ s.blk.loadSection m = some x ∧ (sectionTargets x).contains m.target = true ∧ x.length ≠ 0 ∧ (s.blk.img.staged.any fun y => Staging.isOf m y && y.data == x.bytes) = false) ∧
    (∃ (m : LoadMsg) (s : State), s.blk.barred m.target = false ∧ s.blk.quiesced m.target = false) ∧
    (∃ (m : LoadMsg) (s : State), s.blk.barred m.target = false ∧ (s.blk.targetQuiesce m.target).restless m.target = false) ∧
    (∃ (m : LoadMsg) (s : State), s.blk.barred m.target = false ∧ (s.blk.targetQuiesce m.target).restless m.target = true) ∧
    (∃ (m : LoadMsg) (s : State), s.blk.barred m.target = false) ∧
    (∃ (c : Fin 256) (p : LoadStep) (s : State), s.blk.img.step = some p ∧ p.stage = .data ∧ p.plan = [] ∧ 1 < p.open_ ∧ c = 0 ∧ s.blk.fab.waiting = []) ∧
    (∃ (c : Fin 256) (p : LoadStep) (s : State), s.blk.img.step = some p ∧ c ≠ 0) ∧
    (∃ (m : LoadMsg) (c : Fin 256) (s : State), s.blk.img.step = none ∧ c ≠ 0 ∧ s.blk.img.cells.contains (oIsland m.target, oCell m.target) = false ∧ s.blk.sys.reload ≠ some (oIsland m.target)) ∧
    (∃ (s : State), s.blk.img.staged.filterMap (·.armed) = []) ∧
    (∃ (s : State) (y : Staging) (x : Section), s.blk.img.step = none ∧ s.blk.img.staged = [y] ∧ y.armed = some s.blk.sys.mtime ∧ s.blk.img.active.sections[y.section_]? = some x ∧ oIsland y.target < 6 ∧ x.type = 0x10 ∧ x.fields = [] ∧ x.policy = none ∧ x.problem = none) :=
  ⟨⟨{ op := 1, target := 0x3000, data := [1, 2], total := 128 }, mk [] { allUp with img := { active := { sections := [{ type := 0x30, target := 0x3000, bytes := List.replicate 128 1 }] }, staged := [{ target := 0x3000, section_ := 9 }, { target := 0x4000, section_ := 9 }] } }, by decide +kernel⟩,
   ⟨{ op := 1, target := 0x3000, data := [1, 2], offset := 3, total := 128 }, { target := 0x3000, section_ := 0, total := 128, data := [9, 9, 9] }, mk [] { allUp with img := { active := { sections := [{ type := 0x30, target := 0x3000, bytes := List.replicate 128 1 }] }, staged := [{ target := 0x3000, section_ := 0, total := 128, data := [9, 9, 9] }, { target := 0x4000, section_ := 9 }] } }, by decide +kernel⟩,
   ⟨{ op := 2, target := 0x3000, instant := 99 }, { type := 0x30, target := 0x3000, bytes := [1, 2] }, mk [] { allUp with img := { active := { sections := [{ type := 0x30, target := 0x3000, bytes := [1, 2] }] }, staged := [{ target := 0x3000, section_ := 0, total := 2, data := [1, 2] }] } }, by decide +kernel⟩,
   ⟨{ op := 2, target := 0x3000, instant := 99 }, { type := 0x30, target := 0x3000, bytes := [1, 2] }, mk [] { allUp with img := { active := { sections := [{ type := 0x30, target := 0x3000, bytes := [1, 2] }] }, staged := [{ target := 0x3000, section_ := 0, total := 2, data := [1] }] } }, by decide +kernel⟩,
   ⟨{ op := 3, target := 0x3000 }, mk [] { allUp with img := { staged := [{ target := 0x3000, section_ := 9 }, { target := 0x4000, section_ := 9 }] } }, by decide +kernel⟩,
   ⟨{ op := 4, target := 0x3000 }, mk [] allUp, by decide +kernel⟩,
   ⟨{ op := 4, target := 0x207F }, mk [(R.LE_STATUS_STATE, leRUNNING)] allUp, by decide +kernel⟩,
   ⟨{ op := 5, target := 0x3000, instant := 500 }, mk [] allUp, by decide +kernel⟩,
   ⟨0, { stage := .data, open_ := 3 }, mk [(R.FAB_TAG_ISLk_QUOTA 0, 8)] { allUp with img := { step := some { stage := .data, open_ := 3 } }, fab := { tags := [{ tag := 0x8002, source := 0x007F, target := 3, kind := .load, expires := 9 }] } }, by decide +kernel⟩,
   ⟨0x44, { stage := .data, open_ := 3 }, mk [(R.FAB_TAG_ISLk_QUOTA 0, 8)] { allUp with img := { step := some { stage := .data, open_ := 3 }, prList := [(2, 0)], active := { sections := [{ type := 0x30, target := 0x3000 }] } } }, by decide +kernel⟩,
   ⟨{ op := 1, target := 0x3000 }, 0x44, mk [] allUp, by decide +kernel⟩,
   ⟨mk [], by decide +kernel⟩,
   ⟨mk [] { allUp with img := { active := { sections := [{ type := 0x10, target := 0x0FFF, routes := [(0x1000, 7)], dests := [(7, 3)] }] }, staged := [{ target := 0x0FFF, section_ := 0, armed := some 0 }] } }, { target := 0x0FFF, section_ := 0, armed := some 0 }, { type := 0x10, target := 0x0FFF, routes := [(0x1000, 7)], dests := [(7, 3)] }, by decide +kernel⟩⟩

/-- Each clause of ReconfigurationCommands that has hypotheses has a state and operands that meet them all. -/
theorem meets_ReconfigurationCommands :
    (∃ (s : State) (c : Nat) (e : Nat), s.blk.prRefusal = some (c, e)) ∧
    (∃ (s : State), s.blk.prRefusal = none) ∧
    (∃ (s : State) (p : LoadStep), s.blk.img.step = some p) ∧
    (∃ (s : State) (p : LoadStep), s.blk.img.step = some p ∧ p.stage ≠ .armed) ∧
    (∃ (s : State) (p : LoadStep), s.blk.img.step = some p ∧ p.stage = .committing) ∧
    (∃ (i : Fin 9) (c : Fin 31) (x : Nat × Nat) (s : State), s.blk.img.cells.contains (i.val, c.val) = true ∧ ({ s.blk with img := { s.blk.img with cells := s.blk.img.cells.filter (· != (i.val, c.val)) } }).loadFault (coversCell i c) = some x) ∧
    (∃ (i : Fin 9) (c : Fin 31) (s : State), s.blk.img.cells.contains (i.val, c.val) = true ∧ ({ s.blk with img := { s.blk.img with cells := s.blk.img.cells.filter (· != (i.val, c.val)) } }).loadFault (coversCell i c) = none) :=
  ⟨⟨mk [], 0x4C, 0, by decide +kernel⟩,
   ⟨mk [(R.IMG_PR_LISTn_EN 0, 1)] { allUp with img := { active := { sections := [{ type := 0x30, target := 0x3000 }] } } }, by decide +kernel⟩,
   ⟨mk [] { allUp with img := { step := some {} } }, {}, by decide +kernel⟩,
   ⟨mk [] { allUp with img := { step := some {}, prEnd := 7 } }, {}, by decide +kernel⟩,
   ⟨mk [] { allUp with img := { step := some { stage := .committing } } }, { stage := .committing }, by decide +kernel⟩,
   ⟨6, 3, (0x49, 0), mk [(R.IMG_SELECTEDk_SEL 0, 1)] { allUp with img := { cells := [(6, 3)], active := { sections := [{ type := 0x71, target := 0x6180, bytes := [1] }] } } }, by decide +kernel⟩,
   ⟨6, 3, mk [] { allUp with img := { cells := [(6, 3)] } }, by decide +kernel⟩⟩

/-- Each clause of ModeRequestCommands that has hypotheses has a state and operands that meet them all. -/
theorem meets_ModeRequestCommands :
    (∃ (p : Packet), p.data.length ≠ 8) ∧
    (∃ (src : Nat) (set : Nat) (clr : Nat) (conf : Nat) (o : Nat) (s : State), 1 ≤ src ∧ src ≤ 3 ∧ set < 4096 ∧ clr < 4096 ∧ conf < 4096 ∧ s.blk.modeOrigin src o = true ∧ s.blk.mode.live = true ∧ set &&& s.blk.modePerm src R.MODE_PERM_SRCs_SET false = set ∧ clr &&& s.blk.modePerm src R.MODE_PERM_SRCs_CLR false = clr ∧ conf &&& s.blk.modePerm src R.MODE_CONF_SRCs_CONF true = conf ∧ set + clr + conf ≠ 0) ∧
    (∃ (v : BitVec 12) (s : State), v ≠ 0 ∧ s.blk.mode.live = true ∧ v.toNat &&& s.blk.modePerm 4 R.MODE_PERM_SRCs_SET false = v.toNat) ∧
    (∃ (v : BitVec 12) (s : State), v.toNat &&& s.blk.modePerm 4 R.MODE_PERM_SRCs_SET false = 0 ∧ v ≠ 0) ∧
    (∃ (v : BitVec 12) (s : State), v ≠ 0 ∧ s.blk.mode.live = true ∧ v.toNat &&& s.blk.modePerm 4 R.MODE_PERM_SRCs_CLR false = v.toNat) ∧
    (∃ (v : BitVec 12) (s : State), v ≠ 0 ∧ s.blk.mode.live = true ∧ v.toNat &&& s.blk.modePerm 4 R.MODE_CONF_SRCs_CONF true = v.toNat) :=
  ⟨⟨{ kind := .mode, stream := 0xFF02, origin := 0x1000, data := [1] }, by decide +kernel⟩,
   ⟨1, 1, 0, 0, 0x3000, mk [(R.MODE_PERM_SRCs_SET 0, 1)] { allUp with mode := { live := true, policy := { paths := [[0x3000], [], []], origins := [[0x3000], [], []] } } }, by decide +kernel⟩,
   ⟨1, mk [(R.MODE_PERM_SRCs_SET 3, 1)] { allUp with mode := { live := true } }, by decide +kernel⟩,
   ⟨1, mk [] { allUp with mode := { live := true } }, by decide +kernel⟩,
   ⟨1, mk [(R.MODE_PERM_SRCs_CLR 3, 1)] { allUp with mode := { live := true } }, by decide +kernel⟩,
   ⟨1, mk [(R.MODE_CONF_SRCs_CONF 3, 1)] { allUp with mode := { live := true } }, by decide +kernel⟩⟩

/-- Each clause of ModeTimerCommands that has hypotheses has a state and operands that meet them all. -/
theorem meets_ModeTimerCommands :
    (∃ (s : State), s.blk.mode.live = true) ∧
    (∃ (k : Fin 12) (s : State), s.blk.modeState k = 1 ∧ s.blk.managerUp = true) ∧
    (∃ (k : Fin 12) (s : State), s.blk.modeState k = 3 ∧ s.blk.managerUp = true) ∧
    (∃ (s : State) (t0 : Nat), s.blk.mode.hbEnd = some t0) ∧
    (∃ (ch : Fin 192) (s : State), (s.blk.mode.jogs.find? (·.ch == ch.val)) = none) ∧
    (∃ (ch : Fin 192) (j : JogRun) (s : State), (s.blk.mode.jogs.find? (·.ch == ch.val)) = some j) ∧
    (∃ (s : State), s.fld R.PWR_STATE_STATE = 3 ∧ s.fld R.PWR_STATUS_STATIONARY = 0) ∧
    (∃ (s : State), s.fld R.YLD_CAL_STAT_READY = 1 ∧ s.fld R.YLD_CAL_STAT_RUN = 2) :=
  ⟨⟨mk [] { allUp with mode := { live := true, reqs := [{ source := 1, set := 1 }] } }, by decide +kernel⟩,
   ⟨3, mk [(R.MODE_STATE_STATE, 0x40), (R.MODE_LIMITS_WAIT_S, 4)] { allUp with mode := { live := true } }, by decide +kernel⟩,
   ⟨3, mk [(R.MODE_STATE_STATE, 0xC0), (R.MODE_LIMITS_CONFIRM_S, 4)] { allUp with mode := { live := true } }, by decide +kernel⟩,
   ⟨mk [] { mode := { hbEnd := some 6 } }, 6, by decide +kernel⟩,
   ⟨5, mk [], by decide +kernel⟩,
   ⟨5, { ch := 5, at_ := 10, held := true }, mk [] { mode := { jogs := [{ ch := 5, at_ := 10, held := true }] } }, by decide +kernel⟩,
   ⟨mk [(R.PWR_STATUS_SHUT_PENDING, 1), (R.PWR_CFG_RUNON_S, 30)] { allUp with pwr := { ignWaitEnd := some 5 } }, by decide +kernel⟩,
   ⟨mk [(R.YLD_CAL_STAT_READY, 1), (R.YLD_CAL_STAT_RUN, 2), (R.YLD_CAL_CAND_FIRST, 777)] allUp, by decide +kernel⟩⟩

/-- Each clause of ResetCommands that has hypotheses has a state and operands that meet them all. -/
theorem meets_ResetCommands :
    (∃ (s : State) (v : Nat), s.blk.pwr.validAt = some v ∧ s.fld R.PWR_STATE_STATE = 0 ∧ s.blk.pwr.inReset = false) ∧
    (∃ (low : Nat) (s : State), 10 * 1000 ≤ low ∧ s.fld R.PWR_STATE_STATE ≠ 0) ∧
    (∃ (low : Nat), low < 2 * 1000) ∧
    (∃ (low : Nat) (s : State), 10 * 1000 ≤ low ∧ s.fld R.PWR_STATE_STATE = 0) ∧
    (∃ (s : State), s.blk.pwr.resetLow = true ∧ s.blk.pwr.inReset = true) ∧
    (∃ (s : State), s.blk.pwr.resetLow = true ∧ s.blk.pwr.inReset = false) ∧
    (∃ (key : BitVec 16), key ≠ 0xB1EF) ∧
    (∃ (s : State), badTarget (s.fld R.SUP_RST_TARGET_ORIGIN) false = true) ∧
    (∃ (k : Fin 8) (s : State), s.fld R.SUP_RST_TARGET_ORIGIN = islOrigin (k + 1) ∧ s.blk.bitOf R.SUP_ISL_STATUS_HELD (k + 1) = false ∧ (s.blk.island (k + 1)).run ≠ .poweredDown ∧ s.blk.sys.islands.length = 9) ∧
    (∃ (s : State), badTarget (s.fld R.SUP_RST_TARGET_ORIGIN) true = true) ∧
    (∃ (s : State), badTarget (s.fld R.SUP_RST_TARGET_ORIGIN) true = false) ∧
    (∃ (k : Fin 8) (s : State), s.blk.released (k + 1) = true ∧ s.blk.bitOf R.SUP_ISL_STATUS_HELD (k + 1) = false ∧ s.blk.sys.islands.length = 9) ∧
    (∃ (s : State), s.fld R.PWR_STATE_STATE ≠ 0 ∧ s.blk.pwr.inReset = false) ∧
    (∃ (s : State), s.fld R.PWR_STATE_STATE ≠ 0 ∧ s.blk.pwr.inReset = false) ∧
    (∃ (i : Fin 8) (c : Fin 31), (cellsOf (i + 1)).contains c.val = true) :=
  ⟨⟨mk [(R.PWR_STATE_STATE, 0)] { pwr := { validAt := some 3 } }, 3, by decide +kernel⟩,
   ⟨20000, mk [] allUp, by decide +kernel⟩,
   ⟨1000, by decide +kernel⟩,
   ⟨20000, mk [(R.PWR_STATE_STATE, 0)], by decide +kernel⟩,
   ⟨mk [] { pwr := { inReset := true, resetLow := true } }, by decide +kernel⟩,
   ⟨mk [(R.PWR_STATE_STATE, 0)] { pwr := { resetLow := true } }, by decide +kernel⟩,
   ⟨0x1234, by decide +kernel⟩,
   ⟨mk [(R.SUP_RST_TARGET_ORIGIN, 0xFFFF)] allUp, by decide +kernel⟩,
   ⟨2, mk [(R.SUP_RST_TARGET_ORIGIN, 0x3FFF)] allUp, by decide +kernel⟩,
   ⟨mk [(R.SUP_RST_TARGET_ORIGIN, 0xFFFF)] allUp, by decide +kernel⟩,
   ⟨mk [(R.SUP_RST_TARGET_ORIGIN, 0x61FF)] allUp, by decide +kernel⟩,
   ⟨3, mk [] allUp, by decide +kernel⟩,
   ⟨mk [] allUp, by decide +kernel⟩,
   ⟨mk [] allUp, by decide +kernel⟩,
   ⟨5, 2, by decide +kernel⟩⟩

/-- Each clause of PowerCommands that has hypotheses has a state and operands that meet them all. -/
theorem meets_PowerCommands :
    (∃ (s : State), s.blk.pwr.inReset = false ∧ s.fld R.PWR_STATE_STATE = 3 ∧ s.blk.pwr.pfAt = none) ∧
    (∃ (s : State), s.blk.pwr.inReset = false ∧ s.fld R.PWR_STATE_STATE = 1) ∧
    (∃ (s : State), s.fld R.PWR_STATUS_LOGIC_VALID = 0) ∧
    (∃ (s : State) (d : Nat) (v : Nat), s.blk.pwr.pfAt = some d ∧ s.blk.pwr.validAt = some v ∧ v + 10 * 1000000 ≤ d + s.blk.pwr.ride * 1000000) ∧
    (∃ (s : State) (d : Nat), s.blk.pwr.pfAt = some d ∧ s.blk.pwr.validAt = none) ∧
    (∃ (s : State), s.blk.pwr.inReset = false) ∧
    (∃ (s : State), s.blk.pwr.inReset = true ∧ s.blk.pwr.resetLow = false) ∧
    (∃ (s : State), s.fld R.PWR_STATUS_IGN = 1 ∧ s.blk.inRun = true) ∧
    (∃ (s : State), s.blk.inRun = true ∧ s.fld R.PWR_STATUS_SHUT_PENDING = 1 ∧ s.blk.pwr.flushEnd = none) ∧
    (∃ (s : State), s.blk.inRun = false ∧ ((s.fld R.PWR_STATE_STATE = 1 ∨ s.fld R.PWR_STATE_STATE = 2))) ∧
    (∃ (s : State), s.blk.inRun = true) ∧
    (∃ (s : State), s.blk.inRun = true) ∧
    (∃ (s : State) (e : Nat), s.blk.inRun = true ∧ s.blk.pwr.runonEnd = some e) ∧
    (∃ (s : State) (e : Nat), s.blk.inRun = true ∧ s.fld R.PWR_STATUS_STATIONARY = 0 ∧ s.blk.pwr.ignWaitEnd = some e ∧ s.blk.mode.stopping = true) ∧
    (∃ (s : State), s.blk.pwr.runonEnd = none) ∧
    (∃ (s : State) (e : Nat), s.blk.inRun = true ∧ s.fld R.PWR_STATUS_STATIONARY = 1 ∧ s.blk.pwr.runonEnd = some e ∧ s.blk.pwr.flushEnd = none ∧ s.blk.pwr.pfAt = none) ∧
    (∃ (s : State) (e : Nat), s.blk.inRun = true ∧ s.fld R.PWR_STATUS_STATIONARY = 1 ∧ s.blk.pwr.runonEnd = some e ∧ s.blk.pwr.flushEnd = none ∧ s.blk.pwr.pfAt = none) ∧
    (∃ (s : State) (e : Nat), s.blk.pwr.flushEnd = some e ∧ s.blk.pwr.pfAt = none) ∧
    (∃ (src : Fin 9) (s : State), s.blk.pwr.inReset = false ∧ s.blk.wakeEnabled src = true ∧ s.fld R.PWR_STATE_STATE = 0 ∧ ((src = 1 ∨ src = 2)) ∧ s.blk.pwr.wake = none) ∧
    (∃ (src : Fin 9) (s : State), s.blk.pwr.inReset = false ∧ s.blk.wakeEnabled src = true ∧ s.fld R.PWR_STATE_STATE = 1 ∧ src.val ≤ 5) ∧
    (∃ (s : State) (e : Nat), s.blk.inParked = true ∧ s.blk.pwr.parkEnd = some e) ∧
    (∃ (s : State), s.blk.inParked = true ∧ s.fld R.PWR_PARK_BAT_MIN ≠ 0) ∧
    (∃ (s : State), s.fld R.PWR_STATUS_LOGIC_VALID = 0) :=
  ⟨⟨mk [(R.PWR_STATUS_LOGIC_VALID, 1)] allUp, by decide +kernel⟩,
   ⟨mk [(R.PWR_STATE_STATE, 1)], by decide +kernel⟩,
   ⟨mk [] { now := 55 }, by decide +kernel⟩,
   ⟨mk [(R.PWR_STATUS_PF, 1)] { allUp with pwr := { pfAt := some 0, validAt := some 5, ride := 100 } }, 0, 5, by decide +kernel⟩,
   ⟨mk [(R.PWR_STATUS_PF, 1)] { allUp with pwr := { pfAt := some 7 } }, 7, by decide +kernel⟩,
   ⟨mk [], by decide +kernel⟩,
   ⟨mk [] { pwr := { inReset := true } }, by decide +kernel⟩,
   ⟨mk [(R.PWR_STATUS_IGN, 1), (R.PWR_STATUS_STATIONARY, 1), (R.PWR_CFG_RUNON_S, 9)] allUp, by decide +kernel⟩,
   ⟨mk [(R.PWR_STATUS_SHUT_PENDING, 1)] { allUp with pwr := { runonEnd := some 7 } }, by decide +kernel⟩,
   ⟨mk [(R.PWR_STATE_STATE, 1)], by decide +kernel⟩,
   ⟨mk [] allUp, by decide +kernel⟩,
   ⟨mk [] allUp, by decide +kernel⟩,
   ⟨mk [(R.PWR_CFG_RUNON_S, 9)] { allUp with pwr := { runonEnd := some 7 } }, 7, by decide +kernel⟩,
   ⟨mk [] { allUp with pwr := { ignWaitEnd := some 7 }, mode := { stopping := true } }, 7, by decide +kernel⟩,
   ⟨mk [], by decide +kernel⟩,
   ⟨mk [(R.PWR_STATUS_STATIONARY, 1)] { allUp with pwr := { runonEnd := some 7 } }, 7, by decide +kernel⟩,
   ⟨mk [(R.PWR_STATUS_STATIONARY, 1)] { allUp with pwr := { runonEnd := some 7 } }, 7, by decide +kernel⟩,
   ⟨mk [] { allUp with pwr := { flushEnd := some 7 } }, 7, by decide +kernel⟩,
   ⟨1, mk [(R.PWR_STATE_STATE, 0), (R.PWR_WAKE_EN_SRC, 1)], by decide +kernel⟩,
   ⟨1, mk [(R.PWR_STATE_STATE, 1), (R.PWR_WAKE_EN_SRC, 1)], by decide +kernel⟩,
   ⟨mk [(R.PWR_STATE_STATE, 2)] { pwr := { parkEnd := some 7 } }, 7, by decide +kernel⟩,
   ⟨mk [(R.PWR_STATE_STATE, 2), (R.PWR_PARK_BAT_MIN, 200)], by decide +kernel⟩,
   ⟨mk [] { pwr := { railUp := true } }, by decide +kernel⟩⟩

/-- Each clause of FieldProtectionCommands that has hypotheses has a state and operands that meet them all. -/
theorem meets_FieldProtectionCommands :
    (∃ (ch : Fin 192) (s : State), s.blk.acting 1 = false ∧ isCommanded (s.fld (R.FC_CH_FUNC_FUNC ch)) = false) ∧
    (∃ (ch : Fin 192) (p : Packet) (s : State), s.blk.acting 1 = false ∧ isCommanded (s.fld (R.FC_CH_FUNC_FUNC ch)) = true ∧ s.blk.lead ch = ch.val ∧ p.data.length = 8 ∧ bytesAt p.data 2 1 = 0 ∧ s.blk.runs (ch / 8) = true ∧ p.valid = true ∧ p.error = false ∧ p.masked = false ∧ s.fld (R.FC_CH_CMD_CONF_MIN ch) ≤ p.conf ∧ p.resync = true) ∧
    (∃ (ch : Fin 192) (t0 : Nat) (s : State), ((s.ripe ch).blk.ch ch).core.limStart = some t0) ∧
    (∃ (ch : Fin 192) (s : State), ((s.ripe ch).blk.ch ch).core.limStart = none) ∧
    (∃ (ch : Fin 192) (cur : Nat) (t0 : Nat) (s : State), ((s.ripe ch).blk.ch ch).core.geyserEnd = some t0 ∧ (s.ripe ch).blk.overSoft ch (min cur 12000) = false) ∧
    (∃ (ch : Fin 192) (cur : Nat) (s : State), (s.ripe ch).blk.softActs ch = true ∧ (s.ripe ch).blk.overSoft ch cur = true ∧ (s.ripe ch).blk.softMasked ch = true) ∧
    (∃ (ch : Fin 192) (cur : Nat) (s : State), (s.ripe ch).blk.softActs ch = true ∧ (s.ripe ch).blk.overSoft ch cur = true ∧ (s.ripe ch).blk.softMasked ch = false) ∧
    (∃ (ch : Fin 192) (cur : Nat) (t0 : Nat) (s : State), ((s.ripe ch).blk.ch ch).core.blankEnd = some t0 ∧ (s.ripe ch).blk.overSoft ch cur = false) ∧
    (∃ (ch : Fin 192) (cur : Nat) (t0 : Nat) (s : State), ((s.ripe ch).blk.ch ch).core.blankEnd = some t0 ∧ (s.ripe ch).blk.overSoft ch cur = true ∧ (s.ripe ch).fld (R.FC_CH_STATUS_GEYSER ch) = 0 ∧ s.blk.cellDown (ch / 8) = false) ∧
    (∃ (ch : Fin 192) (s : State), (s.ripe ch).fld (R.FC_CH_STATUS_HOT ch) = 1) ∧
    (∃ (ch : Fin 192) (t0 : Nat) (s : State), ((s.ripe ch).blk.ch ch).core.deadline = some t0) ∧
    (∃ (ch : Fin 192) (c : Nat) (s : State), (s.blk.chRefusal ch <|> s.blk.clrLimRefusal ch) = some c) ∧
    (∃ (ch : Fin 192) (s : State), s.blk.chRefusal ch = none ∧ s.fld (R.FC_CH_STATUS_PAIR_LATCH ch) = 0 ∧ cooling s.blk.now (s.blk.ch ch).core.limAt = false) ∧
    (∃ (ch : Fin 192) (c : Nat) (s : State), (s.blk.chRefusal ch <|> s.blk.clrHardRefusal ch) = some c) ∧
    (∃ (ch : Fin 192) (s : State), s.blk.chRefusal ch = none ∧ s.fld (R.FC_CH_STATUS_PAIR_LATCH ch) = 0 ∧ cooling s.blk.now (s.blk.ch ch).core.hardAt = false) ∧
    (∃ (ch : Fin 192) (s : State), s.blk.chRefusal ch = none) ∧
    (∃ (ch : Fin 192) (s : State), s.blk.chRefusal ch = none) ∧
    (∃ (ch : Fin 192) (c : Nat) (s : State), s.blk.chRefusal ch = some c) :=
  ⟨⟨9, mk [(R.FC_CH_FUNC_FUNC 9, 1)], by decide +kernel⟩,
   ⟨9, { kind := .setpoint, stream := 5, origin := 0x1000, resync := true, data := [3, 0, 0, 0, 0, 0, 0, 0] }, mk [(R.FC_CH_FUNC_FUNC 9, 9), (R.FC_CH_STATUS_FAIL_ACT 9, 1)] (chB 9), by decide +kernel⟩,
   ⟨9, 70, mk [(R.FC_CH_FUNC_FUNC 9, 1), (R.FC_CH_STATUS_ON 9, 1)] (chB 9 { core := { limStart := some 70 } }), by decide +kernel⟩,
   ⟨9, mk [], by decide +kernel⟩,
   ⟨9, 100, 70, mk [(R.FC_CH_STATUS_GEYSER 9, 1)] (chB 9 { core := { geyserEnd := some 70 } }), by decide +kernel⟩,
   ⟨9, 12500, mk [(R.FC_CH_FUNC_FUNC 9, 1), (R.FC_CH_STATUS_ON 9, 1), (R.FC_CH_STATUS_GEYSER 9, 1), (R.FC_CH_PROT_SOFT_THR 9, 20)] (chB 9), by decide +kernel⟩,
   ⟨9, 12500, mk [(R.FC_CH_FUNC_FUNC 9, 1), (R.FC_CH_STATUS_ON 9, 1), (R.FC_CH_PROT_SOFT_THR 9, 20), (R.FC_CH_PROT_SOFT_ACT 9, 0)] (chB 9), by decide +kernel⟩,
   ⟨9, 100, 70, mk [] (chB 9 { core := { blankEnd := some 70 } }), by decide +kernel⟩,
   ⟨9, 12500, 70, mk [(R.FC_CH_PROT_SOFT_THR 9, 20)] (chB 9 { core := { blankEnd := some 70 } }), by decide +kernel⟩,
   ⟨9, mk [(R.FC_CH_FUNC_FUNC 9, 9), (R.FC_CH_STATUS_HOT 9, 1)] (chB 9 { core := { therm := [4] } }), by decide +kernel⟩,
   ⟨9, 70, mk [(R.FC_CH_FUNC_FUNC 9, 9), (R.FC_CH_STATUS_HOLD 9, 1)] (chB 9 { core := { deadline := some 70 } }), by decide +kernel⟩,
   ⟨9, 0x53, mk [(R.FC_CH_STATUS_PAIR_LATCH 9, 1)], by decide +kernel⟩,
   ⟨9, mk [(R.FC_CH_STATUS_LIM_LATCH 9, 1)], by decide +kernel⟩,
   ⟨9, 0x51, mk [(R.FC_CH_STATUS_HARD_LATCH 9, 1)] (chB 9 { core := { hardAt := some 0 } }), by decide +kernel⟩,
   ⟨9, mk [(R.FC_CH_STATUS_HARD_LATCH 9, 1)], by decide +kernel⟩,
   ⟨9, mk [(R.FC_CH_STATUS_SHED 9, 1)], by decide +kernel⟩,
   ⟨9, mk [(R.FC_CH_CNT_EV_SOFT 9, 1), (R.FC_CH_CNT_EV_SOFT 8, 1)], by decide +kernel⟩,
   ⟨9, 0x05, mk [(R.SUP_ISL_STATUS_LOST, 64)] (chB 9), by decide +kernel⟩⟩

/-- Each clause of FieldCellCommands that has hypotheses has a state and operands that meet them all. -/
theorem meets_FieldCellCommands :
    (∃ (st : Fin 8) (t0 : Nat) (s : State), s.blk.shedAt (.stud st) = some t0 ∧ 1 ≤ s.fld (R.FC_STUD_STAT_SHED_LEVEL st) ∧ s.fld (R.FC_STUD_STAT_SHED_LEVEL st) ≤ 2 ∧ scopeRating (.stud st) < s.blk.scopeNow (.stud st) ∧ s.blk.scopes.length = 9) ∧
    (∃ (sc : ShedScope) (t0 : Nat) (s : State), s.blk.shedAt sc = some t0 ∧ 1 ≤ s.blk.shedLevel sc ∧ s.blk.shedLevel sc ≤ 2 ∧ s.blk.scopeNow sc ≤ scopeRating sc) ∧
    (∃ (c : Fin 24) (r : Nat) (s : State), s.blk.unitRefusal (fcOrigin c) = some r) ∧
    (∃ (c : Fin 24) (s : State), s.blk.unitRefusal (fcOrigin c) = none ∧ (s.blk.cell c).run = .running ∧ s.blk.cells.length = 24) ∧
    (∃ (c : Fin 24) (s : State), s.blk.unitRefusal (fcOrigin c) = none ∧ s.blk.groupOk c = false) ∧
    (∃ (c : Fin 24) (s : State), s.blk.unitRefusal (fcOrigin c) = none ∧ (s.blk.cell c).run = .stopped ∧ (s.blk.cell c).byStop = true ∧ s.blk.groupOk c = true) ∧
    (∃ (st : Fin 8) (s : State), s.fld (R.FC_STUD_STAT_UV st) = 1) ∧
    (∃ (s : State), s.blk.scopes.length = 9) ∧
    (∃ (s : State), s.blk.scopes.length = 9) ∧
    (∃ (ch : Fin 192) (s : State), s.blk.runs (ch / 8) = true ∧ s.blk.chans.length = 192) :=
  ⟨⟨1, 7, mk [(R.FC_STUD_STAT_SHED_LEVEL 1, 1)] { allUp with scopes := List.replicate 9 { shedAt := some 7 }, cells := List.replicate 24 { means := [99999999] } }, by decide +kernel⟩,
   ⟨.module, 7, mk [(R.FC_MOD_STAT_SHED_LEVEL, 1)] { allUp with scopes := List.replicate 9 { shedAt := some 7 } }, by decide +kernel⟩,
   ⟨3, 0x05, mk [(R.SUP_ISL_STATUS_LOST, 64)] (chB 9), by decide +kernel⟩,
   ⟨3, mk [(R.FC_CH_FUNC_FUNC 25, 9), (R.FC_CH_FUNC_FUNC 26, 1), (R.FC_CH_NET_SRC 26, 1), (R.FC_CH_NET_SRC_CH 26, 25)] (chB 9), by decide +kernel⟩,
   ⟨3, mk [(R.FC_CH_FUNC_FUNC 25, 12)] (chB 9), by decide +kernel⟩,
   ⟨3, mk [(R.FC_CH_FUNC_FUNC 25, 9), (R.FC_CH_FUNC_FUNC 26, 5), (R.FC_CELL_STATUS_STOPPED 3, 1)] { allUp with cells := List.replicate 24 { run := .stopped, byStop := true } }, by decide +kernel⟩,
   ⟨1, mk [(R.FC_STUD_STAT_UV 1, 1), (R.FC_CH_STATUS_STUD_UV 25, 1), (R.FC_CH_FUNC_FUNC 25, 9), (R.FC_CH_FUNC_FUNC 26, 1)] (chB 9), by decide +kernel⟩,
   ⟨mk [] (chB 9), by decide +kernel⟩,
   ⟨mk [] (chB 9), by decide +kernel⟩,
   ⟨9, mk [(R.FC_CH_FUNC_FUNC 9, 1)] (chB 9 { core := { measSeq := some 255 } }), by decide +kernel⟩⟩

/-- Each clause of FieldDriveCommands that has hypotheses has a state and operands that meet them all. -/
theorem meets_FieldDriveCommands :
    (∃ (ch : Fin 192) (s : State), s.fld (R.FC_CH_FUNC_FUNC ch) = 2 ∧ s.blk.lead ch = ch.val ∧ s.blk.cellDown (ch / 8) = false ∧ s.blk.reversed (ch / 8) = false ∧ s.blk.chans.length = 192 ∧ s.blk.nothingDue (ch / 8) = true ∧ (s.blk.cell (ch / 8)).queue = []) ∧
    (∃ (ch : Fin 192) (s : State), s.fld (R.FC_CH_FUNC_FUNC ch) = 3 ∧ (s.ripe ch).blk.phaseOf ch < 2) ∧
    (∃ (c : Fin 24) (ch : Nat) (r : List Nat) (s : State), ch / 8 = c.val ∧ s.blk.nothingDue c = true ∧ (s.blk.cell c).boost = none ∧ (s.blk.cell c).queue = ch :: r ∧ s.fld (R.FC_CELL_STATUS_BOOST_READY c) = 1) ∧
    (∃ (c : Fin 24) (s : State), s.blk.nothingDue c = true ∧ (s.blk.cell c).queue = []) ∧
    (∃ (ch : Fin 192) (t0 : Nat) (s : State), ((s.ripe ch).blk.ch ch).drv.waitEnd = some t0 ∧ (s.ripe ch).blk.flag (R.FC_CH_DRV_STATUS_QUEUED ch) = true) ∧
    (∃ (ch : Fin 192) (s : State), (s.ripe ch).fld (R.FC_CH_DRV_STATUS_PHASE ch) = 1 ∧ ((s.ripe ch).blk.cell (ch / 8)).queue.contains ch.val = false) ∧
    (∃ (ch : Fin 192) (t0 : Nat) (s : State), (s.ripe ch).fld (R.FC_CH_DRV_STATUS_PHASE ch) = 2 ∧ ((s.ripe ch).blk.ch ch).drv.phaseEnd = some t0) ∧
    (∃ (ch : Fin 192) (s : State), s.fld (R.FC_CH_FUNC_FUNC ch) = 3 ∧ ((s.ripe ch).blk.ch ch).drv.decaying = true) ∧
    (∃ (ch : Fin 192) (s : State), isOutput (s.fld (R.FC_CH_FUNC_FUNC ch)) = true ∧ s.blk.lead ch = ch.val ∧ s.blk.chans.length = 192 ∧ ((s.ripe ch).blk.modCore ch fun k => { k with derFrac := s.fld (R.HLT_CHc_DERATE ch) }).dutyLimit256 ch ≠ 0) ∧
    (∃ (ch : Fin 192) (c : Nat) (s : State), (s.blk.chRefusal ch <|> s.blk.clrPairRefusal ch) = some c) ∧
    (∃ (ch : Fin 192) (s : State), s.blk.chRefusal ch = none ∧ s.blk.clrPairRefusal ch = none) ∧
    (∃ (ch : Fin 192) (s : State), (s.ripe ch).blk.flag (R.FC_CH_STATUS_ON ch) = true ∧ ((s.ripe ch).blk.ch (s.blk.lead ch)).drv.turnAt = none) ∧
    (∃ (ch : Fin 192) (s : State), (s.ripe ch).blk.flag (R.FC_CH_STATUS_ON ch) = false ∧ ((s.ripe ch).blk.ch (s.blk.lead ch)).drv.turnAt = none) ∧
    (∃ (c : Fin 24) (s : State), (s.blk.cell c).noCharge = false) ∧
    (∃ (c : Fin 24) (s : State), (s.blk.cell c).noCharge = true) :=
  ⟨⟨9, mk [(R.FC_CH_FUNC_FUNC 9, 2)] (chB 9 { drv := { onTime := 77 }, core := { last := .set 5000 } }), by decide +kernel⟩,
   ⟨9, mk [(R.FC_CH_FUNC_FUNC 9, 3), (R.FC_CH_DRV_STATUS_PHASE 9, 1)] (chB 9), by decide +kernel⟩,
   ⟨1, 9, [], mk [(R.FC_CELL_STATUS_BOOST_READY 1, 1)] { cells := List.replicate 24 { queue := [9] } }, by decide +kernel⟩,
   ⟨1, mk [(R.FC_CELL_STATUS_BOOST_READY 1, 1)] (chB 9), by decide +kernel⟩,
   ⟨9, 70, mk [(R.FC_CH_DRV_STATUS_QUEUED 9, 1)] (chB 9 { drv := { waitEnd := some 70 } }), by decide +kernel⟩,
   ⟨9, mk [(R.FC_CH_FUNC_FUNC 9, 3), (R.FC_CH_DRV_STATUS_PHASE 9, 1)] (chB 9), by decide +kernel⟩,
   ⟨9, 70, mk [(R.FC_CH_FUNC_FUNC 9, 3), (R.FC_CH_DRV_STATUS_PHASE 9, 2)] (chB 9 { drv := { phaseEnd := some 70, noBoost := true } }), by decide +kernel⟩,
   ⟨9, mk [(R.FC_CH_FUNC_FUNC 9, 3), (R.FC_CH_STATUS_ON 9, 1)] (chB 9 { drv := { decaying := true } }), by decide +kernel⟩,
   ⟨9, mk [(R.FC_CH_FUNC_FUNC 9, 1), (R.HLT_CHc_DERATE 9, 128)] (chB 9), by decide +kernel⟩,
   ⟨9, 0x52, mk [], by decide +kernel⟩,
   ⟨8, mk [(R.FC_CH_FUNC_FUNC 8, 4), (R.FC_CH_FUNC_FUNC 9, 4), (R.FC_CH_STATUS_PAIR_LATCH 9, 1), (R.FC_CH_STATUS_LIM_LATCH 8, 1)], by decide +kernel⟩,
   ⟨9, mk [(R.FC_CH_STATUS_ON 9, 1)], by decide +kernel⟩,
   ⟨9, mk [], by decide +kernel⟩,
   ⟨1, mk [] (chB 9), by decide +kernel⟩,
   ⟨1, mk [] { allUp with cells := List.replicate 24 { noCharge := true } }, by decide +kernel⟩⟩

/-- Each clause of FieldNetCommands that has hypotheses has a state and operands that meet them all. -/
theorem meets_FieldNetCommands :
    (∃ (ch : Fin 192) (p : Packet) (s : State), s.fld (R.FC_CH_FUNC_FUNC ch) = 1 ∧ s.blk.lead ch = ch.val ∧ s.blk.cellDown (ch / 8) = false ∧ s.blk.heard p = true ∧ s.blk.netStreams ch p.origin = true ∧ p.data.length = 4 ∧ (p.stamp + s.fld (R.FC_CH_NET_DELAY ch) * 10 + 2 ^ 32 - s.blk.stamp) % 2 ^ 32 < 2 ^ 31 ∧ s.blk.sys.mtime % 1000 ≤ (p.stamp + s.fld (R.FC_CH_NET_DELAY ch) * 10 + 2 ^ 32 - s.blk.stamp) % 2 ^ 32 * 1000) ∧
    (∃ (ch : Fin 192) (p : Packet) (s : State), s.fld (R.FC_CH_FUNC_FUNC ch) = 1 ∧ s.blk.lead ch = ch.val ∧ s.blk.cellDown (ch / 8) = false ∧ s.blk.heard p = true ∧ s.blk.netStreams ch p.origin = true ∧ p.data.length = 4 ∧ 2 ^ 31 ≤ (p.stamp + s.fld (R.FC_CH_NET_DELAY ch) * 10 + 2 ^ 32 - s.blk.stamp) % 2 ^ 32) ∧
    (∃ (ch : Fin 192) (t0 : Nat) (lv : Bool) (un : Bool) (s : State), ((s.ripe ch).blk.ch ch).net.queue = [(t0, lv, un)]) ∧
    (∃ (ch : Fin 192) (t0 : Nat) (t1 : Nat) (lv : Bool) (r : List (Nat × Bool × Bool)) (s : State), ((s.ripe ch).blk.ch ch).net.queue = (t0, lv, false) :: (t1, !lv, false) :: r ∧ ((s.ripe ch).blk.ch ch).net.level = !lv ∧ t1 < t0 + 20 * 1000) ∧
    (∃ (ch : Fin 192) (c : Nat) (s : State), s.blk.chRefusal ch = some c) ∧
    (∃ (ch : Fin 192) (s : State), s.blk.chRefusal ch = none ∧ s.fld (R.FC_CH_FUNC_FUNC ch) = 1 ∧ s.fld (R.FC_CH_NET_SRC ch) = 0 ∧ s.blk.lead ch = ch.val) ∧
    (∃ (ch : Fin 192) (s : State), s.blk.chRefusal ch = none ∧ s.fld (R.FC_CH_FUNC_FUNC ch) = 1) ∧
    (∃ (c : Fin 24) (e : Nat) (s : State), s.blk.unitRefusal (fcOrigin c) = some e) ∧
    (∃ (c : Fin 24) (s : State), s.blk.unitRefusal (fcOrigin c) = none) ∧
    (∃ (ch : Fin 192) (s : State), s.fld (R.FC_CH_FUNC_FUNC ch) = 1 ∧ s.blk.lead ch = ch.val ∧ s.fld (R.FC_CH_LS_SILENT_REFRESH_MS ch) ≠ 0 ∧ s.fld (R.FC_CH_LS_STATUS_NET_SILENT ch) = 0) :=
  ⟨⟨9, { kind := .sample, stream := 5, origin := org 4 6 2, stamp := 8, data := [1, 0, 0, 0] }, mk [(R.FC_CH_FUNC_FUNC 9, 1), (R.FC_CH_NET_SRC 9, 2)] (chB 9), by decide +kernel⟩,
   ⟨9, { kind := .sample, stream := 5, origin := org 4 6 2, stamp := 8, data := [1, 0, 0, 0] }, mk [(R.FC_CH_FUNC_FUNC 9, 1), (R.FC_CH_NET_SRC 9, 2), (R.FC_CH_NET_DELAY 9, 0)] (chB 9 {} { allUp with sys := { mtime := 100000 } }), by decide +kernel⟩,
   ⟨9, 70, true, false, mk [(R.FC_CH_FUNC_FUNC 9, 1), (R.FC_CH_NET_INVERT 9, 1), (R.FC_CH_STATUS_ON 9, 1)] (chB 9 { net := { queue := [(70, true, false)] } }), by decide +kernel⟩,
   ⟨9, 70, 90, true, [], mk [(R.FC_CH_FUNC_FUNC 9, 1)] (chB 9 { net := { queue := [(70, true, false), (90, false, false)] } }), by decide +kernel⟩,
   ⟨9, 5, mk [(R.SUP_ISL_STATUS_LOST, 64)] (chB 9), by decide +kernel⟩,
   ⟨9, mk [(R.FC_CH_FUNC_FUNC 9, 1)] (chB 9), by decide +kernel⟩,
   ⟨9, mk [(R.FC_CH_FUNC_FUNC 9, 1), (R.FC_CH_STATUS_ON 9, 1)] (chB 9), by decide +kernel⟩,
   ⟨1, 5, mk [(R.SUP_ISL_STATUS_LOST, 64)] (chB 9), by decide +kernel⟩,
   ⟨1, mk [(R.FC_CH_FUNC_FUNC 9, 1), (R.FC_CH_STATUS_ON 9, 1)] (chB 9), by decide +kernel⟩,
   ⟨9, mk [(R.FC_CH_FUNC_FUNC 9, 1), (R.FC_CH_LS_SILENT_REFRESH_MS 9, 40)], by decide +kernel⟩⟩

/-- Each clause of FieldInputCommands that has hypotheses has a state and operands that meet them all. -/
theorem meets_FieldInputCommands :
    (∃ (ch : Fin 192) (s : State), s.fld (R.FC_CH_FUNC_FUNC ch) = 5 ∧ s.blk.runs (ch / 8) = true) ∧
    (∃ (s : State), (s.blk.island 4).run = .running ∧ s.blk.cellOff (org 4 6 127) = false) ∧
    (∃ (ch : Fin 192) (s : State), s.fld (R.FC_CH_FUNC_FUNC ch) = 5 ∧ s.blk.runs (ch / 8) = true) ∧
    (∃ (ch : Fin 192) (t0 : Nat) (s : State), s.fld (R.FC_CH_FUNC_FUNC ch) = 5 ∧ s.fld (R.FC_CH_DIN_STATE_OV ch) = 1 ∧ (s.blk.ch ch).inp.ovAt = some t0) ∧
    (∃ (n : Fin 48) (second : Bool) (p : Packet) (s : State), s.blk.lockstepRuns = true ∧ s.blk.heard p = true ∧ p.kind = .sample ∧ p.origin = chOrigin (s.blk.pairCh n second) ∧ s.blk.route? p.origin 3 = some p.stream ∧ p.data.length = 4 ∧ s.fld (R.FC_DCP_CTRL_EN n) = 0) ∧
    (∃ (s : State), s.blk.lockstepRuns = true) ∧
    (∃ (n : Fin 48) (s : State), s.blk.lockstepRuns = true ∧ ((∀ k < 48, k ≠ n.val → s.fld (R.FC_DCP_CTRL_EN k) = 0)) ∧ s.blk.flag (R.FC_DCP_CTRL_EN n) = true) ∧
    (∃ (b : Block) (n : Fin 48) (x : Nat) (y : Nat), b.get (R.FC_DCP_STATUS_STATE n) = 2 ∧ y < (b.pair n).since + b.get (R.FC_DCP_TDISC_TDISC_MS n) * 1000000 ∧ ((b.pairEval n 0 true x y).get (R.FC_DCP_STATUS_STATE n) = 1 ∧ (b.pairEval n 0 true x y).get (R.FC_DCP_STATUS_ARMED n) = 1 ∧ (b.pairEval n 1 true x y).get (R.FC_DCP_STATUS_STATE n) = (if b.flag (R.FC_DCP_STATUS_ARMED n) then 3 else 4) ∧ (b.pairEval n 1 true x y).get (R.FC_DCP_STATUS_OUTPUT n) = b2n (b.flag (R.FC_DCP_STATUS_ARMED n)) ∧ b.pairEval n 2 true x y = b)) ∧
    (∃ (b : Block) (n : Fin 48) (x : Nat) (y : Nat), b.get (R.FC_DCP_STATUS_STATE n) = 2 ∧ (b.pair n).since + b.get (R.FC_DCP_TDISC_TDISC_MS n) * 1000000 ≤ y ∧ ((b.pairEval n 2 false x y).get (R.FC_DCP_STATUS_STATE n) = 5 ∧ (b.pairEval n 2 false x y).get (R.FC_DCP_STATUS_FAULT_EV n) = 1 ∧ (b.pairEval n 2 false x y).get (R.FC_DCP_STATUS_OUTPUT n) = 0)) ∧
    (∃ (s : State), (s.blk.island 2).run = .running) ∧
    (∃ (c : Nat) (s : State), s.blk.unitRefusal (org 2 2 127) = some c) ∧
    (∃ (s : State), s.blk.unitRefusal (org 2 2 127) = none) ∧
    (∃ (s : State), s.blk.unitRefusal (org 2 2 127) = none) ∧
    (∃ (ch : Fin 192) (s : State), s.fld (R.FC_CH_FUNC_FUNC ch) = 7 ∧ s.blk.runs (ch / 8) = true ∧ s.fld (R.FC_CH_AIN_RATIO ch) = 0) ∧
    (∃ (ch : Fin 192) (s : State), s.fld (R.FC_CH_FUNC_FUNC ch) = 7 ∧ s.fld (R.FC_CH_AIN_RANGE ch) = 3 ∧ s.blk.runs (ch / 8) = true ∧ (s.blk.ch ch).inp.shuntAt = none) ∧
    (∃ (ch : Fin 192) (t0 : Nat) (s : State), (s.blk.ch ch).inp.shuntAt = some t0) ∧
    (∃ (ch : Fin 192) (s : State), s.fld (R.FC_CH_FUNC_FUNC ch) = 8 ∧ s.fld (R.FC_CH_FIN_MODE ch) = 0 ∧ s.blk.runs (ch / 8) = true) ∧
    (∃ (ch : Fin 192) (s : State), s.fld (R.FC_CH_FUNC_FUNC ch) = 9 ∧ s.fld (R.FC_CH_STATUS_ON ch) = 1 ∧ s.blk.use (R.FC_CH_SUP_VSET ch) ≠ 0) ∧
    (∃ (ch : Fin 192) (s : State), s.fld (R.FC_CH_FUNC_FUNC ch) = 9) ∧
    (∃ (ch : Fin 192) (s : State), s.fld (R.FC_CH_FUNC_FUNC ch) = 8 ∧ s.blk.runs (ch / 8) = true) ∧
    (∃ (ch : Fin 192) (s : State), s.fld (R.FC_CH_FUNC_FUNC ch) = 8 ∧ s.blk.runs (ch / 8) = true ∧ s.fld (R.FC_CH_FIN_MODE ch) < 2 ∧ s.blk.use (R.FC_CH_FIN_EDGE ch) ≠ 1) :=
  ⟨⟨9, mk [(R.FC_CH_FUNC_FUNC 9, 5), (R.FC_CH_DIN_TOP 9, 1)] (chB 9), by decide +kernel⟩,
   ⟨mk [(R.ETH_EVT_FILTx_TOP 1, 1)] allUp, by decide +kernel⟩,
   ⟨9, mk [(R.FC_CH_FUNC_FUNC 9, 5), (R.FC_CH_DIN_HEART_MS 9, 4)] (chB 9), by decide +kernel⟩,
   ⟨9, 70, mk [(R.FC_CH_FUNC_FUNC 9, 5), (R.FC_CH_DIN_STATE_OV 9, 1)] (chB 9 { inp := { ovAt := some 70 } }), by decide +kernel⟩,
   ⟨3, true, { kind := .sample, stream := 5, origin := chOrigin 17, data := [1, 0, 0, 0] }, mk [(R.FC_DCP_CFG_CH_B 3, 17)] { allUp with fab := { routes := [(chOrigin 17 * 64 + 3, 5)] } }, by decide +kernel⟩,
   ⟨mk [(R.FC_DCP_STATUS_STATE 7, 3)] allUp, by decide +kernel⟩,
   ⟨4, mk [(R.FC_DCP_CTRL_EN 4, 1), (R.FC_DCP_STATUS_STATE 4, 1)] allUp, by decide +kernel⟩,
   ⟨(mk [(R.FC_DCP_STATUS_STATE 4, 2), (R.FC_DCP_STATUS_ARMED 4, 1), (R.FC_DCP_TDISC_TDISC_MS 4, 20)]).blk, 4, 0, 0, by decide +kernel⟩,
   ⟨(mk [(R.FC_DCP_STATUS_STATE 4, 2), (R.FC_DCP_TDISC_TDISC_MS 4, 20)]).blk, 4, 0, 30000000, by decide +kernel⟩,
   ⟨mk [] allUp, by decide +kernel⟩,
   ⟨5, mk [(R.SUP_ISL_STATUS_LOST, 4)] allUp, by decide +kernel⟩,
   ⟨mk [(R.FC_DCP_CTRL_EN 3, 1), (R.FC_DCP_STATUS_STATE 3, 3)] allUp, by decide +kernel⟩,
   ⟨mk [] allUp, by decide +kernel⟩,
   ⟨9, mk [(R.FC_CH_FUNC_FUNC 9, 7), (R.FC_CH_AIN_RATIO 9, 0)] (chB 9), by decide +kernel⟩,
   ⟨9, mk [(R.FC_CH_FUNC_FUNC 9, 7), (R.FC_CH_AIN_RANGE 9, 3)] (chB 9), by decide +kernel⟩,
   ⟨9, 70, mk [(R.FC_CH_AIN_STAT_SHORT 9, 1)] (chB 9 { inp := { shuntAt := some 70 } }), by decide +kernel⟩,
   ⟨9, mk [(R.FC_CH_FUNC_FUNC 9, 8)] (chB 9 { inp := { edgeAt := some 2000, e0 := some 500, edges := 3 } }), by decide +kernel⟩,
   ⟨9, mk [(R.FC_CH_FUNC_FUNC 9, 9), (R.FC_CH_SUP_VSET 9, 2), (R.FC_CH_STATUS_ON 9, 1)] (chB 9 { core := { last := .set 1 } }), by decide +kernel⟩,
   ⟨9, mk [(R.FC_CH_FUNC_FUNC 9, 9)], by decide +kernel⟩,
   ⟨9, mk [(R.FC_CH_FUNC_FUNC 9, 8)] (chB 9), by decide +kernel⟩,
   ⟨9, mk [(R.FC_CH_FUNC_FUNC 9, 8)] (chB 9), by decide +kernel⟩⟩

/-- Each clause of TarnCommands that has hypotheses has a state and operands that meet them all. -/
theorem meets_TarnCommands :
    (∃ (p : Fin 16) (s : State), (s.blk.tarnPort p).started = true ∧ s.fld (R.TARN_STATUS_STATE p) = 6 ∧ (s.blk.tarnPort p).goes = none) ∧
    (∃ (p : Fin 16) (s : State), (s.blk.tarnPort p).started = true ∧ s.fld (R.TARN_STATUS_STATE p) = 3 ∧ (s.blk.tarnPort p).goes = none ∧ (s.blk.tarnPort p).reenum = false ∧ (s.blk.tarnPort p).stage = .idle) ∧
    (∃ (p : Fin 16) (l : List Nat) (s : State), (s.blk.tarnPort p).stage = .polling ∧ (s.blk.tarnPort p).near ≠ 0 ∧ l.length = 16) ∧
    (∃ (p : Fin 16) (f : List Nat) (n : Nat) (s : State), (s.blk.tarnPort p).stage = .polling ∧ (s.blk.tarnPort p).near ≠ 0 ∧ (s.blk.tarnPort p).nearTry = 0 ∧ tarnAnswer 2 16 (s.blk.tarnPort p).near f = none ∧ s.blk.tFits p ((s.blk.tarnPort p).nearUs + min n (119 + 2 * ((s.blk.tarnPort p).near - 1))) (s.blk.tarnPort p).near = true) ∧
    (∃ (p : Fin 16) (n : Nat) (s : State), (s.blk.tarnPort p).stage = .polling ∧ (s.blk.tarnPort p).near ≠ 0 ∧ (s.blk.tarnPort p).nearTry = 0 ∧ s.blk.tFits p ((s.blk.tarnPort p).nearUs + min n (119 + 2 * ((s.blk.tarnPort p).near - 1))) (s.blk.tarnPort p).near = true) ∧
    (∃ (p : Fin 16) (s : State), s.fld (R.TARN_STATUS_STATE p) = 3 ∧ (s.blk.tarnPort p).stage = .polling ∧ (s.blk.tarnPort p).near ≠ 0 ∧ (s.blk.tarnPort p).nearTry = 1) ∧
    (∃ (p : Fin 16) (l : List Nat) (s : State), (s.blk.tarnPort p).stage = .enumNear ∧ l.length = 16) ∧
    (∃ (p : Fin 16) (s : State), (s.blk.tarnPort p).stage = .enumNear ∧ s.blk.tRing p = false) ∧
    (∃ (p : Fin 16) (n : Nat) (r : List Nat) (s : State), (s.blk.tarnPort p).configs = n :: r) ∧
    (∃ (p : Fin 16) (n : Nat) (r : List Nat) (f : List Nat) (s : State), (s.blk.tarnPort p).configs = n :: r ∧ (s.blk.tarnPort p).cfgTried = true ∧ tarnAnswer 4 0 (n + 1) f = none) ∧
    (∃ (p : Fin 16) (c : Nat) (s : State), s.blk.tRefusal p = some c) ∧
    (∃ (p : Fin 16) (s : State), s.blk.tRefusal p = none) ∧
    (∃ (p : Fin 16) (s : State), s.fld (R.TARN_STATUS_PWR_ON p) = 1 ∧ s.blk.tPrimary p = p.val ∧ s.blk.tRing p = false) ∧
    (∃ (p : Fin 16) (t0 : Nat) (s : State), (s.blk.tarnPort p).retryEnd = some t0 ∧ s.fld (R.TARN_STATUS_STATE p) = 6 ∧ s.blk.tRing p = false) ∧
    (∃ (p : Nat) (s : State), ((List.range 16).filter fun p => s.blk.flag (R.TARN_STATUS_PWR_ON p)).getLast? = some p ∧ s.blk.tPrimary p = p) ∧
    (∃ (s : State), ((∀ p < 16, s.fld (R.TARN_STATUS_PWR_ON p) = 0))) ∧
    (∃ (p : Fin 16) (t0 : Nat) (s : State), (s.blk.tarnPort p).pwrEnd = some t0 ∧ s.fld (R.TARN_STATUS_STATE p) = 1 ∧ s.fld (R.TARN_CFG_HEADS p) ≠ 0) ∧
    (∃ (p : Fin 16) (s : State), s.blk.tRefusal p = none ∧ s.fld (R.TARN_STATUS_STATE p) = 3 ∧ (s.blk.tarnPort p).stage = .idle) ∧
    (∃ (p : Fin 16) (s : State), s.blk.tRefusal p = none ∧ s.fld (R.TARN_STATUS_STATE p) = 3 ∧ (s.blk.tarnPort p).stage = .polling) ∧
    (∃ (p : Fin 16) (s : State), s.blk.tRefusal p = none ∧ s.fld (R.TARN_STATUS_STATE p) = 5 ∧ (s.blk.tarnPort p).byStop = true ∧ s.fld (R.TARN_CFG_RING p) ≠ 2 ∧ (s.blk.tarnPort p).changed = false ∧ (s.blk.tarnPort p).reenum = false) ∧
    (∃ (p : Fin 16) (s : State), s.blk.tRefusal p = none) ∧
    (∃ (p : Fin 16) (s : State), s.blk.tRefusal p = none ∧ s.fld (R.TARN_STATUS_STATE p) = 6 ∧ s.fld (R.TARN_STATUS_PWR_LATCH p) = 1 ∧ s.blk.tRing p = false) ∧
    (∃ (p : Fin 16) (s : State), s.blk.tRefusal p = none) :=
  ⟨⟨2, mk [(R.TARN_STATUS_STATE 2, 6), (R.TARN_CFG_HEADS 2, 2)] (tarnB 2 { started := true, syncSeq := 65535 }), by decide +kernel⟩,
   ⟨2, mk [(R.TARN_STATUS_STATE 2, 3), (R.TARN_CFG_HEADS 2, 2), (R.TARN_STATUS_FOUND 2, 2)] (tarnB 2 { started := true, syncSeq := 5 }), by decide +kernel⟩,
   ⟨2, List.replicate 16 7, mk [(R.TARN_STATUS_STATE 2, 3), (R.TARN_CFG_HEADS 2, 1), (R.TARN_STATUS_FOUND 2, 1)] (tarnB 2 { started := true, stage := .polling, near := 1 }), by decide +kernel⟩,
   ⟨2, [1], 35, mk [(R.TARN_STATUS_STATE 2, 3), (R.TARN_CFG_HEADS 2, 1), (R.TARN_STATUS_FOUND 2, 1)] (tarnB 2 { started := true, stage := .polling, near := 1 }), by decide +kernel⟩,
   ⟨2, 35, mk [(R.TARN_STATUS_STATE 2, 3), (R.TARN_CFG_HEADS 2, 1), (R.TARN_STATUS_FOUND 2, 1)] (tarnB 2 { started := true, stage := .polling, near := 1 }), by decide +kernel⟩,
   ⟨2, mk [(R.TARN_STATUS_STATE 2, 3), (R.TARN_CFG_HEADS 2, 1), (R.TARN_STATUS_FOUND 2, 1)] (tarnB 2 { started := true, stage := .polling, near := 1, nearTry := 1 }), by decide +kernel⟩,
   ⟨2, [3, 4, 0, 0, 0, 0, 0, 0, 0, 0, 0, 0, 0, 0, 0, 0], mk [(R.TARN_STATUS_STATE 2, 2), (R.TARN_CFG_HEADS 2, 1)] (tarnB 2 { stage := .enumNear, near := 1 }), by decide +kernel⟩,
   ⟨2, mk [(R.TARN_STATUS_STATE 2, 2)] (tarnB 2 { stage := .enumNear, near := 1 }), by decide +kernel⟩,
   ⟨2, 4, [5], mk [(R.TARN_HEAD_STAT_CFG_FAIL 2 4, 1)] (tarnB 2 { configs := [4, 5] }), by decide +kernel⟩,
   ⟨2, 4, [5], [], mk [] (tarnB 2 { configs := [4, 5], cfgTried := true }), by decide +kernel⟩,
   ⟨2, 5, mk [(R.SUP_ISL_STATUS_LOST, 16)], by decide +kernel⟩,
   ⟨2, mk [] allUp, by decide +kernel⟩,
   ⟨2, mk [(R.TARN_STATUS_PWR_ON 2, 1)] (tarnB 2 { faults := [0, 0, 0] }), by decide +kernel⟩,
   ⟨2, 70, mk [(R.TARN_STATUS_STATE 2, 6)] (tarnB 2 { retryEnd := some 70 }), by decide +kernel⟩,
   ⟨2, mk [(R.TARN_STATUS_PWR_ON 1, 1), (R.TARN_STATUS_PWR_ON 2, 1)], by decide +kernel⟩,
   ⟨mk [], by decide +kernel⟩,
   ⟨2, 70, mk [(R.TARN_STATUS_STATE 2, 1), (R.TARN_CFG_HEADS 2, 2)] (tarnB 2 { pwrEnd := some 70 }), by decide +kernel⟩,
   ⟨2, mk [(R.TARN_STATUS_STATE 2, 3)] allUp, by decide +kernel⟩,
   ⟨2, mk [(R.TARN_STATUS_STATE 2, 3)] (tarnB 2 { stage := .polling }), by decide +kernel⟩,
   ⟨2, mk [(R.TARN_STATUS_STATE 2, 5)] (tarnB 2 { byStop := true }), by decide +kernel⟩,
   ⟨2, mk [] allUp, by decide +kernel⟩,
   ⟨2, mk [(R.TARN_STATUS_STATE 2, 6), (R.TARN_STATUS_PWR_LATCH 2, 1)] allUp, by decide +kernel⟩,
   ⟨2, mk [(R.TARN_CNT_LINK_CRC 2, 8), (R.TARN_HEAD_CNT_CRC 2 31, 8)] allUp, by decide +kernel⟩⟩

/-- Each clause of LoopEngineCommands that has hypotheses has a state and operands that meet them all. -/
theorem meets_LoopEngineCommands :
    (∃ (g : Fin 4) (s : State), s.fld R.LE_STATUS_STATE = 1 ∧ (s.blk.group g).skip = false) ∧
    (∃ (g : Fin 4) (s : State), s.fld R.LE_STATUS_STATE = 1 ∧ (s.blk.group g).skip = true) ∧
    (∃ (g : Fin 4) (s : State), s.fld R.LE_STATUS_STATE = 1 ∧ (s.blk.group g).skip = false) ∧
    (∃ (g : Fin 4) (m : Nat) (s : State), s.fld R.LE_STATUS_STATE = 1 ∧ (s.blk.group g).skip = false ∧ (s.blk.group g).startM = some m) ∧
    (∃ (p : Packet) (i : Nat) (s : State), s.blk.heard p = true ∧ s.blk.slots = [i] ∧ s.fld (R.LE_INSTi_W0_TYPE i) = 1 ∧ s.blk.use (leParam i 0) % 65536 = p.stream ∧ p.error = true) ∧
    (∃ (p : Packet) (i : Nat) (s : State), s.blk.heard p = true ∧ s.blk.slots = [i] ∧ s.fld (R.LE_INSTi_W0_TYPE i) = 1 ∧ s.blk.use (leParam i 0) % 65536 = p.stream ∧ p.error = false ∧ p.resync = true) ∧
    (∃ (c : Nat) (s : State), s.blk.leRefusal = some c) ∧
    (∃ (s : State), s.blk.leRefusal = none ∧ s.fld R.LE_STATUS_STATE = 1) ∧
    (∃ (s : State), s.fld R.LE_STATUS_STATE = 2) ∧
    (∃ (s : State), s.blk.leRefusal = none ∧ s.fld R.LE_STATUS_STATE = 0 ∧ s.blk.loop.byStop = true) ∧
    (∃ (s : State), s.blk.leRefusal = none) ∧
    (∃ (w : LoopWord) (v : BitVec 32) (c : Nat) (s : State), s.blk.leRefusal = none ∧ leWordRefusal w v.toNat s.blk = some c) ∧
    (∃ (k : Fin 65536) (v : BitVec 32) (s : State), s.blk.leRefusal = none ∧ leWordRefusal (.table k) v.toNat s.blk = none) :=
  ⟨⟨0, mk [(R.LE_STATUS_STATE, 1), (R.LE_INSTi_W0_TYPE 5, 0x10)] allUp, by decide +kernel⟩,
   ⟨1, mk [(R.LE_STATUS_STATE, 1)] { loop := { groups := List.replicate 4 { skip := true } } }, by decide +kernel⟩,
   ⟨1, mk [(R.LE_STATUS_STATE, 1)], by decide +kernel⟩,
   ⟨1, 7, mk [(R.LE_STATUS_STATE, 1)] { loop := { groups := List.replicate 4 { startM := some 7 } } }, by decide +kernel⟩,
   ⟨{ kind := .sample, stream := 7, origin := 5, error := true }, 3, mk [(R.LE_INSTi_W0_TYPE 3, 1), (leParam 3 0, 7)], by decide +kernel⟩,
   ⟨{ kind := .sample, stream := 7, origin := 5, resync := true }, 3, mk [(R.LE_INSTi_W0_TYPE 3, 1), (leParam 3 0, 7)], by decide +kernel⟩,
   ⟨5, mk [(R.SUP_ISL_STATUS_LOST, 4)], by decide +kernel⟩,
   ⟨mk [(R.LE_STATUS_STATE, 1)], by decide +kernel⟩,
   ⟨mk [(R.LE_STATUS_STATE, 2)], by decide +kernel⟩,
   ⟨mk [(R.LE_GRPg_OVR_COUNT 1, 4)] { loop := { byStop := true } }, by decide +kernel⟩,
   ⟨mk [(R.LE_GRPg_OVR_COUNT 1, 4), (R.LE_INSTi_W0_TYPE 3, 1), (R.LE_EVTi_COUNT 3, 9)], by decide +kernel⟩,
   ⟨.inst 3 0, 0xFF, 0x69, mk [], by decide +kernel⟩,
   ⟨5, 77, mk [], by decide +kernel⟩⟩

/-- Each clause of SettingSolverCommands that has hypotheses has a state and operands that meet them all. -/
theorem meets_SettingSolverCommands :
    (∃ (p : SolverPub) (s : State), s.fld R.SOL_STATUS_STATE ≠ 0 ∧ s.fld R.SOL_STATUS_STATE ≠ 2 ∧ s.blk.solRuns = true ∧ p.busy = false ∧ p.late = false ∧ s.blk.solver.waiting = none ∧ s.blk.solHeld = false) ∧
    (∃ (s : State), s.fld R.SOL_STATUS_STATE ≠ 0 ∧ s.fld R.SOL_STATUS_STATE ≠ 2 ∧ s.blk.solRuns = false) ∧
    (∃ (s : State), s.fld R.SOL_STATUS_STATE = 2) ∧
    (∃ (p : Packet) (s : State), s.blk.heard p = true ∧ p.replay = false ∧ ((∀ k < 64, 0 < k → s.fld (R.SOL_INk_SRC_STREAM k) = 0)) ∧ s.fld (R.SOL_INk_SRC_STREAM 0) = p.stream ∧ p.stream ≠ 0 ∧ p.error = false ∧ p.resync = true) ∧
    (∃ (s : State), s.fld R.SOL_STATUS_STATE = 2) ∧
    (∃ (s : State), s.fld R.SOL_STATUS_STATE = 2) ∧
    (∃ (p : Packet) (s : State), s.blk.solver.waiting = some p) ∧
    (∃ (c : Nat) (s : State), s.blk.solRefusal = some c) ∧
    (∃ (s : State), s.blk.solRefusal = none ∧ s.fld R.SOL_STATUS_STATE ≠ 2) ∧
    (∃ (s : State), s.blk.solRefusal = none ∧ s.fld R.SOL_STATUS_STATE = 2) ∧
    (∃ (s : State), s.blk.solRefusal = none ∧ s.fld R.SOL_STATUS_STATE = 0 ∧ s.blk.solver.byStop = true) ∧
    (∃ (s : State), s.blk.solRefusal = none) ∧
    (∃ (s : State), s.blk.solRefusal = none) :=
  ⟨⟨{}, mk [(R.SOL_STATUS_STATE, 1), (R.MODE_STATE_STATE, 0x20000), (R.SOL_STATUS_VARS, 2), (R.SOL_STATUS_MEAS, 2)], by decide +kernel⟩,
   ⟨mk [(R.SOL_STATUS_STATE, 3)], by decide +kernel⟩,
   ⟨mk [(R.SOL_STATUS_STATE, 2)], by decide +kernel⟩,
   ⟨{ kind := .sample, stream := 7, origin := 5, resync := true }, mk [(R.SOL_INk_SRC_STREAM 0, 7)], by decide +kernel⟩,
   ⟨mk [(R.SOL_STATUS_STATE, 2), (R.SOL_STATUS_ROWS, 3), (R.SOL_STATUS_VARS, 2)], by decide +kernel⟩,
   ⟨mk [(R.SOL_STATUS_STATE, 2), (R.SOL_STATUS_ROWS, 3), (R.SOL_STATUS_VARS, 2)], by decide +kernel⟩,
   ⟨{ kind := .sample, stream := 7, origin := 5 }, mk [] { solver := { waiting := some { kind := .sample, stream := 7, origin := 5 } } }, by decide +kernel⟩,
   ⟨5, mk [(R.SUP_ISL_STATUS_LOST, 4)], by decide +kernel⟩,
   ⟨mk [(R.SOL_STATUS_STATE, 3)], by decide +kernel⟩,
   ⟨mk [(R.SOL_STATUS_STATE, 2)], by decide +kernel⟩,
   ⟨mk [(R.SOL_STATUS_STATE, 0), (R.SOL_CNT_B_SKIPPED, 8)] { solver := { byStop := true } }, by decide +kernel⟩,
   ⟨mk [], by decide +kernel⟩,
   ⟨mk [(R.SOL_CNT_B_SKIPPED, 8)], by decide +kernel⟩⟩

/-- Each clause of SolverResultInItsBox that has hypotheses has a state and operands that meet them all. -/
theorem meets_SolverResultInItsBox :
    (∃ (i : Nat) (s : State), s.fld R.SOL_STATUS_STATE = 2 ∧ i < s.blk.solVars ∧ s.blk.solver.lo.getD i 0 ≤ s.blk.solver.hi.getD i 0) :=
  ⟨1, mk [(R.SOL_STATUS_STATE, 2), (R.SOL_STATUS_VARS, 2)] { solver := { lo := [0, 5], hi := [9, 7], anchor := [3, 4] } }, by decide +kernel⟩

/-- Each clause of FusionCommands that has hypotheses has a state and operands that meet them all. -/
theorem meets_FusionCommands :
    (∃ (s : State), (s.blk.island 3).run = .running ∧ 2 ≤ s.fld R.PWR_STATE_STATE) ∧
    (∃ (p : Packet) (s : State), (s.fld R.FUS_STATUS_STATE = 0 ∨ s.blk.heard p = false)) ∧
    (∃ (p : Packet) (i : Nat) (s : State), s.fld R.FUS_STATUS_STATE ≠ 0 ∧ s.blk.heard p = true ∧ ((List.range 16).find? fun i => s.blk.fKind i != 0 && s.fld (R.FUS_INi_SRC_STREAM i) == p.stream) = some i ∧ s.blk.fusion.closed = none ∧ s.blk.fusion.nOpen = 0) ∧
    (∃ (p : Packet) (i : Nat) (c : Nat) (s : State), s.fld R.FUS_STATUS_STATE ≠ 0 ∧ s.blk.heard p = true ∧ ((List.range 16).find? fun i => s.blk.fKind i != 0 && s.fld (R.FUS_INi_SRC_STREAM i) == p.stream) = some i ∧ s.blk.fusion.closed = some c ∧ s.blk.unstamp p.stamp + s.fld (R.FUS_INi_TIME_SPAN i) * 10 * 1000 ≤ c ∧ s.blk.fusion.nOpen = 0) ∧
    (∃ (s : State), s.fld R.FUS_STATUS_STATE = 0) ∧
    (∃ (s : State), s.fld R.FUS_STATUS_STATE ≠ 0) ∧
    (∃ (s : State), s.fld R.FUS_STATUS_STATE ≠ 0 ∧ s.blk.fusion.nOpen = 1 ∧ 2 ≤ s.fld R.PWR_STATE_STATE) ∧
    (∃ (i : Fin 16) (s : State), s.fld R.FUS_STATUS_STATE ≠ 0 ∧ s.blk.fKind i ≠ 0 ∧ s.fld (R.FUS_INi_STAT_MASKED i) = 0 ∧ s.blk.fusion.nOpen = 0) ∧
    (∃ (s : State), s.fld R.FUS_STATUS_STATE = 2) ∧
    (∃ (c : Nat) (s : State), s.blk.fRefusal = some c) ∧
    (∃ (s : State), s.blk.fRefusal = none) ∧
    (∃ (i : Fin 16) (s : State), s.blk.fRefusal = none ∧ s.fld (R.FUS_INi_STAT_MASKED i) = 0 ∧ s.blk.fusion.nOpen = 0) ∧
    (∃ (s : State), s.blk.fRefusal = none ∧ s.fld R.FUS_STATUS_STATE ≠ 0) ∧
    (∃ (s : State), s.blk.fRefusal = none ∧ s.fld R.FUS_STATUS_STATE = 0 ∧ s.blk.fusion.byStop = true) ∧
    (∃ (s : State), s.blk.fRefusal = none ∧ s.fld R.FUS_STATUS_STATE ≠ 0) ∧
    (∃ (s : State), s.blk.fRefusal = none) :=
  ⟨⟨mk [] { allUp with sys := { allUp.sys with mtime := 12000001 } }, by decide +kernel⟩,
   ⟨{ kind := .sample, stream := 7, origin := 5 }, mk [], by decide +kernel⟩,
   ⟨{ kind := .sample, stream := 7, origin := 5, stamp := 12 }, 2, mk [(R.FUS_STATUS_STATE, 2), (R.FUS_INi_SRC_STREAM 2, 7), (R.FUS_INi_SRC_KIND 2, 1)] allUp, by decide +kernel⟩,
   ⟨{ kind := .sample, stream := 7, origin := 5 }, 2, 99, mk [(R.FUS_STATUS_STATE, 2), (R.FUS_INi_SRC_STREAM 2, 7), (R.FUS_INi_SRC_KIND 2, 4)] { allUp with fusion := { closed := some 99 } }, by decide +kernel⟩,
   ⟨mk [], by decide +kernel⟩,
   ⟨mk [(R.FUS_STATUS_STATE, 2)] { allUp with sys := { allUp.sys with mtime := 12000001 } }, by decide +kernel⟩,
   ⟨mk [(R.FUS_STATUS_STATE, 2)] { allUp with fusion := { nOpen := 1, firstOpen := 5 } }, by decide +kernel⟩,
   ⟨2, mk [(R.FUS_STATUS_STATE, 2), (R.FUS_INi_SRC_STREAM 2, 7), (R.FUS_INi_SRC_KIND 2, 1)] allUp, by decide +kernel⟩,
   ⟨mk [(R.FUS_STATUS_STATE, 2)] allUp, by decide +kernel⟩,
   ⟨5, mk [(R.SUP_ISL_STATUS_LOST, 8)], by decide +kernel⟩,
   ⟨mk [(R.FUS_INi_CTRL_FORCE_MASK 2, 1)], by decide +kernel⟩,
   ⟨2, mk [], by decide +kernel⟩,
   ⟨mk [(R.FUS_STATUS_STATE, 2), (R.FUS_STATUS_OPEN, 3)] { fusion := { nOpen := 3 } }, by decide +kernel⟩,
   ⟨mk [(R.FUS_MASKED_MASK, 3), (R.FUS_INi_STAT_MASKED 2, 1)] { fusion := { byStop := true } }, by decide +kernel⟩,
   ⟨mk [(R.FUS_STATUS_STATE, 2), (R.FUS_STATUS_OPEN, 3)] { fusion := { nOpen := 3 } }, by decide +kernel⟩,
   ⟨mk [(R.FUS_CNT_EPOCH_LATE, 2), (R.FUS_INi_CNT_LATE 4, 2)], by decide +kernel⟩⟩

/-- Each clause of GnssChannelCommands that has hypotheses has a state and operands that meet them all. -/
theorem meets_GnssChannelCommands :
    (∃ (a : Fin 2) (x : Nat) (s : State), s.blk.antOn a = true ∧ s.blk.gnss.retry.getD a none = none ∧ x < 3) ∧
    (∃ (a : Fin 2) (s : State), s.blk.antOn a = true ∧ s.blk.gnss.retry.getD a none = none) ∧
    (∃ (a : Fin 2) (t0 : Nat) (s : State), s.blk.gnss.retry.getD a none = some t0) ∧
    (∃ (a : Fin 2) (x : Nat) (s : State), s.blk.antOn a = true ∧ s.blk.gnss.retry.getD a none = none ∧ 3 ≤ x ∧ x ≤ 150) ∧
    (∃ (n : Fin 384) (g : Fin 17) (s : State), s.blk.gnsRuns = true ∧ n.val < 192 ∧ s.blk.gch n = 0 ∧ s.blk.bitOf R.GNS_SIG_EN_EN g = true ∧ (sigRow g).2.2 = true ∧ s.fld (R.GNS_ANTa_STATE 0) < 2 ∧ s.blk.gnss.waits = []) ∧
    (∃ (n : Fin 384) (s : State), s.blk.gch n = 1) ∧
    (∃ (n : Fin 384) (s : State), s.blk.gch n = 1) ∧
    (∃ (n : Fin 384) (s : State), s.blk.gch n = 2 ∧ s.blk.now ≤ (s.blk.gchData n).since + 500 * 1000000) ∧
    (∃ (n : Fin 384) (s : State), s.blk.gch n = 2) ∧
    (∃ (n : Fin 384) (s : State), s.blk.gch n = 3) ∧
    (∃ (n : Fin 384) (s : State), s.blk.gch n = 4) ∧
    (∃ (a : Fin 2) (g : Fin 17) (sv : Fin 256) (w : Nat × Nat × Nat × Nat) (s : State), (s.blk.gnss.waits.find? fun w => w.1 == a.val && w.2.1 == g.val && w.2.2.1 == sv.val) = some w) ∧
    (∃ (n : Fin 384) (s : State), s.blk.gch n ≠ 0) :=
  ⟨⟨1, 2, mk [(R.GNS_ANTa_SUPPLY_EN 1, 1)] allUp, by decide +kernel⟩,
   ⟨1, mk [(R.GNS_ANTa_SUPPLY_EN 1, 1)] allUp, by decide +kernel⟩,
   ⟨1, 70, mk [] { gnss := { retry := [none, some 70] } }, by decide +kernel⟩,
   ⟨1, 20, mk [(R.GNS_ANTa_SUPPLY_EN 1, 1), (R.GNS_ANTa_STATE 1, 2)] allUp, by decide +kernel⟩,
   ⟨7, 0, mk [(R.GNS_STATUS_STATE, 1), (R.GNS_SIG_EN_EN, 1), (R.GNS_ANTa_STATE 0, 1)], by decide +kernel⟩,
   ⟨7, mk [(R.GNS_CHn_STAT_STATE 7, 1)], by decide +kernel⟩,
   ⟨200, mk [(R.GNS_CHn_STAT_STATE 200, 1), (R.GNS_CHn_STAT_SV 200, 9), (R.GNS_CHn_STAT_SIG 200, 0x10)], by decide +kernel⟩,
   ⟨7, mk [(R.GNS_CHn_STAT_STATE 7, 2)], by decide +kernel⟩,
   ⟨7, mk [(R.GNS_CHn_STAT_STATE 7, 2)], by decide +kernel⟩,
   ⟨7, mk [(R.GNS_CHn_STAT_STATE 7, 3), (R.GNS_STATUS_TRACKED, 1)], by decide +kernel⟩,
   ⟨7, mk [(R.GNS_CHn_STAT_STATE 7, 4), (R.GNS_CHn_STAT_SV 7, 9)], by decide +kernel⟩,
   ⟨1, 2, 3, (1, 2, 3, 70), mk [] { gnss := { waits := [(0, 2, 3, 5), (1, 2, 3, 70)] } }, by decide +kernel⟩,
   ⟨7, mk [(R.GNS_CHn_STAT_STATE 7, 3), (R.GNS_CHn_STAT_SV 7, 9)], by decide +kernel⟩⟩

/-- Each clause of GnssBasebandCommands that has hypotheses has a state and operands that meet them all. -/
theorem meets_GnssBasebandCommands :
    (∃ (s : State), s.blk.gnsRuns = true) ∧
    (∃ (n : Fin 384) (s : State), s.blk.gnsRuns = true ∧ s.blk.gch n = 3) ∧
    (∃ (n : Fin 384) (s : State), s.blk.gnsRuns = true ∧ s.blk.gch n = 3) ∧
    (∃ (s : State), s.blk.gnsRuns = true) ∧
    (∃ (s : State), s.blk.gnsRuns = true) ∧
    (∃ (m : Nat) (s : State), s.blk.gnsRuns = true ∧ rtcmClass m = 0) ∧
    (∃ (m : Nat) (s : State), s.blk.gnsRuns = true ∧ rtcmClass m = 2) ∧
    (∃ (s : State), s.blk.gnsRuns = true) ∧
    (∃ (s : State), s.blk.gnss.obsAt.filterMap id ≠ [] ∧ s.blk.gnss.rtkLost = false) ∧
    (∃ (a : Fin 2) (x : Fin 3) (db : Nat) (s : State), s.blk.gnsRuns = true ∧ s.blk.use R.GNS_EXCL_JAM_DB ≤ db ∧ bit s.blk.gnss.jammed (3 * a + x) = false) ∧
    (∃ (db : Nat) (s : State), s.blk.gnsRuns = true ∧ db + 1 < s.blk.use R.GNS_EXCL_JAM_DB) ∧
    (∃ (s : State), s.blk.inParked = true ∧ s.blk.pwr.refreshMin ≠ 0 ∧ (s.blk.island 3).run = .poweredDown) ∧
    (∃ (x : Nat) (s : State), s.blk.inParked = true ∧ s.blk.gnss.refresh = some x) ∧
    (∃ (s : State), s.blk.gnsRuns = true) ∧
    (∃ (c : Nat) (s : State), s.blk.gnsRefusal = some c) ∧
    (∃ (s : State), s.blk.gnsRefusal = none ∧ s.blk.gnsRuns = true) ∧
    (∃ (s : State), s.blk.gnsRefusal = none ∧ s.fld R.GNS_STATUS_STATE = 0 ∧ s.blk.gnss.byStop = true) ∧
    (∃ (s : State), s.blk.gnsRefusal = none) :=
  ⟨⟨mk [(R.GNS_STATUS_STATE, 2), (R.GNS_CHn_STAT_STATE 7, 3)] allUp, by decide +kernel⟩,
   ⟨7, mk [(R.GNS_STATUS_STATE, 2), (R.GNS_CHn_STAT_STATE 7, 3), (R.GNS_CHn_STAT_SV 7, 9)] allUp, by decide +kernel⟩,
   ⟨7, mk [(R.GNS_STATUS_STATE, 2), (R.GNS_CHn_STAT_STATE 7, 3), (R.GNS_CHn_STAT_SV 7, 9)] allUp, by decide +kernel⟩,
   ⟨mk [(R.GNS_STATUS_STATE, 2)] allUp, by decide +kernel⟩,
   ⟨mk [(R.GNS_STATUS_STATE, 2)], by decide +kernel⟩,
   ⟨9999, mk [(R.GNS_STATUS_STATE, 2)], by decide +kernel⟩,
   ⟨1077, mk [(R.GNS_STATUS_STATE, 2)], by decide +kernel⟩,
   ⟨mk [(R.GNS_STATUS_STATE, 2)], by decide +kernel⟩,
   ⟨mk [] { gnss := { obsAt := [some 5, none] } }, by decide +kernel⟩,
   ⟨1, 2, 40, mk [(R.GNS_STATUS_STATE, 2)], by decide +kernel⟩,
   ⟨0, mk [(R.GNS_STATUS_STATE, 2), (R.GNS_EXCL_JAM_DB, 6)] { gnss := { jammed := 32 } }, by decide +kernel⟩,
   ⟨mk [(R.PWR_STATE_STATE, 2)] (isl 3 .poweredDown { allUp with pwr := { refreshMin := 5 } }), by decide +kernel⟩,
   ⟨5, mk [(R.PWR_STATE_STATE, 2), (R.GNS_STATUS_STATE, 2)] { allUp with gnss := { refresh := some 5 } }, by decide +kernel⟩,
   ⟨mk [(R.GNS_STATUS_STATE, 2)] allUp, by decide +kernel⟩,
   ⟨5, mk [(R.SUP_ISL_STATUS_LOST, 8)], by decide +kernel⟩,
   ⟨mk [(R.GNS_STATUS_STATE, 2), (R.GNS_CHn_STAT_STATE 7, 3)] allUp, by decide +kernel⟩,
   ⟨mk [] { allUp with gnss := { byStop := true } }, by decide +kernel⟩,
   ⟨mk [], by decide +kernel⟩⟩

/-- Each clause of PpsCommands that has hypotheses has a state and operands that meet them all. -/
theorem meets_PpsCommands :
    (∃ (p : Pps) (q : Pps) (s : State), s.blk.ppsLive = true ∧ s.blk.gnss.pps = [p, q] ∧ p.lastSec = none ∧ q.lastSec = none ∧ s.blk.flag (R.ETH_PPSx_CFG_EN 0) = true ∧ s.blk.flag (R.ETH_PPSx_CFG_EN 1) = false ∧ s.fld (R.ETH_PPSx_CFG_GATE 0) = 0 ∧ s.fld R.SUP_MTIME_STATUS_STATE ≠ 0) ∧
    (∃ (p : Pps) (q : Pps) (s : State), s.blk.ppsLive = true ∧ s.blk.gnss.pps = [p, q] ∧ s.blk.flag (R.ETH_PPSx_CFG_EN 0) = true ∧ s.blk.flag (R.ETH_PPSx_CFG_EN 1) = false ∧ s.fld (R.ETH_PPSx_CFG_GATE 0) = 0 ∧ s.fld R.SUP_MTIME_STATUS_STATE = 0) ∧
    (∃ (s : State), s.blk.ppsLive = false) ∧
    (∃ (s : State), s.blk.ppsLive = true ∧ s.blk.flag (R.ETH_PPSx_CFG_EN 0) = true ∧ s.blk.ppsGate 0 = true) ∧
    (∃ (s : State), s.blk.isLost 4 = true) ∧
    (∃ (s : State), s.blk.isLost 4 = false) ∧
    (∃ (s : State), s.blk.isLost 4 = false) :=
  ⟨⟨{}, { width := 9 }, mk [(R.ETH_PPSx_CFG_EN 0, 1), (R.ETH_PPSx_CFG_GATE 0, 0), (R.ETH_PPSx_CFG_WIDTH_MS 0, 100), (R.SUP_MTIME_STATUS_STATE, 2)] { allUp with gnss := { pps := [{}, { width := 9 }] }, now := 5, sys := { allUp.sys with mtime := 1500000000 } }, by decide +kernel⟩,
   ⟨{}, {}, mk [(R.ETH_PPSx_CFG_EN 0, 1), (R.ETH_PPSx_CFG_GATE 0, 0)] { allUp with sys := { allUp.sys with mtime := 7 }, gnss := { pps := [{}, {}] } }, by decide +kernel⟩,
   ⟨mk [(R.ETH_PPS_STAT_RUN_A, 1), (R.ETH_PPS_STAT_RUN_B, 1)], by decide +kernel⟩,
   ⟨mk [(R.ETH_PPSx_CFG_EN 0, 1), (R.SUP_MTIME_STATUS_STATE, 2)] { allUp with gnss := { ofs := 3000000000 } }, by decide +kernel⟩,
   ⟨mk [(R.SUP_ISL_STATUS_LOST, 16)], by decide +kernel⟩,
   ⟨mk [], by decide +kernel⟩,
   ⟨mk [], by decide +kernel⟩⟩

/-- Each clause of SteeringCommands that has hypotheses has a state and operands that meet them all. -/
theorem meets_SteeringCommands :
    (∃ (c : Nat) (s : State), s.blk.gnsRefusal = some c) ∧
    (∃ (s : State), s.blk.gnsRefusal = none) ∧
    (∃ (c : Nat) (s : State), s.blk.strRefusal = some c) ∧
    (∃ (s : State), s.blk.strRefusal = none) ∧
    (∃ (b : Fin 4) (s : State), (pathCount s.mem b < 2 ∨ 16382 < pathCount s.mem b) ∧ s.blk.strRefusal = none) ∧
    (∃ (b : Fin 4) (s : State), s.blk.strRefusal = none ∧ s.blk.pathHeld s.mem b = true) ∧
    (∃ (b : Fin 4) (s : State), s.blk.strRefusal = none ∧ s.blk.pathHeld s.mem b = false) ∧
    (∃ (s : State), s.blk.strRefusal = none) ∧
    (∃ (s : State), s.blk.strRefusal = none) ∧
    (∃ (x : Nat) (s : State), s.blk.steer.engEnd = some x ∧ s.fld R.STR_STATUS_STATE = 1) ∧
    (∃ (x : Nat) (s : State), s.blk.steer.graceEnd = some x ∧ s.fld R.STR_STATUS_STATE = 3 ∧ s.blk.modeState 4 ≠ 2) ∧
    (∃ (x : Nat) (s : State), s.blk.steer.graceEnd = some x ∧ s.fld R.STR_STATUS_STATE = 3 ∧ s.blk.modeState 4 = 2) :=
  ⟨⟨5, mk [(R.SUP_ISL_STATUS_LOST, 8)], by decide +kernel⟩,
   ⟨mk [(R.GNS_CNT_A_SPOOF, 4)], by decide +kernel⟩,
   ⟨5, mk [(R.SUP_ISL_STATUS_LOST, 4)], by decide +kernel⟩,
   ⟨mk [(R.STR_PATHb_STAT_VALID 1, 1)], by decide +kernel⟩,
   ⟨3, mk [(R.STR_PATHb_STAT_VALID 3, 1)], by decide +kernel⟩,
   ⟨2, mk [(R.STR_PATH_SEL_EN, 1), (R.STR_PATH_SEL_ACTIVE, 2)], by decide +kernel⟩,
   ⟨2, mk [(R.STR_PATHb_STAT_VALID 2, 1)], by decide +kernel⟩,
   ⟨mk [], by decide +kernel⟩,
   ⟨mk [(R.STR_CNT_ENGAGES, 4)], by decide +kernel⟩,
   ⟨900, mk [(R.STR_STATUS_STATE, 1)] { steer := { engEnd := some 900 } }, by decide +kernel⟩,
   ⟨900, mk [(R.STR_STATUS_STATE, 3)] { allUp with steer := { graceEnd := some 900 } }, by decide +kernel⟩,
   ⟨900, mk [(R.STR_STATUS_STATE, 3), (R.MODE_STATE_STATE, 512)] { allUp with steer := { graceEnd := some 900 } }, by decide +kernel⟩⟩

/-- Each clause of ConvoyCommands that has hypotheses has a state and operands that meet them all. -/
theorem meets_ConvoyCommands :
    (∃ (e : Nat) (p : Nat) (s : State), s.blk.gnsRuns = true ∧ (s.blk.cvy.peer = some p ∨ s.blk.cvy.peer = none) ∧ s.blk.cvy.waiting = [e]) ∧
    (∃ (p : Nat) (q : Nat) (s : State), s.blk.gnsRuns = true ∧ s.blk.cvy.peer = some q ∧ q ≠ p ∧ s.blk.cvy.waiting = []) ∧
    (∃ (e : Nat) (p : Nat) (l : List Nat) (s : State), s.blk.cvy.waiting = e :: l ∧ s.blk.cvy.partner = some p ∧ e ≤ p + s.blk.use R.STR_CVY_CFG_EXTRAP_MS * 1000000) ∧
    (∃ (e : Nat) (p : Nat) (l : List Nat) (s : State), s.blk.cvy.waiting = e :: l ∧ s.blk.cvy.partner = some p ∧ p + s.blk.use R.STR_CVY_CFG_EXTRAP_MS * 1000000 < e) ∧
    (∃ (s : State), s.blk.gnsRuns = true ∧ s.fld R.STR_CVY_STAT_PARTNER_LOST = 0) ∧
    (∃ (c : Nat) (s : State), s.blk.cvyRefusal = some c) ∧
    (∃ (s : State), s.blk.cvyRefusal = none) ∧
    (∃ (s : State), s.blk.cvyRefusal = none) :=
  ⟨⟨44, 3, mk [(R.GNS_STATUS_STATE, 2), (R.STR_CVY_STAT_PARTNER_LOST, 1)] { cvy := { waiting := [44] } }, by decide +kernel⟩,
   ⟨3, 4, mk [(R.GNS_STATUS_STATE, 2)] { cvy := { peer := some 4, ambig := true } }, by decide +kernel⟩,
   ⟨44, 40, [50], mk [(R.STR_CVY_CFG_EXTRAP_MS, 1)] { cvy := { waiting := [44, 50], partner := some 40 } }, by decide +kernel⟩,
   ⟨44, 40, [50], mk [(R.STR_CVY_CFG_EXTRAP_MS, 0)] { cvy := { waiting := [44, 50], partner := some 40 } }, by decide +kernel⟩,
   ⟨mk [(R.GNS_STATUS_STATE, 2), (R.STR_CVY_LOSS_LOSS_MS, 5)], by decide +kernel⟩,
   ⟨5, mk [(R.SUP_ISL_STATUS_LOST, 8)], by decide +kernel⟩,
   ⟨mk [] { cvy := { ambig := true } }, by decide +kernel⟩,
   ⟨mk [(R.STR_CVY_CNT_EXTRAP, 3)], by decide +kernel⟩⟩

/-- Each clause of YieldCommands that has hypotheses has a state and operands that meet them all. -/
theorem meets_YieldCommands :
    (∃ (s : State), s.fld R.YLD_STATUS_STATE ≠ 0 ∧ (s.blk.island 1).run = .running) ∧
    (∃ (s : State), s.fld R.YLD_STATUS_STATE = 0) ∧
    (∃ (x : Nat) (s : State), s.blk.yld.drainEnd = some x ∧ s.fld R.YLD_STATUS_STATE = 3) ∧
    (∃ (c : Nat) (s : State), s.blk.yldRefusal = some c) ∧
    (∃ (s : State), s.blk.yldRefusal = none ∧ s.fld R.YLD_STATUS_STATE ≠ 0) ∧
    (∃ (s : State), s.blk.yldRefusal = none ∧ s.fld R.YLD_STATUS_STATE = 0 ∧ s.blk.yld.byStop = true) ∧
    (∃ (s : State), s.blk.yldRefusal = none) ∧
    (∃ (s : State), s.blk.yldRefusal = none) ∧
    (∃ (s : State), s.blk.yldRefusal = none ∧ s.fld R.YLD_STATUS_STATE ≠ 0) :=
  ⟨⟨mk [(R.YLD_STATUS_STATE, 2), (R.YLD_TM_B_STALE, 1)] allUp, by decide +kernel⟩,
   ⟨mk [], by decide +kernel⟩,
   ⟨900, mk [(R.YLD_STATUS_STATE, 3)] { yld := { drainEnd := some 900 } }, by decide +kernel⟩,
   ⟨5, mk [(R.SUP_ISL_STATUS_LOST, 2)], by decide +kernel⟩,
   ⟨mk [(R.YLD_STATUS_STATE, 2)], by decide +kernel⟩,
   ⟨mk [] { yld := { byStop := true, a := 5, backlog := [{ cseq := 6, pkt := { kind := .sample, stream := 1, origin := 1 }, mass := 4 }] } }, by decide +kernel⟩,
   ⟨mk [(R.YLD_CNT_LATE_COUNT, 4)] { yld := { unplaced := 7 } }, by decide +kernel⟩,
   ⟨mk [(R.YLD_STATUS_PASS, 65535)], by decide +kernel⟩,
   ⟨mk [(R.YLD_STATUS_STATE, 2)], by decide +kernel⟩⟩

/-- Each clause of TileCommands that has hypotheses has a state and operands that meet them all. -/
theorem meets_TileCommands :
    (∃ (p : Packet) (s : State), s.blk.tileRuns = true ∧ p.error = false ∧ bytesAt p.data 6 1 = 0xFF) ∧
    (∃ (p : Packet) (x : Tile) (s : State), s.blk.tileRuns = true ∧ p.error = false ∧ bytesAt p.data 6 1 ≠ 0xFF ∧ bytesAt p.data 4 2 = 1 ∧ s.blk.tile.tiles = [x] ∧ x.layer = 0 ∧ x.tx = (contributionAt p.data 0).tx ∧ x.ty = (contributionAt p.data 0).ty ∧ x.dirty = [] ∧ x.delta = []) ∧
    (∃ (s : State), s.blk.tileRuns = true) ∧
    (∃ (x : Int) (y : Int) (s : State), s.blk.tileRuns = true ∧ s.blk.isLost 1 = false ∧ (s.blk.tile.reading.any fun r => r.1 == x && r.2.1 == y) = true ∧ s.fld R.YLD_T_QSTAT_STATE ≠ 1) ∧
    (∃ (x : Int) (y : Int) (r : Int × Int × Nat) (s : State), (s.blk.tile.reading.find? fun r => r.1 == x && r.2.1 == y) = some r) ∧
    (∃ (s : State), s.blk.tileRuns = true) ∧
    (∃ (x : Tile) (s : State), s.blk.tileRuns = true ∧ s.blk.isLost 1 = false ∧ s.blk.tile.tiles = [x] ∧ x.layer = 0) ∧
    (∃ (p : Packet) (s : State), s.blk.tileRuns = true ∧ bytesAt p.data 0 4 ≠ s.fld R.YLD_T_SEASON_SEASON) ∧
    (∃ (n : Nat) (p : Packet) (s : State), s.blk.tileRuns = true ∧ bytesAt p.data 0 4 = s.fld R.YLD_T_SEASON_SEASON ∧ n ∉ s.blk.tile.senders ∧ 8 ≤ s.blk.tile.senders.length) ∧
    (∃ (p : Packet) (s : State), s.blk.tileRuns = true ∧ bytesAt p.data 0 4 = s.fld R.YLD_T_SEASON_SEASON ∧ s.blk.tile.senders = [] ∧ s.blk.tile.dseqs = []) ∧
    (∃ (c : Nat) (s : State), s.blk.tileRefusal = some c) ∧
    (∃ (s : State), s.blk.tileRefusal = none ∧ s.fld R.YLD_T_STATUS_RUN = 1) ∧
    (∃ (s : State), s.blk.tileRefusal = none ∧ s.fld R.YLD_T_STATUS_RUN = 0 ∧ s.blk.tile.byStop = true) ∧
    (∃ (s : State), s.blk.tileRefusal = none) ∧
    (∃ (s : State), s.blk.tileRefusal = none ∧ s.blk.tileRuns = true) ∧
    (∃ (s : State), s.blk.tileRefusal = none ∧ s.blk.tileRuns = true ∧ s.blk.tile.tiles = [] ∧ s.blk.tileParts = []) ∧
    (∃ (x : Tile) (s : State), s.blk.tileRefusal = none ∧ s.blk.tileRuns = true ∧ s.blk.tile.tiles = [x] ∧ x.layer = 0 ∧ x.tx = s.blk.geti R.YLD_T_QTILE_TX ∧ x.ty = s.blk.geti R.YLD_T_QTILE_TY) ∧
    (∃ (s : State), s.fld R.YLD_T_QSTAT_STATE = 0) ∧
    (∃ (s : State), s.fld R.YLD_T_QSTAT_STATE ≠ 0) :=
  ⟨⟨{ kind := .sample, stream := 9, origin := 5, data := [1, 0, 0, 0, 0, 0, 255] }, mk [(R.YLD_T_STATUS_RUN, 1)] allUp, by decide +kernel⟩,
   ⟨{ kind := .sample, stream := 9, origin := 5, data := [1, 0, 0, 0, 1, 0, 0] }, { layer := 0, tx := 0, ty := 0 }, mk [(R.YLD_T_STATUS_RUN, 1)] { allUp with tile := { tiles := [{ layer := 0, tx := 0, ty := 0 }] } }, by decide +kernel⟩,
   ⟨mk [(R.YLD_T_STATUS_RUN, 1)] { allUp with tile := { tiles := [{ layer := 0, tx := 0, ty := 0, dirty := [4] }] } }, by decide +kernel⟩,
   ⟨1, 2, mk [(R.YLD_T_STATUS_RUN, 1)] { allUp with tile := { reading := [(1, 2, 0)] } }, by decide +kernel⟩,
   ⟨1, 2, (1, 2, 40), mk [] { tile := { reading := [(1, 2, 40)] } }, by decide +kernel⟩,
   ⟨mk [(R.YLD_T_STATUS_RUN, 1), (R.YLD_T_FF_STAT2_STALE, 1)] allUp, by decide +kernel⟩,
   ⟨{ layer := 0, tx := 0, ty := 0, delta := [4] }, mk [(R.YLD_T_STATUS_RUN, 1)] { allUp with tile := { tiles := [{ layer := 0, tx := 0, ty := 0, delta := [4] }] } }, by decide +kernel⟩,
   ⟨{ kind := .sample, stream := 9, origin := 5, data := [1] }, mk [(R.YLD_T_STATUS_RUN, 1)] allUp, by decide +kernel⟩,
   ⟨4, { kind := .sample, stream := 9, origin := 5, data := [] }, mk [(R.YLD_T_STATUS_RUN, 1)] { allUp with tile := { senders := List.replicate 8 7 } }, by decide +kernel⟩,
   ⟨{ kind := .sample, stream := 9, origin := 5, data := [] }, mk [(R.YLD_T_STATUS_RUN, 1)] allUp, by decide +kernel⟩,
   ⟨5, mk [(R.SUP_ISL_STATUS_LOST, 32)], by decide +kernel⟩,
   ⟨mk [(R.YLD_T_STATUS_RUN, 1)] { allUp with tile := { tiles := [{ layer := 0, tx := 0, ty := 0, dirty := [4] }] } }, by decide +kernel⟩,
   ⟨mk [] { allUp with tile := { byStop := true, tiles := [{ layer := 0, tx := 0, ty := 0, dirty := [4] }] } }, by decide +kernel⟩,
   ⟨mk [(R.YLD_T_CNT_B_DELTAS_RX, 3)], by decide +kernel⟩,
   ⟨mk [(R.YLD_T_STATUS_RUN, 1)] { allUp with tile := { tiles := [{ layer := 0, tx := 0, ty := 0, dirty := [4] }] } }, by decide +kernel⟩,
   ⟨mk [(R.YLD_T_STATUS_RUN, 1)] allUp, by decide +kernel⟩,
   ⟨{ layer := 0, tx := 0, ty := 0 }, mk [(R.YLD_T_STATUS_RUN, 1)] { allUp with tile := { tiles := [{ layer := 0, tx := 0, ty := 0 }] } }, by decide +kernel⟩,
   ⟨mk [] { tile := { lookup := List.replicate 16 3 } }, by decide +kernel⟩,
   ⟨mk [(R.YLD_T_QSTAT_STATE, 2)] { tile := { lookup := List.replicate 16 3 } }, by decide +kernel⟩⟩

/-- Each clause of StoreDriveCommands that has hypotheses has a state and operands that meet them all. -/
theorem meets_StoreDriveCommands :
    (∃ (p : Packet) (s : State), s.blk.sst.streams.find? (·.stream == p.stream) = none) ∧
    (∃ (p : Packet) (x : StoreStream) (s : State), s.blk.sst.streams = [x] ∧ x.stream = p.stream ∧ x.t1 = true ∧ x.t2 = 0 ∧ x.t3 = false ∧ s.fld R.SST_STATUS_STATE = 4 ∧ (s.blk.island 5).run = .running) ∧
    (∃ (p : Packet) (x : StoreStream) (s : State), s.blk.sst.streams = [x] ∧ x.stream = p.stream ∧ x.t1 = true ∧ x.t2 = 0 ∧ x.t3 = false ∧ (s.fld R.SST_STATUS_STATE = 1 ∨ s.fld R.SST_STATUS_STATE = 2) ∧ (s.blk.island 5).run = .running ∧ s.fld R.SST_STATUS_LEVEL < 3 ∧ s.fld R.SST_POLICY_RECYCLE = 0) ∧
    (∃ (k : Fin 4) (s : State), (s.blk.sst.opened.getD k {}).data ≠ []) ∧
    (∃ (d : Fin 4) (q : Fin 8) (e : Fin 1024) (a : Nat) (x : StBlk) (s : State), s.blk.sst.waiting = [] ∧ s.blk.sst.cmds = [{ drive := d, queue := q, entry := e, tier := x.tier, bseq := x.bseq, at_ := a }] ∧ s.blk.sst.staged = [x] ∧ s.blk.mirrored x.tier = false) ∧
    (∃ (d : Fin 4) (q : Fin 8) (e : Fin 1024) (p : Packet) (x : StBlk) (c : StCmd) (s : State), s.blk.sst.waiting = [] ∧ s.blk.sst.reads = [] ∧ s.blk.sst.staged = [] ∧ s.blk.sst.parts = [] ∧ s.blk.sst.cmds = [c] ∧ s.blk.findCmd d q e = some c ∧ c.req = some p ∧ p.kind = .storeReq ∧ bytesAt p.data 0 1 = 1 ∧ s.blk.findBlock (bytesAt p.data 1 1) (bytesAt p.data 4 8) = some x ∧ s.blk.mirrored (bytesAt p.data 1 1) = false ∧ s.fld R.SST_STATUS_STATE ≠ 3) ∧
    (∃ (d : Fin 4) (q : Fin 8) (e : Fin 1024) (c : StCmd) (s : State), s.blk.sst.waiting = [] ∧ s.blk.findCmd d q e = some c) ∧
    (∃ (d : Fin 4) (q : Fin 8) (e : Fin 1024) (c : StCmd) (s : State), s.blk.findCmd d q e = some c ∧ 2 ≤ c.tier ∧ c.owed = false ∧ c.req = none ∧ s.fld (R.SST_Dd_STAT_STATE d) = 1) ∧
    (∃ (d : Fin 4) (q : Fin 8) (e : Fin 1024) (c : StCmd) (s : State), s.blk.findCmd d q e = some c) ∧
    (∃ (d : Fin 4) (q : Fin 8) (e : Fin 1024) (s : State), s.blk.findCmd d q e = none) ∧
    (∃ (d : Fin 4) (s : State), (s.fld (R.SST_Dd_STAT_STATE d) = 1 ∨ s.fld (R.SST_Dd_STAT_STATE d) = 2)) ∧
    (∃ (d : Fin 4) (s : State), s.fld (R.SST_Dd_STAT_STATE d) = 3 ∧ (recent s.blk.now 600000000000 (s.blk.drive d).resets).length < 3 ∧ s.blk.now ≤ (s.blk.drive d).resetAt + s.blk.use R.SST_TIMES2_CMD_TIMEOUT_MS * 1000000) ∧
    (∃ (d : Fin 4) (s : State), s.fld (R.SST_Dd_STAT_STATE d) = 3 ∧ (3 ≤ (recent s.blk.now 600000000000 (s.blk.drive d).resets).length ∨ (s.blk.drive d).resetAt + s.blk.use R.SST_TIMES2_CMD_TIMEOUT_MS * 1000000 < s.blk.now)) ∧
    (∃ (d : Fin 4) (x : Nat) (s : State), (s.blk.drive d).scan = some x ∧ s.blk.now ≤ x + s.blk.use R.SST_TIMES2_MOUNT_S * 1000000000 ∧ (s.fld (R.SST_Dd_STAT_STATE d) = 0 ∨ s.fld (R.SST_Dd_STAT_STATE d) = 4 ∨ s.fld (R.SST_Dd_STAT_STATE d) = 5)) ∧
    (∃ (d : Fin 4) (s : State), s.fld (R.SST_Dd_STAT_STATE d) = 3) ∧
    (∃ (x : StBlk) (s : State), s.blk.sst.staged.find? (2 ≤ ·.tier) = some x) ∧
    (∃ (s : State), s.fld R.SST_STATUS_STATE ≠ 0 ∧ (s.blk.island 5).run = .running ∧ s.fld R.SST_STATUS_LEVEL < 3 ∧ s.fld R.SST_T01_T01_MAX_MIB * 1048576 ≤ s.blk.t01Bytes) ∧
    (∃ (s : State), s.fld R.SST_STATUS_STATE = 1 ∧ s.blk.onlineDrives ≠ [] ∧ s.blk.setDrives = s.blk.onlineDrives ∧ s.blk.sst.lostAt = none) ∧
    (∃ (s : State), s.fld R.SST_STATUS_STATE = 1 ∧ s.blk.onlineDrives = []) ∧
    (∃ (s : State), s.fld R.SST_STATUS_STATE = 1 ∧ s.blk.onlineDrives ≠ [] ∧ s.blk.sst.lostAt = none) :=
  ⟨⟨{ kind := .sample, stream := 9, origin := 5 }, mk [], by decide +kernel⟩,
   ⟨{ kind := .sample, stream := 9, origin := 5, data := [1, 2] }, { stream := 9, t1 := true, t2 := 0, t3 := false }, mk [(R.SST_STATUS_STATE, 4)] { allUp with sst := { streams := [{ stream := 9, t1 := true, t2 := 0, t3 := false }] } }, by decide +kernel⟩,
   ⟨{ kind := .sample, stream := 9, origin := 5, data := [1, 2] }, { stream := 9, t1 := true, t2 := 0, t3 := false }, mk [(R.SST_STATUS_STATE, 2)] { allUp with sst := { streams := [{ stream := 9, t1 := true, t2 := 0, t3 := false }] } }, by decide +kernel⟩,
   ⟨1, mk [] { sst := { opened := [{}, { data := [1] }, {}, {}] } }, by decide +kernel⟩,
   ⟨1, 2, 5, 0, { tier := 2, bseq := 3, bytes := [7], close := 4, since := 5 }, mk [] { sst := { cmds := [{ drive := 1, queue := 2, entry := 5, tier := 2, bseq := 3, at_ := 0 }], staged := [{ tier := 2, bseq := 3, bytes := [7], close := 4, since := 5 }] } }, by decide +kernel⟩,
   ⟨1, 6, 5, { kind := .storeReq, stream := 0, origin := 5, data := [1, 2, 0, 0, 3] }, { tier := 2, bseq := 3, bytes := [7], close := 4, since := 5, done := [1] }, { drive := 1, queue := 6, entry := 5, tier := 0, bseq := 0, at_ := 0, req := some { kind := .storeReq, stream := 0, origin := 5, data := [1, 2, 0, 0, 3] } }, mk [(R.SST_STATUS_STATE, 2), (R.SST_Dd_STAT_STATE 1, 1)] { allUp with sst := { cmds := [{ drive := 1, queue := 6, entry := 5, tier := 0, bseq := 0, at_ := 0, req := some { kind := .storeReq, stream := 0, origin := 5, data := [1, 2, 0, 0, 3] } }], written := [{ tier := 2, bseq := 3, bytes := [7], close := 4, since := 5, done := [1] }] } }, by decide +kernel⟩,
   ⟨1, 2, 5, { drive := 1, queue := 2, entry := 5, tier := 2, bseq := 3, at_ := 0 }, mk [(R.SST_Dd_STAT_STATE 1, 1), (R.SST_STATUS_STATE, 2)] { sst := { cmds := [{ drive := 1, queue := 2, entry := 5, tier := 2, bseq := 3, at_ := 0 }] } }, by decide +kernel⟩,
   ⟨1, 2, 5, { drive := 1, queue := 2, entry := 5, tier := 2, bseq := 3, at_ := 0 }, mk [(R.SST_Dd_STAT_STATE 1, 1)] { sst := { cmds := [{ drive := 1, queue := 2, entry := 5, tier := 2, bseq := 3, at_ := 0 }] } }, by decide +kernel⟩,
   ⟨1, 2, 5, { drive := 1, queue := 2, entry := 5, tier := 2, bseq := 3, at_ := 0 }, mk [(R.SST_Dd_STAT_STATE 1, 1)] { sst := { cmds := [{ drive := 1, queue := 2, entry := 5, tier := 2, bseq := 3, at_ := 0 }] } }, by decide +kernel⟩,
   ⟨1, 2, 5, mk [], by decide +kernel⟩,
   ⟨1, mk [(R.SST_Dd_STAT_STATE 1, 2)], by decide +kernel⟩,
   ⟨1, mk [(R.SST_Dd_STAT_STATE 1, 3)], by decide +kernel⟩,
   ⟨1, mk [(R.SST_Dd_STAT_STATE 1, 3)] { sst := { drives := List.replicate 4 { resets := [0, 0, 0] } } }, by decide +kernel⟩,
   ⟨1, 3, mk [] { sst := { drives := List.replicate 4 { scan := some 3 } } }, by decide +kernel⟩,
   ⟨1, mk [(R.SST_Dd_STAT_STATE 1, 3)], by decide +kernel⟩,
   ⟨{ tier := 2, bseq := 3, bytes := [7], close := 4, since := 5 }, mk [] { sst := { staged := [{ tier := 2, bseq := 3, bytes := [7], close := 4, since := 5 }] } }, by decide +kernel⟩,
   ⟨mk [(R.SST_STATUS_STATE, 2), (R.SST_T01_T01_MAX_MIB, 0)] allUp, by decide +kernel⟩,
   ⟨mk [(R.SST_STATUS_STATE, 1), (R.SST_Dd_STAT_STATE 1, 1), (R.SST_POLICY_DRIVES, 15)], by decide +kernel⟩,
   ⟨mk [(R.SST_STATUS_STATE, 1)], by decide +kernel⟩,
   ⟨mk [(R.SST_STATUS_STATE, 1), (R.SST_Dd_STAT_STATE 1, 1), (R.SST_POLICY_DRIVES, 15)], by decide +kernel⟩⟩

/-- Each clause of StoreRequestCommands that has hypotheses has a state and operands that meet them all. -/
theorem meets_StoreRequestCommands :
    (∃ (p : Packet) (s : State), p.kind = .storeReq ∧ (s.blk.island 5).run = .running ∧ (s.blk.quiesced sstTarget = true ∨ s.fld R.SST_STATUS_STATE = 0 ∨ s.fld R.SST_STATUS_STATE = 3)) ∧
    (∃ (p : Packet) (s : State), p.kind = .storeReq ∧ (s.blk.island 5).run = .running ∧ s.blk.quiesced sstTarget = false ∧ s.fld R.SST_STATUS_STATE = 2 ∧ (bytesAt p.data 0 1 = 0 ∨ 5 < bytesAt p.data 0 1)) ∧
    (∃ (p : Packet) (s : State), p.kind = .storeReq ∧ (s.blk.island 5).run = .running ∧ s.blk.quiesced sstTarget = false ∧ (s.fld R.SST_STATUS_STATE = 1 ∨ s.fld R.SST_STATUS_STATE = 4) ∧ (bytesAt p.data 0 1 = 1 ∨ bytesAt p.data 0 1 = 2) ∧ bytesAt p.data 1 1 < 4) ∧
    (∃ (p : Packet) (x : StBlk) (d : Nat) (e : Nat) (s : State), p.kind = .storeReq ∧ (s.blk.island 5).run = .running ∧ s.blk.quiesced sstTarget = false ∧ s.fld R.SST_STATUS_STATE = 2 ∧ bytesAt p.data 0 1 = 1 ∧ bytesAt p.data 1 1 < 4 ∧ s.blk.sst.waiting.any (fun x => x.origin == p.origin) = false ∧ s.blk.findBlock (bytesAt p.data 1 1) (bytesAt p.data 4 8) = some x ∧ x.done.find? s.blk.answers = some d ∧ s.blk.freeEntry d 6 = some e) ∧
    (∃ (p : Packet) (s : State), p.kind = .storeReq ∧ (s.blk.island 5).run = .running ∧ s.blk.quiesced sstTarget = false ∧ s.fld R.SST_STATUS_STATE = 2 ∧ bytesAt p.data 0 1 = 1 ∧ bytesAt p.data 1 1 < 4 ∧ s.blk.sst.waiting.any (fun x => x.origin == p.origin) = false ∧ s.blk.findBlock (bytesAt p.data 1 1) (bytesAt p.data 4 8) = none) ∧
    (∃ (p : Packet) (x : StBlk) (s : State), p.kind = .storeReq ∧ (s.blk.island 5).run = .running ∧ s.blk.quiesced sstTarget = false ∧ s.fld R.SST_STATUS_STATE = 2 ∧ bytesAt p.data 0 1 = 1 ∧ bytesAt p.data 1 1 < 4 ∧ s.blk.sst.waiting.any (fun x => x.origin == p.origin) = false ∧ s.blk.findBlock (bytesAt p.data 1 1) (bytesAt p.data 4 8) = some x ∧ x.done.find? s.blk.answers = none) ∧
    (∃ (p : Packet) (x : StBlk) (l : List StBlk) (s : State), p.kind = .storeReq ∧ (s.blk.island 5).run = .running ∧ s.blk.quiesced sstTarget = false ∧ s.fld R.SST_STATUS_STATE = 2 ∧ bytesAt p.data 0 1 = 2 ∧ bytesAt p.data 1 1 < 4 ∧ s.blk.sst.waiting.any (fun x => x.origin == p.origin) = false ∧ s.blk.sst.written.filter (fun x => x.tier == bytesAt p.data 1 1 && decide (bytesAt p.data 4 8 ≤ x.close)) = x :: l) ∧
    (∃ (p : Packet) (s : State), p.kind = .storeReq ∧ (s.blk.island 5).run = .running ∧ s.blk.quiesced sstTarget = false ∧ s.fld R.SST_STATUS_STATE = 2 ∧ bytesAt p.data 0 1 = 3 ∧ bytesAt p.data 1 1 < 4 ∧ 17 ≤ p.data.length ∧ p.data.length ≤ 4096 ∧ s.blk.sst.waiting.any (fun x => x.origin == p.origin) = false ∧ s.blk.t01Bytes < 16777216) ∧
    (∃ (p : Packet) (s : State), p.kind = .storeReq ∧ (s.blk.island 5).run = .running ∧ s.blk.quiesced sstTarget = false ∧ s.fld R.SST_STATUS_STATE = 2 ∧ bytesAt p.data 0 1 = 3 ∧ bytesAt p.data 1 1 < 4 ∧ 17 ≤ p.data.length ∧ p.data.length ≤ 4096 ∧ (16777216 ≤ s.blk.t01Bytes ∨ s.blk.sst.waiting.any (fun x => x.origin == p.origin) = true)) ∧
    (∃ (p : Packet) (s : State), p.kind = .storeReq ∧ (s.blk.island 5).run = .running ∧ s.blk.quiesced sstTarget = false ∧ s.fld R.SST_STATUS_STATE = 2 ∧ bytesAt p.data 0 1 = 4 ∧ bytesAt p.data 1 1 ≤ 8 ∧ bytesAt p.data 2 2 = 0 ∧ p.data.length = 80 ∧ s.blk.sst.waiting.any (fun x => x.origin == p.origin) = false ∧ s.blk.t01Bytes < 16777216 ∧ s.blk.sst.parts = [] ∧ s.blk.storeWrites = true) ∧
    (∃ (p : Packet) (s : State), p.kind = .storeReq ∧ (s.blk.island 5).run = .running ∧ s.blk.quiesced sstTarget = false ∧ s.fld R.SST_STATUS_STATE = 2 ∧ bytesAt p.data 0 1 = 4 ∧ bytesAt p.data 1 1 ≤ 8 ∧ bytesAt p.data 2 2 = 0 ∧ p.data.length = 80 ∧ s.blk.sst.waiting.any (fun x => x.origin == p.origin) = false ∧ s.blk.t01Bytes < 16777216 ∧ s.blk.storeWrites = false) ∧
    (∃ (p : Packet) (x : TilePart) (d : Nat) (e : Nat) (s : State), p.kind = .storeReq ∧ (s.blk.island 5).run = .running ∧ s.blk.quiesced sstTarget = false ∧ s.fld R.SST_STATUS_STATE = 2 ∧ bytesAt p.data 0 1 = 5 ∧ bytesAt p.data 1 1 ≤ 8 ∧ bytesAt p.data 2 2 ≤ 2048 ∧ s.blk.sst.waiting.any (fun x => x.origin == p.origin) = false ∧ s.blk.findPart p.data = some x ∧ ((List.range 4).find? fun d => s.blk.bitOf R.SST_POLICY_DRIVES d && s.blk.answers d) = some d ∧ s.blk.freeEntry d 5 = some e) :=
  ⟨⟨{ kind := .storeReq, stream := 0, origin := 5 }, mk [] allUp, by decide +kernel⟩,
   ⟨{ kind := .storeReq, stream := 0, origin := 5 }, mk [(R.SST_STATUS_STATE, 2)] allUp, by decide +kernel⟩,
   ⟨{ kind := .storeReq, stream := 0, origin := 5, data := [2] }, mk [(R.SST_STATUS_STATE, 4)] allUp, by decide +kernel⟩,
   ⟨{ kind := .storeReq, stream := 0, origin := 5, data := [1, 2, 0, 0, 3] }, { tier := 2, bseq := 3, bytes := [7], close := 4, since := 5, done := [1] }, 1, 0, mk [(R.SST_STATUS_STATE, 2), (R.SST_Dd_STAT_STATE 1, 1)] { allUp with sst := { written := [{ tier := 2, bseq := 3, bytes := [7], close := 4, since := 5, done := [1] }] } }, by decide +kernel⟩,
   ⟨{ kind := .storeReq, stream := 0, origin := 5, data := [1, 2, 0, 0, 3] }, mk [(R.SST_STATUS_STATE, 2)] allUp, by decide +kernel⟩,
   ⟨{ kind := .storeReq, stream := 0, origin := 5, data := [1, 2, 0, 0, 3] }, { tier := 2, bseq := 3, bytes := [7], close := 4, since := 5, done := [1] }, mk [(R.SST_STATUS_STATE, 2), (R.SST_Dd_STAT_STATE 1, 4)] { allUp with sst := { written := [{ tier := 2, bseq := 3, bytes := [7], close := 4, since := 5, done := [1] }] } }, by decide +kernel⟩,
   ⟨{ kind := .storeReq, stream := 0, origin := 5, data := [2, 2, 0, 0, 3] }, { tier := 2, bseq := 3, bytes := [7], close := 4, since := 5, done := [1] }, [], mk [(R.SST_STATUS_STATE, 2), (R.SST_Dd_STAT_STATE 1, 1)] { allUp with sst := { written := [{ tier := 2, bseq := 3, bytes := [7], close := 4, since := 5, done := [1] }] } }, by decide +kernel⟩,
   ⟨{ kind := .storeReq, stream := 0, origin := 5, data := 3 :: List.replicate 20 0 }, mk [(R.SST_STATUS_STATE, 2)] allUp, by decide +kernel⟩,
   ⟨{ kind := .storeReq, stream := 0, origin := 5, data := 3 :: List.replicate 20 0 }, mk [(R.SST_STATUS_STATE, 2)] { allUp with sst := { staged := List.replicate 4096 { tier := 1, bseq := 3, bytes := [7], close := 4, since := 5 } } }, by decide +kernel⟩,
   ⟨{ kind := .storeReq, stream := 0, origin := 5, data := 4 :: List.replicate 79 0 }, mk [(R.SST_STATUS_STATE, 2), (R.SST_Dd_STAT_STATE 1, 1), (R.SST_POLICY_DRIVES, 15)] allUp, by decide +kernel⟩,
   ⟨{ kind := .storeReq, stream := 0, origin := 5, data := 4 :: List.replicate 79 0 }, mk [(R.SST_STATUS_STATE, 2)] allUp, by decide +kernel⟩,
   ⟨{ kind := .storeReq, stream := 0, origin := 5, data := 5 :: List.replicate 19 0 }, { season := 0, layer := 0, tx := 0, ty := 0, part := 0, bytes := [1] }, 1, 0, mk [(R.SST_STATUS_STATE, 2), (R.SST_Dd_STAT_STATE 1, 1), (R.SST_POLICY_DRIVES, 15)] { allUp with tile := { stored := [{ season := 0, layer := 0, tx := 0, ty := 0, part := 0, bytes := [1] }] } }, by decide +kernel⟩⟩

/-- Each clause of StoreControlCommands that has hypotheses has a state and operands that meet them all. -/
theorem meets_StoreControlCommands :
    (∃ (c : Nat) (s : State), s.blk.sstRefusal = some c) ∧
    (∃ (s : State), s.blk.sstRefusal = none ∧ 1 ≤ s.fld R.SST_RP_STAT_STATE ∧ s.fld R.SST_RP_STAT_STATE ≤ 4) ∧
    (∃ (s : State), s.blk.sstRefusal = none ∧ (s.fld R.SST_RP_STAT_STATE = 0 ∨ s.fld R.SST_RP_STAT_STATE = 5)) ∧
    (∃ (s : State), s.fld R.SST_RP_STAT_STATE = 1 ∧ s.blk.playable ≠ []) ∧
    (∃ (s : State), s.fld R.SST_RP_STAT_STATE = 1 ∧ s.blk.playable = []) ∧
    (∃ (s : State), s.blk.sstRefusal = none ∧ (s.fld R.SST_RP_STAT_STATE = 3 ∨ s.fld R.SST_RP_STAT_STATE = 4)) ∧
    (∃ (s : State), s.blk.sstRefusal = none ∧ s.fld R.SST_RP_STAT_STATE ≠ 3 ∧ s.fld R.SST_RP_STAT_STATE ≠ 4) ∧
    (∃ (r : StRec) (l : List StRec) (s : State), s.fld R.SST_RP_STAT_STATE = 3 ∧ s.blk.sst.play = r :: l) ∧
    (∃ (r : StRec) (l : List StRec) (w : Nat) (s : State), w ≠ 0 ∧ s.fld R.SST_RP_STAT_STATE = 3 ∧ s.blk.sst.play = r :: l) ∧
    (∃ (s : State), s.fld R.SST_RP_STAT_STATE = 3 ∧ s.blk.sst.play = []) ∧
    (∃ (s : State), s.blk.sstRefusal = none ∧ s.fld R.SST_RP_STAT_STATE ≠ 3 ∧ s.fld R.SST_RP_STAT_STATE ≠ 4 ∧ s.fld R.SST_STATUS_STATE ≠ 0) ∧
    (∃ (s : State), s.blk.sstRefusal = none ∧ s.fld R.SST_STATUS_STATE = 0 ∧ s.blk.sst.byStop = true) ∧
    (∃ (s : State), s.blk.sstRefusal = none ∧ s.blk.sst.drives.length = 4) ∧
    (∃ (s : State), s.blk.sstRefusal = none ∧ s.blk.sst.opened.length = 4) ∧
    (∃ (s : State), s.blk.sstRefusal = none) ∧
    (∃ (k : BitVec 16) (m : Fin 16) (s : State), s.blk.sstRefusal = none ∧ m.val ≠ 0 ∧ k ≠ 0xB1EF) ∧
    (∃ (m : Fin 16) (s : State), s.blk.sstRefusal = none ∧ m.val ≠ 0 ∧ s.fld R.SST_STATUS_STATE ≠ 0) ∧
    (∃ (s : State), s.blk.sstRefusal = none ∧ s.fld R.SST_STATUS_STATE = 0 ∧ ((∀ x ∈ s.blk.sst.written, ∀ d ∈ x.done, d < 4))) :=
  ⟨⟨5, mk [(R.SUP_ISL_STATUS_LOST, 32)], by decide +kernel⟩,
   ⟨mk [(R.SST_RP_STAT_STATE, 4)], by decide +kernel⟩,
   ⟨mk [(R.SST_RP_STAT_STATE, 5), (R.SST_RP_STAT_CODE, 6)], by decide +kernel⟩,
   ⟨mk [(R.SST_RP_STAT_STATE, 1), (R.SST_RP_TO_LO_NS, 50)] { sst := { streams := [{ stream := 9, t1 := true, t2 := 0, t3 := true, replay := true }], written := [{ tier := 3, bseq := 3, bytes := [7], close := 4, since := 5, done := [1] }], recs := [{ tier := 3, bseq := 3, inst := 20, p := { kind := .sample, stream := 9, origin := 5 } }] } }, by decide +kernel⟩,
   ⟨mk [(R.SST_RP_STAT_STATE, 1)], by decide +kernel⟩,
   ⟨mk [(R.SST_RP_STAT_STATE, 3)], by decide +kernel⟩,
   ⟨mk [(R.SST_RP_STAT_STATE, 2)], by decide +kernel⟩,
   ⟨{ tier := 3, bseq := 3, inst := 20, p := { kind := .sample, stream := 9, origin := 5 } }, [], mk [(R.SST_RP_STAT_STATE, 3)] { sst := { play := [{ tier := 3, bseq := 3, inst := 20, p := { kind := .sample, stream := 9, origin := 5 } }] } }, by decide +kernel⟩,
   ⟨{ tier := 3, bseq := 3, inst := 20, p := { kind := .sample, stream := 9, origin := 5 } }, [], 5000000, mk [(R.SST_RP_STAT_STATE, 3)] { sst := { play := [{ tier := 3, bseq := 3, inst := 20, p := { kind := .sample, stream := 9, origin := 5 } }] } }, by decide +kernel⟩,
   ⟨mk [(R.SST_RP_STAT_STATE, 3), (R.SST_RP_TO_LO_NS, 50)], by decide +kernel⟩,
   ⟨mk [(R.SST_STATUS_STATE, 2)], by decide +kernel⟩,
   ⟨mk [] { sst := { byStop := true } }, by decide +kernel⟩,
   ⟨mk [(R.SST_Dd_STAT_STATE 1, 4), (R.SST_Dd_STAT_STATE 2, 5)], by decide +kernel⟩,
   ⟨mk [] { sst := { opened := [{}, { data := [1] }, {}, {}] } }, by decide +kernel⟩,
   ⟨mk [(R.SST_CNT_FAULT_GAPS, 7)] { sst := { dropped := [1, 2, 3, 4] } }, by decide +kernel⟩,
   ⟨5, 1, mk [], by decide +kernel⟩,
   ⟨1, mk [(R.SST_STATUS_STATE, 2)], by decide +kernel⟩,
   ⟨mk [(R.SST_Dd_STAT_STATE 1, 4), (R.SST_Dd_STAT_STATE 2, 5), (R.SST_Dd_DEBT_BLOCKS 0, 3)] { sst := { written := [{ tier := 2, bseq := 3, bytes := [7], close := 4, since := 5, done := [1] }] } }, by decide +kernel⟩⟩

/-- Each clause of CanFrameCommands that has hypotheses has a state and operands that meet them all. -/
theorem meets_CanFrameCommands :
    (∃ (n : Fin 24) (s : State), s.fld (R.MB_STATUS_MODE n) < 2) ∧
    (∃ (n : Fin 24) (f : CanFrame) (s : State), (s.fld (R.MB_STATUS_MODE n) = 2 ∨ s.fld (R.MB_STATUS_MODE n) = 3) ∧ s.blk.mbReads n f = true ∧ (s.blk.port n).halt = none ∧ s.blk.filterOf n f = none) ∧
    (∃ (n : Fin 24) (f : CanFrame) (x : Nat) (s : State), (s.fld (R.MB_STATUS_MODE n) = 2 ∨ s.fld (R.MB_STATUS_MODE n) = 3) ∧ s.blk.mbReads n f = true ∧ (s.blk.port n).halt = none ∧ s.blk.filterOf n f = some x ∧ s.fld (R.MB_RXSTRk_STREAM n (s.blk.use (R.MB_FLTf_MASK_RXS n x))) ≠ 0 ∧ s.fld R.PWR_STATE_STATE = 3 ∧ (s.blk.port n).rx.length < 512) ∧
    (∃ (n : Fin 24) (x : CanRx) (l : List CanRx) (s : State), (s.fld (R.MB_STATUS_MODE n) = 4 ∨ s.fld (R.MB_STATUS_MODE n) = 5 ∨ (s.fld (R.MB_STATUS_MODE n) = 1 ∧ (s.blk.port n).byStop = true)) ∧ (s.blk.port n).rx = x :: l) ∧
    (∃ (n : Fin 24) (k : Nat) (i : Nat) (f : CanFrame) (s : State), s.blk.can.length = 24 ∧ (s.blk.toModule k).candidate n k = some (.que i, f) ∧ (s.blk.port n).tec ≤ 256 ∧ (s.blk.port n).halt = none ∧ (s.blk.port n).credit = []) ∧
    (∃ (n : Fin 24) (k : Nat) (s : State), (s.blk.toModule k).candidate n k = none) ∧
    (∃ (n : Fin 24) (k : Nat) (c : Fin 7) (c0 : CanSrc × CanFrame) (s : State), (s.blk.toModule k).candidate n k = some c0 ∧ c.val ≠ 0) ∧
    (∃ (n : Fin 24) (k : Nat) (c0 : CanSrc × CanFrame) (s : State), (s.blk.toModule k).candidate n k = some c0) ∧
    (∃ (n : Fin 24) (c : Fin 7) (s : State), s.fld (R.MB_STATUS_MODE n) = 4 ∧ s.fld (R.MB_STATUS_FAULT n) ≠ 2 ∧ c.val ≠ 0) ∧
    (∃ (n : Fin 24) (o : Fin 32) (p : Packet) (s : State), 2 ≤ s.fld (R.MB_STATUS_MODE n) ∧ s.fld (R.MB_OBJo_CFG_FORM n o) = 1 ∧ s.fld (R.MB_OBJo_STREAM_STREAM n o) = p.stream ∧ p.stream ≠ 0 ∧ s.blk.heard p = true ∧ frameOf p.data = none) ∧
    (∃ (n : Fin 24) (o : Fin 32) (p : Packet) (f : CanFrame) (s : State), 2 ≤ s.fld (R.MB_STATUS_MODE n) ∧ s.fld (R.MB_OBJo_CFG_FORM n o) = 1 ∧ s.fld (R.MB_OBJo_STREAM_STREAM n o) = p.stream ∧ p.stream ≠ 0 ∧ s.blk.heard p = true ∧ frameOf p.data = some f ∧ s.blk.can.length = 24 ∧ (s.blk.port n).objs.length = 32) ∧
    (∃ (n : Fin 24) (o : Fin 32) (p : Packet) (s : State), 2 ≤ s.fld (R.MB_STATUS_MODE n) ∧ 2 ≤ s.fld (R.MB_OBJo_CFG_FORM n o) ∧ s.fld (R.MB_OBJo_STREAM_STREAM n o) = p.stream ∧ p.stream ≠ 0 ∧ s.blk.heard p = true ∧ s.blk.can.length = 24 ∧ (s.blk.port n).objs.length = 32) ∧
    (∃ (n : Fin 24) (k : Fin 8) (p : Packet) (s : State), 2 ≤ s.fld (R.MB_STATUS_MODE n) ∧ s.fld (R.MB_QSTRk_STREAM n k) = p.stream ∧ p.stream ≠ 0 ∧ s.blk.heard p = true ∧ (s.blk.port n).queue.length < 32 ∧ (s.blk.port n).credit = [] ∧ frameOf p.data = none) ∧
    (∃ (n : Fin 24) (k : Fin 8) (p : Packet) (f : CanFrame) (s : State), 2 ≤ s.fld (R.MB_STATUS_MODE n) ∧ s.fld (R.MB_QSTRk_STREAM n k) = p.stream ∧ p.stream ≠ 0 ∧ s.blk.heard p = true ∧ (s.blk.port n).queue.length < 32 ∧ (s.blk.port n).credit = [] ∧ frameOf p.data = some f) ∧
    (∃ (n : Fin 24) (k : Fin 8) (p : Packet) (s : State), 2 ≤ s.fld (R.MB_STATUS_MODE n) ∧ s.fld (R.MB_QSTRk_STREAM n k) = p.stream ∧ p.stream ≠ 0 ∧ s.blk.heard p = true ∧ (32 ≤ (s.blk.port n).queue.length ∨ (s.blk.port n).credit ≠ [])) :=
  ⟨⟨3, mk [(R.MB_STATUS_MODE 3, 1)], by decide +kernel⟩,
   ⟨3, { id := 5 }, mk [(R.MB_STATUS_MODE 3, 2), (R.MB_STATUS_STUCK 3, 1)], by decide +kernel⟩,
   ⟨3, { id := 5 }, 4, mk [(R.MB_STATUS_MODE 3, 2), (R.MB_FLTf_ID_EN 3 4, 1), (R.MB_RXSTRk_STREAM 3 0, 6)], by decide +kernel⟩,
   ⟨3, { frame := { id := 5 }, rxs := 2, filter := 1, own := false, sof := 7 }, [], mk [(R.MB_STATUS_MODE 3, 4)] (canB 3 { rx := [{ frame := { id := 5 }, rxs := 2, filter := 1, own := false, sof := 7 }], lostRx := [2] }), by decide +kernel⟩,
   ⟨3, 7, 0, { id := 5 }, mk [(R.MB_STATUS_MODE 3, 4), (R.MB_SCHED_ROLE 3, 0)] (canB 3 { queue := [{ frame := { id := 5 }, pkt := { kind := .sample, stream := 9, origin := 5 } }], tec := 9 }), by decide +kernel⟩,
   ⟨3, 7, mk [], by decide +kernel⟩,
   ⟨3, 7, 2, (.que 0, { id := 5 }), mk [(R.MB_STATUS_MODE 3, 4), (R.MB_SCHED_ROLE 3, 0)] (canB 3 { queue := [{ frame := { id := 5 }, pkt := { kind := .sample, stream := 9, origin := 5 } }], tec := 9 }), by decide +kernel⟩,
   ⟨3, 7, (.que 0, { id := 5 }), mk [(R.MB_STATUS_MODE 3, 4), (R.MB_SCHED_ROLE 3, 0)] (canB 3 { queue := [{ frame := { id := 5 }, pkt := { kind := .sample, stream := 9, origin := 5 } }] }), by decide +kernel⟩,
   ⟨3, 2, mk [(R.MB_STATUS_MODE 3, 4), (R.MB_ERRCNT_REC 3, 250)], by decide +kernel⟩,
   ⟨3, 2, { kind := .sample, stream := 9, origin := 5 }, mk [(R.MB_STATUS_MODE 3, 4), (R.MB_OBJo_CFG_FORM 3 2, 1), (R.MB_OBJo_STREAM_STREAM 3 2, 9)], by decide +kernel⟩,
   ⟨3, 2, { kind := .sample, stream := 9, origin := 5, data := 5 :: List.replicate 15 0 }, { id := 5, data := [] }, mk [(R.MB_STATUS_MODE 3, 4), (R.MB_OBJo_CFG_FORM 3 2, 1), (R.MB_OBJo_STREAM_STREAM 3 2, 9)], by decide +kernel⟩,
   ⟨3, 2, { kind := .sample, stream := 9, origin := 5, data := [7] }, mk [(R.MB_STATUS_MODE 3, 4), (R.MB_OBJo_CFG_FORM 3 2, 2), (R.MB_OBJo_STREAM_STREAM 3 2, 9)], by decide +kernel⟩,
   ⟨3, 0, { kind := .sample, stream := 9, origin := 5 }, mk [(R.MB_STATUS_MODE 3, 4), (R.MB_QSTRk_STREAM 3 0, 9)], by decide +kernel⟩,
   ⟨3, 0, { kind := .sample, stream := 9, origin := 5, data := 5 :: List.replicate 15 0 }, { id := 5, data := [] }, mk [(R.MB_STATUS_MODE 3, 4), (R.MB_QSTRk_STREAM 3 0, 9)], by decide +kernel⟩,
   ⟨3, 1, { kind := .sample, stream := 9, origin := 5, data := [7] }, mk [(R.MB_STATUS_MODE 3, 4), (R.MB_QSTRk_STREAM 3 1, 9)] (canB 3 { credit := [{ kind := .sample, stream := 9, origin := 5 }] }), by decide +kernel⟩⟩

/-- Each clause of CanScheduleCommands that has hypotheses has a state and operands that meet them all. -/
theorem meets_CanScheduleCommands :
    (∃ (n : Fin 24) (f : CanFrame) (s : State), s.blk.mbReads n f = true ∧ s.blk.isRef n f = true ∧ s.fld (R.MB_SCHED_ROLE n) = 1) ∧
    (∃ (n : Fin 24) (f : CanFrame) (s : State), s.blk.mbReads n f = true ∧ s.blk.isRef n f = true ∧ s.fld (R.MB_SCHED_ROLE n) = 2 ∧ s.blk.can.length = 24) ∧
    (∃ (n : Fin 24) (o : Fin 32) (t0 : Nat) (per : Nat) (e : Nat) (y : CanObj) (s : State), s.fld (R.MB_STATUS_MODE n) = 4 ∧ s.blk.can.length = 24 ∧ (s.blk.port n).objs.length = 32 ∧ (s.blk.port n).objs.getD o {} = y ∧ y.since = some t0 ∧ s.blk.objPeriod n o = per ∧ per ≠ 0 ∧ e = t0 + ((s.blk.sys.mtime - t0 + per - 1) / per + (if y.last = some (t0 + (s.blk.sys.mtime - t0 + per - 1) / per * per) then 1 else 0)) * per) ∧
    (∃ (n : Fin 24) (s : State), s.fld (R.MB_SCHED_ROLE n) = 1 ∧ s.fld (R.MB_STATUS_MODE n) = 4 ∧ s.blk.can.length = 24 ∧ (s.blk.port n).cycle = none ∧ (s.blk.port n).ref = false ∧ s.fld (R.MB_REF2_PHASE_10US n) = 0 ∧ 0 < s.fld (R.MB_SCHED_CYCLE_10US n)) ∧
    (∃ (n : Fin 24) (s : State), (s.blk.port n).ref = true) ∧
    (∃ (n : Fin 24) (x : Nat) (s : State), (s.blk.port n).cycle = some x ∧ s.fld (R.MB_SCHED_ROLE n) = 2 ∧ s.fld (R.MB_STATUS_SYNC n) = 1 ∧ (s.blk.port n).misses = 0 ∧ s.blk.can.length = 24) ∧
    (∃ (n : Fin 24) (x : Nat) (s : State), (s.blk.port n).cycle = some x ∧ s.fld (R.MB_SCHED_ROLE n) = 2 ∧ s.fld (R.MB_STATUS_SYNC n) = 1 ∧ (s.blk.port n).misses ≠ 0 ∧ s.blk.can.length = 24) ∧
    (∃ (n : Fin 24) (s : State), s.fld (R.MB_SCHED_ROLE n) = 2 ∧ s.fld (R.MB_STATUS_SYNC n) = 2 ∧ s.fld (R.MB_STATUS_MODE n) = 4) ∧
    (∃ (n : Fin 24) (w : Fin 32) (s : State), s.blk.scheduled n = true ∧ s.fld (R.MB_STATUS_SYNC n) ≠ 2 ∧ (s.blk.port n).cycle.isSome = true ∧ (s.blk.port n).winAt.any (fun t => decide (s.blk.winStart n w ≤ t)) = false ∧ s.fld (R.MB_STATUS_MODE n) = 4 ∧ s.blk.can.length = 24 ∧ (s.blk.use (R.MB_WINw_TYPE n w) = 2 ∨ s.blk.use (R.MB_WINw_TYPE n w) = 3 ∨ (s.blk.use (R.MB_WINw_TYPE n w) = 1 ∧ s.fld (R.MB_CYCLE_COUNT n) % 2 ^ s.blk.use (R.MB_WINw_REPEAT n w) = s.blk.use (R.MB_WINw_BASE n w)))) ∧
    (∃ (n : Fin 24) (x : Nat) (s : State), (s.blk.port n).recAt = some x) ∧
    (∃ (n : Fin 24) (s : State), (s.blk.port n).counting = true) ∧
    (∃ (n : Fin 24) (s : State), 2 ≤ s.fld (R.MB_STATUS_MODE n)) ∧
    (∃ (n : Fin 24) (c : Nat) (s : State), s.blk.mbRefusal n = some c) ∧
    (∃ (n : Fin 24) (s : State), s.blk.mbRefusal n = none ∧ 2 ≤ s.fld (R.MB_STATUS_MODE n) ∧ s.blk.can.length = 24 ∧ s.blk.candidate n s.blk.sys.mtime = none ∧ (s.blk.port n).credit = []) ∧
    (∃ (n : Fin 24) (s : State), s.blk.mbRefusal n = none ∧ s.fld (R.MB_STATUS_MODE n) = 5) ∧
    (∃ (n : Fin 24) (s : State), s.blk.mbRefusal n = none ∧ s.fld (R.MB_STATUS_MODE n) = 1 ∧ (s.blk.port n).byStop = true) ∧
    (∃ (n : Fin 24) (s : State), s.blk.mbRefusal n = none ∧ 2 ≤ s.fld (R.MB_STATUS_MODE n) ∧ s.fld (R.MB_STATUS_MODE n) ≤ 4 ∧ s.blk.candidate n s.blk.sys.mtime = none) ∧
    (∃ (n : Fin 24) (s : State), s.blk.mbRefusal n = none ∧ 2 ≤ s.fld (R.MB_STATUS_MODE n) ∧ s.fld (R.MB_STATUS_MODE n) ≤ 4 ∧ s.blk.candidate n s.blk.sys.mtime ≠ none) ∧
    (∃ (n : Fin 24) (s : State), s.blk.mbRefusal n = none ∧ s.blk.candidate n s.blk.sys.mtime ≠ none) ∧
    (∃ (n : Fin 24) (s : State), s.blk.mbRefusal n = none ∧ s.blk.can.length = 24 ∧ (s.blk.port n).credit = []) ∧
    (∃ (n : Fin 24) (s : State), s.blk.mbRefusal n = none) :=
  ⟨⟨3, { id := 5, dlc := 8 }, mk [(R.MB_STATUS_MODE 3, 4), (R.MB_SCHED_ROLE 3, 1), (R.MB_REF_REF_ID 3, 5), (R.MB_REF_IDE 3, 0)], by decide +kernel⟩,
   ⟨3, { id := 5, dlc := 8, data := [3] }, mk [(R.MB_STATUS_MODE 3, 4), (R.MB_SCHED_ROLE 3, 2), (R.MB_REF_REF_ID 3, 5), (R.MB_REF_IDE 3, 0), (R.MB_SCHED_CYCLES 3, 2)], by decide +kernel⟩,
   ⟨3, 2, 5, 4000000, 4000005, { since := some 5 }, mk [(R.MB_STATUS_MODE 3, 4), (R.MB_SCHED_ROLE 3, 0), (R.MB_OBJo_CFG_PERIOD_MS 3 2, 4)] (canB 3 { objs := List.replicate 32 { since := some 5 } } { sys := { mtime := 4000000 } }), by decide +kernel⟩,
   ⟨3, mk [(R.MB_STATUS_MODE 3, 4), (R.MB_SCHED_ROLE 3, 1), (R.MB_REF2_PHASE_10US 3, 0), (R.MB_SCHED_CYCLE_10US 3, 100), (R.MB_SCHED_CYCLES 3, 2)] { sys := { mtime := 12345678 } }, by decide +kernel⟩,
   ⟨3, mk [] (canB 3 { ref := true, due := 70 }), by decide +kernel⟩,
   ⟨3, 70, mk [(R.MB_SCHED_ROLE 3, 2), (R.MB_STATUS_SYNC 3, 1), (R.MB_SCHED_CYCLE_10US 3, 100)] (canB 3 { cycle := some 70 }), by decide +kernel⟩,
   ⟨3, 70, mk [(R.MB_SCHED_ROLE 3, 2), (R.MB_STATUS_SYNC 3, 1), (R.MB_SCHED_CYCLE_10US 3, 100)] (canB 3 { cycle := some 70, misses := 1 }), by decide +kernel⟩,
   ⟨3, mk [(R.MB_STATUS_MODE 3, 4), (R.MB_SCHED_ROLE 3, 2), (R.MB_STATUS_SYNC 3, 2)], by decide +kernel⟩,
   ⟨3, 2, mk [(R.MB_STATUS_MODE 3, 4), (R.MB_SCHED_ROLE 3, 1), (R.MB_STATUS_SYNC 3, 1), (R.MB_WINw_TYPE 3 2, 2)] (canB 3 { cycle := some 70 }), by decide +kernel⟩,
   ⟨3, 70, mk [] (canB 3 { recAt := some 70 }), by decide +kernel⟩,
   ⟨3, mk [(R.MB_STATUS_MODE 3, 4)] (canB 3 { counting := true, isolate := true, tec := 7 }), by decide +kernel⟩,
   ⟨3, mk [(R.MB_STATUS_MODE 3, 4)], by decide +kernel⟩,
   ⟨3, 5, mk [(R.SUP_ISL_STATUS_LOST, 16)], by decide +kernel⟩,
   ⟨3, mk [(R.MB_STATUS_MODE 3, 3)] (canB 3 { queue := [{ frame := { id := 5 }, pkt := { kind := .sample, stream := 9, origin := 5 } }] }), by decide +kernel⟩,
   ⟨3, mk [(R.MB_STATUS_MODE 3, 5), (R.MB_SCHED_ROLE 3, 2), (R.MB_ERRCNT_TEC 3, 2)], by decide +kernel⟩,
   ⟨3, mk [(R.MB_STATUS_MODE 3, 1), (R.MB_ERRCNT_TEC 3, 2)] (canB 3 { byStop := true }), by decide +kernel⟩,
   ⟨3, mk [(R.MB_STATUS_MODE 3, 2)], by decide +kernel⟩,
   ⟨3, mk [(R.MB_STATUS_MODE 3, 4), (R.MB_SCHED_ROLE 3, 0)] (canB 3 { queue := [{ frame := { id := 5 }, pkt := { kind := .sample, stream := 9, origin := 5 } }] }), by decide +kernel⟩,
   ⟨3, mk [(R.MB_STATUS_MODE 3, 4), (R.MB_SCHED_ROLE 3, 0)] (canB 3 { queue := [{ frame := { id := 5 }, pkt := { kind := .sample, stream := 9, origin := 5 } }] }), by decide +kernel⟩,
   ⟨3, mk [(R.MB_STATUS_MODE 3, 4)] (canB 3 { queue := [{ frame := { id := 5 }, pkt := { kind := .sample, stream := 9, origin := 5 } }] }), by decide +kernel⟩,
   ⟨3, mk [(R.MB_CNT_ERR_TX 3, 4)], by decide +kernel⟩⟩

/-- Each clause of EthernetCommands that has hypotheses has a state and operands that meet them all. -/
theorem meets_EthernetCommands :
    (∃ (p : Fin 16) (s : State), s.blk.portUp p = false) ∧
    (∃ (p : Fin 16) (s : State), s.blk.portUp p = true) ∧
    (∃ (p : Fin 16) (f : EthFrame) (s : State), s.blk.portUp p = true ∧ s.blk.parked = false ∧ isPause f = true) ∧
    (∃ (p : Fin 16) (f : EthFrame) (s : State), s.blk.portUp p = true ∧ s.blk.parked = false ∧ isPause f = false ∧ 1522 < ethLen f) ∧
    (∃ (p : Fin 16) (s : State), s.blk.portUp p = true ∧ s.blk.parked = false) ∧
    (∃ (p : Fin 16) (f : EthFrame) (v : Nat) (s : State), s.blk.portUp p = true ∧ s.blk.parked = false ∧ isPause f = false ∧ s.blk.admits p f = some v ∧ f.src % 2 = 0 ∧ (s.blk.eth.macs.filter fun m => !(m.vid == (s.blk.frameClass p f).2 && m.mac == f.src)).length < 4096) ∧
    (∃ (f : EthFrame) (s : State), s.blk.ethRuns = true ∧ s.blk.eth.hostTx = [] ∧ s.blk.hostStalls f = false) ∧
    (∃ (f : EthFrame) (s : State), s.blk.ethRuns = true ∧ (s.blk.eth.hostTx ≠ [] ∨ s.blk.hostStalls f = true)) ∧
    (∃ (f : EthFrame) (s : State), 1522 < ethLen f ∧ s.blk.eth.hostTx = []) ∧
    (∃ (a : Nat) (f : EthFrame) (l : List (Nat × EthFrame)) (s : State), s.blk.eth.hostRx = (a, f) :: l ∧ s.blk.hushed ethOrigin = false ∧ s.blk.parked = false) ∧
    (∃ (p : Fin 16) (s : State), s.fld (R.ETH_Pp_STAT_LINK p) = 1 ∧ s.blk.eth.hostTx = []) ∧
    (∃ (p : Fin 16) (s : State), s.blk.ethRuns = true ∧ s.fld (R.ETH_Pp_CFG_EN p) = 1 ∧ s.fld R.PWR_STATE_STATE = 3 ∧ s.fld (R.ETH_Pp_STAT_LINK p) = 0) ∧
    (∃ (m : EthMac) (l : List EthMac) (s : State), s.blk.eth.macs = m :: l) ∧
    (∃ (p : Fin 16) (s : State), s.blk.ethRuns = true ∧ s.fld (R.ETH_Pp_CFG_EN p) = 1 ∧ s.fld (R.ETH_Pp_CFG_QBV_EN p) = 1 ∧ s.blk.eth.gates.getD p none = none ∧ s.blk.sys.mtime ≤ s.fld (R.ETH_Pp_GCL_BASE_LO_NS p) + 2 ^ 32 * s.fld (R.ETH_Pp_GCL_BASE_HI_NS p)) ∧
    (∃ (p : Fin 16) (e : Fin 64) (a : Nat) (k : Nat) (c : Nat) (g : Nat) (st : Nat) (n : Nat) (s : State), s.blk.ethRuns = true ∧ s.fld (R.ETH_Pp_CFG_EN p) = 1 ∧ s.fld (R.ETH_Pp_CFG_QBV_EN p) = 1 ∧ s.blk.eth.gates.getD p none = some (a, k, c) ∧ (s.blk.gclPlan p)[e.val]? = some (g, st, n) ∧ k < e.val ∧ n ≠ 0) ∧
    (∃ (c : Nat) (s : State), s.blk.unitRefusal ethOrigin = some c) ∧
    (∃ (s : State), s.blk.unitRefusal ethOrigin = none) ∧
    (∃ (s : State), s.blk.unitRefusal ethOrigin = none) :=
  ⟨⟨2, mk [], by decide +kernel⟩,
   ⟨2, mk [(R.ETH_Pp_CFG_EN 2, 1), (R.ETH_Pp_STAT_LINK 2, 1)] allUp, by decide +kernel⟩,
   ⟨2, { dst := 5, src := 6, body := [0x88, 8, 0, 1] }, mk [(R.ETH_Pp_CFG_EN 2, 1), (R.ETH_Pp_STAT_LINK 2, 1)] allUp, by decide +kernel⟩,
   ⟨2, { dst := 5, src := 6, body := List.replicate 1600 0 }, mk [(R.ETH_Pp_CFG_EN 2, 1), (R.ETH_Pp_STAT_LINK 2, 1)] allUp, by decide +kernel⟩,
   ⟨2, mk [(R.ETH_Pp_CFG_EN 2, 1), (R.ETH_Pp_STAT_LINK 2, 1)] allUp, by decide +kernel⟩,
   ⟨2, { dst := 5, src := 6 }, 0, mk [(R.ETH_Pp_CFG_EN 2, 1), (R.ETH_Pp_STAT_LINK 2, 1), (R.ETH_VLANv_EN 0, 1), (R.ETH_VLANv_VID 0, 1), (R.ETH_VLANv_MEMBERS 0, 131071), (R.ETH_Pp_CFG_PVID 2, 1)] allUp, by decide +kernel⟩,
   ⟨{ dst := 5, src := 6 }, mk [(R.ETH_Pp_CFG_EN 2, 1), (R.ETH_Pp_STAT_LINK 2, 1), (R.ETH_VLANv_EN 0, 1), (R.ETH_VLANv_VID 0, 1), (R.ETH_VLANv_MEMBERS 0, 131071), (R.ETH_Pp_CFG_PVID 2, 1)] allUp, by decide +kernel⟩,
   ⟨{ dst := 5, src := 6 }, mk [(R.ETH_Pp_CFG_EN 2, 1), (R.ETH_Pp_STAT_LINK 2, 1), (R.ETH_VLANv_EN 0, 1), (R.ETH_VLANv_VID 0, 1), (R.ETH_VLANv_MEMBERS 0, 131071), (R.ETH_Pp_CFG_PVID 2, 1)] { allUp with eth := { hostTx := [{ dst := 7, src := 8 }] } }, by decide +kernel⟩,
   ⟨{ dst := 5, src := 6, body := List.replicate 1600 0 }, mk [(R.ETH_Pp_CFG_EN 2, 1), (R.ETH_Pp_STAT_LINK 2, 1)] allUp, by decide +kernel⟩,
   ⟨7, { dst := 5, src := 6 }, [], mk [] { allUp with eth := { hostRx := [(7, { dst := 5, src := 6 })] } }, by decide +kernel⟩,
   ⟨2, mk [(R.ETH_Pp_CFG_EN 2, 1), (R.ETH_Pp_STAT_LINK 2, 1)] allUp, by decide +kernel⟩,
   ⟨2, mk [(R.ETH_Pp_CFG_EN 2, 1)] allUp, by decide +kernel⟩,
   ⟨{ vid := 1, mac := 2, port := 3, seen := 50 }, [{ vid := 1, mac := 4, port := 3, seen := 40 }], mk [] { eth := { macs := [{ vid := 1, mac := 2, port := 3, seen := 50 }, { vid := 1, mac := 4, port := 3, seen := 40 }] } }, by decide +kernel⟩,
   ⟨2, mk [(R.ETH_Pp_CFG_EN 2, 1), (R.ETH_Pp_STAT_LINK 2, 1), (R.ETH_Pp_CFG_QBV_EN 2, 1), (R.ETH_Pp_GCL_BASE_LO_NS 2, 500)] allUp, by decide +kernel⟩,
   ⟨2, 1, 70, 0, 60, 255, 100, 9900, mk [(R.ETH_Pp_CFG_EN 2, 1), (R.ETH_Pp_STAT_LINK 2, 1), (R.ETH_Pp_CFG_QBV_EN 2, 1), (R.ETH_Pp_GCL_CFG_ENTRIES 2, 2), (R.ETH_Pp_GCL_CFG_CYCLE_US 2, 10), (gclGates 2 1, 255)] { allUp with eth := { gates := (List.replicate 16 none).set 2 (some (70, 0, 60)) } }, by decide +kernel⟩,
   ⟨5, mk [(R.SUP_ISL_STATUS_LOST, 16)] allUp, by decide +kernel⟩,
   ⟨mk [(R.ETH_Pp_CNT_RX_COUNT 2, 7)] allUp, by decide +kernel⟩,
   ⟨mk [] { allUp with eth := { macs := [{ vid := 1, mac := 2, port := 3, seen := 50 }] } }, by decide +kernel⟩⟩

/-- Each clause of GptpCommands that has hypotheses has a state and operands that meet them all. -/
theorem meets_GptpCommands :
    (∃ (s : State), s.blk.ethRuns = true ∧ s.fld R.SUP_MTIME_STATUS_STATE = 0) ∧
    (∃ (s : State), s.blk.ethRuns = true ∧ s.fld R.SUP_MTIME_STATUS_STATE ≠ 0) ∧
    (∃ (s : State), s.blk.ethRuns = true) ∧
    (∃ (s : State), s.blk.ethRuns = true ∧ s.fld R.SUP_MTIME_STATUS_STATE ≠ 0) ∧
    (∃ (p : Fin 16) (s : State), s.blk.asPorts.contains p.val = true) ∧
    (∃ (p : Fin 16) (s : State), s.blk.asPorts.contains p.val = true) ∧
    (∃ (s : State), s.blk.ethRuns = true ∧ s.fld R.ETH_TQ_CFG_EN = 1 ∧ s.fld (R.ETH_PPSx_CFG_EN 0) = 1 ∧ s.blk.gnss.reportSec = (s.blk.sys.mtime / 1000000000 + 1) % 2 ^ 32 ∧ s.blk.eth.tqSec ≠ some s.blk.gnss.reportSec) ∧
    (∃ (s : State), s.blk.ethRuns = true) :=
  ⟨⟨mk [(R.ETH_STATUS_GM, 1)] allUp, by decide +kernel⟩,
   ⟨mk [(R.ETH_Pp_CFG_EN 2, 1), (R.ETH_Pp_STAT_LINK 2, 1), (R.ETH_Pp_CFG_AS_EN 2, 1), (R.SUP_MTIME_STATUS_STATE, 2)] allUp, by decide +kernel⟩,
   ⟨mk [(R.ETH_Pp_CFG_EN 2, 1), (R.ETH_Pp_STAT_LINK 2, 1), (R.ETH_Pp_CFG_AS_EN 2, 1), (R.SUP_MTIME_STATUS_STATE, 2)] allUp, by decide +kernel⟩,
   ⟨mk [(R.ETH_Pp_CFG_EN 2, 1), (R.ETH_Pp_STAT_LINK 2, 1), (R.ETH_Pp_CFG_AS_EN 2, 1), (R.SUP_MTIME_STATUS_STATE, 2)] allUp, by decide +kernel⟩,
   ⟨2, mk [(R.ETH_Pp_CFG_EN 2, 1), (R.ETH_Pp_STAT_LINK 2, 1), (R.ETH_Pp_CFG_AS_EN 2, 1)] allUp, by decide +kernel⟩,
   ⟨2, mk [(R.ETH_Pp_CFG_EN 2, 1), (R.ETH_Pp_STAT_LINK 2, 1), (R.ETH_Pp_CFG_AS_EN 2, 1)] allUp, by decide +kernel⟩,
   ⟨mk [(R.ETH_TQ_CFG_EN, 1), (R.ETH_PPSx_CFG_EN 0, 1), (R.ETH_Pp_CFG_EN 2, 1), (R.ETH_Pp_STAT_LINK 2, 1), (R.ETH_TQ_CFG_PORTS, 4)] { allUp with gnss := { reportSec := 1 } }, by decide +kernel⟩,
   ⟨mk [] { allUp with sys := { allUp.sys with mtime := 77 } }, by decide +kernel⟩⟩

/-- Each clause of FleetCommands that has hypotheses has a state and operands that meet them all. -/
theorem meets_FleetCommands :
    (∃ (s : State), s.fld R.EHR_STATUS_STATE ≠ 0 ∧ s.blk.ehrLinked = true) ∧
    (∃ (n : Fin 16) (s : State), s.blk.ehrRefusal = none ∧ s.blk.badPeer n = true) ∧
    (∃ (n : Fin 16) (s : State), s.blk.ehrRefusal = none ∧ s.blk.badPeer n = false ∧ s.fld (R.EHR_PEERn_CFG_EN n) = 0 ∧ s.blk.isClient n = false) ∧
    (∃ (n : Fin 16) (s : State), s.blk.ehrRefusal = none ∧ s.blk.badPeer n = false ∧ s.fld (R.EHR_PEERn_CFG_EN n) = 0 ∧ s.blk.isClient n = true ∧ s.fld R.EHR_STATUS_STATE ≠ 0 ∧ s.fld R.SUP_MTIME_STATUS_STATE ≠ 0) ∧
    (∃ (n : Fin 16) (s : State), s.blk.ehrRefusal = none ∧ s.fld (R.EHR_PEERn_CFG_EN n) = 1) ∧
    (∃ (n : Fin 16) (s : State), s.fld R.EHR_STATUS_STATE ≠ 0 ∧ s.blk.ehrLinked = true ∧ s.fld (R.EHR_PEERn_CFG_EN n) = 1 ∧ s.fld R.SUP_MTIME_STATUS_STATE ≠ 0 ∧ s.blk.isClient n = false ∧ s.fld (R.EHR_PEERn_STAT_STATE n) = 0) ∧
    (∃ (n : Fin 16) (s : State), s.fld R.EHR_STATUS_STATE ≠ 0 ∧ s.blk.ehrLinked = true ∧ s.fld (R.EHR_PEERn_CFG_EN n) = 1 ∧ s.fld R.SUP_MTIME_STATUS_STATE ≠ 0 ∧ s.blk.isClient n = false ∧ s.fld (R.EHR_PEERn_STAT_STATE n) = 2) ∧
    (∃ (n : Fin 16) (ch : List FleetCert) (tr : List Nat) (ve : List Nat) (s : State), s.blk.handshaking n = true ∧ s.blk.ehrLinked = true ∧ s.blk.ehr.sessions.length = 16 ∧ s.blk.certVerdict n ch tr ve = 0) ∧
    (∃ (n : Fin 16) (ch : List FleetCert) (tr : List Nat) (ve : List Nat) (s : State), s.fld (R.EHR_PEERn_STAT_STATE n) = 1 ∧ s.blk.ehrLinked = true ∧ s.blk.certVerdict n ch tr ve ≠ 0) ∧
    (∃ (n : Fin 16) (ch : List FleetCert) (tr : List Nat) (ve : List Nat) (s : State), s.fld (R.EHR_PEERn_STAT_STATE n) = 2 ∧ (s.blk.session n).renew = true ∧ s.blk.ehrLinked = true ∧ s.blk.certVerdict n ch tr ve ≠ 0) ∧
    (∃ (n : Fin 16) (s : State), s.fld (R.EHR_PEERn_STAT_STATE n) = 1) ∧
    (∃ (n : Fin 16) (s : State), s.fld (R.EHR_PEERn_STAT_STATE n) = 1) ∧
    (∃ (n : Fin 16) (s : State), s.fld (R.EHR_PEERn_STAT_STATE n) = 3 ∧ s.fld R.EHR_STATUS_STATE ≠ 0 ∧ s.fld (R.EHR_PEERn_CFG_EN n) = 1 ∧ s.fld R.SUP_MTIME_STATUS_STATE ≠ 0) ∧
    (∃ (n : Fin 16) (s : State), s.fld (R.EHR_PEERn_STAT_STATE n) = 2) ∧
    (∃ (s : State), s.fld R.EHR_STATUS_STATE = 1) ∧
    (∃ (n : Fin 16) (s : State), s.fld (R.EHR_PEERn_STAT_STATE n) = 2 ∧ (s.blk.session n).records < 2 ^ 24) ∧
    (∃ (n : Fin 16) (num : Nat) (s : State), s.fld R.EHR_STATUS_STATE ≠ 0 ∧ (s.blk.island 1).run = .running ∧ s.blk.ehrLinked = true ∧ s.fld (R.EHR_PEERn_STAT_STATE n) = 2 ∧ (s.blk.session n).fresh num = true ∧ s.blk.isClient n = false) ∧
    (∃ (n : Fin 16) (num : Nat) (s : State), s.fld R.EHR_STATUS_STATE ≠ 0 ∧ (s.blk.island 1).run = .running ∧ s.blk.ehrLinked = true ∧ s.fld (R.EHR_PEERn_STAT_STATE n) = 2 ∧ (s.blk.session n).fresh num = true ∧ s.blk.isClient n = true ∧ s.fld (R.EHR_PEERn_CFG_EN n) = 1 ∧ s.fld R.SUP_MTIME_STATUS_STATE ≠ 0) ∧
    (∃ (n : Fin 16) (num : Nat) (fr : List Nat) (s : State), s.fld R.EHR_STATUS_STATE ≠ 0 ∧ (s.blk.island 1).run = .running ∧ s.blk.ehrLinked = true ∧ s.fld (R.EHR_PEERn_STAT_STATE n) = 2 ∧ (s.blk.session n).fresh num = true ∧ fr.length < 28) ∧
    (∃ (n : Fin 16) (x : EhrFrag) (l : List EhrFrag) (s : State), (s.blk.session n).frags = x :: l) ∧
    (∃ (c : Fin 8) (p : Packet) (s : State), s.fld R.EHR_STATUS_STATE ≠ 0 ∧ (s.blk.island 1).run = .running ∧ p.replay = false ∧ s.blk.heard p = true ∧ 5 ≤ c.val ∧ s.blk.peersFor c = []) ∧
    (∃ (c : Fin 8) (p : Packet) (s : State), s.fld R.EHR_STATUS_STATE ≠ 0 ∧ (s.blk.island 1).run = .running ∧ p.replay = false ∧ s.blk.heard p = true ∧ 3 ≤ c.val ∧ c.val < 5 ∧ s.blk.peersFor c = []) ∧
    (∃ (c : Fin 8) (n : Nat) (p : Packet) (s : State), s.fld R.EHR_STATUS_STATE ≠ 0 ∧ (s.blk.island 1).run = .running ∧ p.replay = false ∧ s.blk.heard p = true ∧ s.blk.ehrLinked = true ∧ 2 ≤ c.val ∧ c.val < 5 ∧ ((c.val = 2 → p.data.getD 13 0 ≤ p.data.getD 12 0 + 1)) ∧ s.blk.peersFor c = [n]) ∧
    (∃ (n : Nat) (p : Packet) (s : State), s.fld R.EHR_STATUS_STATE ≠ 0 ∧ (s.blk.island 1).run = .running ∧ p.replay = false ∧ s.blk.heard p = true ∧ s.blk.ehrLinked = true ∧ s.blk.peersFor 3 = [n]) ∧
    (∃ (c : Fin 8) (n : Nat) (p : Packet) (s : State), s.fld R.EHR_STATUS_STATE ≠ 0 ∧ (s.blk.island 1).run = .running ∧ p.replay = false ∧ s.blk.heard p = true ∧ s.blk.ehrLinked = true ∧ s.blk.ehr.sessions.length = 16 ∧ 5 ≤ c.val ∧ s.blk.peersFor c = [n] ∧ ((s.blk.session n).held.filter fun h => h.cls == c.val).length < 64 ∧ (s.blk.ehr.waiting.any fun w => w.1 == c.val) = false) ∧
    (∃ (c : Fin 8) (n : Nat) (p : Packet) (s : State), s.fld R.EHR_STATUS_STATE ≠ 0 ∧ (s.blk.island 1).run = .running ∧ p.replay = false ∧ s.blk.heard p = true ∧ 5 ≤ c.val ∧ s.blk.peersFor c = [n] ∧ 64 ≤ ((s.blk.session n).held.filter fun h => h.cls == c.val).length) ∧
    (∃ (n : Fin 16) (h : EhrHeld) (s : State), s.fld (R.EHR_PEERn_STAT_STATE n) = 2 ∧ s.blk.ehrLinked = true ∧ (s.blk.session n).held = [h] ∧ h.sends < 8) ∧
    (∃ (n : Fin 16) (h : EhrHeld) (s : State), s.fld (R.EHR_PEERn_STAT_STATE n) = 2 ∧ (s.blk.session n).held = [h] ∧ 8 ≤ h.sends ∧ h.cls ≠ 7 ∧ s.blk.ehr.waiting = []) ∧
    (∃ (s : State), s.blk.isLost 1 = true) ∧
    (∃ (s : State), s.blk.isLost 1 = false) ∧
    (∃ (s : State), s.blk.isLost 1 = false ∧ s.fld R.EHR_STATUS_STATE = 0) ∧
    (∃ (s : State), s.blk.isLost 1 = false) :=
  ⟨⟨mk (netUp ++ []) allUp, by decide +kernel⟩,
   ⟨2, mk [], by decide +kernel⟩,
   ⟨2, mk [(R.EHR_PEERn_UID_LO_SENDER 2, 5), (R.EHR_SENDER_LO_SENDER, 9), (R.EHR_PEERn_ADDRm_ADDR 2 0, 1)], by decide +kernel⟩,
   ⟨2, mk (netUp ++ [(R.EHR_PEERn_UID_LO_SENDER 2, 5), (R.EHR_PEERn_ADDRm_ADDR 2 0, 1)]), by decide +kernel⟩,
   ⟨2, mk [(R.EHR_PEERn_CFG_EN 2, 1), (R.EHR_PEERn_STAT_STATE 2, 2)], by decide +kernel⟩,
   ⟨2, mk (netUp ++ [(R.EHR_PEERn_CFG_EN 2, 1)]) allUp, by decide +kernel⟩,
   ⟨2, mk (netUp ++ [(R.EHR_PEERn_CFG_EN 2, 1), (R.EHR_PEERn_STAT_STATE 2, 2)]) allUp, by decide +kernel⟩,
   ⟨2, [fleetCert], [2], fleetSig, mk (netUp ++ [(R.EHR_PEERn_CFG_EN 2, 1), (R.EHR_PEERn_STAT_STATE 2, 1), (R.EHR_PEERn_UID_LO_SENDER 2, 2640658606), (R.EHR_PEERn_UID_HI_SENDER 2, 3728480673)]) { allUp with upd := { anchors := [fleetKey] } }, by decide +kernel⟩,
   ⟨2, [], [2], fleetSig, mk (netUp ++ [(R.EHR_PEERn_CFG_EN 2, 1), (R.EHR_PEERn_STAT_STATE 2, 1), (R.EHR_PEERn_UID_LO_SENDER 2, 2640658606), (R.EHR_PEERn_UID_HI_SENDER 2, 3728480673)]) allUp, by decide +kernel⟩,
   ⟨2, [], [2], fleetSig, mk (netUp ++ [(R.EHR_PEERn_CFG_EN 2, 1), (R.EHR_PEERn_STAT_STATE 2, 2)]) (ehrB 2 { renew := true }), by decide +kernel⟩,
   ⟨2, mk [(R.EHR_PEERn_STAT_STATE 2, 1), (R.EHR_PEERn_UID_LO_SENDER 2, 5)], by decide +kernel⟩,
   ⟨2, mk [(R.EHR_PEERn_STAT_STATE 2, 1)], by decide +kernel⟩,
   ⟨2, mk [(R.EHR_PEERn_STAT_STATE 2, 3), (R.EHR_STATUS_STATE, 1), (R.EHR_PEERn_CFG_EN 2, 1), (R.SUP_MTIME_STATUS_STATE, 2)], by decide +kernel⟩,
   ⟨2, mk [(R.EHR_PEERn_STAT_STATE 2, 2)], by decide +kernel⟩,
   ⟨mk (netUp ++ [(R.EHR_PEERn_STAT_STATE 2, 2)]) allUp, by decide +kernel⟩,
   ⟨2, mk [(R.EHR_PEERn_STAT_STATE 2, 2)], by decide +kernel⟩,
   ⟨2, 4, mk (netUp ++ [(R.EHR_PEERn_CFG_EN 2, 1), (R.EHR_PEERn_STAT_STATE 2, 2)]) allUp, by decide +kernel⟩,
   ⟨2, 4, mk (netUp ++ [(R.EHR_PEERn_CFG_EN 2, 1), (R.EHR_PEERn_STAT_STATE 2, 2), (R.EHR_PEERn_UID_LO_SENDER 2, 5)]) allUp, by decide +kernel⟩,
   ⟨2, 4, [1], mk (netUp ++ [(R.EHR_PEERn_CFG_EN 2, 1), (R.EHR_PEERn_STAT_STATE 2, 2)]) allUp, by decide +kernel⟩,
   ⟨2, { cls := 5, seq := 6, total := 7, count := 2, parts := [], since := 8 }, [], mk [] (ehrB 2 { frags := [{ cls := 5, seq := 6, total := 7, count := 2, parts := [], since := 8 }] }), by decide +kernel⟩,
   ⟨6, { kind := .sample, stream := 9, origin := 5 }, mk (netUp ++ []) allUp, by decide +kernel⟩,
   ⟨4, { kind := .sample, stream := 9, origin := 5 }, mk (netUp ++ []) allUp, by decide +kernel⟩,
   ⟨4, 2, { kind := .sample, stream := 9, origin := 5 }, mk (netUp ++ [(R.EHR_PEERn_STAT_STATE 2, 2), (R.EHR_PEERn_CFG_ROLE 2, 255)]) allUp, by decide +kernel⟩,
   ⟨2, { kind := .sample, stream := 9, origin := 5 }, mk (netUp ++ [(R.EHR_PEERn_STAT_STATE 2, 2), (R.EHR_PEERn_CFG_ROLE 2, 255), (R.EHR_CFG_CVY_PEER, 2)]) allUp, by decide +kernel⟩,
   ⟨5, 2, { kind := .sample, stream := 9, origin := 5 }, mk (netUp ++ [(R.EHR_PEERn_STAT_STATE 2, 2), (R.EHR_PEERn_CFG_ROLE 2, 255)]) allUp, by decide +kernel⟩,
   ⟨5, 2, { kind := .sample, stream := 9, origin := 5 }, mk (netUp ++ [(R.EHR_PEERn_STAT_STATE 2, 2), (R.EHR_PEERn_CFG_ROLE 2, 255)]) (ehrB 2 { held := List.replicate 64 { cls := 5, seq := 6, payload := [7] } }), by decide +kernel⟩,
   ⟨2, { cls := 5, seq := 6, payload := [7] }, mk (netUp ++ [(R.EHR_PEERn_STAT_STATE 2, 2)]) (ehrB 2 { held := [{ cls := 5, seq := 6, payload := [7] }] }), by decide +kernel⟩,
   ⟨2, { cls := 5, seq := 6, payload := [7], sends := 8 }, mk (netUp ++ [(R.EHR_PEERn_STAT_STATE 2, 2)]) (ehrB 2 { held := [{ cls := 5, seq := 6, payload := [7], sends := 8 }] }), by decide +kernel⟩,
   ⟨mk [(R.SUP_ISL_STATUS_LOST, 2)], by decide +kernel⟩,
   ⟨mk [(R.EHR_STATUS_STATE, 1), (R.EHR_PEERn_STAT_STATE 2, 2)], by decide +kernel⟩,
   ⟨mk [], by decide +kernel⟩,
   ⟨mk [(R.EHR_CNT_B_LOST, 3), (R.EHR_PEERn_RX_COUNT 2, 3)], by decide +kernel⟩⟩

/-- Each clause of DisplayCommands that has hypotheses has a state and operands that meet them all. -/
theorem meets_DisplayCommands :
    (∃ (n : Fin 2) (s : State), s.blk.dspLive n = false) ∧
    (∃ (n : Fin 2) (s : State), s.blk.dspLive n = true ∧ (s.fld (R.DSP_Pn_STATUS_STATE n) = 2 ∨ s.fld (R.DSP_Pn_STATUS_STATE n) = 3)) ∧
    (∃ (n : Fin 2) (s : State), s.blk.dspLive n = true ∧ s.fld (R.DSP_Pn_STATUS_STATE n) ≠ 2 ∧ s.fld (R.DSP_Pn_STATUS_STATE n) ≠ 3) ∧
    (∃ (c : Nat) (s : State), s.blk.unitRefusal (org 1 2 127) = some c) ∧
    (∃ (n : Fin 2) (s : State), s.blk.unitRefusal (org 1 2 127) = none ∧ s.fld (R.DSP_Pn_STATUS_STATE n) = 0 ∧ s.blk.dspLive n = true) ∧
    (∃ (n : Fin 2) (s : State), s.blk.unitRefusal (org 1 2 127) = none ∧ 1 ≤ s.fld (R.DSP_Pn_STATUS_STATE n) ∧ s.fld (R.DSP_Pn_STATUS_STATE n) ≤ 3 ∧ s.blk.dsp.length = 2) ∧
    (∃ (n : Fin 2) (s : State), s.fld (R.DSP_Pn_STATUS_STATE n) = 1 ∧ s.blk.dsp.length = 2) ∧
    (∃ (n : Fin 2) (s : State), s.fld (R.DSP_Pn_STATUS_STATE n) = 2 ∧ s.blk.dsp.length = 2) ∧
    (∃ (n : Fin 2) (s : State), s.fld (R.DSP_Pn_STATUS_STATE n) = 4 ∧ (s.blk.panel n).idle = false ∧ s.blk.dsp.length = 2) ∧
    (∃ (n : Fin 2) (s : State), s.fld (R.DSP_Pn_STATUS_STATE n) = 4 ∧ (s.blk.panel n).idle = true ∧ (s.blk.panel n).offAt = none ∧ s.blk.dsp.length = 2) ∧
    (∃ (n : Fin 2) (s : State), s.fld (R.DSP_Pn_STATUS_STATE n) = 5 ∧ s.blk.dspWanted n = false) ∧
    (∃ (n : Fin 2) (s : State), s.fld (R.DSP_Pn_STATUS_STATE n) = 5 ∧ s.blk.dspWanted n = true) ∧
    (∃ (n : Fin 2) (x : Nat) (s : State), s.blk.dspLive n = true ∧ (x < 100 ∨ 1000000 < x)) ∧
    (∃ (n : Fin 2) (x : Nat) (s : State), s.blk.dspLive n = true ∧ 100 ≤ x ∧ x ≤ 1000000 ∧ s.fld (R.DSP_Pn_STATUS_TEMP_FAULT n) = 0) ∧
    (∃ (s : State), s.blk.unitRefusal (org 1 2 127) = none) :=
  ⟨⟨1, mk [], by decide +kernel⟩,
   ⟨0, mk [(R.DSP_Pn_STATUS_STATE 0, 3)] allUp, by decide +kernel⟩,
   ⟨0, mk [(R.DSP_Pn_STATUS_STATE 0, 1)] allUp, by decide +kernel⟩,
   ⟨5, mk [(R.SUP_ISL_STATUS_LOST, 2)] allUp, by decide +kernel⟩,
   ⟨1, mk [] allUp, by decide +kernel⟩,
   ⟨1, mk [(R.DSP_Pn_STATUS_STATE 1, 3), (R.DSP_Pn_CTRL_EN 1, 1)] allUp, by decide +kernel⟩,
   ⟨1, mk [(R.DSP_Pn_STATUS_STATE 1, 1), (R.DSP_Pn_SEQ1_T_ON1 1, 5)] allUp, by decide +kernel⟩,
   ⟨1, mk [(R.DSP_Pn_STATUS_STATE 1, 2), (R.DSP_Pn_SEQ1_T_ON2 1, 5)] allUp, by decide +kernel⟩,
   ⟨1, mk [(R.DSP_Pn_STATUS_STATE 1, 4)] allUp, by decide +kernel⟩,
   ⟨1, mk [(R.DSP_Pn_STATUS_STATE 1, 4)] { dsp := List.replicate 2 { idle := true, pwr := true } }, by decide +kernel⟩,
   ⟨1, mk [(R.DSP_Pn_STATUS_STATE 1, 5)] allUp, by decide +kernel⟩,
   ⟨1, mk [(R.DSP_Pn_STATUS_STATE 1, 5), (R.DSP_Pn_CTRL_EN 1, 1)] allUp, by decide +kernel⟩,
   ⟨1, 50, mk [] allUp, by decide +kernel⟩,
   ⟨1, 5000, mk [(R.DSP_Pn_STATUS_TEMP_FAULT 1, 0)] allUp, by decide +kernel⟩,
   ⟨mk [(R.DSP_Pn_CNT_FRAMES 1, 6)], by decide +kernel⟩⟩

/-- Each clause of BackupCommands that has hypotheses has a state and operands that meet them all. -/
theorem meets_BackupCommands :
    (∃ (s : State), s.blk.bkp.ended = false ∧ s.blk.bkp.secs + 1 < rtcRange) ∧
    (∃ (s : State), s.blk.bkp.ended = false ∧ rtcRange ≤ s.blk.bkp.secs + 1) ∧
    (∃ (s : State), s.blk.bkp.ended = false ∧ s.blk.bkp.secs + 1 < rtcRange ∧ s.fld (R.BKP_ALMa_CFG_EN 1) = 1 ∧ s.fld (R.BKP_ALMa_CFG_MASK 1) = 127) ∧
    (∃ (s : State), s.blk.bkpReach = true ∧ s.fld R.SUP_MTIME_STATUS_STATE = 2) ∧
    (∃ (s : State), s.blk.bkpReach = true ∧ s.fld R.SUP_MTIME_STATUS_STATE ≠ 2 ∧ s.blk.setSeconds = none) ∧
    (∃ (x : Nat) (s : State), s.blk.bkpReach = true ∧ s.fld R.SUP_MTIME_STATUS_STATE ≠ 2 ∧ s.blk.setSeconds = some x) ∧
    (∃ (s : State), s.blk.bkpReach = true ∧ s.fld R.SUP_MTIME_STATUS_STATE = 2) ∧
    (∃ (r : Int) (s : State), s.blk.bkpReach = true ∧ s.fld R.BKP_RTC_CAL_AUTO = 1 ∧ s.fld R.SUP_MTIME_STATUS_STATE = 2 ∧ 250000 < r.natAbs) ∧
    (∃ (r : Int) (s : State), s.blk.bkpReach = true ∧ s.fld R.BKP_RTC_CAL_AUTO = 1 ∧ s.fld R.SUP_MTIME_STATUS_STATE = 2 ∧ r.natAbs ≤ 250000) ∧
    (∃ (r : Nat) (v : Nat) (s : State), s.fld R.BKP_STATUS_SOURCE = 0 ∧ (r < v + 50 ∨ r < 2900)) ∧
    (∃ (r : Nat) (v : Nat), 3000 < r ∧ v + 150 < r) ∧
    (∃ (s : State), s.blk.bkpReach = true) ∧
    (∃ (s : State), s.blk.bkpReach = true) ∧
    (∃ (s : State), s.blk.bkpReach = true ∧ s.fld R.BKP_PWRREQ_MODE = 0) ∧
    (∃ (s : State), s.fld R.BKP_PWRREQ_ACTIVE = 1 ∧ s.fld R.BKP_PWRREQ_MODE = 1) ∧
    (∃ (s : State), s.fld R.BKP_PWRREQ_ACTIVE = 1 ∧ s.fld R.BKP_PWRREQ_MODE = 0 ∧ s.fld R.PWR_STATUS_LOGIC_VALID = 0) :=
  ⟨⟨mk [] { bkp := { secs := 7 } }, by decide +kernel⟩,
   ⟨mk [(R.BKP_STATUS_RTC_VALID, 1)] { bkp := { secs := 6942585599 } }, by decide +kernel⟩,
   ⟨mk [(R.BKP_ALMa_CFG_EN 1, 1), (R.BKP_ALMa_CFG_MASK 1, 127)], by decide +kernel⟩,
   ⟨mk [(R.SUP_MTIME_STATUS_STATE, 2)] { pwr := { inReset := false } }, by decide +kernel⟩,
   ⟨mk [(R.BKP_RTC_SET_DATE_DATE, 0)] { pwr := { inReset := false } }, by decide +kernel⟩,
   ⟨1328313600, mk [(R.BKP_RTC_SET_DATE_DATE, 0x2A0203)] { pwr := { inReset := false } }, by decide +kernel⟩,
   ⟨mk [(R.SUP_MTIME_STATUS_STATE, 2), (R.SUP_MTIME_ERR_BOUND_NS, 30)] { pwr := { inReset := false } }, by decide +kernel⟩,
   ⟨-300000, mk [(R.SUP_MTIME_STATUS_STATE, 2), (R.BKP_RTC_CAL_AUTO, 1)] { pwr := { inReset := false } }, by decide +kernel⟩,
   ⟨-3000, mk [(R.SUP_MTIME_STATUS_STATE, 2), (R.BKP_RTC_CAL_AUTO, 1)] { pwr := { inReset := false } }, by decide +kernel⟩,
   ⟨3000, 3000, mk [], by decide +kernel⟩,
   ⟨3300, 3000, by decide +kernel⟩,
   ⟨mk [] { bkp := { secs := 123456 }, pwr := { inReset := false } }, by decide +kernel⟩,
   ⟨mk [] { pwr := { inReset := false } }, by decide +kernel⟩,
   ⟨mk [(R.BKP_PWRREQ_MODE, 0), (R.BKP_PWRREQ_ACTIVE, 1)] { pwr := { inReset := false } }, by decide +kernel⟩,
   ⟨mk [(R.BKP_PWRREQ_MODE, 1), (R.BKP_PWRREQ_ACTIVE, 1)] { pwr := { inReset := false } }, by decide +kernel⟩,
   ⟨mk [(R.BKP_PWRREQ_MODE, 0), (R.BKP_PWRREQ_ACTIVE, 1), (R.PWR_STATUS_LOGIC_VALID, 0)] { pwr := { inReset := false } }, by decide +kernel⟩⟩

/-- Each clause of ServiceSessionCommands that has hypotheses has a state and operands that meet them all. -/
theorem meets_ServiceSessionCommands :
    (∃ (s : State), s.fld R.WHD_STATUS_TOOL = 1 ∧ s.blk.pwr.inReset = false ∧ s.fld R.PWR_STATE_STATE = 3 ∧ (s.blk.whdPath 0).conn = false) ∧
    (∃ (s : State), s.blk.whd.paths.length = 2) ∧
    (∃ (m : WhdMsg) (s : State), s.blk.pathServes (pathOf m) = false ∧ (s.blk.whdPath (pathOf m)).auth = none) ∧
    (∃ (m : WhdMsg) (s : State), s.blk.servesNow m = true ∧ badHeader m 0x02 352 = true) ∧
    (∃ (m : WhdMsg) (s : State), s.blk.takes m 0x01 32 none true = true ∧ s.blk.whd.paths.length = 2) ∧
    (∃ (m : WhdMsg) (x : Nat) (s : State), s.blk.takes m 0x02 352 none true = true ∧ (s.blk.whdPath (pathOf m)).lockEnd = some x) ∧
    (∃ (m : WhdMsg) (s : State), s.blk.takes m 0x02 352 none true = true ∧ s.blk.whd.paths.length = 2 ∧ (s.blk.whdPath (pathOf m)).lockEnd = none) ∧
    (∃ (x : WhdPath) (y : WhdPath) (a : WhdAuth) (s : State), s.blk.up = true ∧ s.blk.whd.paths = [x, y] ∧ x.auth = some a ∧ y.auth = none ∧ s.blk.whd.active ≠ some 1 ∧ (s.blk.toModule (s.blk.answerAt a)).authValid 0 a.cred = true) ∧
    (∃ (x : WhdPath) (y : WhdPath) (a : WhdAuth) (s : State), s.blk.up = true ∧ s.blk.whd.paths = [x, y] ∧ x.auth = some a ∧ y.auth = none ∧ (s.blk.toModule (s.blk.answerAt a)).authValid 0 a.cred = false) ∧
    (∃ (m : WhdMsg) (s : State), s.blk.servesNow m = true ∧ badHeader m 0x03 0 = false ∧ s.blk.whd.paths.length = 2) ∧
    (∃ (p : Fin 2) (x : Nat) (s : State), (s.blk.whdPath p).helloAt = some x ∧ s.blk.whd.paths.length = 2) ∧
    (∃ (p : Fin 2) (s : State), (s.blk.whdPath p).conn = true ∧ s.blk.whd.paths.length = 2) ∧
    (∃ (p : Fin 2) (x : Nat) (s : State), (s.blk.whdPath p).lockEnd = some x) ∧
    (∃ (p : Nat) (s : State), s.blk.whd.active = some p ∧ s.blk.whd.paths.length = 2) ∧
    (∃ (n : Fin 16) (s : State), s.blk.relayPeer n = true ∧ (s.blk.whdPath 1).conn = false ∧ (s.blk.whdPath 1).lockEnd = none) ∧
    (∃ (n : Fin 16) (s : State), s.blk.relayPeer n = true ∧ ((s.blk.whdPath 1).conn = true ∨ (s.blk.whdPath 1).lockEnd ≠ none)) ∧
    (∃ (n : Fin 16) (id : BitVec 32) (o : Nat) (k : Nat) (s : State), s.blk.relayPeer n = true ∧ s.blk.relayIs n id.toNat = true ∧ (s.blk.whdPath 1).rcvd = o ∧ k ≤ 4096) ∧
    (∃ (n : Fin 16) (id : BitVec 32) (s : State), s.blk.relayPeer n = true ∧ s.blk.relayIs n id.toNat = true ∧ s.blk.whd.paths.length = 2) :=
  ⟨⟨mk [(R.WHD_STATUS_TOOL, 1)] { pwr := { inReset := false } }, by decide +kernel⟩,
   ⟨whdS {} 255 [], by decide +kernel⟩,
   ⟨{ type := 1 }, mk [], by decide +kernel⟩,
   ⟨{ type := 2, req := 7 }, whdS {} 255 [], by decide +kernel⟩,
   ⟨{ type := 0x01, req := 7, length := 32 }, whdS {} 255 [], by decide +kernel⟩,
   ⟨{ type := 0x02, req := 7, length := 352 }, 500, whdS { lockEnd := some 500 } 255 [], by decide +kernel⟩,
   ⟨{ type := 0x02, req := 7, length := 352 }, whdS { helloAt := some 3 } 255 [], by decide +kernel⟩,
   ⟨{ conn := true, nonce := some 5, auth := some { req := 7, cred := goodCred, at_ := 77 } }, {}, { req := 7, cred := goodCred, at_ := 77 }, (fun s => { s with blk := { s.blk with whd := { s.blk.whd with active := none }, upd := { slots := [{ role := 1, image := goodImage }, {}, {}] } } }) (whdS { nonce := some 5, auth := some { req := 7, cred := goodCred, at_ := 77 } } 0 []), by decide +kernel⟩,
   ⟨{ conn := true, auth := some { req := 7, cred := goodCred, at_ := 77 } }, {}, { req := 7, cred := goodCred, at_ := 77 }, whdS { auth := some { req := 7, cred := goodCred, at_ := 77 } } 0 [], by decide +kernel⟩,
   ⟨{ type := 0x03, req := 7, length := 0 }, whdS {} 255 [], by decide +kernel⟩,
   ⟨0, 4, whdS { helloAt := some 4 } 255 [], by decide +kernel⟩,
   ⟨0, whdS {} 255 [], by decide +kernel⟩,
   ⟨0, 9, whdS { lockEnd := some 9, attempts := [1] } 255 [], by decide +kernel⟩,
   ⟨0, whdS {} 255 [], by decide +kernel⟩,
   ⟨2, whdS {} 255 [(R.EHR_PEERn_CFG_ROLE 2, 15)], by decide +kernel⟩,
   ⟨2, mk [(R.EHR_PEERn_CFG_ROLE 2, 15)] { pwr := { inReset := false }, whd := { paths := [{}, { conn := true, peer := 2, relayId := 9 }] } }, by decide +kernel⟩,
   ⟨2, 9, 3, 40, mk [(R.EHR_PEERn_CFG_ROLE 2, 15)] { pwr := { inReset := false }, whd := { paths := [{}, { conn := true, peer := 2, relayId := 9, rcvd := 3 }] } }, by decide +kernel⟩,
   ⟨2, 9, mk [(R.EHR_PEERn_CFG_ROLE 2, 15)] { pwr := { inReset := false }, whd := { paths := [{}, { conn := true, peer := 2, relayId := 9, rcvd := 3 }] } }, by decide +kernel⟩⟩

/-- Each clause of ServiceActCommands that has hypotheses has a state and operands that meet them all. -/
theorem meets_ServiceActCommands :
    (∃ (m : WhdMsg) (s : State), s.blk.takes m 0x22 0 (some 0) true = true) ∧
    (∃ (m : WhdMsg) (n : Nat) (s : State), s.blk.takes m 0x30 8 (some 0) false = true ∧ (n = 0 ∨ 1024 < n)) ∧
    (∃ (m : WhdMsg) (a : BitVec 32) (n : Nat) (f : List Nat) (s : State), s.blk.takes m 0x30 8 (some 0) false = true ∧ 0 < n ∧ n ≤ 1024 ∧ ((s.heard m).readWords a.toNat n f).1.blk.pwr.inReset = false) ∧
    (∃ (m : WhdMsg) (w : List (BitVec 32)) (s : State), s.blk.takes m 0x31 (8 + 4 * w.length) (some 1) false = true ∧ (w = [] ∨ 1022 < w.length)) ∧
    (∃ (m : WhdMsg) (a : BitVec 32) (w : List (BitVec 32)) (f : List Nat) (s : State), s.blk.takes m 0x31 (8 + 4 * w.length) (some 1) false = true ∧ w ≠ [] ∧ w.length ≤ 1022 ∧ ((s.heard m).writeWords (pathOrigin m) a.toNat (w.map (·.toNat)) f).1.blk.pwr.inReset = false) ∧
    (∃ (m : WhdMsg) (s : State), s.blk.takes m 0x32 6 (some 4) false = true) ∧
    (∃ (m : WhdMsg) (ch : Fin 192) (l : Bool) (s : State), s.blk.takes m 0x33 8 (some 4) false = true ∧ s.blk.jogStatus ch true l ≠ 0) ∧
    (∃ (m : WhdMsg) (ch : Fin 192) (v : Int) (cmd : Fin 256) (l : Bool) (s : State), s.blk.takes m 0x33 8 (some 4) false = true ∧ s.blk.jogStatus ch true l = 0 ∧ cmd.val < 2 ∧ (((s.heard m).blk.jogRun ch cmd v).jogShadow ch cmd v).pwr.inReset = false) ∧
    (∃ (m : WhdMsg) (o : RevokeOrder) (s : State), s.blk.takes m 0x40 116 (some 5) false = true ∧ s.blk.orderGood o = false) ∧
    (∃ (m : WhdMsg) (o : RevokeOrder) (s : State), s.blk.takes m 0x40 116 (some 5) false = true ∧ s.blk.orderGood o = true ∧ s.blk.upd.slots = []) :=
  ⟨⟨{ type := 0x22, req := 7, length := 0 }, whdS {} 255 [], by decide +kernel⟩,
   ⟨{ type := 0x30, req := 7, length := 8 }, 0, whdS {} 255 [], by decide +kernel⟩,
   ⟨{ type := 0x30, req := 7, length := 8 }, 0x4A000004, 2, [], whdS {} 255 [], by decide +kernel⟩,
   ⟨{ type := 0x31, req := 7, length := 8 }, [], whdS {} 255 [], by decide +kernel⟩,
   ⟨{ type := 0x31, req := 7, length := 12 }, 0x4A000004, [5], [], whdS {} 255 [], by decide +kernel⟩,
   ⟨{ type := 0x32, req := 7, length := 6 }, whdS {} 255 [], by decide +kernel⟩,
   ⟨{ type := 0x33, req := 7, length := 8 }, 3, false, whdS {} 255 [], by decide +kernel⟩,
   ⟨{ type := 0x33, req := 7, length := 8 }, 3, 500, 0, false, whdS {} 255 [(R.MODE_STATE_STATE, 32), (R.MODE_ACTIVE_FLAGS, 4), (R.FC_CH_FUNC_FUNC 3, 2)] { allUp with mode := { live := true } }, by decide +kernel⟩,
   ⟨{ type := 0x40, req := 7, length := 116 }, { bytes := [] }, whdS {} 255 [], by decide +kernel⟩,
   ⟨{ type := 0x40, req := 7, length := 116 }, goodOrder, whdS {} 255 [] { allUp with upd := { slots := [], vendorKeys := [[], vendorKey] } }, by decide +kernel⟩⟩

/-- Each clause of UpdateCommands that has hypotheses has a state and operands that meet them all. -/
theorem meets_UpdateCommands :
    (∃ (m : WhdMsg) (c : Nat) (s : State), s.blk.takes m 0x10 52 (some 2) true = true ∧ s.blk.stageRefusal (pathOf m) = some c) ∧
    (∃ (m : WhdMsg) (k : Nat) (s : State), s.blk.takes m 0x10 52 (some 2) true = true ∧ s.blk.stageRefusal (pathOf m) = none ∧ s.blk.slotOf 2 = none ∧ s.blk.slotOf 0 = some k) ∧
    (∃ (m : WhdMsg) (o : Nat) (l : List Nat) (x : UpdStage) (s : State), s.blk.takes m 0x11 (4 + l.length) (some 2) true = true ∧ s.blk.upd.stage = some x ∧ x.path = pathOf m ∧ o = x.data.length ∧ o + l.length ≤ x.length ∧ l.length ≤ 65532) ∧
    (∃ (m : WhdMsg) (l : List Nat) (s : State), s.blk.takes m 0x11 (4 + l.length) (some 2) true = true ∧ s.blk.upd.stage = none ∧ l.length ≤ 65532) ∧
    (∃ (m : WhdMsg) (x : UpdStage) (s : State), s.blk.takes m 0x12 0 (some 2) true = true ∧ s.blk.upd.stage = some x ∧ x.path = pathOf m) ∧
    (∃ (g : Image) (x : UpdStage) (s : State), s.blk.upd.stage = some x ∧ x.verify = true ∧ (s.blk.stageVerdict x g).code ≠ 0) ∧
    (∃ (g : Image) (x : UpdStage) (s : State), s.blk.upd.stage = some x ∧ x.verify = true ∧ (s.blk.stageVerdict x g).code = 0 ∧ s.blk.upd.safeHold = false) ∧
    (∃ (m : WhdMsg) (x : UpdStage) (s : State), s.blk.takes m 0x13 0 (some 2) true = true ∧ s.blk.upd.stage = some x ∧ x.path = pathOf m) ∧
    (∃ (m : WhdMsg) (k : Nat) (s : State), s.blk.takes m 0x14 0 (some 2) false = true ∧ s.blk.slotOf 2 = some k ∧ s.blk.upd.sched = none) ∧
    (∃ (m : WhdMsg) (s : State), s.blk.takes m 0x14 0 (some 2) false = true ∧ s.blk.slotOf 2 = none) ∧
    (∃ (m : WhdMsg) (at_ : Nat) (w : Nat) (s : State), s.blk.takes m 0x20 14 (some 3) false = true ∧ s.blk.schedReason at_ none = 0 ∧ w ≠ 0) ∧
    (∃ (m : WhdMsg) (at_ : Nat) (s : State), s.blk.takes m 0x20 14 (some 3) false = true ∧ s.blk.schedReason at_ none ≠ 0) ∧
    (∃ (m : WhdMsg) (id : Nat) (s : State), s.blk.takes m 0x21 4 (some 3) false = true ∧ s.blk.schedIs id = true) ∧
    (∃ (x : FleetSched) (s : State), s.blk.bitOf (R.EHR_PEERn_CFG_ROLE x.peer) 2 = true ∧ s.blk.schedReason x.instant (some (x.version, x.epoch, x.digest)) = 0 ∧ x.window ≠ 0) ∧
    (∃ (x : FleetSched) (s : State), s.blk.bitOf (R.EHR_PEERn_CFG_ROLE x.peer) 2 = true ∧ s.blk.schedReason x.instant (some (x.version, x.epoch, x.digest)) ≠ 0) ∧
    (∃ (x : FleetSched) (s : State), s.blk.bitOf (R.EHR_PEERn_CFG_ROLE x.peer) 2 = true ∧ s.blk.schedIs x.id = true) ∧
    (∃ (k : BitVec 16), k ≠ 0xB1EF) ∧
    (∃ (k : Nat) (s : State), s.blk.slotOf 2 = some k) ∧
    (∃ (s : State), s.blk.schedReason (s.fld R.UPD_SCHED_LO_NS + 2 ^ 32 * s.fld R.UPD_SCHED_HI_NS) none = 0) ∧
    (∃ (s : State), s.blk.schedReason (s.fld R.UPD_SCHED_LO_NS + 2 ^ 32 * s.fld R.UPD_SCHED_HI_NS) none ≠ 0) ∧
    (∃ (x : UpdSched) (g : Image) (s : State), s.blk.inRun = true ∧ s.blk.upd.sched = some x ∧ s.blk.imageOf 2 = some g ∧ x.instant ≠ 0 ∧ (s.blk.imageVerdict g).code ≠ 0) ∧
    (∃ (x : UpdSched) (g : Image) (s : State), s.blk.inRun = true ∧ s.blk.upd.sched = some x ∧ s.blk.imageOf 2 = some g ∧ x.instant ≠ 0 ∧ (s.blk.imageVerdict g).code = 0) ∧
    (∃ (x : UpdSched) (s : State), s.blk.inRun = true ∧ s.blk.mode.live = true ∧ s.blk.upd.sched = some x ∧ x.instant ≠ 0 ∧ x.last = none ∧ x.skipped = false ∧ s.blk.sys.mtime ≤ x.instant ∧ (s.blk.toModule x.instant).deferReason x = 0) ∧
    (∃ (x : UpdSched) (s : State), s.blk.inRun = true ∧ s.blk.mode.live = true ∧ s.blk.upd.sched = some x ∧ x.instant ≠ 0 ∧ x.last = none ∧ x.skipped = false ∧ s.blk.sys.mtime ≤ x.instant ∧ (s.blk.toModule x.instant).deferReason x ≠ 0 ∧ x.first = none) ∧
    (∃ (x : UpdSched) (s : State), s.blk.inRun = true ∧ s.blk.upd.sched = some x ∧ x.first.isSome = true) ∧
    (∃ (s : State), (s.fld R.UPD_STATUS_PENDING_CONFIRM = 0 ∨ s.fld R.UPD_STATUS_FALL_DUE = 1)) ∧
    (∃ (s : State), s.fld R.UPD_STATUS_PENDING_CONFIRM = 1 ∧ s.fld R.UPD_STATUS_FALL_DUE = 0) ∧
    (∃ (s : State), s.fld R.UPD_STATUS_PENDING_CONFIRM = 1 ∧ s.fld R.UPD_STATUS_FALL_DUE = 0) ∧
    (∃ (x : Nat) (s : State), s.blk.inRun = true ∧ s.blk.upd.runAt = some x ∧ s.fld R.UPD_STATUS_PENDING_CONFIRM = 1) ∧
    (∃ (x : Nat) (s : State), s.blk.inRun = true ∧ s.blk.upd.runAt = some x) :=
  ⟨⟨{ type := 0x10, req := 7, length := 52 }, 0x66, whdS {} 255 [] { allUp with upd := { sched := some { id := 1, instant := 2, window := 3, fleet := false, digest := 4 } } }, by decide +kernel⟩,
   ⟨{ type := 0x10, req := 7, length := 52 }, 0, whdS {} 255 [], by decide +kernel⟩,
   ⟨{ type := 0x11, req := 7, length := 8 }, 3, [4, 5, 6, 7], { slot := 1, length := 9, digest := 2, data := [1, 2, 3] }, whdS {} 255 [] { allUp with upd := { stage := some { slot := 1, length := 9, digest := 2, data := [1, 2, 3] } } }, by decide +kernel⟩,
   ⟨{ type := 0x11, req := 7, length := 8 }, [4, 5, 6, 7], whdS {} 255 [], by decide +kernel⟩,
   ⟨{ type := 0x12, req := 7, length := 0 }, { slot := 1, length := 9, digest := 2, data := [1, 2, 3] }, whdS {} 255 [] { allUp with upd := { stage := some { slot := 1, length := 9, digest := 2, data := [1, 2, 3] } } }, by decide +kernel⟩,
   ⟨{}, { slot := 1, length := 9, digest := 2, data := [1], verify := true }, whdS {} 255 [] { allUp with upd := { stage := some { slot := 1, length := 9, digest := 2, data := [1], verify := true } } }, by decide +kernel⟩,
   ⟨goodImage, { slot := 1, length := 1408, digest := imageDigest goodImage, data := goodBytes, verify := true }, whdS {} 255 [] { allUp with upd := { vendorKeys := [vendorKey], stage := some { slot := 1, length := 1408, digest := imageDigest goodImage, data := goodBytes, verify := true } } }, by decide +kernel⟩,
   ⟨{ type := 0x13, req := 7, length := 0 }, { slot := 1, length := 9, digest := 2, data := [1, 2, 3] }, whdS {} 255 [] { allUp with upd := { stage := some { slot := 1, length := 9, digest := 2, data := [1, 2, 3] } } }, by decide +kernel⟩,
   ⟨{ type := 0x14, req := 7, length := 0 }, 1, whdS {} 255 [] { allUp with upd := { slots := [{}, { role := 2 }, {}] } }, by decide +kernel⟩,
   ⟨{ type := 0x14, req := 7, length := 0 }, whdS {} 255 [], by decide +kernel⟩,
   ⟨{ type := 0x20, req := 7, length := 14 }, 20000000000, 500, whdS {} 255 [] { allUp with upd := { slots := [{}, { role := 2 }, {}] } }, by decide +kernel⟩,
   ⟨{ type := 0x20, req := 7, length := 14 }, 20000000000, whdS {} 255 [], by decide +kernel⟩,
   ⟨{ type := 0x21, req := 7, length := 4 }, 1, whdS {} 255 [] { allUp with upd := { sched := some { id := 1, instant := 2, window := 3, fleet := false, digest := 4 } } }, by decide +kernel⟩,
   ⟨{ peer := 2, id := 5, digest := imageDigest {}, instant := 20000000000, window := 9 }, mk [(R.EHR_PEERn_CFG_ROLE 2, 4)] { upd := { slots := [{}, { role := 2 }, {}] } }, by decide +kernel⟩,
   ⟨{ peer := 2, id := 5, instant := 2, window := 9 }, mk [(R.EHR_PEERn_CFG_ROLE 2, 4)] { upd := { slots := [{}, { role := 2 }, {}] } }, by decide +kernel⟩,
   ⟨{ peer := 2, id := 1 }, mk [(R.EHR_PEERn_CFG_ROLE 2, 4)] { upd := { sched := some { id := 1, instant := 2, window := 3, fleet := true, digest := 4 } } }, by decide +kernel⟩,
   ⟨5, by decide +kernel⟩,
   ⟨1, mk [] { upd := { slots := [{}, { role := 2 }, {}], sched := some { id := 1, instant := 2, window := 3, fleet := true, digest := 4 } } }, by decide +kernel⟩,
   ⟨mk [(R.UPD_SCHED_HI_NS, 9), (R.UPD_SCHED_ID_ID, 3)] { upd := { slots := [{}, { role := 2 }, {}] } }, by decide +kernel⟩,
   ⟨mk [(R.UPD_SCHED_HI_NS, 9), (R.UPD_SCHED_ID_ID, 3)], by decide +kernel⟩,
   ⟨{ id := 1, instant := 5000000000, window := 3, fleet := true, digest := 4 }, { magic := [] }, mk [] { pwr := { inReset := false }, upd := { slots := [{}, { role := 2, image := { magic := [] } }, {}], sched := some { id := 1, instant := 5000000000, window := 3, fleet := true, digest := 4 } } }, by decide +kernel⟩,
   ⟨{ id := 1, instant := 5000000000, window := 3, fleet := true, digest := 4 }, goodImage, mk [] { pwr := { inReset := false }, upd := { vendorKeys := [vendorKey], slots := [{}, { role := 2, image := goodImage }, {}], sched := some { id := 1, instant := 5000000000, window := 3, fleet := true, digest := 4 } } }, by decide +kernel⟩,
   ⟨{ id := 1, instant := 5000000000, window := 3, fleet := false, digest := 4 }, mk [(R.PWR_STATUS_STATIONARY, 1)] { pwr := { inReset := false }, mode := { live := true }, upd := { slots := [{}, { role := 2 }, {}], sched := some { id := 1, instant := 5000000000, window := 3, fleet := false, digest := 4 } } }, by decide +kernel⟩,
   ⟨{ id := 1, instant := 5000000000, window := 3, fleet := false, digest := 4 }, mk [(R.PWR_STATUS_STATIONARY, 0)] { pwr := { inReset := false }, mode := { live := true }, upd := { slots := [{}, { role := 2 }, {}], sched := some { id := 1, instant := 5000000000, window := 3, fleet := false, digest := 4 } } }, by decide +kernel⟩,
   ⟨{ id := 1, instant := 5000000000, window := 3, fleet := false, digest := 4, first := some 7, reason := 2 }, mk [] { pwr := { inReset := false }, upd := { slots := [{}, { role := 2 }, {}], sched := some { id := 1, instant := 5000000000, window := 3, fleet := false, digest := 4, first := some 7, reason := 2 } } }, by decide +kernel⟩,
   ⟨mk [], by decide +kernel⟩,
   ⟨mk [(R.UPD_STATUS_PENDING_CONFIRM, 1)] { upd := { runAt := some 4, slots := [{ role := 1, image := { epoch := 9 } }, {}, {}] } }, by decide +kernel⟩,
   ⟨mk [(R.UPD_STATUS_PENDING_CONFIRM, 1)], by decide +kernel⟩,
   ⟨4, mk [(R.UPD_STATUS_PENDING_CONFIRM, 1)] { pwr := { inReset := false }, upd := { runAt := some 4 } }, by decide +kernel⟩,
   ⟨4, mk [] { pwr := { inReset := false }, upd := { runAt := some 4 } }, by decide +kernel⟩⟩

/-- Each clause of CryptoCommands that has hypotheses has a state and operands that meet them all. -/
theorem meets_CryptoCommands :
    (∃ (s : State), s.blk.shut 1 = true) ∧
    (∃ (k : Fin 8) (s : State), s.blk.shut 1 = false ∧ s.fld (R.CRY_Ck_STAT_STATE k) ≠ 0) ∧
    (∃ (k : Fin 8) (s : State), s.blk.cryRefusal k = none ∧ s.blk.badJob k = true) ∧
    (∃ (k : Fin 8) (s : State), s.blk.cryRefusal k = none ∧ s.blk.badJob k = false ∧ (∀ j, j < 8 → s.fld (R.CRY_Ck_STAT_STATE j) = 0)) ∧
    (∃ (x : Bool) (k : Nat) (s : State), s.blk.cryRunning x = some k) ∧
    (∃ (x : Bool) (s : State), s.blk.cryRunning x = none) :=
  ⟨⟨mk [(R.SUP_ISL_STATUS_LOST, 2)], by decide +kernel⟩,
   ⟨3, mk [(R.CRY_Ck_STAT_STATE 3, 2)] allUp, by decide +kernel⟩,
   ⟨3, mk [] allUp, by decide +kernel⟩,
   ⟨3, mk [(R.CRY_Ck_CTRL_OP 3, 1)] allUp, by decide +kernel, goodJob, by decide +kernel⟩,
   ⟨false, 3, mk [(R.CRY_Ck_CTRL_OP 3, 3), (R.CRY_Ck_STAT_STATE 3, 2)] { allUp with cry := List.replicate 8 { since := 5, left := 70 } }, by decide +kernel⟩,
   ⟨true, mk [], by decide +kernel⟩⟩

/-- Each clause of RecorderCommands that has hypotheses has a state and operands that meet them all. -/
theorem meets_RecorderCommands :
    (∃ (p : Packet) (s : State), p.kind = .event ∧ (s.blk.island 0).run = .running ∧ s.blk.evr.live = true ∧ ((List.range 64).find? fun k => s.blk.evrMatch k p.origin (bytesAt p.data 0 2)) = none) ∧
    (∃ (p : Packet) (k : Nat) (s : State), p.kind = .event ∧ (s.blk.island 0).run = .running ∧ s.blk.evr.live = true ∧ ((List.range 64).find? fun k => s.blk.evrMatch k p.origin (bytesAt p.data 0 2)) = some k) ∧
    (∃ (p : Packet) (s : State), p.kind = .event ∧ (s.blk.island 0).run = .running ∧ s.blk.evr.live = false ∧ s.blk.evr.input.length < 256) ∧
    (∃ (s : State), s.blk.evr.staged = [] ∧ s.fld R.EVR_STATUS_RUNNING = 1 ∧ s.fld R.PWR_STATUS_COMMITTED = 0 ∧ s.fld R.EVR_WRITTEN_COUNT < 349524) ∧
    (∃ (s : State), s.fld R.EVR_STATUS_RUNNING = 0) ∧
    (∃ (n : Nat) (w : Fin 32) (fl : List Nat) (r : EvrRec) (s : State), s.blk.evr.staged = [r] ∧ r.rseq = n ∧ w.val < r.words.length ∧ r.words.getD w none = none ∧ (s.readWords (s.fld (R.EVR_Tt_ADDRw_ADDR r.trig w)) 1 fl).2.1 = 0) ∧
    (∃ (n : Nat) (w : Fin 32) (fl : List Nat) (r : EvrRec) (s : State), s.blk.evr.staged = [r] ∧ r.rseq = n ∧ w.val < r.words.length ∧ r.words.getD w none = none ∧ (s.readWords (s.fld (R.EVR_Tt_ADDRw_ADDR r.trig w)) 1 fl).2.1 ≠ 0) ∧
    (∃ (n : Nat) (r : EvrRec) (s : State), s.blk.evr.staged = [r] ∧ r.rseq = n ∧ r.complete = false) ∧
    (∃ (r : EvrRec) (l : List EvrRec) (s : State), s.blk.evr.staged = r :: l ∧ s.fld R.EVR_STATUS_FROZEN = 0) ∧
    (∃ (s : State), s.blk.evr.flushing = true ∧ s.fld R.EVR_STATUS_FROZEN = 0) ∧
    (∃ (s : State), (s.blk.evr.flushing = false ∨ s.fld R.EVR_STATUS_FROZEN = 1)) ∧
    (∃ (s : State), s.fld R.EVR_STATUS_FROZEN = 0 ∧ s.blk.evr.staged ≠ []) ∧
    (∃ (s : State), s.blk.evr.export_ = 0 ∧ s.fld R.EVR_EXPORTED_COUNT < s.fld R.EVR_WRITTEN_COUNT) ∧
    (∃ (s : State), s.fld R.EVR_STATUS_FROZEN = 0) ∧
    (∃ (s : State), s.fld R.EVR_STATUS_FROZEN = 1) ∧
    (∃ (s : State), s.fld R.EVR_STATUS_FROZEN = 1) ∧
    (∃ (w : List Nat) (n : Nat) (l : List Nat) (s : State), s.blk.evr.loading = some (w, n, l)) ∧
    (∃ (k : BitVec 16), k ≠ 0xB1EF) ∧
    (∃ (s : State), (s.fld R.EVR_STATUS_FROZEN = 1 ∨ s.blk.evr.export_ ≠ 0)) ∧
    (∃ (s : State), s.fld R.EVR_STATUS_FROZEN = 0 ∧ s.blk.evr.export_ = 0 ∧ s.fld R.EVR_EXPORTED_COUNT < s.fld R.EVR_WRITTEN_COUNT) ∧
    (∃ (s : State), s.fld R.EVR_STATUS_FROZEN = 0 ∧ s.blk.evr.export_ = 0) ∧
    (∃ (s : State), s.blk.evr.export_ ≠ 0) ∧
    (∃ (c : Fin 256) (s : State), c.val ≠ 0 ∧ s.blk.evr.export_ ≠ 0) ∧
    (∃ (x : Nat) (s : State), s.blk.evr.errAt = some x ∧ s.blk.evr.export_ = 0 ∧ s.fld R.EVR_EXPORTED_COUNT < s.fld R.EVR_WRITTEN_COUNT) :=
  ⟨⟨{ kind := .event, stream := 0xFF01, origin := 5 }, mk [] { allUp with evr := { live := true } }, by decide +kernel⟩,
   ⟨{ kind := .event, stream := 0xFF01, origin := 5, data := [1, 0] }, 3, mk [(R.EVR_Tt_CFG_EN 3, 1), (R.EVR_STATUS_RUNNING, 1), (R.EVR_Tt_CODE_C_VALUE 3, 1), (R.EVR_Tt_CODE_C_MASK 3, 0xFFFF)] { allUp with evr := { live := true } }, by decide +kernel⟩,
   ⟨{ kind := .event, stream := 0xFF01, origin := 5 }, mk [] { allUp with evr := {} }, by decide +kernel⟩,
   ⟨mk [(R.EVR_STATUS_RUNNING, 1)], by decide +kernel⟩,
   ⟨mk [(R.EVR_STATUS_RUNNING, 0)], by decide +kernel⟩,
   ⟨7, 1, [], { rseq := 7, gen := 0, mtime := 9, stamp := 1, code := 2, origin := 3, trig := 4, flags := 0, mode := 0, len := 0, missed := 0, data := [], words := [none, none], since := 50 }, mk [(R.EVR_Tt_ADDRw_ADDR 4 1, 0x4A000004)] { evr := { staged := [{ rseq := 7, gen := 0, mtime := 9, stamp := 1, code := 2, origin := 3, trig := 4, flags := 0, mode := 0, len := 0, missed := 0, data := [], words := [none, none], since := 50 }] } }, by decide +kernel⟩,
   ⟨7, 1, [], { rseq := 7, gen := 0, mtime := 9, stamp := 1, code := 2, origin := 3, trig := 4, flags := 0, mode := 0, len := 0, missed := 0, data := [], words := [none, none], since := 50 }, mk [(R.EVR_Tt_ADDRw_ADDR 4 1, 0x10)] { evr := { staged := [{ rseq := 7, gen := 0, mtime := 9, stamp := 1, code := 2, origin := 3, trig := 4, flags := 0, mode := 0, len := 0, missed := 0, data := [], words := [none, none], since := 50 }] } }, by decide +kernel⟩,
   ⟨7, { rseq := 7, gen := 0, mtime := 9, stamp := 1, code := 2, origin := 3, trig := 4, flags := 0, mode := 0, len := 0, missed := 0, data := [], words := [none, none], since := 50 }, mk [] { evr := { staged := [{ rseq := 7, gen := 0, mtime := 9, stamp := 1, code := 2, origin := 3, trig := 4, flags := 0, mode := 0, len := 0, missed := 0, data := [], words := [none, none], since := 50 }] } }, by decide +kernel⟩,
   ⟨{ rseq := 7, gen := 0, mtime := 9, stamp := 1, code := 2, origin := 3, trig := 4, flags := 0, mode := 0, len := 0, missed := 0, data := [], words := [none, none], since := 50 }, [], mk [] { evr := { staged := [{ rseq := 7, gen := 0, mtime := 9, stamp := 1, code := 2, origin := 3, trig := 4, flags := 0, mode := 0, len := 0, missed := 0, data := [], words := [none, none], since := 50 }] } }, by decide +kernel⟩,
   ⟨mk [] { evr := { staged := [{ rseq := 7, gen := 0, mtime := 9, stamp := 1, code := 2, origin := 3, trig := 4, flags := 0, mode := 0, len := 0, missed := 0, data := [], words := [], since := 50 }, { rseq := 7, gen := 0, mtime := 9, stamp := 1, code := 2, origin := 3, trig := 4, flags := 0, mode := 0, len := 0, missed := 0, data := [], words := [none, none], since := 50 }], flushing := true } }, by decide +kernel⟩,
   ⟨mk [] { evr := { staged := [{ rseq := 7, gen := 0, mtime := 9, stamp := 1, code := 2, origin := 3, trig := 4, flags := 0, mode := 0, len := 0, missed := 0, data := [], words := [], since := 50 }, { rseq := 7, gen := 0, mtime := 9, stamp := 1, code := 2, origin := 3, trig := 4, flags := 0, mode := 0, len := 0, missed := 0, data := [], words := [none, none], since := 50 }] } }, by decide +kernel⟩,
   ⟨mk [] { evr := { staged := [{ rseq := 7, gen := 0, mtime := 9, stamp := 1, code := 2, origin := 3, trig := 4, flags := 0, mode := 0, len := 0, missed := 0, data := [], words := [none, none], since := 50 }] } }, by decide +kernel⟩,
   ⟨mk [(R.EVR_WRITTEN_COUNT, 30)], by decide +kernel⟩,
   ⟨mk [], by decide +kernel⟩,
   ⟨mk [(R.EVR_STATUS_FROZEN, 1), (R.EVR_FREEZE_FREEZE, 1)] { evr := { staged := [{ rseq := 7, gen := 0, mtime := 9, stamp := 1, code := 2, origin := 3, trig := 4, flags := 0, mode := 0, len := 0, missed := 0, data := [], words := [none, none], since := 50 }] } }, by decide +kernel⟩,
   ⟨mk [(R.EVR_STATUS_FROZEN, 1), (R.EVR_FREEZE_FREEZE, 1)] { evr := { staged := [{ rseq := 7, gen := 0, mtime := 9, stamp := 1, code := 2, origin := 3, trig := 4, flags := 0, mode := 0, len := 0, missed := 0, data := [], words := [none, none], since := 50 }] } }, by decide +kernel⟩,
   ⟨[1, 2], 3, [4], mk [] { evr := { loading := some ([1, 2], 3, [4]) } }, by decide +kernel⟩,
   ⟨5, by decide +kernel⟩,
   ⟨mk [(R.EVR_STATUS_FROZEN, 1)], by decide +kernel⟩,
   ⟨mk [(R.EVR_WRITTEN_COUNT, 30)], by decide +kernel⟩,
   ⟨mk [(R.EVR_WRITTEN_COUNT, 30)] { evr := { staged := [{ rseq := 7, gen := 0, mtime := 9, stamp := 1, code := 2, origin := 3, trig := 4, flags := 0, mode := 0, len := 0, missed := 0, data := [], words := [], since := 50 }] } }, by decide +kernel⟩,
   ⟨mk [(R.EVR_WRITTEN_COUNT, 30)] { evr := { export_ := 21 } }, by decide +kernel⟩,
   ⟨5, mk [(R.EVR_WRITTEN_COUNT, 30)] { evr := { export_ := 21 } }, by decide +kernel⟩,
   ⟨5, mk [(R.EVR_WRITTEN_COUNT, 30)] { evr := { errAt := some 5 } }, by decide +kernel⟩⟩

/-- Each clause of HealthCommands that has hypotheses has a state and operands that meet them all. -/
theorem meets_HealthCommands :
    (∃ (s : State), s.blk.hltLive = true) ∧
    (∃ (s : State), s.blk.hltLive = true) ∧
    (∃ (s : State), s.blk.hlt.roDue = true) ∧
    (∃ (s : State), s.fld R.PWR_STATE_STATE = 3 ∧ s.blk.hlt.roDue = false) ∧
    (∃ (c : Fin 24) (u : Fin 8) (x : RonSample) (l : List (List RonSample)) (s : State), s.blk.runs c = true ∧ s.blk.hlt.ron = [] ∧ l.getD u [] = [x] ∧ ronQualifies x = true) ∧
    (∃ (s : State), s.blk.hltLive = true) ∧
    (∃ (s : State), s.blk.hltLive = true) ∧
    (∃ (s : State), s.fld R.PWR_STATUS_PF = 1) ∧
    (∃ (s : State), s.fld R.PWR_STATUS_PF = 0 ∧ s.fld R.HLT_STATUS_STATE = 0) ∧
    (∃ (s : State), s.fld R.PWR_STATUS_PF = 0 ∧ 1 < s.fld R.HLT_STATUS_STATE) ∧
    (∃ (s : State), s.fld R.HLT_STATUS_STATE = 1 ∧ s.fld R.HLT_STATUS_PLAN_PENDING = 0) ∧
    (∃ (s : State), s.fld R.HLT_STATUS_STATE = 0) ∧
    (∃ (s : State), s.fld R.HLT_STATUS_STATE ≠ 0 ∧ s.fld R.HLT_STATUS_PLAN_PENDING = 0) ∧
    (∃ (p : HltPlan) (s : State), s.fld R.HLT_STATUS_STATE = 2 ∧ s.blk.hlt.next = some p ∧ s.fld R.HLT_STATUS_PLAN_PENDING = 0 ∧ s.blk.hlt.testDue = false) ∧
    (∃ (s : State), s.fld R.PWR_STATUS_LOGIC_VALID = 1 ∧ (s.blk.island 0).run = .running ∧ s.fld R.PWR_STATE_STATE ≠ 0 ∧ s.blk.pwr.inReset = false ∧ s.fld R.HLT_STATUS_STATE ≠ 1 ∧ s.fld R.PWR_RES_CAP_UF ≠ 0) :=
  ⟨⟨mk [] allUp, by decide +kernel⟩,
   ⟨mk [(R.HLT_CFG_PERIOD_MS, 100)], by decide +kernel⟩,
   ⟨mk [] { allUp with hlt := { roDue := true } }, by decide +kernel⟩,
   ⟨mk [] { allUp with hlt := { roDue := false } }, by decide +kernel⟩,
   ⟨3, 2, { uv := 5000, ma := 2000, onNs := 30000 }, [[], [], [{ uv := 5000, ma := 2000, onNs := 30000 }]], mk [] (chB 0), by decide +kernel⟩,
   ⟨mk [] { hlt := { writes := [(3, 4)] } }, by decide +kernel⟩,
   ⟨mk [] { hlt := { dark := true } }, by decide +kernel⟩,
   ⟨mk [(R.PWR_STATUS_PF, 1)], by decide +kernel⟩,
   ⟨mk [(R.PWR_STATUS_RES_READY, 1)], by decide +kernel⟩,
   ⟨mk [(R.HLT_STATUS_STATE, 2)], by decide +kernel⟩,
   ⟨mk [(R.HLT_STATUS_STATE, 1)], by decide +kernel⟩,
   ⟨mk [], by decide +kernel⟩,
   ⟨mk [(R.HLT_STATUS_STATE, 1)], by decide +kernel⟩,
   ⟨{ used := 65535, left := 0 }, mk [(R.HLT_STATUS_STATE, 2)] { allUp with hlt := { next := some { used := 65535, left := 0 } } }, by decide +kernel⟩,
   ⟨mk [(R.PWR_STATUS_LOGIC_VALID, 1), (R.PWR_RES_CAP_UF, 4000)] { allUp with pwr := { inReset := false } }, by decide +kernel⟩⟩

/-- Each clause of PartitionCommands that has hypotheses has a state and operands that meet them all. -/
theorem meets_PartitionCommands :
    (∃ (k : Fin 8) (s : State), s.fld (R.SUP_MBXk_STAT_BUSY k) = 1) ∧
    (∃ (k : Fin 8) (s : State), s.fld (R.SUP_MBXk_STAT_BUSY k) = 0 ∧ k.val ≠ 0 ∧ (s.blk.part k).serviceMask = 0) ∧
    (∃ (k : Fin 8) (s : State), s.fld (R.SUP_MBXk_STAT_BUSY k) = 0 ∧ s.blk.mayServe k 1 = true) ∧
    (∃ (k : Fin 8) (s : State), s.fld (R.SUP_MBXk_STAT_BUSY k) = 0 ∧ (s.fld (R.SUP_MBXk_ARGn_ARG k 0) ≠ 0xB1EF ∨ k.val = 0)) ∧
    (∃ (k : Fin 8) (s : State), s.fld (R.SUP_MBXk_STAT_BUSY k) = 0 ∧ s.blk.mayServe k 2 = true ∧ s.fld (R.SUP_MBXk_ARGn_ARG k 0) = 0xB1EF ∧ k.val ≠ 0) ∧
    (∃ (k : Fin 8) (s : State), s.fld (R.SUP_MBXk_STAT_BUSY k) = 0 ∧ s.blk.mayServe k 3 = true ∧ s.blk.counter < s.fld (R.SUP_MBXk_ARGn_ARG k 0) + 2 ^ 32 * s.fld (R.SUP_MBXk_ARGn_ARG k 1) ∧ s.fld (R.SUP_MBXk_ARGn_ARG k 0) + 2 ^ 32 * s.fld (R.SUP_MBXk_ARGn_ARG k 1) ≤ s.blk.sys.mtime + 60000000000) ∧
    (∃ (k : Fin 8) (s : State), s.fld (R.SUP_MBXk_STAT_BUSY k) = 0 ∧ s.blk.mayServe k 3 = true ∧ s.fld (R.SUP_MBXk_ARGn_ARG k 0) + 2 ^ 32 * s.fld (R.SUP_MBXk_ARGn_ARG k 1) ≤ s.blk.counter) ∧
    (∃ (k : Fin 8) (s : State), s.fld (R.SUP_MBXk_STAT_BUSY k) = 0 ∧ s.blk.sys.mtime + 60000000000 < s.fld (R.SUP_MBXk_ARGn_ARG k 0) + 2 ^ 32 * s.fld (R.SUP_MBXk_ARGn_ARG k 1)) ∧
    (∃ (k : Fin 8) (x : Nat) (s : State), s.blk.sys.waits.getD k none = some x) ∧
    (∃ (k : Fin 8) (l : Nat) (s : State), s.fld (R.SUP_MBXk_STAT_BUSY k) = 0 ∧ s.blk.mayServe k 4 = true ∧ s.blk.sys.leap = some l) ∧
    (∃ (k : Fin 8) (s : State), s.fld (R.SUP_MBXk_STAT_BUSY k) = 0 ∧ s.blk.mayServe k 4 = true ∧ s.blk.sys.leap = none) ∧
    (∃ (k : Fin 8) (c : Fin 8) (s : State), s.fld (R.SUP_MBXk_STAT_BUSY k) = 0 ∧ s.blk.mayServe k 5 = true ∧ s.fld (R.SUP_MBXk_ARGn_ARG k 0) = c.val) ∧
    (∃ (k : Fin 8) (x : Nat) (s : State), (s.blk.part k).hbEnd = some x ∧ bit (s.blk.part k).flags 1 = false) ∧
    (∃ (k : Fin 8) (x : Nat) (s : State), (s.blk.part k).hbEnd = some x ∧ bit (s.blk.part k).flags 1 = true) :=
  ⟨⟨3, mk [(R.SUP_MBXk_STAT_BUSY 3, 1)], by decide +kernel⟩,
   ⟨3, mk [] (partB 3 { serviceMask := 0 }), by decide +kernel⟩,
   ⟨3, mk [(R.SUP_PART_STATUS_HUNG, 8)] (partB 3 { serviceMask := 31, hbMs := 4 }), by decide +kernel⟩,
   ⟨3, mk [] (partB 3 { serviceMask := 31 }), by decide +kernel⟩,
   ⟨3, mk [(R.SUP_MBXk_ARGn_ARG 3 0, 0xB1EF)] (partB 3 { serviceMask := 31 }), by decide +kernel⟩,
   ⟨3, mk [(R.SUP_MBXk_ARGn_ARG 3 0, 500)] (partB 3 { serviceMask := 31 }), by decide +kernel⟩,
   ⟨3, mk [(R.SUP_MBXk_ARGn_ARG 3 0, 0)] (partB 3 { serviceMask := 31 } { sys := { mtime := 8000000000 } }), by decide +kernel⟩,
   ⟨3, mk [(R.SUP_MBXk_ARGn_ARG 3 1, 500)] (partB 3 { serviceMask := 31 }), by decide +kernel⟩,
   ⟨3, 700, mk [(R.SUP_MBXk_STAT_BUSY 3, 1)] { sys := { waits := List.replicate 8 (some 700) } }, by decide +kernel⟩,
   ⟨3, 18, mk [(R.SUP_MTIME_STATUS_STATE, 2)] (partB 3 { serviceMask := 31 } { sys := { leap := some 18 } }), by decide +kernel⟩,
   ⟨3, mk [(R.SUP_MTIME_STATUS_STATE, 2)] (partB 3 { serviceMask := 31 }), by decide +kernel⟩,
   ⟨3, 2, mk [(R.SUP_MBXk_ARGn_ARG 3 0, 2)] (partB 3 { serviceMask := 31 }), by decide +kernel⟩,
   ⟨3, 70, mk [] (partB 3 { hbEnd := some 70 }), by decide +kernel⟩,
   ⟨3, 70, mk [] (partB 3 { hbEnd := some 70, flags := 2 }), by decide +kernel⟩⟩

/-- Each clause of RefusedWriteWritesNothing that has hypotheses has a state and operands that meet them all. -/
theorem meets_RefusedWriteWritesNothing :
    (∃ (p : Packet) (l : List Nat) (c : Nat) (j : Nat) (s : State), p.kind = .writeReq ∧ s.blk.up = true ∧ s.blk.rowDown (bytesAt p.data 0 4) = false ∧ 1 ≤ bytesAt p.data 4 2 ∧ bytesAt p.data 4 2 ≤ 1022 ∧ p.data.length = 8 + 4 * bytesAt p.data 4 2 ∧ (s.writeWords p.origin (bytesAt p.data 0 4) (writtenWords p.data (bytesAt p.data 4 2)) l).2 = (c, j) ∧ c ≠ 0) ∧
    (∃ (p : Packet) (l : List Nat) (c : Nat) (j : Nat) (s : State), p.kind = .writeReq ∧ s.blk.up = true ∧ s.blk.rowDown (bytesAt p.data 0 4) = false ∧ 1 ≤ bytesAt p.data 4 2 ∧ bytesAt p.data 4 2 ≤ 1022 ∧ p.data.length = 8 + 4 * bytesAt p.data 4 2 ∧ (s.writeWords p.origin (bytesAt p.data 0 4) (writtenWords p.data (bytesAt p.data 4 2)) l).2 = (c, j) ∧ c ≠ 0 ∧ c ≠ 5 ∧ c ≠ 11 ∧ s.blk.pwr.inReset = false ∧ oIsland p.origin = 0) :=
  ⟨⟨{ kind := .writeReq, stream := 0, origin := 0x7000, tag := 0x8001, data := le 4 0x40100064 ++ [1, 0, 0, 0] ++ le 4 100 }, [], 2, 0, mk [] allUp, by decide +kernel⟩,
   ⟨{ kind := .writeReq, stream := 0, origin := 0x0100, tag := 0x8001, data := le 4 0x40100064 ++ [1, 0, 0, 0] ++ le 4 100 }, [], 2, 0, mk [] allUp, by decide +kernel⟩⟩

/-- Each clause of ReadsNeedNoPermission that has hypotheses has a state and operands that meet them all. -/
theorem meets_ReadsNeedNoPermission :
    (∃ (p : Packet) (l : List Nat) (s : State), p.kind = .readReq ∧ s.blk.up = true ∧ s.blk.rowDown (bytesAt p.data 0 4) = false ∧ p.data.length = 8 ∧ 1 ≤ bytesAt p.data 4 2 ∧ bytesAt p.data 4 2 ≤ 1024 ∧ unmappedAt (bytesAt p.data 0 4) (bytesAt p.data 4 2) = none ∧ ((∀ j, j < bytesAt p.data 4 2 → s.blk.poisonedWord l (bytesAt p.data 0 4 + 4 * j) = false))) :=
  ⟨{ kind := .readReq, stream := 0, origin := 0x7000, tag := 0x8001, data := le 4 0x40100000 ++ [2, 0, 0, 0] }, [], mk [] allUp, by decide +kernel⟩

end Sys2Proof.Tests
end

section
/-! The lanes of packets and the indices of links (R44, R46), and what a refused WRITE_REQ does (R40, R605). -/

namespace Sys2Proof.Machine

open Sys2Proof

/-! ## Links (R44) -/

/-- The index rule of R44 for a pair of islands in ascending order. -/
theorem linkOf_of_lt {a b : Nat} (h : a < b) : linkOf a b = a * (17 - a) / 2 + (b - a - 1) := by
  simp only [linkOf, Nat.min_eq_left (Nat.le_of_lt h), Nat.max_eq_right (Nat.le_of_lt h)]

/-- A link has one index, whichever of its islands is named first. -/
theorem linkOf_comm (a b : Nat) : linkOf b a = linkOf a b := by
  simp only [linkOf, Nat.min_comm b a, Nat.max_comm b a]

theorem linkEnds_linkOf : ∀ a < 9, ∀ b < 9, a < b → linkOf a b < 36 ∧ linkEnds (linkOf a b) = (a, b) := by decide

theorem linkOf_linkEnds :
    ∀ k < 36, (linkEnds k).1 < (linkEnds k).2 ∧ (linkEnds k).2 < 9 ∧ linkOf (linkEnds k).1 (linkEnds k).2 = k := by decide

/-- Settles O10: the index rule and its symmetry hold for all numbers; that the 36 indices and the 36 pairs of islands correspond is a finite fact. -/
theorem linkIndices : Obligations.LinkIndices := by
  refine ⟨fun a ha b hb hab => ?_, linkOf_linkEnds, rfl, rfl⟩
  obtain ⟨hlt, hends⟩ := linkEnds_linkOf a ha b hb hab
  exact ⟨linkOf_of_lt hab, linkOf_comm a b, hlt, hends⟩

/-! ## Lanes (R46) -/

/-- A tagged packet: the tag's upper bits select the lane of a storage tag, and lane 0 carries the others. -/
theorem Block.laneOf_tagged (b : Block) (k : Nat) {p : Packet} (h : (rspKind p.kind).isSome = true ∨ p.kind = .storeRsp) :
    b.laneOf k p = if p.tag < 0x8000 then p.tag >>> 10 % max 1 (b.get (R.FAB_LINKk_LANES k)) else 0 := by
  have ht : ((rspKind p.kind).isSome || p.kind == .storeRsp) = true := by simpa using h
  by_cases hs : p.tag < 0x8000 <;> simp [Block.laneOf, ht, hs, Nat.shiftRight_eq_div_pow]

/-- A packet of an untagged kind: lane 0 for an answer, else the lane of its stream. -/
theorem Block.laneOf_untagged (b : Block) (k : Nat) {p : Packet} (h : rspKind p.kind = none) (hs : p.kind ≠ .storeRsp) :
    b.laneOf k p = if isAnswer p.kind then 0 else p.stream % max 1 (b.get (R.FAB_LINKk_LANES k)) := by
  simp [Block.laneOf, h, hs]

/-- A posted packet's lane is the lane of its stream. -/
theorem Block.laneOf_posted (b : Block) (k : Nat) {p : Packet} (h : rspKind p.kind = none) (ha : isAnswer p.kind = false) :
    b.laneOf k p = p.stream % max 1 (b.get (R.FAB_LINKk_LANES k)) := by
  have hs : p.kind ≠ .storeRsp := by
    intro hk
    simp [hk, isAnswer] at ha
  rw [b.laneOf_untagged k h hs, ha]
  rfl

/-- Settles O11, from the lane of a tagged, of an untagged and of a posted packet. -/
theorem packetLanes : Obligations.PacketLanes := by
  refine ⟨fun b k p hn hr ha => ?_, fun b k p q hp hpa hq hqa hst _ => ?_, fun b k p hn hk ht => ?_, fun b k p hr ht => ?_, fun b k p hk => ?_⟩
  · rw [b.laneOf_posted k hr ha, Nat.max_eq_right hn]
  · rw [b.laneOf_posted k hp hpa, b.laneOf_posted k hq hqa, hst]
  · have htag : (rspKind p.kind).isSome = true ∨ p.kind = .storeRsp := hk.imp_left fun h => by simp [h, rspKind]
    rw [b.laneOf_tagged k htag, if_pos ht, Nat.max_eq_right hn]
  · rw [b.laneOf_tagged k (.inl hr), if_neg (Nat.not_lt.mpr ht)]
  · have answers : rspKind p.kind = none ∧ p.kind ≠ .storeRsp ∧ isAnswer p.kind = true := by
      rcases hk with h | h | h | h <;> simp [h, rspKind, isAnswer]
    obtain ⟨hr, hs, ha⟩ := answers
    rw [b.laneOf_untagged k hr hs, if_pos ha]

/-! ## Poison and corrections (R133) -/

@[simp] theorem Block.get_corrects (b : Block) (lines failing : List Nat) (f : Fld) : (b.corrects lines failing).get f = b.get f := id rfl

/-- Corrections counted only where a condition holds are those of the lines that the condition leaves. -/
theorem State.corrects_if (s : State) (r : Bool) (lines failing : List Nat) :
    (if r then { s with blk := s.blk.corrects lines failing } else s) = { s with blk := s.blk.corrects (lines.filter fun _ => r) failing } := by
  cases r
  · rw [List.filter_eq_nil_iff.mpr fun _ _ => Bool.false_ne_true]
    rfl
  · rw [List.filter_eq_self.mpr fun _ _ => rfl]
    rfl

/-- Marking lines POISONED changes no register. -/
@[simp] theorem Block.get_markPoison (b : Block) (lines : List Nat) (f : Fld) : (b.markPoison lines).get f = b.get f := by
  unfold Block.markPoison
  exact Block.eachOf_keeps (fun b => b.get f) _ (by simp [Block.find_regs]) lines b

/-! ## Responses (R57, R603, R604) -/

theorem oIsland_islOrigin (i : Nat) : oIsland (islOrigin i) = i := by
  simp only [oIsland, islOrigin, org]
  omega

/-- A tagged request is refused with one error response. -/
theorem Block.refuse_tagged (b : Block) (o c : Nat) {p : Packet} (i : Nat) {k : Kind} (h : rspKind p.kind = some k) :
    b.refuse o c p i = b.send { kind := k, stream := 0, origin := o, tag := p.tag, conf := 0, valid := false, error := true, stamp := b.stamp, data := errorPayload c p (oIsland o) i } := by
  simp only [Block.refuse, h]

/-- What can become of the error response to a tagged request: none in reset, a count where the source takes no packet, or one packet. -/
theorem Block.respond_error_cases (b : Block) {p : Packet} (a : Nat) {c : Nat} (j : Nat) (d : List Nat) {k : Kind} (hk : rspKind p.kind = some k) (hc : c ≠ 0) :
    b.respond p a c j d = b.status c ∨ b.respond p a c j d = (b.status c).inc R.FAB_ERR_CNT_COUNT ∨ ∃ q, b.respond p a c j d = (b.status c).send q := by
  simp only [Block.respond, if_neg hc, Block.refuse_tagged _ _ _ _ hk]
  split
  · exact .inl rfl
  · split
    · exact .inr (.inl rfl)
    · exact .inr (.inr ⟨_, rfl⟩)

/-- An error response to a tagged request records its status and changes no register but the count of discarded answers. -/
theorem Block.respond_error_keeps (b : Block) {p : Packet} (a : Nat) {c : Nat} (j : Nat) (d : List Nat) {k : Kind} (hk : rspKind p.kind = some k) (hc : c ≠ 0) :
    (b.respond p a c j d).fab.status = c ∧ ∀ f : Fld, f.key ≠ R.FAB_ERR_CNT_COUNT.key → (b.respond p a c j d).get f = b.get f := by
  obtain h | h | ⟨q, h⟩ := b.respond_error_cases a j d hk hc <;> rw [h]
  · exact ⟨rfl, fun f _ => b.get_status c f⟩
  · exact ⟨by simp, fun f hf => by simp [Block.get_inc_ne _ _ _ _ hf]⟩
  · exact ⟨by simp, fun f _ => by simp⟩

/-- Out of reset, a source in island 0 gets the error response of a target that is not lost, in the name of the target's island. -/
theorem Block.respond_error_island0 (b : Block) {p : Packet} (a : Nat) {c : Nat} (j : Nat) (d : List Nat) {k : Kind} (hk : rspKind p.kind = some k) (hc : c ≠ 0)
    (hlost : c ≠ ISLAND_LOST) (hreset : b.pwr.inReset = false) (hsrc : oIsland p.origin = 0) :
    b.respond p a c j d = (b.status c).send { kind := k, stream := 0, origin := islOrigin (islandOf a), tag := p.tag, conf := 0, valid := false, error := true, stamp := b.stamp, data := errorPayload c p (islandOf a) j } := by
  simp [Block.respond, Block.refuse_tagged _ _ _ _ hk, hc, hlost, hreset, hsrc, oIsland_islOrigin, Block.stamp]

/-! ## Refused writes (R40, R605) -/

/-- What a refused write leaves: the state as it was but for counted corrections, and under POISONED the lines it found bad marked. -/
theorem State.writeWords_refused {s t : State} {o a c j : Nat} {ws failing : List Nat} (h : s.writeWords o a ws failing = (t, c, j)) (hc : c ≠ 0) :
    ∃ lines, t = { s with blk := s.blk.corrects lines failing } ∨
      c = POISONED ∧ ∃ bad, t = { s with blk := (s.blk.corrects lines failing).markPoison bad } := by
  unfold State.writeWords at h
  split at h
  case h_1 =>
    obtain ⟨rfl, -, -⟩ := h
    exact ⟨[], .inl rfl⟩
  case h_2 =>
    simp only [State.corrects_if] at h
    split at h
    · obtain ⟨rfl, rfl, -⟩ := h
      exact ⟨_, .inr ⟨rfl, _, rfl⟩⟩
    · split at h
      · obtain ⟨-, rfl, -⟩ := h
        exact absurd rfl hc
      · obtain ⟨rfl, -, -⟩ := h
        exact ⟨_, .inl rfl⟩

/-- A refused write changes no register, no byte of memory and no waiting command. -/
theorem State.writeWords_refused_frame {s t : State} {o a c j : Nat} {ws failing : List Nat} (h : s.writeWords o a ws failing = (t, c, j)) (hc : c ≠ 0) :
    Frame s t [] := by
  obtain ⟨lines, rfl | ⟨-, bad, rfl⟩⟩ := State.writeWords_refused h hc
  · exact ⟨fun f _ => by simp, fun _ => rfl, rfl⟩
  · exact ⟨fun f _ => by simp, fun _ => rfl, rfl⟩

/-- A WRITE_REQ of a lawful length: its words are judged and stored, and the result is answered. -/
theorem execWriteReq_of_length {p : Packet} {failing : List Nat} {s t : State} {c j : Nat} (hk : p.kind = .writeReq) (hup : s.blk.up = true)
    (h1 : 1 ≤ bytesAt p.data 4 2) (h2 : bytesAt p.data 4 2 ≤ 1022) (hlen : p.data.length = 8 + 4 * bytesAt p.data 4 2)
    (hw : s.writeWords p.origin (bytesAt p.data 0 4) (writtenWords p.data (bytesAt p.data 4 2)) failing = (t, c, j)) :
    exec (.writeReq p failing) s = .next { t with blk := t.blk.respond p (bytesAt p.data 0 4) c j [] } := by
  have h0 : bytesAt p.data 4 2 ≠ 0 := by omega
  simp [execWriteReq, hk, hup, h0, Nat.not_lt.mpr h2, hlen, hw, State.go_eq]

/-- Settles O12: the target's state stands by the frame of a refused write, and the answer is the one error response of R57. -/
theorem refusedWriteWritesNothing : Obligations.RefusedWriteWritesNothing := by
  constructor
  · intro p l c j s hk hup _ h1 h2 hlen hcj hc
    obtain ⟨t, hw⟩ : ∃ t, s.writeWords p.origin (bytesAt p.data 0 4) (writtenWords p.data (bytesAt p.data 4 2)) l = (t, c, j) := ⟨_, Prod.ext rfl hcj⟩
    obtain ⟨fields, mem, queue⟩ := State.writeWords_refused_frame hw hc
    obtain ⟨status, kept⟩ := t.blk.respond_error_keeps (bytesAt p.data 0 4) j [] (p := p) (k := .writeRsp) (by rw [hk]; rfl) hc
    refine ⟨_, execWriteReq_of_length hk hup h1 h2 hlen hw, status, fun f hf => ?_, mem, queue⟩
    exact (kept f (hf _ (List.mem_singleton_self _))).trans (fields f (by simp))
  · intro p l c j s hk hup _ h1 h2 hlen hcj hc hlost hpoison hreset hsrc
    obtain ⟨t, hw⟩ : ∃ t, s.writeWords p.origin (bytesAt p.data 0 4) (writtenWords p.data (bytesAt p.data 4 2)) l = (t, c, j) := ⟨_, Prod.ext rfl hcj⟩
    obtain ⟨lines, rfl | ⟨hp, -⟩⟩ := State.writeWords_refused hw hc
    · have answer := (s.blk.corrects lines l).respond_error_island0 (bytesAt p.data 0 4) j [] (k := .writeRsp) (by rw [hk]; rfl) hc hlost hreset hsrc
      refine ⟨_, execWriteReq_of_length hk hup h1 h2 hlen hw, ?_, fun f _ => ?_, fun _ => rfl, rfl⟩
      · rw [answer]
        rfl
      · rw [answer, Block.get_send, Block.get_status, Block.get_corrects]
    · exact absurd hp hpoison

end Sys2Proof.Machine
end

section
/-! The status that answers a READ_REQ, whatever its origin (R571, R604, R605). -/

namespace Sys2Proof.Machine

open Sys2Proof

/-! ## Answered status -/

/-- What holds after a command holds of the state it answers. -/
theorem Runs.of_exec {c : Instr} {s t : State} {P : State → Prop} (h : Runs c s P) (ht : exec c s = .next t) : P t := by
  obtain ⟨u, hu, hP⟩ := h
  obtain rfl : u = t := Host.Outcome.next.inj (hu.symm.trans ht)
  exact hP

/-- Success, too, is recorded as the status of the answer. -/
theorem Block.respond_success_status (b : Block) {p : Packet} (a j : Nat) (d : List Nat) {k : Kind} (hk : rspKind p.kind = some k) :
    (b.respond p a 0 j d).fab.status = 0 := by
  simp only [Block.respond, Block.answer, hk, if_pos]
  split
  · rfl
  · split <;> rfl

/-- The response to a tagged request records the status it answers with. -/
theorem Block.respond_status (b : Block) {p : Packet} (a c j : Nat) (d : List Nat) {k : Kind} (hk : rspKind p.kind = some k) :
    (b.respond p a c j d).fab.status = c := by
  by_cases hc : c = 0
  · rw [hc, b.respond_success_status a j d hk]
  · exact (b.respond_error_keeps a j d hk hc).1

/-! ## Reads (R571, R605) -/

/-- The status with which a READ_REQ is answered: a function of the state and of the payload, not of the packet's header. -/
def State.readStatus (s : State) (d failing : List Nat) : Nat :=
  if !s.blk.rowDown (bytesAt d 0 4) && (d.length ≠ 8 || bytesAt d 4 2 = 0 || 1024 < bytesAt d 4 2) then BAD_LENGTH
  else (s.readWords (bytesAt d 0 4) (bytesAt d 4 2) failing).2.1

/-- A READ_REQ that island 0 takes records the status of its payload; any other packet, or one while island 0 stands, leaves the status. -/
theorem exec_readReq_status (p : Packet) (failing : List Nat) (s : State) :
    Runs (.readReq p failing) s fun t =>
      t.blk.fab.status = if p.kind ≠ .readReq || !s.blk.up then s.blk.fab.status else s.readStatus p.data failing := by
  rw [Runs, exec_readReq, execReadReq]
  split
  case isTrue => exact ⟨s, rfl, rfl⟩
  case isFalse taken =>
    obtain ⟨hk, -⟩ : p.kind = .readReq ∧ s.blk.up = true := by simpa using taken
    have answers : rspKind p.kind = some .readRsp := by rw [hk]; rfl
    rw [State.readStatus]
    split
    · exact ⟨_, State.go_eq _ _, Block.respond_status _ _ _ _ _ answers⟩
    · exact ⟨_, State.go_eq _ _, Block.respond_status _ _ _ _ _ answers⟩

/-- Counting corrections changes no word's poison. -/
@[simp] theorem Block.poisonedWord_corrects (b : Block) (lines failing bad : List Nat) (a : Nat) :
    (b.corrects lines failing).poisonedWord bad a = b.poisonedWord bad a := id rfl

/-- Mapped words of a row that answers, none of them POISONED, are read with success. -/
theorem State.readWords_readable {s : State} {a n : Nat} {failing : List Nat} (hrow : s.blk.rowDown a = false) (hmap : unmappedAt a n = none)
    (hread : ∀ j, j < n → s.blk.poisonedWord failing (a + 4 * j) = false) : (s.readWords a n failing).2.1 = 0 := by
  have no_word_poisoned (lines : List Nat) : ((List.range n).find? fun j => (s.blk.corrects lines failing).poisonedWord failing (a + 4 * j)) = none := by
    rw [List.find?_eq_none]
    intro j hj
    rw [Block.poisonedWord_corrects, hread j (List.mem_range.mp hj)]
    exact Bool.false_ne_true
  simp only [State.readWords, hrow, hmap, State.corrects_if, no_word_poisoned, Bool.false_eq_true, if_false]

/-- A request of the right length for readable words has the status of success. -/
theorem State.readStatus_readable {s : State} {d failing : List Nat} (hrow : s.blk.rowDown (bytesAt d 0 4) = false) (hlen : d.length = 8)
    (h1 : 1 ≤ bytesAt d 4 2) (h2 : bytesAt d 4 2 ≤ 1024) (hmap : unmappedAt (bytesAt d 0 4) (bytesAt d 4 2) = none)
    (hread : ∀ j, j < bytesAt d 4 2 → s.blk.poisonedWord failing (bytesAt d 0 4 + 4 * j) = false) : s.readStatus d failing = 0 := by
  have h0 : bytesAt d 4 2 ≠ 0 := Nat.one_le_iff_ne_zero.mp h1
  simp [State.readStatus, hlen, h0, Nat.not_lt.mpr h2, State.readWords_readable hrow hmap hread]

/-- Settles O13: the status of a READ_REQ is that of its payload, in which no origin stands, and readable words have the status of success. -/
theorem readsNeedNoPermission : Obligations.ReadsNeedNoPermission := by
  refine ⟨fun p o l s t u ht hu => ?_, fun p l s hk hup hrow hlen h1 h2 hmap hread => ?_⟩
  · have status_t := (exec_readReq_status p l s).of_exec ht
    have status_u := (exec_readReq_status { p with origin := o } l s).of_exec hu
    exact status_t.trans status_u.symm
  · obtain ⟨t, ht, status⟩ := exec_readReq_status p l s
    rw [State.readStatus_readable hrow hlen h1 h2 hmap hread] at status
    exact ⟨t, ht, by simpa [hk, hup] using status⟩

end Sys2Proof.Machine
end
